-- ==== Sys2Proof/Word.lean ====
section
/-! DEFINITION. The word types of the FLV-7320 model: bytes of packets and queue items, 32-bit window words. -/

namespace Sys2Proof

/-- One byte of a packet, a queue item or a record (R9). -/
abbrev Byte := BitVec 8

/-- A run of bytes, the first byte first. -/
abbrev Bytes := List Byte

/-- One 32-bit word of the direct window (R611). -/
abbrev Word := BitVec 32

end Sys2Proof
end

