-- ==== Sys2Proof/Machine/RegsCore.lean ====
section
/-! DEFINITION. State of the shared parts: straps, clock and time quality, launches and captures, command
interface, direct window, queues, event router, classifier and stored configuration. -/

namespace Sys2Proof.Machine

/-- Where a packet comes in or goes out (R590). -/
inductive Via where
  | hostio | site0 | site1
  deriving DecidableEq, Repr, Inhabited

/-- Who sent a packet: the local host, host entry `i` (R620), or a site position and twin position of the site
table entry (0 A, 1 B, 2 unpaired; R526). -/
inductive Sender where
  | hostio
  | host (i : Nat)
  | position (site twin : Nat)
  deriving DecidableEq, Repr, Inhabited

/-- Time quality (R93). -/
inductive Quality where
  | locked | holdover | free | invalid
  deriving DecidableEq, Repr, Inhabited

/-- State of a time source, coded as TIME_STATUS reports it (R120). -/
inductive SrcState where
  | disabled | absent | seen | locking | locked | failed
  deriving DecidableEq, Repr, Inhabited

/-- The straps of R742 as sampled at reset release, and what is fixed at the factory (R1). -/
structure Strap where
  /-- SITE_ID[3:0] (4 bits; R742; reset: strap, DESIGN CHOICE 0, entry 2) -/
  siteId : Nat := 0
  /-- TWIN_POS, true for B (1 bit; R742; reset: strap, DESIGN CHOICE A, entry 2) -/
  twinB : Bool := false
  /-- XTAL_SEL, true for TCXO (1 bit; R742; reset: strap, DESIGN CHOICE crystal, entry 2) -/
  tcxo : Bool := false
  /-- true on an FLV-7320-CM (1 bit; R1; reset: fixed, DESIGN CHOICE false, entry 2) -/
  partCM : Bool := false
  deriving DecidableEq, Repr, Inhabited

/-- A CCP packet as it arrives: transport, sender's address (IPv6 or IPv4-mapped, its 16 bytes least significant first)
and UDP port, and the bytes from the version to the end of the trailer (R590, R593). -/
structure Pkt where
  via : Via
  src : Nat
  port : Nat
  raw : Bytes
  deriving DecidableEq, Repr, Inhabited

/-- A UDP datagram, or an IP fragment of one, received on a SITE port (R591, R635). The addresses and ports are those of
the whole datagram. -/
structure Dgram where
  /-- SITE port 0 or 1 -/
  net : Fin 2
  srcPort : Nat
  dstPort : Nat
  /-- sender's address as in `Pkt` -/
  addr : Nat
  /-- ST of the start-of-frame delimiter at the MII boundary, uncorrected (R100) -/
  stamp : Nat
  data : Bytes
  /-- of a fragment: identification, offset in the UDP payload, length of the whole payload -/
  frag : Option (Nat × Nat × Nat)
  deriving DecidableEq, Repr, Inhabited

/-- The delay measurement behind an offset (R85): E2E with the stamps of Delay_Req sent (raw, local) and received; P2P with
those of Pdelay_Req sent (raw, local) and received, Pdelay_Resp sent and received (raw, local). All in ns. -/
inductive PtpDelay where
  | e2e (t3 t4 : Int)
  | p2p (p1 p2 p3 p4 : Int)
  deriving DecidableEq, Repr, Inhabited

/-- What a PTP message tells (R85, R86): an Announce with its interval in ns and its data set in the order of comparison;
a Sync, sent at `t1` and received at the raw local stamp `t2`, with the delay measurement that goes with it; a Delay_Req or a
Pdelay_Req received at the raw local stamp `t`. -/
inductive PtpWhat where
  | announce (interval : Nat) (set : List Nat)
  | sync (t1 t2 : Int) (delay : PtpDelay)
  | delayReq (t : Int)
  | pdelayReq (t : Int)
  deriving DecidableEq, Repr, Inhabited

/-- A PTP message, or an exchange of event messages, at a SITE port (R85, R86). -/
structure PtpMsg where
  domain : Nat
  /-- sender's port identity -/
  src : Nat
  /-- over IEEE 802.3, else over UDP/IPv4 -/
  ieee8023 : Bool
  /-- SITE_ID that the message carries, if it does (R85) -/
  site : Option Nat
  /-- sent by the twin partner -/
  partner : Bool
  what : PtpWhat
  deriving DecidableEq, Repr, Inhabited

/-- What a SITE port sends as an IEEE 1588 clock (R85, R86), its stamps corrected: a Delay_Resp with the receive stamp; a
Pdelay_Resp and its follow-up with receive and send stamp; as master an Announce with the own data set, and a Sync with the send
stamp that its Follow_Up carries. -/
inductive PtpOut where
  | delayResp (stamp : Int)
  | pdelayResp (received sent : Int)
  | announce (set : List Nat)
  | sync (sent : Int)
  deriving DecidableEq, Repr, Inhabited

/-- The site-time counter (R72). -/
structure Clk where
  /-- ST with its 32-bit hidden fraction, in 2^-32 ns (96 bits; R72; reset 0) -/
  fix : Nat := 0
  /-- increment of the next tick in 2^-32 ns (R72; reset nominal 2.5 ns) -/
  incr : Nat := 10737418240
  /-- part of the increment that the servo's integral part or the temperature table gives, 2^-32 ns, signed
  (R88, R98; reset 0, DESIGN CHOICE, entry 6) -/
  freq : Int := 0
  /-- offset still to be removed by slew, 2^-32 ns, signed (R88; reset 0) -/
  resid : Int := 0
  /-- sum of all clock steps and loads of ST made, ns, signed: ST less this sum is the time in which windows of
  stated duration are kept (R79; model's own, reset 0) -/
  moved : Int := 0
  /-- change that servo and steps have made to ST, 2^-32 ns, signed (R80; model's own, reset 0) -/
  dev : Int := 0
  deriving DecidableEq, Repr, Inhabited

/-- One time source (R80). -/
structure TimeSource where
  /-- source state (R120; reset absent) -/
  state : SrcState := .absent
  /-- marked failed until TIME_SOURCE (R91; reset false) -/
  failed : Bool := false
  /-- recent offsets in ns with the servo's change at each, newest first (R80; reset empty) -/
  offs : List (Int × Int) := []
  /-- elapsed time at which it locked (R82; reset 0) -/
  lockedAt : Int := 0
  /-- elapsed time of its last valid message (R80; reset 0) -/
  lastMsg : Int := 0
  /-- consecutive invalid messages (R80, code 2; reset 0) -/
  bad : Nat := 0
  /-- announce interval in ns, of codes 0 and 1 (R80; reset 2 s, that of the default profile: PRESUMED, entry 230) -/
  interval : Nat := 2000000000
  /-- the master chosen on the port, of codes 0 and 1: its port identity and data set (R85; reset none) -/
  master : Option (Nat × List Nat) := none
  deriving DecidableEq, Repr, Inhabited

/-- A held large step (R90). -/
structure PendStep where
  /-- source that shows the offset -/
  src : Nat
  /-- its offset, ns -/
  offset : Int
  /-- elapsed time at which the window ends -/
  endAt : Int
  deriving DecidableEq, Repr, Inhabited

/-- One temperature bin of R97. -/
structure TempBin where
  /-- samples taken, at most 3000 counted (R97; reset 0) -/
  count : Nat := 0
  /-- value, 2^-32 ns of increment (R97; reset 0) -/
  value : Rat := 0
  deriving DecidableEq, Repr, Inhabited

/-- Site time beside the counter. -/
structure TimeS where
  /-- time quality (2 bits; R93, TIME.TQ.QUALITY; reset INVALID) -/
  quality : Quality := .invalid
  /-- the locked source that steers ST (R81; reset none) -/
  sel : Option Nat := none
  /-- sources 0 to 5 (R80; reset absent) -/
  srcs : Vector TimeSource 6 := Vector.ofFn (fun k => if k.val = 5 then { state := .locked } else {})
  /-- step held pending, TIME.TQ.STEP_PENDING (R90; reset none) -/
  pend : Option PendStep := none
  /-- TIME.TQ.ATTACK (1 bit; R91; reset 0) -/
  attack : Bool := false
  /-- ST bits [63:32] latched by a read of TIME.STLO (32 bits; R75; reset 0) -/
  sthi : Nat := 0
  /-- ST of the last step (64 bits; R120; reset 0) -/
  lastStepSt : Nat := 0
  /-- size of the last step, ns, signed (64 bits; R120; reset 0) -/
  lastStepSize : Int := 0
  /-- last offset of the selected source, ns, signed (32 bits; R120; reset 0) -/
  lastOffset : Int := 0
  /-- estimated error in ns at `errAt` (R99; reset 0, DESIGN CHOICE, entry 6) -/
  err : Rat := 0
  /-- elapsed time up to which the error has been counted (R99; reset 0) -/
  errAt : Int := 0
  /-- the last die temperature the holdover used, 0.1 degC (R98; reset 250, DESIGN CHOICE, entry 6) -/
  dieTemp : Int := 250
  /-- stamp of the last PPS edge, as elapsed time (R79, R87; reset none) -/
  ppsEdge : Option Int := none
  /-- its UTC second has been named (R87; reset false) -/
  ppsNamed : Bool := false
  /-- the source that a take of the twin lease changed to, and its last offset plus `dev` in 2^-32 ns: it is followed by slew at
  any size until its offset is below the step threshold, or until it jumps (R83; reset none) -/
  slewRef : Option (Nat × Int) := none
  /-- day number on which ZONE_TABLE_EXPIRING was last raised (R104; reset none) -/
  zoneWarnDay : Option Nat := none
  deriving DecidableEq, Repr, Inhabited

/-- A packet that passed R600, as its command sees it: header fields and the payload without the launch ST. -/
structure Req where
  /-- opcode (R593) -/
  code : Nat
  /-- who sent it -/
  sender : Sender
  /-- transport (R590) -/
  via : Via
  /-- header flags (R593) -/
  flags : Nat
  /-- header sequence (R593) -/
  seq : Nat
  /-- header target (R19) -/
  target : Nat
  /-- payload without the launch ST -/
  body : Bytes
  /-- launch ST of a timed packet, else 0 -/
  launch : Nat
  deriving DecidableEq, Repr, Inhabited

/-- An accepted launch (R108). -/
structure Launch where
  /-- launch ST -/
  at_ : Nat
  /-- order of acceptance (R111) -/
  order : Nat
  /-- the packet -/
  req : Req
  /-- an ALLOC_TARGETS launch whose leading part is done and whose trailing time counts (R113) -/
  trailing : Bool := false
  /-- an ALLOC_TARGETS launch whose trailing time alone was cancelled (R113) -/
  cut : Bool := false
  deriving DecidableEq, Repr, Inhabited

/-- One record noted for captures (R624): section kind, group or port mask bit, stamp, bytes. -/
structure CapRec where
  kind : Nat
  group : Nat
  stamp : Nat
  bytes : Bytes
  deriving DecidableEq, Repr, Inhabited

/-- A synchronized capture (R115). -/
structure Capture where
  id : Nat
  /-- 0 pending, 1 in progress, 2 complete (R624) -/
  state : Nat
  contents : Nat
  mask : Nat
  launch : Nat
  /-- pre-launch length, ns -/
  pre : Nat
  /-- post-launch length, ns -/
  post : Nat
  /-- the bytes once complete -/
  bytes : Bytes
  truncated : Bool
  deriving DecidableEq, Repr, Inhabited

/-- One host entry's or position's sequence window (R597, R518). -/
structure SeqWin where
  /-- valid flag (R518; reset false; a host window is valid at its stored H, R597) -/
  valid : Bool := false
  /-- highest sequence (32 bits; R518; reset 0) -/
  h : Nat := 0
  /-- sequences marked within the window (R518; reset empty) -/
  marks : List Nat := []
  deriving DecidableEq, Repr, Inhabited

/-- A held reply (R597). -/
structure HeldReply where
  seq : Nat
  bytes : Bytes
  deriving DecidableEq, Repr, Inhabited

/-- An outstanding request that this device originated (R599). -/
structure Outstanding where
  code : Nat
  seq : Nat
  /-- site position asked -/
  site : Nat
  deriving DecidableEq, Repr, Inhabited

/-- An IP datagram in reassembly (R591). -/
structure FragEntry where
  /-- SITE port -/
  net : Nat
  id : Nat
  /-- elapsed time of its first fragment -/
  since : Int
  /-- stamp of the fragment that came first (R100) -/
  stamp : Nat
  /-- length of the whole payload -/
  total : Nat
  /-- fragments received: offset, bytes -/
  parts : List (Nat × Bytes)
  deriving DecidableEq, Repr, Inhabited

/-- How a packet arrived: its sender, the key that its tag passed under, and whether a window delivered it. -/
structure Arrival where
  sender : Sender
  key : Option Bytes
  delivered : Bool
  deriving DecidableEq, Repr

/-- Command interface state. -/
structure Ccp where
  /-- windows of host entries 0 to 3 (R597; reset: valid at the stored H) -/
  hostWin : Vector SeqWin 4 := Vector.replicate 4 {}
  /-- the last 32 replies of each host entry (R597; reset empty) -/
  held : Vector (List HeldReply) 4 := Vector.replicate 4 []
  /-- windows of site positions 0 to 15 (R518; reset invalid) -/
  posWin : Vector SeqWin 16 := Vector.replicate 16 {}
  /-- requests waiting for replies (R599; reset empty) -/
  waiting : List Outstanding := []
  /-- previous CCP key and the elapsed time until which it is honoured (R631; reset none) -/
  prevKey : Option (Bytes × Int) := none
  /-- SYS.CCPRX.COUNT (32 bits; R616; reset 0) -/
  rx : BitVec 32 := 0
  /-- SYS.CCPERR.COUNT (32 bits; R616; reset 0) -/
  err : BitVec 32 := 0
  /-- SYS.CMACFAIL.COUNT (32 bits; R616; reset 0) -/
  cmacFail : BitVec 32 := 0
  /-- per sender: elapsed times of BAD_CHECK replies of the last second (R600; reset empty) -/
  badTimes : List (Sender × Int) := []
  /-- per sender: tag failures since its last CCP_AUTH_FAIL, elapsed time of that event (R600, R656; reset empty) -/
  authFails : List (Sender × Nat × Option Int) := []
  /-- core 0 takes nothing from queue 0: the reply that queue 1 could not take (R592; reset none) -/
  stalled : Option Bytes := none
  /-- accepted commands that wait for a work window while throttling, oldest first (R619, R716; reset empty) -/
  delayed : List (Pkt × Arrival × Req) := []
  /-- datagrams in reassembly, at most 8 (R591; reset empty) -/
  frags : List FragEntry := []
  /-- launches carried out, newest first, at most 256: sender and sequence (R499; model's own, reset empty) -/
  executed : List (Sender × Nat) := []
  /-- bytes of SITE datagrams waiting in the communication buffers before step 6 of R750, per port (R751; reset 0) -/
  early : Vector Nat 2 := Vector.replicate 2 0
  deriving DecidableEq, Repr, Inhabited

/-- One entry of the window violation log (R614). -/
structure Viol where
  st : Nat
  addr : Nat
  write : Bool
  cause : Nat
  words : Nat
  seq : Nat
  data : Nat
  deriving DecidableEq, Repr, Inhabited

/-- HOSTIO and the direct window. -/
structure HostIo where
  /-- serving, status bit 0 (1 bit; R608, R610; reset 0) -/
  serving : Bool := false
  /-- the last write violated, status bit 1 (1 bit; R610; reset 0) -/
  lastWriteBad : Bool := false
  /-- a violation since the last status read, status bit 2 (1 bit; R610; reset 0) -/
  violSeen : Bool := false
  /-- violation log, newest last, at most 64 entries (R614; reset empty) -/
  vlog : List Viol := []
  /-- VLOG.HEAD.SEQ (32 bits; R614; reset 0) -/
  vseq : Nat := 0
  /-- VLOG.LOST.COUNT (32 bits; R614; reset 0) -/
  vlost : Nat := 0
  /-- sequence up to which SYS_VIOLATION_READ has read the log (R614; reset 0) -/
  vread : Nat := 0
  /-- SYS.VIOLCNT.COUNT (32 bits; R616; reset 0) -/
  violCnt : BitVec 32 := 0
  /-- elapsed time at which WINDOW_VIOLATION was last raised (R613; reset none) -/
  violEvt : Option Int := none
  /-- bits [63:32] of the ready ST as latched, SYS.READYHI (32 bits; R616; reset 0) -/
  readyHi : Nat := 0
  deriving DecidableEq, Repr, Inhabited

/-- One 64-bit queue word with its tag (R636, R641). -/
structure QWord where
  /-- bits [63:0] -/
  data : Nat
  /-- valid bytes, 1 to 8 -/
  valid : Nat := 8
  first : Bool := false
  last : Bool := false
  lost : Bool := false
  /-- uncorrectable SRAM error -/
  error : Bool := false
  deriving DecidableEq, Repr, Inhabited

/-- Queue modes, numbered as QUEUE.QSTAT.MODE (R666). -/
inductive QMode where
  | stream | packet | event
  deriving DecidableEq, Repr, Inhabited

/-- A packet that the host has opened (R637). -/
structure HostOpen where
  /-- bytes written so far -/
  bytes : Bytes
  /-- QDATA words written -/
  words : Nat
  /-- elapsed time of the opening (R638) -/
  since : Int
  deriving DecidableEq, Repr, Inhabited

/-- Settings of a queue (R633, R667). -/
structure QCfg where
  mode : QMode := .stream
  /-- 0 8-bit, 1 16-bit, 2 32-bit -/
  width : Nat := 0
  /-- consumer is firmware -/
  firmware : Bool := false
  hostWrites : Bool := false
  spill : Bool := false
  pages : Nat := 0
  /-- high watermark, 1/256 (reset 192, DESIGN CHOICE for the boot layout: the default of R667, entry 20) -/
  high : Nat := 192
  /-- low watermark, 1/256 (reset 64, as above) -/
  low : Nat := 64
  fc : Option Nat := none
  spillMB : Nat := 0
  deriving DecidableEq, Repr, Inhabited

/-- The boot layout of queues 0 to 13 (R633); FC0 serves queue 0 from reset (R645). -/
def bootLayout (q : Nat) : QCfg :=
  if q = 0 then { mode := .packet, width := 2, pages := 16, firmware := true, hostWrites := true, fc := some 0 }
  else if q = 1 then { mode := .packet, width := 2, pages := 16 }
  else if q ≤ 12 then { mode := .packet, width := 2, pages := 8 }
  else { mode := .event, width := 2, pages := 16 }

/-- One hardware queue. -/
structure Queue where
  /-- settings in force (R633, R667; reset: boot layout or stored) -/
  cfg : QCfg := {}
  /-- the boot layout applies, QUEUE.QSTAT.BOOT (1 bit; R666; reset 1 for 0-13) -/
  boot : Bool := false
  /-- words that the consumer sees, oldest first (R636, R637; reset empty) -/
  words : List QWord := []
  /-- a partial word of a stream, its bytes (R636; reset empty) -/
  part : Bytes := []
  /-- packet opened by the host, QUEUE.QSTAT.OPEN (R637; reset none) -/
  open_ : Option HostOpen := none
  /-- closed packets behind an open one (R637), words that SRAM took behind a paused spill (R649; reset empty) -/
  behind : List QWord := []
  /-- words in the DRAM spill, oldest first (R648; reset empty) -/
  spilled : List QWord := []
  /-- the next word written is tagged LOST (R647; reset false) -/
  lostNext : Bool := false
  /-- QUEUE_DROP has been raised since the last written word (R647; reset false) -/
  dropRaised : Bool := false
  /-- QUEUE.QDROP.COUNT (32 bits; R666; reset 0) -/
  drops : BitVec 32 := 0
  /-- ST of the last drop (64 bits; R669; reset 0) -/
  lastDrop : Nat := 0
  /-- high (1 bit; R644; reset 0) -/
  isHigh : Bool := false
  /-- the length word of a packet has been read and its last word has not (R643; reset false) -/
  inCur : Bool := false
  /-- QUEUE.QRHI as latched (32 bits; R641; reset 0) -/
  rhi : Nat := 0
  /-- QUEUE.QTAG as latched (9 bits; R641; reset 0) -/
  tag : Nat := 0
  /-- fall-through chain in use (R650; reset none) -/
  chain : Option Nat := none
  deriving DecidableEq, Repr, Inhabited

/-- An event record held or logged (R655). -/
structure EvRec where
  stamp : Nat
  /-- its stamp as elapsed time, from which the hold of R660 runs (R79; model's own) -/
  from_ : Int
  seq : Nat
  src : Nat
  code : Nat
  flags : Nat
  p1 : Nat
  p2 : Nat
  deriving DecidableEq, Repr, Inhabited

/-- Flood accounting of one source (R659). -/
structure Flood where
  /-- number of the 1 ms window -/
  win : Nat := 0
  /-- events routed in it -/
  routed : Nat := 0
  /-- events not routed in it -/
  held : Nat := 0
  /-- the next routed record carries flag bit 1 -/
  flag : Bool := false
  deriving DecidableEq, Repr, Inhabited

/-- The event router (R661 to R663). -/
structure Evt where
  /-- records raised and not yet released, in the order raised (R660; reset empty) -/
  held : List EvRec := []
  /-- route queue of each source, 0xFF none (8 bits each; R663; reset stored or 13) -/
  routeQ : Vector Nat 256 := Vector.replicate 256 13
  /-- IRQ mask of each source (4 bits each; R663; reset stored or 0) -/
  routeIrq : Vector Nat 256 := Vector.replicate 256 0
  /-- EVT.PEND: pending bits of pins 0 to 3, 256 bits each (R663; reset 0) -/
  pend : Vector Nat 4 := Vector.replicate 4 0
  /-- fabric tick, as elapsed time, in which bits of `pendNew` were set (R25; model's own, reset 0) -/
  pendTick : Int := 0
  /-- pending bits set in that tick, pins 0 to 3 (R25; model's own, reset 0) -/
  pendNew : Vector Nat 4 := Vector.replicate 4 0
  /-- EVT.IRQCTL.ENABLE (4 bits; R663; reset 0) -/
  enable : Nat := 0
  /-- flood accounting (R659; reset 0) -/
  flood : Vector Flood 256 := Vector.replicate 256 {}
  /-- records waiting in SRAM for the MRAM log while throttling (R716; reset empty) -/
  buffered : List EvRec := []
  deriving DecidableEq, Repr, Inhabited

/-- Classifier state of a retirable resource, kept in MRAM (R284, R285, R299). -/
structure Clsf where
  /-- the resource's target (R19) -/
  target : Nat
  /-- stamps in elapsed time, newest first, at most K + 1 (R284) -/
  hist : List Int := []
  /-- the 4 latest stamps as ST, newest first (R299) -/
  latest : List Nat := []
  /-- faults charged since manufacture (R299) -/
  total : Nat := 0
  /-- cause of the last fault (R299) -/
  cause : Nat := 0
  deriving DecidableEq, Repr, Inhabited

/-- An entry of the retired-resource list (R286, R301). -/
structure Retired where
  target : Nat
  cause : Nat
  st : Nat
  deriving DecidableEq, Repr, Inhabited

/-- The stored configuration (R791): the accepted payload bytes of each command, none until stored once. -/
structure Cfg where
  /-- SYS_ROLE section 0 (R620; reset none: PORT and POWER, R65) -/
  role : Option Bytes := none
  /-- SYS_ROLE section 1 (R620; reset none) -/
  net : Option Bytes := none
  /-- TIME_SOURCE (R118; reset none: defaults) -/
  timeSource : Option Bytes := none
  /-- ALLOC_LIMIT (R164; reset none) -/
  allocLimit : Option Bytes := none
  /-- ALLOC_POLICY section 0 (R165; reset none) -/
  allocPolicy : Option Bytes := none
  /-- ALLOC_POLICY section 1 (R165; reset none) -/
  allocFeeders : Option Bytes := none
  /-- ALLOC_FALLBACK (R166; reset none) -/
  allocFallback : Option Bytes := none
  /-- GROUP_CONFIG of each group (R292; reset none) -/
  group : Vector (Option Bytes) 8 := Vector.replicate 8 none
  /-- PWM_WRITE section 0 of each group (R213; reset none: factory values of R792) -/
  pwm : Vector (Option Bytes) 8 := Vector.replicate 8 none
  /-- LOOP_PARAM section 0 of each group (R253; reset none) -/
  loop0 : Vector (Option Bytes) 8 := Vector.replicate 8 none
  /-- LOOP_PARAM section 1 of each group (R253; reset none) -/
  loop1 : Vector (Option Bytes) 8 := Vector.replicate 8 none
  /-- LOOP_PARAM section 2 of each group (R253; reset none) -/
  loop2 : Vector (Option Bytes) 8 := Vector.replicate 8 none
  /-- LOOP_PROFILE of each group (R255; reset none) -/
  profile : Vector (Option Bytes) 8 := Vector.replicate 8 none
  /-- PORT_CONFIG of each port (R348; reset none) -/
  port : Vector (Option Bytes) 8 := Vector.replicate 8 none
  /-- PORT_LIMIT of each port (R350; reset none) -/
  portLimit : Vector (Option Bytes) 8 := Vector.replicate 8 none
  /-- COOL_CONFIG of each loop (R380; reset none) -/
  cool : Vector (Option Bytes) 8 := Vector.replicate 8 none
  /-- TWIN_CONFIG section 0 (R526; reset none) -/
  twin : Option Bytes := none
  /-- TWIN_CONFIG section 1, the site table (R526; reset none) -/
  sites : Option Bytes := none
  /-- CAN_CONFIG section 0 of each controller (R553; reset none) -/
  can0 : Vector (Option Bytes) 8 := Vector.replicate 8 none
  /-- CAN_CONFIG section 1 of each controller (R553; reset none) -/
  can1 : Vector (Option Bytes) 8 := Vector.replicate 8 none
  /-- boot mode of each controller (R555; reset none) -/
  canMode : Vector (Option Nat) 8 := Vector.replicate 8 none
  /-- FLINK_CONFIG section 0 (R587; reset none) -/
  flink0 : Option Bytes := none
  /-- FLINK_CONFIG section 1 (R587; reset none) -/
  flink1 : Option Bytes := none
  /-- QUEUE_CONFIG of each queue (R667; reset none) -/
  queue : Vector (Option Bytes) 128 := Vector.replicate 128 none
  /-- stored routes: queue and IRQ mask of each source (R661, R670; reset none) -/
  route : Vector (Option (Nat × Nat)) 256 := Vector.replicate 256 none
  /-- SW_CONFIG of each channel (R704; reset none: factory values) -/
  sw : Vector (Option Bytes) 24 := Vector.replicate 24 none
  /-- HK_CONFIG entries of each channel, 16 bytes (R726; reset none) -/
  hk : Vector (Option Bytes) 64 := Vector.replicate 64 none
  /-- THERM_CONFIG (R728; reset none: mode 1) -/
  therm : Option Bytes := none
  deriving DecidableEq, Repr, Inhabited

/-- An unfinished firmware or credential transfer (R626). -/
structure Transfer where
  kind : Nat
  id : Nat
  gen : Nat
  bytes : Bytes
  deriving DecidableEq, Repr, Inhabited

/-- Firmware images and credentials in MRAM (R60, R626 to R631). -/
structure Fw where
  /-- running image's version, SYS.FWVER (32 bits; R616; reset: image, DESIGN CHOICE 0, entry 2) -/
  version : Nat := 0
  /-- CRC-32C of the running image's metrology section (32 bits; R390, R627; reset: image, DESIGN CHOICE 0, entry 2) -/
  metroCrc : Nat := 0
  /-- alternate image once complete and verified: version, CRC-32C of its metrology section; under trial the previous
  image (R60, R628; reset none) -/
  alt : Option (Nat × Nat) := none
  /-- the last completed object: bytes, CRC-32C (R626; reset none) -/
  done : Option (Nat × Nat) := none
  /-- trial armed (R629; reset false) -/
  armed : Bool := false
  /-- the running image is on trial, SYS.DSTAT.FWTRIAL (1 bit; R616, R629; reset 0) -/
  trial : Bool := false
  /-- unfinished transfer (R626; reset none) -/
  transfer : Option Transfer := none
  /-- CCP key (R595; reset none) -/
  ccpKey : Option Bytes := none
  /-- site key (R469; reset none) -/
  siteKey : Option Bytes := none
  /-- SECC credential (R630; reset none) -/
  secc : Option Bytes := none
  deriving DecidableEq, Repr, Inhabited

end Sys2Proof.Machine
end

