-- ==== Sys2Proof/Machine/RegsBus.lean ====
section
/-! DEFINITION. State of the CAN FD controllers (R529 to R556) and of the feeder link (R557 to R589). -/

namespace Sys2Proof.Machine

/-- Modes of R534. -/
inductive CanMode where
  | normal | restricted | monitor | off
  deriving DecidableEq, Repr, Inhabited

/-- Error states, coded as R539. -/
inductive CanState where
  | active | passive | busOff
  deriving DecidableEq, Repr, Inhabited

/-- A frame to be sent (R542). -/
structure TxFrame where
  /-- identifier coded as in R165, with bit 30 for a remote frame -/
  ident : Nat
  fd : Bool
  brs : Bool
  data : Bytes
  singleShot : Bool
  echo : Bool
  /-- elapsed time of its expiry -/
  expiry : Option Int
  /-- class 0: stream or storage feeder it belongs to -/
  key : Nat
  /-- data length of a remote frame, which carries no data (R554) -/
  rlen : Nat := 0
  /-- ST at which it was queued (R543) -/
  at_ : Nat := 0
  /-- a twin-tagged copy of a device that does not hold the twin lease (R508) -/
  copy : Bool := false
  deriving DecidableEq, Repr, Inhabited

/-- A frame as received (R538, R539): ST of its start of frame, identifier with remote and extended bits, DLC byte
(DLC, FDF, BRS, ESI), data; `lost` when the controller's own frame lost arbitration to it (R543). -/
structure CanRx where
  sof : Nat
  ident : Nat
  dlc : Nat
  data : Bytes
  lost : Bool := false
  deriving DecidableEq, Repr, Inhabited

/-- An error detected on a bus (R539): type, 0 for a recessive res bit (R530), field, phase, and the counters after it as
ISO 11898-1 gives them (R548); `own` when it hit the controller's own frame, whose start of frame `sof` tells. -/
structure CanErr where
  type : Nat
  field : Nat
  phase : Nat
  tec : Nat
  rxe : Nat
  own : Bool
  sof : Option Nat := none
  deriving DecidableEq, Repr, Inhabited

/-- One CAN controller. -/
structure Can where
  /-- mode in force (3 bits; R534, R552; reset restricted) -/
  mode : CanMode := .restricted
  /-- mode change that waits for bus idle, with the cause of its state record (R535; reset none) -/
  next : Option (CanMode × Nat) := none
  /-- error state (2 bits; R548, R552; reset error-active) -/
  state : CanState := .active
  /-- warning mark (1 bit; R548; reset 0) -/
  warn : Bool := false
  /-- counting recovery (1 bit; R549; reset 0) -/
  recovering : Bool := false
  /-- lee mark: until the boot mode takes effect (1 bit; R552; reset 1) -/
  lee : Bool := true
  /-- released: monitor until reset (R537; reset false) -/
  released : Bool := false
  /-- TEC (9 bits; R548; reset 0) -/
  txErr : Nat := 0
  /-- REC (9 bits; R548; reset 0) -/
  rxErr : Nat := 0
  /-- last error type and field (R539, R552; reset 0) -/
  errType : Nat := 0
  errField : Nat := 0
  /-- last measured loop delay, mtq (8 bits; R532; reset 0) -/
  tdcv : Nat := 0
  /-- protocol exception seen since reset (R556; reset false) -/
  pexc : Bool := false
  /-- records lost before the next one (R540; reset false) -/
  lost : Bool := false
  /-- CAN_RX_DROP has been raised since the last record (R540; reset false) -/
  dropRaised : Bool := false
  /-- CAN.RXCNT, TXCNT, DROPCNT, EXPCNT, BOCNT (32 bits each; R552; reset 0) -/
  rx : BitVec 32 := 0
  tx : BitVec 32 := 0
  drops : BitVec 32 := 0
  exps : BitVec 32 := 0
  boffs : BitVec 32 := 0
  /-- frames received during the lee period (R556; reset 0) -/
  leeRx : Nat := 0
  /-- ST of the last state or mode change (64 bits; R556; reset 0) -/
  changedSt : Nat := 0
  /-- transmit classes 0 fabric, 1 firmware, 2 host, oldest first (R542; reset empty) -/
  tx0 : List TxFrame := []
  tx1 : List TxFrame := []
  tx2 : List TxFrame := []
  /-- settings in force since reset: section 0, section 1 (R553; reset stored) -/
  cfg0 : Option Bytes := none
  cfg1 : Option Bytes := none
  /-- streams that replace them from an outer cycle on (R553; reset none) -/
  next1 : Option (Nat × Bytes) := none
  /-- number of the last outer cycle in which each stream sent (R545; reset none) -/
  sent : List (Nat × Nat) := []
  deriving DecidableEq, Repr, Inhabited

/-- A tone map (R569): six segments, each a modulation 0 to 3 and a 36-bit mask. -/
structure ToneMap where
  gen : Nat := 0
  segs : Vector (Nat × Nat) 6 := Vector.replicate 6 (1, 2 ^ 36 - 1)
  deriving DecidableEq, Repr, Inhabited

/-- A frame of the transmit queue (R567, R572, R588). -/
structure FlTx where
  dest : Nat
  ack : Bool
  data : Bytes
  /-- sequence, given at its first send -/
  seq : Option Nat
  /-- sends made -/
  sends : Nat
  /-- beacon cycle in which it entered the queue, in which it was last sent -/
  since : Nat
  sentIn : Option Nat
  /-- elapsed time of entry, of the last send -/
  at_ : Int
  sentAt : Option Int
  /-- a repeat is requested -/
  again : Bool
  /-- sequence of the FLINK_SEND packet (R583) -/
  ccp : Nat
  deriving DecidableEq, Repr, Inhabited

/-- What the node keeps of a peer (R569 to R575). -/
structure Peer where
  addr : Nat
  /-- maps issued for frames from the peer, newest first, at most 2 (R566) -/
  maps : List ToneMap := []
  /-- a changed map waits for the next report (R570) -/
  mapDue : Bool := false
  /-- map received from the peer for frames to it, none before one -/
  txMap : Option ToneMap := none
  /-- degraded mask and robust that the peer asked for -/
  txDegraded : Nat := 0
  txRobust : Bool := false
  /-- highest data sequence received; sequences delivered, and asked for again, within 16 of it (R571) -/
  high : Option Nat := none
  got : List Nat := []
  want : List Nat := []
  /-- acknowledgements to report (R572) -/
  ackDue : Bool := false
  /-- consecutive failures (R575) -/
  fails : Nat := 0
  /-- robust requested of the peer (R575) -/
  robust : Bool := false
  /-- degraded segments: segment, steps, elapsed end of the window (R574) -/
  degraded : List (Nat × Nat × Int) := []
  /-- next sequence of data frames to it (R564) -/
  nextSeq : Nat := 0
  /-- SNR measured in each of its frames over this beacon cycle, 0.25 dB, 36 carriers of each of 6 segments (R570) -/
  snr : List (List (List Int)) := []
  deriving DecidableEq, Repr, Inhabited

/-- A feeder-link frame as received (R564 to R566): header, payload, whether its CRC-24 passed, stamp of its preamble start,
number of data symbols, in-band energy in 0.25 dB of each data symbol and of the 32 symbols before the first (R573), SNR in 0.25 dB of 36 carriers of each cycle segment, empty
where it had no data symbol (R570), and whether the twin partner sent it (R85). -/
structure FlRx where
  hdr : Bytes
  payload : Bytes
  crcOk : Bool
  start : Nat
  symbols : Nat
  energy : List Int
  snr : List (List Int)
  partner : Bool
  deriving DecidableEq, Repr, Inhabited

/-- A beacon's contents (R577). -/
structure Beacon where
  z : Nat
  p : Nat
  m : Nat
  zcFree : Bool
  quality : Nat
  wake : Nat
  grants : List (Nat × Nat × Nat × Nat × Nat)
  coord : Nat
  deriving DecidableEq, Repr, Inhabited

/-- The feeder link. -/
structure Flink where
  /-- stopped coordinating by a conflict (R576; reset false) -/
  yielded : Bool := false
  /-- stops coordinating at the end of the present beacon cycle (R576; reset false) -/
  yielding : Bool := false
  /-- last valid beacon, own or received (R561, R586; reset none) -/
  beacon : Option Beacon := none
  /-- elapsed time of it (R579; reset none) -/
  beaconAt : Option Int := none
  /-- ST of it (64 bits; R589; reset 0) -/
  beaconSt : Nat := 0
  /-- elapsed time of ready or of a later enabling, whichever came last (R579; reset none) -/
  since : Option Int := none
  /-- FLINK_BEACON_LOST raised since it (R579; reset false) -/
  lostRaised : Bool := false
  /-- transmissions suspended until the next valid beacon (R579, R584; reset true) -/
  mute : Bool := true
  /-- ST of the start of the last slot used (R567; model's own, reset none) -/
  slotAt : Option Nat := none
  /-- last beacon offset, ns (32 bits signed; R589; reset 0) -/
  offset : Int := 0
  /-- own beacon cycle: Z, P and number of the last one sent (R562, R577; reset none) -/
  own : Option (Nat × Nat × Nat) := none
  /-- a beacon received in sleep has this device in its wake mask (R583, R755; reset false) -/
  woke : Bool := false
  /-- peers (R569; reset empty) -/
  peers : List Peer := []
  /-- transmit queue, at most 32, oldest first (R588; reset empty) -/
  queue : List FlTx := []
  /-- deferred by throttling (1 bit; R586; reset 0) -/
  defer : Bool := false
  /-- FLINK.RXCNT, TXCNT, CRCFAIL, ERASE, DROPCNT (32 bits each; R586; reset 0) -/
  rx : BitVec 32 := 0
  tx : BitVec 32 := 0
  crcFail : BitVec 32 := 0
  erase : BitVec 32 := 0
  drops : BitVec 32 := 0
  /-- records lost before the next one; FLINK_RX_DROP raised since the last (R582; reset false) -/
  lost : Bool := false
  dropRaised : Bool := false
  /-- repeats sent, frames dropped (32 bits each; R589; reset 0) -/
  repeats : BitVec 32 := 0
  gone : BitVec 32 := 0
  /-- crossings received from metrology: meter, stamp, interval, newest first (R420; reset empty) -/
  zc : List (Nat × Nat × Nat) := []
  deriving DecidableEq, Repr, Inhabited

end Sys2Proof.Machine
end

