-- ==== Sys2Proof/Machine/RegsAlloc.lean ====
section
/-! DEFINITION. State of site power allocation (R122 to R169): the device's side and the lease holder's side. -/

namespace Sys2Proof.Machine

/-- An entry of a TARGETS packet (R168). -/
structure TEntry where
  /-- true for a storage feeder -/
  storage : Bool
  /-- port or feeder -/
  index : Nat
  /-- 0 hold, 1 leading, 2 trailing -/
  cls : Nat
  target : Int
  deriving DecidableEq, Repr, Inhabited

/-- Trailing moves that wait for T + D (R143). -/
structure Trailing where
  epoch : Nat
  /-- T + D, ST -/
  at_ : Nat
  entries : List TEntry
  /-- RELEASE received in time -/
  released : Bool
  /-- moves of fallback, which need no RELEASE (R155) -/
  fallback : Bool
  deriving DecidableEq, Repr, Inhabited

/-- Limits with the ST from which they hold (R164). -/
structure Limits where
  since : Nat
  limp : Nat
  lexp : Nat
  reserve : Nat
  deriving DecidableEq, Repr, Inhabited

/-- A feeder of this device (R131, R148 to R151). -/
structure Feeder where
  /-- set-point in force, W (R149; reset 0) -/
  target : Int := 0
  /-- sequence of the set-point frame (16 bits; R149; reset 0) -/
  seq : Nat := 0
  /-- epoch of the last change (R149; reset 0) -/
  epoch : Nat := 0
  /-- elapsed time of the last set-point frame (R148; reset 0) -/
  sentAt : Int := 0
  /-- last valid status frame: state of charge, flags, charge and discharge power, sequence (R150; reset 0) -/
  soc : Nat := 0
  sflags : Nat := 0
  avCharge : Nat := 0
  avDisch : Nat := 0
  lastSeq : Nat := 0
  /-- elapsed time of it (R151; reset none) -/
  statusAt : Option Int := none
  /-- status stale (R151; reset true) -/
  stale : Bool := true
  /-- STORAGE_STALE has been raised for it (R151; reset false) -/
  told : Bool := false
  /-- elapsed time at which its entry last took effect (R151, R165; reset 0) -/
  cfgAt : Int := 0
  /-- STORAGE_DEVIATION holds as the lease holder last said (R167; reset false) -/
  deviation : Bool := false
  /-- sum and number of the power samples of this epoch in full-scale steps, its peak; mean and peak of the last epoch, W
  (R131, R167; reset 0) -/
  sum : Int := 0
  count : Nat := 0
  peakNow : Int := 0
  mean : Int := 0
  peak : Int := 0
  deriving DecidableEq, Repr, Inhabited

/-- A port record of a report (R167). -/
structure PRec where
  port : Nat
  state : Nat
  flags : Nat
  upper : Int
  lower : Int
  target : Int
  power : Int
  rate : Nat
  overhead : Nat
  volt : Nat
  deriving DecidableEq, Repr, Inhabited

/-- A storage record of a report (R167). -/
structure SRec where
  feeder : Nat
  flags : Nat
  soc : Nat
  charge : Nat
  disch : Nat
  target : Int
  power : Int
  rate : Nat
  latency : Nat
  deriving DecidableEq, Repr, Inhabited

/-- A feeder record of a report (R167). -/
structure FRec where
  feeder : Nat
  kind : Nat
  mean : Int
  peak : Int
  deriving DecidableEq, Repr, Inhabited

/-- A report as the lease holder keeps it (R127). -/
structure Report where
  /-- the epoch that it counts toward -/
  epoch : Nat
  /-- the epoch that it was sent for (R126) -/
  own : Nat
  site : Nat
  flags : Nat
  ports : List PRec
  stores : List SRec
  feeders : List FRec
  deriving DecidableEq, Repr, Inhabited

/-- One contribution of the sums: a port or a storage feeder of a position (R133). -/
structure Contrib where
  site : Nat
  storage : Bool
  index : Nat
  deriving DecidableEq, Repr, Inhabited

/-- A move issued by the lease holder (R141). -/
structure Move where
  who : Contrib
  cls : Nat
  old : Int
  new : Int
  deriving DecidableEq, Repr, Inhabited

/-- An epoch issued by the lease holder (R134 to R141). -/
structure Issued where
  epoch : Nat
  t : Nat
  d : Nat
  moves : List Move
  /-- positions that have acknowledged -/
  acked : List Nat
  /-- positions with a leading entry -/
  need : List Nat
  /-- ack wait of its epoch, us (R140, R165) -/
  wait : Nat
  /-- sequences of its TARGETS packets: position, sequence (R599) -/
  seqs : List (Nat × Nat)
  /-- RELEASE sent, or withheld -/
  released : Bool
  withheld : Bool
  deriving DecidableEq, Repr, Inhabited

/-- Watch over a storage feeder's deviation (R152). -/
structure Deviation where
  who : Contrib
  /-- the epoch last counted -/
  epoch : Nat
  /-- epochs in a row outside; within -/
  outside : Nat
  within : Nat
  /-- range fixed at this power -/
  fixed : Option Int
  deriving DecidableEq, Repr, Inhabited

/-- Allocation state. -/
structure Alloc where
  /-- last accepted epoch (R169; reset none) -/
  lastEpoch : Option Nat := none
  /-- epochs accepted and not yet checked (R154; reset empty) -/
  received : List Nat := []
  /-- last epoch checked (R154; reset none) -/
  checked : Option Nat := none
  /-- missed-epoch count (R154; reset 0) -/
  missed : Nat := 0
  /-- in fallback (R155; reset false) -/
  fallback : Bool := false
  /-- fallback entries, held epochs, withheld releases, guard trips since reset (32 bits each; R167; reset 0) -/
  fallbacks : BitVec 32 := 0
  helds : BitVec 32 := 0
  withhelds : BitVec 32 := 0
  trips : BitVec 32 := 0
  /-- limits that the device stores, newest first (R163, R164; reset stored) -/
  limits : List Limits := []
  /-- ALLOC_POLICY sections 0 and 1 of the epoch in which a new one was accepted: that epoch and the payload in force
  through it (R165; reset none) -/
  policyWas : Option (Nat × Option Bytes) := none
  feedersWas : Option (Nat × Option Bytes) := none
  /-- fallback table and policy CRC differ from the lease holder's (R158, R163; reset false) -/
  tableBad : Bool := false
  policyBad : Bool := false
  /-- trailing moves pending (R143; reset empty) -/
  trailing : List Trailing := []
  /-- feeders 0 to 3 (R131; reset 0) -/
  feeders : Vector Feeder 4 := Vector.replicate 4 {}
  /-- epoch whose report was last sent (R126; reset none) -/
  reported : Option Nat := none
  /-- epoch whose sums run (R131; reset none) -/
  sumEpoch : Option Nat := none
  /-- lease holder: the last reports of each position, newest first, at most 2 (R127; reset empty) -/
  reports : List Report := []
  /-- lease holder: last epoch run (R134; reset none) -/
  ran : Option Nat := none
  /-- lease holder: uncontrolled-load estimates of the last 8 epochs, with their epochs (R132; reset empty) -/
  loads : List (Nat × Int) := []
  /-- lease holder: epochs issued, newest first, at most 64 (R141; reset empty) -/
  issued : List Issued := []
  /-- lease holder: last known target of each contribution and the ST from which later moves count on top of it (R141,
  R142; reset empty) -/
  base : List (Contrib × Int × Nat) := []
  /-- lease holder: deviation watches (R152; reset empty) -/
  devs : List Deviation := []
  /-- lease holder: epochs in a row over the guard, and the last of them; the epoch from which the reserve is no longer doubled
  (R153; reset 0) -/
  above : Nat := 0
  aboveAt : Nat := 0
  doubledTo : Nat := 0
  /-- lease holder: HOLD only before this ST (R160; reset 0) -/
  collectUntil : Nat := 0
  /-- T and D of the last non-held epoch, ns (R138, R167; reset 0) -/
  tPrev : Nat := 0
  dPrev : Nat := 0
  /-- the last epoch run was held (R167; reset false) -/
  wasHeld : Bool := false
  /-- import sum of the last targets, W; measured grid import of the last epoch, W (R167; reset 0) -/
  lastSum : Int := 0
  lastImport : Int := 0
  /-- positions that reported, and reported fallback, in the last epoch (16 bits each; R167; reset 0) -/
  reporting : Nat := 0
  inFallback : Nat := 0
  deriving DecidableEq, Repr, Inhabited

end Sys2Proof.Machine
end

