-- ==== Sys2Proof/Machine/RegsPlat.lean ====
section
/-! DEFINITION. State of the platform: reset and sleep, supplies and sequencer, VBAT domain, housekeeping, die
thermal management, protected switch channels, links, clocks and cores. -/

namespace Sys2Proof.Machine

/-- Is the device running, asleep or held in reset (R743, R753)? -/
inductive Mode where
  | run | sleep | inReset
  deriving DecidableEq, Repr, Inhabited

/-- A device-fault state (R36). -/
structure DevFault where
  /-- the cause is thermal (R715, R719) -/
  thermal : Bool
  /-- covered by R734 or R737: rails or VS -/
  rail : Bool
  /-- containment level of R34, 5 to 7 -/
  level : Nat
  /-- elapsed time of entry -/
  at_ : Int
  deriving DecidableEq, Repr, Inhabited

/-- Device-wide status. -/
structure Sys where
  /-- running, asleep or in reset (R743, R753; reset running) -/
  mode : Mode := .run
  /-- RESET_N is low (R743; reset false) -/
  resetN : Bool := false
  /-- cause that the coming reset will have (R744; reset none) -/
  nextCause : Option Nat := none
  /-- held in reset after three failed boots (R748; reset false) -/
  bootHold : Bool := false
  /-- SYS.DSTAT.READY (1 bit; R616; reset 0) -/
  ready : Bool := false
  /-- SYS.DSTAT.LEE (1 bit; R616; reset 1) -/
  lee : Bool := true
  /-- ST of ready (64 bits; R616; reset 0) -/
  readySt : Nat := 0
  /-- elapsed time of ready (R629; reset 0) -/
  readyAt : Int := 0
  /-- elapsed time of reset release or wake (R750, R756; reset 0) -/
  startAt : Int := 0
  /-- wake source of the present run, none after a reset (R752; reset none) -/
  wake : Option Nat := none
  /-- armed wake sources of sleep (R753; reset 0) -/
  armed : Nat := 0
  /-- device-fault state (R36; reset none) -/
  fault : Option DevFault := none
  /-- VS brownout flag (R33, R739; reset clear) -/
  brownout : Bool := false
  /-- brownout threshold in mV and true when VS_SENSE is used (R738; reset 18000, true, DESIGN CHOICE, entry 2) -/
  brownoutAt : Nat × Bool := (18000, true)
  /-- SITE_ID conflict seen (R6; reset false) -/
  idConflict : Bool := false
  /-- SITE0, SITE1 Ethernet links up (R664; reset down) -/
  ethUp : Vector Bool 2 := Vector.replicate 2 false
  /-- keep channels have had their defaults set since reset release (R693; reset false) -/
  keepDone : Bool := false
  deriving DecidableEq, Repr, Inhabited

/-- What the sequencer on D3 does (R732, R733). -/
inductive SeqState where
  /-- VS has not qualified -/
  | off
  /-- EN of step n asserted, its PG awaited, n from 1 to 6 -/
  | step (n : Nat)
  /-- all PG high, oscillator running: reset may be released -/
  | done
  /-- rails off, 100 ms wait (R733) -/
  | wait
  /-- three failed attempts: held until VS falls below 3.0 V and rises again (R733) -/
  | stuck
  deriving DecidableEq, Repr, Inhabited

/-- Sequencer state. -/
structure Seqr where
  /-- state (R732; reset done) -/
  state : SeqState := .done
  /-- failed attempts (R733; reset 0) -/
  tries : Nat := 0
  /-- EN outputs asserted, in the order of R732 (6 bits; R731; reset all) -/
  en : Nat := 63
  /-- VS is below 3.0 V, or has not yet risen to 4.5 V since (R691, R731; reset false) -/
  vsLow : Bool := false
  /-- VS was below 3.0 V since the last reset release (R744; reset false) -/
  vsLost : Bool := false
  deriving DecidableEq, Repr, Inhabited

/-- One heartbeat slot (R741). -/
structure Heartbeat where
  st : Nat
  seq : Nat
  flags : Nat
  deriving DecidableEq, Repr, Inhabited

/-- One sample of SEAL_N by the VBAT domain (R387), with the ns since the RTC's last copy, by which it is stamped while the device does not run. -/
structure SealLevel where
  high : Bool
  elapsed : Nat
  deriving DecidableEq, Repr, Inhabited

/-- The VBAT domain (R740). -/
structure Vbat where
  /-- supply at or above 2.0 V (R740; reset true) -/
  powered : Bool := true
  /-- the domain's valid flag (R740; reset: set at reset release, entry 4) -/
  valid : Bool := true
  /-- the RTC holds a copy of ST (R94; reset false: contents lost) -/
  rtcValid : Bool := false
  /-- ST as last copied (64 bits; R94; reset 0) -/
  rtc : Nat := 0
  /-- 32.768 kHz clock present (R45; reset true) -/
  xtal : Bool := true
  /-- stored quality level (R95; reset INVALID) -/
  quality : Quality := .invalid
  /-- a level has been stored since the contents were last lost (R95; reset true) -/
  levelKept : Bool := true
  /-- ST of the last quality change (64 bits; R95; reset 0) -/
  qualitySt : Nat := 0
  /-- heartbeat slots (R741; reset invalid) -/
  hb0 : Option Heartbeat := none
  /-- second heartbeat slot (R741; reset invalid) -/
  hb1 : Option Heartbeat := none
  /-- SEAL_N sampler: level of the last sample, equal samples in a row (R387; reset low, 0) -/
  sealSample : Bool × Nat := (false, 0)
  /-- accepted SEAL_N level (R387; reset low, DESIGN CHOICE, entry 2) -/
  sealLevel : Bool := false
  /-- a tamper level holds: SEAL_N accepted high under SEALED and not low since (R388, R429; reset false) -/
  tamperHeld : Bool := false
  /-- tampers latched and not yet recorded: ST of acceptance, count (R388; reset empty) -/
  tamperNew : List (Nat × Nat) := []
  /-- accepted changes of level not yet recorded: ST of acceptance, level (R387; reset empty) -/
  sealNew : List (Nat × Bool) := []
  /-- tamper count (R388; reset 0) -/
  tampers : Nat := 0
  /-- wake timer (R740; reset none) -/
  wakeAt : Option Nat := none
  /-- last reset cause (8 bits; R744; reset 1, power-on) -/
  cause : Nat := 1
  /-- failed-boot count (R748; reset 0) -/
  failed : Nat := 0
  deriving DecidableEq, Repr, Inhabited

/-- ST as the RTC gives it, `elapsed` ns after its last copy, when it reports valid time: a copy has been made since the
supply last fell below 2.0 V (R93, R94). -/
def Vbat.now (v : Vbat) (elapsed : Nat) : Option Nat := if v.powered && v.rtcValid && v.xtal then some (v.rtc + elapsed) else none

/-- One housekeeping point's last value (R707 to R709). -/
structure HkPoint where
  /-- value in the kind's unit (24 bits signed; R725; reset 0) -/
  value : Int := 0
  /-- valid (1 bit; R725; reset 0) -/
  valid : Bool := false
  /-- last raw input, mV (R709; reset 0) -/
  raw : Int := 0
  /-- logic level of a logic channel (R726; reset false) -/
  level : Bool := false
  deriving DecidableEq, Repr, Inhabited

/-- Housekeeping round state. -/
structure Hk where
  /-- points 0 to 63 external, 64 to 80 internal 0x80 to 0x90 (R707; reset 0) -/
  pts : Vector HkPoint 81 := Vector.replicate 81 {}
  /-- the monitor's latest value of each die sensor when the round converts its point (R707, R708; reset 0, not valid) -/
  die : Vector HkPoint 8 := Vector.replicate 8 {}
  /-- settings before the last HK_CONFIG of each channel, in force until the round `since` starts (R726; reset none) -/
  inForce : Vector (Option Bytes) 64 := Vector.replicate 64 none
  /-- first round in which the stored settings apply (R726; model's own, reset 0) -/
  since : Vector Nat 64 := Vector.replicate 64 0
  /-- HK.ROUND.COUNT (32 bits; R725; reset 0) -/
  rounds : BitVec 32 := 0
  /-- round number last completed (R707; reset none) -/
  lastRound : Option Nat := none
  /-- HK.RSTAT.REFFAIL and its streak: bad rounds, good rounds (R710; reset clear) -/
  refFail : Bool := false
  refBad : Nat := 0
  refGood : Nat := 0
  /-- HK.RSTAT.VBATLOW (R710; reset 0) -/
  vbatLow : Bool := false
  /-- rail points out of range, bit j for point 0x80 + j (R710; reset 0) -/
  railBad : Nat := 0
  /-- AFE reference trim, ppm (R713; reset 0, DESIGN CHOICE, entry 30) -/
  refTrim : Int := 0
  /-- delay-line bias trim (R713; reset 0, DESIGN CHOICE, entry 30) -/
  bias : Int := 0
  deriving DecidableEq, Repr, Inhabited

/-- One die sensor (R712). -/
structure DieSensor where
  /-- conversion, 0.1 degC (16 bits signed; R725; reset 0) -/
  temp : Int := 0
  /-- consecutive conversions off the median (R712; reset 0) -/
  off : Nat := 0
  /-- failed (R712; reset false) -/
  failed : Bool := false
  /-- hardware comparator armed (R714, R715; reset true) -/
  cmpArmed : Bool := true
  deriving DecidableEq, Repr, Inhabited

/-- Die thermal state. -/
structure Therm where
  /-- sensors 0 to 7 (R711; reset 0) -/
  dies : Vector DieSensor 8 := Vector.replicate 8 {}
  /-- Tj, 0.1 degC (16 bits signed; R725; reset 0) -/
  tj : Int := 0
  /-- highest Tj since reset (16 bits signed; R725; reset 0) -/
  peak : Int := 0
  /-- sensor giving Tj (3 bits; R725; reset 0) -/
  hottest : Nat := 0
  /-- warning crossed (1 bit; R714; reset 0) -/
  warn : Bool := false
  /-- throttling (1 bit; R716; reset 0) -/
  throttle : Bool := false
  /-- throttle threshold crossed by Tj (R714; reset false) -/
  hot : Bool := false
  /-- shut-down threshold crossed (R714; reset false) -/
  shut : Bool := false
  /-- orderly shut-down in progress (1 bit; R725; reset 0) -/
  stopping : Bool := false
  /-- releasable (1 bit; R725; reset 0) -/
  releasable : Bool := false
  /-- throttle entries since reset (32 bits; R725; reset 0) -/
  throttles : BitVec 32 := 0
  /-- bits [63:32] of the latch ST as latched (32 bits; R725; reset kept) -/
  latchHi : Nat := 0
  /-- number of the last millisecond converted (R711; model's own, reset none) -/
  lastConv : Option Nat := none
  /-- end in ST of the last 2 ms work window begun while throttling, none before the first (R716, R723; reset none) -/
  workEnd : Option Nat := none
  deriving DecidableEq, Repr, Inhabited

/-- The thermal latch in MRAM (R722). -/
structure TLatch where
  /-- latch set -/
  set : Bool := false
  /-- shut-down mode of the latch -/
  mode : Nat := 1
  /-- ST at which it was set -/
  st : Nat := 0
  /-- elapsed time at which it was set -/
  at_ : Int := 0
  /-- set by the hardware limit -/
  hw : Bool := false
  /-- latches since manufacture (32 bits; R725) -/
  count : BitVec 32 := 0
  deriving DecidableEq, Repr, Inhabited

/-- Switch channel states, coded as R672. -/
inductive SwState where
  | off | on | inrush | limiting | awaitRetry | latched | shed | retired
  deriving DecidableEq, Repr, Inhabited

/-- What a channel is commanded to do (R705, R677). -/
inductive SwCmd where
  | off | on
  | pwm (duty : Nat)
  deriving DecidableEq, Repr, Inhabited

/-- What D3 measures of a channel: conduction power in mW, current in 10 mA, output voltage in 10 mV, temperature in
0.1 degC (R696, R703). -/
structure SwMeas where
  mw : Nat
  cur : Nat
  vout : Int
  temp : Int
  deriving DecidableEq, Repr, Inhabited

/-- Which block owns a memory word with an uncorrectable error (R34, R63). -/
inductive EccOwner where
  /-- a resource that the classifier can retire, by its target -/
  | resource (target : Nat)
  /-- a metrology memory region -/
  | metrology
  deriving DecidableEq, Repr, Inhabited

/-- What a background self-test found bad (R34, R283). -/
inductive TestUnit where
  /-- a resource, confirmed by a second test or not -/
  | resource (target : Nat) (confirmed : Bool)
  /-- a die -/
  | die
  /-- an application core -/
  | core (k : Fin 4)
  /-- the metrology partition -/
  | metrology
  /-- the loop-engine array -/
  | loopArray
  /-- the communication complex -/
  | comms
  deriving DecidableEq, Repr, Inhabited

/-- One protected switch channel (R671). -/
structure SwCh where
  /-- state (3 bits; R672; reset off) -/
  state : SwState := .off
  /-- commanded state (R700; reset off) -/
  cmd : SwCmd := .off
  /-- the last turn-on command asked for slew (R705; reset false) -/
  slewAsk : Bool := false
  /-- slew-controlled turn-on in progress (1 bit; R680; reset 0) -/
  slew : Bool := false
  /-- elapsed time at which the inrush window or slew limit ends (R679, R680; reset none) -/
  windowEnd : Option Int := none
  /-- elapsed time of turn-on (R684; reset 0) -/
  onAt : Int := 0
  /-- turned on under PWM with duty 0: no rising edge yet (R679; reset false) -/
  noEdge : Bool := false
  /-- retry count (R684; reset 0) -/
  retries : Nat := 0
  /-- elapsed time of the overtemperature turn-off whose delay runs (R683; reset 0) -/
  offAt : Int := 0
  /-- open load declared (1 bit; R688; reset 0) -/
  openLoad : Bool := false
  /-- state lost in a dip (1 bit; R691; reset 0) -/
  lost : Bool := false
  /-- code of the state lost in the last dip below 3.0 V (R691; reset 0) -/
  dip : Nat := 0
  /-- the commanded state is to be restored (R691, R695; reset false) -/
  restore : Bool := false
  /-- held under its fault-hold flag (R694; reset false) -/
  held : Bool := false
  /-- a clamp is running, and a turn-on waits for its end (R701; reset false) -/
  clamping : Bool := false
  onAfterClamp : Bool := false
  /-- turned off, and D3 has not reported its clamp (R686; reset false) -/
  clampDue : Bool := false
  /-- current, 10 mA (16 bits; R703; reset 0) -/
  current : Nat := 0
  /-- output voltage, 10 mV (16 bits signed; R703; reset 0) -/
  vout : Int := 0
  /-- channel temperature, 0.1 degC (16 bits signed; R703; reset 0) -/
  temp : Int := 0
  /-- means of the last 10 windows of 100 ms, mW, newest first (R696; reset empty) -/
  means : List Nat := []
  /-- 1 s mean before shedding, mW (R699; reset 0) -/
  shedMean : Nat := 0
  /-- energy of the last clamp, 0.1 mJ (16 bits; R703; reset 0) -/
  clampE : Nat := 0
  /-- clamp energy in the present 1 s window, 0.1 mJ (R687; reset 0) -/
  clampSum : Nat := 0
  /-- overtemperature turn-offs since reset (32 bits; R703; reset 0) -/
  faults : BitVec 32 := 0
  /-- ST of the last state change (64 bits; R706; reset 0) -/
  changedSt : Nat := 0
  /-- ST of the last turn-off by protection (64 bits; R706; reset 0) -/
  protSt : Nat := 0
  deriving DecidableEq, Repr, Inhabited

/-- The conduction budget (R696 to R699). -/
structure Budget where
  /-- sums of the last 10 windows, mW, newest first (R696; reset empty) -/
  sums : List Nat := []
  /-- budget in force, mW (16 bits; R703; reset 6000) -/
  limit : Nat := 6000
  /-- an episode of shedding is under way (R698; reset false) -/
  episode : Bool := false
  /-- numbers of the last windows done: 100 ms, 1 s restore, 1 s clamp (R696, R699, R687; reset none) -/
  lastWin : Option Nat := none
  lastRestore : Option Nat := none
  lastClamp : Option Nat := none
  /-- elapsed time of the last channel restored after a dip or at wake (R691; reset none) -/
  dipAt : Option Int := none
  deriving DecidableEq, Repr, Inhabited

/-- Substrate links, memories, clocks and cores (R30 to R46). -/
structure Fabric where
  /-- replays of each link: sample bus, AFE control bus, power-die bus, DRAM channel (R31; reset 0) -/
  replays : Vector Nat 4 := Vector.replicate 4 0
  /-- consecutive replays of the frame under way, per link (R32; reset 0) -/
  streak : Vector Nat 4 := Vector.replicate 4 0
  /-- ECC corrections per memory: SRAM, MRAM, DRAM, register files (R34; reset 0) -/
  ecc : Vector Nat 4 := Vector.replicate 4 0
  /-- clocks lost, bit k in the order of R45: reference, fabric, application, metering, feeder link, CAN, Ethernet,
  32.768 kHz (R45; reset 0) -/
  clkLost : Nat := 0
  /-- elapsed time of each core's last watchdog expiry (R38; reset none) -/
  coreDog : Vector (Option Int) 4 := Vector.replicate 4 none
  /-- core watchdog expiries since reset (R618; reset 0) -/
  dogs : Nat := 0
  /-- transient faults charged since reset (R618; reset 0) -/
  transients : Nat := 0
  /-- substrate-link replays since reset (R618; reset 0) -/
  linkReplays : Nat := 0
  /-- ECC corrections since reset (R618; reset 0) -/
  eccCount : Nat := 0
  /-- gust counts: CAN0 to CAN7, SITE0, SITE1, feeder link (R653; reset 0) -/
  gust : Vector Nat 11 := Vector.replicate 11 0
  /-- sources whose first gust drop has been raised, bit i (R653; reset 0) -/
  gustRaised : Nat := 0
  /-- ST of the start of the last completed calibration round of the delay lines (64 bits; R218; reset 0) -/
  calRound : Nat := 0
  /-- number of the last outer cycle begun (R221; model's own; reset none) -/
  outer : Option Nat := none
  deriving DecidableEq, Repr, Inhabited

/-- A device-fault record in MRAM (R36, R746, R747). -/
structure FaultRec where
  level : Nat
  thermal : Bool
  st : Nat
  deriving DecidableEq, Repr, Inhabited

/-- Records and settings in MRAM (R60) outside metrology, groups and sessions. They survive every reset. -/
structure Nv where
  /-- stored configuration (R791; reset none) -/
  cfg : Cfg := {}
  /-- firmware and credentials (R626; reset none) -/
  fw : Fw := {}
  /-- classifier history of each charged resource (R285; reset empty) -/
  clsf : List Clsf := []
  /-- retired-resource list, in order of retirement (R286; reset empty) -/
  retired : List Retired := []
  /-- retirements since manufacture (R618; reset 0) -/
  retirements : Nat := 0
  /-- event log, newest first, at most 65 536 records (R657; reset empty) -/
  evLog : List EvRec := []
  /-- EVT.SEQ.COUNT, sequence of the newest record (32 bits; R655, R663; reset 0) -/
  evSeq : Nat := 0
  /-- persistent violation ring, newest first, at most 256 (R615; reset empty) -/
  violRing : List Viol := []
  /-- thermal latch (R722; reset clear) -/
  tlatch : TLatch := {}
  /-- temperature bins of the holdover table (R97; reset empty) -/
  bins : Vector TempBin 34 := Vector.replicate 34 {}
  /-- SYS.BOOTCNT.COUNT (32 bits; R616; reset: kept, DESIGN CHOICE 1, entry 2) -/
  boots : BitVec 32 := 1
  /-- device-fault entries since manufacture (R618; reset 0) -/
  devFaults : Nat := 0
  /-- device-fault record not yet reported (R36, R747; reset none) -/
  faultRec : Option FaultRec := none
  /-- records of groups that were not OFF at the device-fault state, without sequence, to be written after the restart
  (R290; reset empty) -/
  devGroups : List (Nat × Bytes) := []
  /-- stored H of host windows 0 to 3 (32 bits each; R597; reset none: nothing stored yet) -/
  hostH : Vector (Option Nat) 4 := Vector.replicate 4 none
  /-- stored value of the sequence counter (32 bits; R500, R596; reset 0) -/
  seqStored : Nat := 0
  deriving DecidableEq, Repr, Inhabited

end Sys2Proof.Machine
end

