-- ==== Sys2Proof/Machine/RegsPort.lean ====
section
/-! DEFINITION. State of the vehicle ports and sessions (R302 to R354) and of the cooling loops (R355 to R381). -/

namespace Sys2Proof.Machine

/-- Answers to the vehicle (R317, R319, R322, R328 to R330, R340). -/
inductive VAnswer where
  /-- SDP response: the SECC answers discovery -/
  | sdp
  /-- a request taken: protocol or session agreed -/
  | ok
  /-- processing ongoing -/
  | ongoing
  /-- processing finished -/
  | finished
  /-- the EVSE is stopping, with measured voltage and current -/
  | stopping
  /-- measured voltage and current -/
  | measured
  /-- refused -/
  | failed
  deriving DecidableEq, Repr, Inhabited

/-- Cipher suites of a TLS 1.3 handshake: the two that are offered, or none in common (R317). -/
inductive TlsSuite where
  | aes128Gcm | aes256Gcm | other
  deriving DecidableEq, Repr, Inhabited

/-- Groups of its ECDHE: the two that are offered, or none in common (R317). -/
inductive TlsGroup where
  | secp256r1 | secp384r1 | other
  deriving DecidableEq, Repr, Inhabited

/-- The TLS handshake on a new connection: version 1.3 wanted, the suite and the group of the vehicle's choice (R317). -/
structure TlsHello where
  v13 : Bool
  suite : TlsSuite
  group : TlsGroup
  deriving DecidableEq, Repr, Inhabited

/-- Does the handshake stay within what the device offers (R317)? -/
def TlsHello.offered (h : TlsHello) : Bool := h.v13 && h.suite != .other && h.group != .other

/-- What a frame from the vehicle link carries (R314 to R317, R340). -/
inductive VlWhat where
  /-- an idle transfer, or a frame that no rule names -/
  | other
  /-- the attenuation in dB that matching has measured, or matching failed (R315) -/
  | matched (atten : Option Nat)
  /-- the vehicle opens its TCP connection, with or without TLS (R317, R318) -/
  | connect (tls : Option TlsHello)
  /-- any request of the session that has no row of its own -/
  | request
  deriving DecidableEq, Repr, Inhabited

/-- Header of a transfer on a framed link (R314): frame length; flags: bit 0 ready to receive, bit 1 a frame follows, bit 2
receive overflow at the sender; sequence. -/
structure VlHead where
  len : Nat
  flags : Nat
  seq : Nat
  deriving DecidableEq, Repr, Inhabited

/-- A transfer on the vehicle link: its header on a framed link, the size of its data chunks on a TC6 link, and what it
carries (R313, R314). -/
structure VlFrame where
  len : Nat
  flags : Nat
  seq : Nat
  chunk : Nat := 64
  what : VlWhat
  deriving DecidableEq, Repr, Inhabited

/-- How the device sets up a TC6 MAC-PHY (R313): size of a data chunk, control transactions with protection, PLCA, receive
and transmit in the same transfer. -/
structure Tc6 where
  chunk : Nat
  guarded : Bool
  plca : Bool
  duplex : Bool
  deriving DecidableEq, Repr, Inhabited

/-- The one setting that the device supports: point-to-point, PLCA disabled (R313). -/
def Tc6.setting : Tc6 := { chunk := 64, guarded := true, plca := false, duplex := true }

/-- Why a vehicle link goes down (R316). -/
inductive VlLoss where
  /-- the modem or MAC-PHY has not answered for 100 ms -/
  | silence
  /-- matching is lost -/
  | matching
  /-- the session's TCP connection closes or is reset -/
  | tcp
  deriving DecidableEq, Repr, Inhabited

/-- The loss of a port's vehicle link (R316). -/
structure LinkLoss where
  port : Fin 8
  cause : VlLoss
  deriving DecidableEq, Repr, Inhabited

/-- A session setup of the vehicle (R319, R345). -/
structure Setup where
  /-- protocol codes of R345 in the vehicle's priority order -/
  offers : List Nat
  evccid : Bytes
  /-- vehicle's maximum voltage in V and current in A -/
  vmax : Nat
  imax : Nat
  deriving DecidableEq, Repr, Inhabited

/-- Identification that the vehicle gives (R321). -/
structure Ident where
  plugAndCharge : Bool
  emaid : Bytes
  chain : Bytes
  deriving DecidableEq, Repr, Inhabited

/-- Port states, numbered as R324. -/
inductive PState where
  | idle | connected | negotiating | precharge | charging | discharging | rampdown | discharge | faulted | retired
  deriving DecidableEq, Repr, Inhabited

/-- A stop of a session under way or decided (R339). -/
structure Ending where
  /-- end reason (R346) -/
  reason : Nat
  /-- stop class it took -/
  cls : Nat
  /-- row of the table of R339, for two causes in one tick (R342) -/
  rank : Nat
  /-- ST of the cause -/
  st : Nat
  deriving DecidableEq, Repr, Inhabited

/-- Progress of the cable check (R327, R328). -/
inductive Check where
  /-- not asked, or done and passed -/
  | none
  | passed
  /-- group started, contactor not yet confirmed -/
  | rising
  /-- confirmed closed: the cable-check time runs since -/
  | holding (since : Int)
  /-- ended, true when passed: the group is on its way to OFF -/
  | ending (ok : Bool)
  deriving DecidableEq, Repr, Inhabited

/-- A session (R321, R345). -/
structure Session where
  id : Nat := 0
  /-- protocol code of R345 -/
  proto : Nat := 0
  /-- the vehicle chose BPT: offered to it once the authorization permits discharge (R323) -/
  bpt : Bool := false
  /-- 0 external, 1 Plug & Charge -/
  ident : Nat := 0
  setupSt : Nat := 0
  /-- identification is complete: AUTH_REQUEST outstanding, elapsed time of it -/
  authAsked : Option Int := none
  /-- authorized, with the ST -/
  authSt : Option Nat := none
  /-- accepted with discharge permitted -/
  dischOk : Bool := false
  account : Nat := 0xFFFF
  chargeCeil : Nat := 0
  dischCeil : Nat := 0
  firstSt : Nat := 0
  /-- meter registers at session setup, mWh: import, export -/
  e0 : Nat × Nat := (0, 0)
  peakW : Int := 0
  peakA : Nat := 0
  retries : Nat := 0
  /-- flags bits 0 to 2 of the record's byte 67 -/
  flags : Nat := 0
  evccid : Bytes := []
  emaid : Bytes := []
  chain : Option Bytes := none
  vmax : Nat := 0
  imax : Nat := 0
  check : Check := .none
  /-- the set-point stored at the start of the cable check, Q16.16 V (R327) -/
  checkVolts : Int := 0
  /-- a precharge request's group start was refused for a thermal latch and none has started since (R342) -/
  refused : Bool := false
  /-- the vehicle waits for its cable-check answer -/
  checkWaits : Bool := false
  /-- vehicle's target voltage, Q16.16 V -/
  vTarget : Int := 0
  /-- vehicle's minimum voltage, Q16.16 V -/
  vMin : Int := 0
  /-- I_req and I_dreq, Q16.16 A -/
  iReq : Int := 0
  iDreq : Int := 0
  /-- the vehicle's power-delivery start has been received (R325) -/
  started : Bool := false
  /-- elapsed times of the last current demand and of the last request of any kind -/
  demandAt : Int := 0
  seqAt : Int := 0
  deriving DecidableEq, Repr, Inhabited

/-- Pilot classification of D2 in sleep, with NOT_READY drive (R344): the accepted level, the run of windows of one level, and true
once a change from L0 was accepted. -/
structure Doze where
  level : Nat
  run : Option (Nat × Nat) := none
  woke : Bool := false
  deriving DecidableEq, Repr, Inhabited

/-- One vehicle port. -/
structure Port where
  /-- port state (4 bits; R324, R347; reset IDLE) -/
  state : PState := .idle
  /-- accepted level L0 to L5; 7 none (3 bits; R347; reset 7) -/
  level : Nat := 7
  /-- level to which the last periods classified, and how many in a row (R309; reset none) -/
  levelRun : Option (Nat × Nat) := none
  /-- number of the last millisecond classified (R307; model's own; reset none) -/
  pilotWin : Option Nat := none
  /-- classification in sleep (R344; reset none) -/
  doze : Option Doze := none
  /-- last high plateau, mV (16 bits signed; R347; reset 0) -/
  high : Int := 0
  /-- last low plateau, mV (16 bits signed; R347; reset 0) -/
  low : Int := 0
  /-- consecutive periods with a high low plateau, and without (R310; reset 0) -/
  diodeRun : Nat := 0
  diodeOk : Nat := 0
  /-- diode fault (1 bit; R310, R347; reset 0) -/
  diode : Bool := false
  /-- pilot drive: 0 NOT_READY, 1 READY, 2 UNAVAILABLE (2 bits; R305, R347; reset 0) -/
  drive : Nat := 0
  /-- contactor drive on (1 bit; R347; reset 0) -/
  cdrive : Bool := false
  /-- elapsed time at which the drive last turned on or off (R331; reset 0) -/
  cAt : Int := 0
  /-- housekeeping rounds in a row with the contact as the drive asks (R331; reset 0) -/
  cRun : Nat := 0
  /-- confirmed closed (1 bit; R331, R347; reset 0) -/
  closed : Bool := false
  /-- reported closed to the group: from drive on until confirmed open (R270, R332; reset false) -/
  reported : Bool := false
  /-- CONTACTOR_FAIL, CONTACTOR_WELD have been raised for this change (R331, R333; reset false) -/
  cFailed : Bool := false
  cWeld : Bool := false
  /-- vehicle link up (1 bit; R316, R347; reset 0) -/
  link : Bool := false
  /-- the modem or MAC-PHY answers, on Green PHY with matching done (R315, R316; reset false) -/
  phys : Bool := false
  /-- its one TCP connection is open (R317; reset false) -/
  tcp : Bool := false
  /-- a TLS 1.3 session is established (1 bit; R317, R347; reset 0) -/
  tls : Bool := false
  /-- elapsed time at which the modem or MAC-PHY last answered, or its reset ended (R316; reset 0) -/
  heardAt : Int := 0
  /-- VL_RST_N released: the port is configured (R312; reset held low) -/
  linkOn : Bool := false
  /-- modem ready to receive, a frame follows, receive overflow at the modem, last sequence (R314; reset 0) -/
  modemReady : Bool := false
  modemMore : Bool := false
  modemOverflow : Bool := false
  linkSeq : Nat := 0
  /-- sequence of the next frame that the device sends (8 bits; R314; reset DESIGN CHOICE 0, entry 256) -/
  sendSeq : Nat := 0
  /-- matching in progress (R315; reset false) -/
  matching : Bool := false
  /-- present session (R321; reset none) -/
  session : Option Session := none
  /-- present or last session id (32 bits; R347; reset 0) -/
  lastId : Nat := 0
  /-- end reason of the last session (8 bits; R347; reset 0) -/
  lastEnd : Nat := 0
  /-- account and end, in elapsed time, of the last session that was authorized (R476; model's own; reset none) -/
  ended : Option (Nat × Int) := none
  /-- stop decided for the session (R339; reset none) -/
  ending : Option Ending := none
  /-- the vehicle has been told, or is to be told next, that the EVSE is stopping (R340; reset false) -/
  telling : Bool := false
  /-- mean cable voltage of the last outer cycle, Q16.16 V (32 bits; R347; reset 0) -/
  vcable : Int := 0
  /-- allocated target, W (32 bits signed; R347; reset 0) -/
  alloc : Int := 0
  /-- effective target, W (32 bits signed; R347; reset 0) -/
  eff : Int := 0
  /-- binding caps (6 bits; R347; reset 0) -/
  caps : Nat := 0
  /-- current target last sent, Q16.16 A (32 bits; R347; reset 0) -/
  itgt : Int := 0
  /-- a current set-point has been sent in this charging phase (R338; reset false) -/
  sentI : Bool := false
  /-- V_lim last sent, Q16.16 V (R336; reset 0) -/
  vlim : Int := 0
  /-- inputs of I_t have changed since it was last computed (R336; reset false) -/
  dirty : Bool := false
  /-- the local caps when the effective target was last brought up to date, bit and W (R336; reset empty) -/
  capsSeen : List (Nat × Int) := []
  /-- ST of the last state change (64 bits; R352; reset 0) -/
  changedSt : Nat := 0
  /-- retry stamps, elapsed time, newest first (R276; reset empty) -/
  retries : List Int := []
  /-- sums over the present epoch of power in uW, samples; mean of the last epoch, W (R126, R167; reset 0) -/
  pSum : Int := 0
  pCount : Nat := 0
  pMean : Int := 0
  /-- sum of the epoch's cable voltages and its mean over the last epoch, Q16.16 V (R126; reset 0) -/
  vSum : Int := 0
  vMean : Int := 0
  /-- limits in force: charge, discharge (W), current (A), voltage (V) (R350; reset stored) -/
  limits : Nat × Nat × Nat × Nat := (0, 0, 0, 0)
  deriving DecidableEq, Repr, Inhabited

/-- A link that is gone takes its connection with it (R316, R317). -/
def Port.unlinked (x : Port) : Port := { x with link := false, phys := false, tcp := false, tls := false, matching := false }

/-- How long PILOTn_DRV is high in each ms under READY drive, ns: 5 %, or 50 % under the MCS signalling profile (R305). -/
def pilotWidth (mcs : Bool) : Nat := if mcs then 500000 else 50000

/-- PILOTn_DRV at an ST in ns, true for high (R305): NOT_READY static high, UNAVAILABLE static low, READY 1 kHz, rising
at each whole ms. -/
def pilotHigh (drive : Nat) (mcs : Bool) (st : Nat) : Bool :=
  if drive = 1 then decide (st % 1000000 < pilotWidth mcs) else decide (drive ≠ 2)

/-- One temperature sensor of a loop (R370). -/
structure CoolSensor where
  /-- last valid reading, 0.1 degC; where there is none and the model needs one, a free value (R370; reset 0) -/
  value : Int := 0
  /-- has read valid since it was configured (R381; reset false) -/
  seen : Bool := false
  /-- valid at the last round (R370; reset false) -/
  valid : Bool := false
  /-- the cap is limited for it, with the valid rounds in a row since (R370; reset none) -/
  fault : Option Nat := none
  deriving DecidableEq, Repr, Inhabited

/-- A sensor's value as shown: absent until it has read valid (R381). -/
def CoolSensor.shown (x : CoolSensor) : Option Int := if x.seen then some x.value else none

/-- One cooling loop. Temperatures of the model in degC, exact (entry 50). -/
structure Cool where
  /-- T_c, T_k set since reset, wake, restart or configuration (R363; reset false) -/
  init : Bool := false
  /-- conductor node (R360; reset 0) -/
  tc : Rat := 0
  /-- coolant node (R360; reset 0) -/
  tk : Rat := 0
  /-- predicted conductor temperature (R365; reset 0) -/
  pred : Rat := 0
  /-- rounds left under the uncooled rating: the one that sets T_c and T_k, and 50 steps (R363; reset 50) -/
  early : Nat := 50
  /-- inlet, outlet, ambient and pin sensors 0 to 3 (R355; reset 0) -/
  sens : Vector CoolSensor 7 := Vector.replicate 7 {}
  /-- sum of squares of the mean I_out and their number since the last step (R360; reset 0) -/
  sq : Rat := 0
  sqN : Nat := 0
  /-- elapsed times of flow pulses of the last 200 ms, newest first (R371; reset empty) -/
  pulses : List Int := []
  /-- measured flow, L/min (R371; reset 0) -/
  flow : Rat := 0
  /-- active (1 bit; R357, R379; reset 0) -/
  active : Bool := false
  /-- elapsed time at which the port last entered IDLE or CONNECTED from another state (R357; reset none) -/
  leftAt : Option Int := none
  /-- pump runs (1 bit; R379; reset 0) -/
  pump : Bool := false
  /-- elapsed time of the last pump turn-on (R374; reset none) -/
  pumpAt : Option Int := none
  /-- inside the pump start window, COOL.CSTAT.START (1 bit; R374, R379; reset 0) -/
  startWin : Bool := false
  /-- valve on (R381; reset 0) -/
  valve : Bool := false
  /-- pump and fan duty, % (8 bits each; R379; reset 0) -/
  pumpDuty : Nat := 0
  fanDuty : Nat := 0
  /-- draught loss declared (1 bit; R373, R379; reset 0) -/
  draught : Bool := false
  /-- rounds in a row below the loss threshold; at or above the restore threshold (R373, R375; reset 0) -/
  lowRun : Nat := 0
  okRun : Nat := 0
  /-- pin factor (R367; reset 1) -/
  pf : Rat := 1
  /-- id of the session in which PIN_DERATE was last raised (R367; reset none) -/
  derated : Option Nat := none
  /-- I_cap, A (16 bits; R379; reset 0) -/
  icap : Nat := 0
  /-- cable cap, W (32 bits; R379; reset 0) -/
  pcap : Nat := 0
  /-- the cable cap binds (1 bit; R379; reset 0) -/
  binding : Bool := false
  /-- elapsed time of the last refresh (R372; reset 0) -/
  freshAt : Int := 0
  /-- the fabric holds the cap (1 bit; R372, R379; reset 0) -/
  stale : Bool := false
  /-- COOL.LOSSCNT.COUNT (32 bits; R379; reset 0) -/
  losses : BitVec 32 := 0
  /-- ST of the last declaration or restore (64 bits; R381; reset 0) -/
  lossSt : Nat := 0
  deriving DecidableEq, Repr, Inhabited

/-- A loop takes the model nodes, flow and draught state and pump start window of an image (R378, R497); its sensors, pulses and
current stay the own readings. -/
def Cool.adopt (own img : Cool) : Cool :=
  { own with
    init := img.init, tc := img.tc, tk := img.tk, pred := img.pred, early := img.early, flow := img.flow
    pump := img.pump, pumpAt := img.pumpAt, startWin := img.startWin, draught := img.draught, lowRun := img.lowRun
    okRun := img.okRun, losses := img.losses, lossSt := img.lossSt }

/-- A loop begins its model anew, and draught loss is evaluated afresh (R363, R378). -/
def Cool.afresh (c : Cool) : Cool := { c with init := false, early := 50, draught := false, lowRun := 0, okRun := 0 }

/-- A loop stops: nothing runs, no start window is open (R359, R373). -/
def Cool.stop (c : Cool) : Cool :=
  { c with active := false, pump := false, pumpAt := none, startWin := false, valve := false, pumpDuty := 0, fanDuty := 0 }

/-- Session records in MRAM (R60, R345). -/
structure PortRecs where
  /-- last 64 records, 128 bytes each, newest first (R345; reset empty) -/
  recs : List Bytes := []
  deriving DecidableEq, Repr, Inhabited

end Sys2Proof.Machine
end

