-- ==== Sys2Proof/Machine/RegsPower.lean ====
section
/-! DEFINITION. State of the power groups: phase slots and timebases (R170 to R218), loop engines and profile
generators (R219 to R258), group state machines and fault records (R259 to R298).

Times inside a timebase are in fine steps of 39.0625 ps of elapsed time (R79, R174). Q16.16 and Q2.30 values are held
as their integer content. -/

namespace Sys2Proof.Machine

/-- What a lane's control filter gave in one outer cycle (R227): outputs as stamp and code. -/
structure LaneCycle where
  lane : Nat
  /-- every output was valid (R230) -/
  valid : Bool
  codes : List (Nat × Int)
  deriving DecidableEq, Repr, Inhabited

/-- A frame on a bus between the dies: whether it is good, and on the sample bus its meter lane (R31, R32, R283). -/
structure BusFrame where
  ok : Bool
  lane : Option (Fin 144)
  deriving DecidableEq, Repr, Inhabited

/-- What MIDnn of a slot showed over 100 us: lowest and highest level in mV (R264, R265). -/
structure MidSample where
  slot : Nat
  low : Int
  high : Int
  deriving DecidableEq, Repr, Inhabited

/-- A queued inner computation (R229). -/
structure InnerJob where
  /-- stamp of the sample, ST -/
  stamp : Nat
  /-- elapsed time at which the sample became available -/
  avail : Int
  /-- phase current, Q16.16 A -/
  current : Int
  /-- the sample is valid (R230) -/
  valid : Bool
  deriving DecidableEq, Repr, Inhabited

/-- Four compares in fine steps (R179). -/
structure Compares where
  hRise : Nat := 0
  hFall : Nat := 0
  lRise : Nat := 0
  lFall : Nat := 0
  deriving DecidableEq, Repr, Inhabited

/-- Group values that a slot took at its last pickup (R192). -/
structure GVals where
  /-- period, coarse steps -/
  period : Nat := 0
  /-- dead times, fine steps (R184) -/
  dtHL : Nat := 0
  dtLH : Nat := 0
  /-- blanking and minimum pulse, coarse steps (R200, R182) -/
  blank : Nat := 0
  minPulse : Nat := 0
  deriving DecidableEq, Repr, Inhabited

/-- What a pickup found and took, kept for a write to the shadows in the same tick (R241). -/
structure PickNote where
  /-- the pickup's tick in fine steps of elapsed time -/
  tick : Int
  /-- result not yet picked up, results superseded -/
  fresh : Bool
  superseded : Nat
  /-- largest and smallest effect latency of the group -/
  effMax : Nat
  effMin : Option Nat
  /-- it opened its round; period and reference before it; the period it took, and whether its round changes the grid -/
  opened : Bool
  periodWas : Nat
  refWas : Int
  period : Nat
  change : Bool
  deriving DecidableEq, Repr, Inhabited

/-- One phase slot (R170). -/
structure Slot where
  /-- shadow compares (4 x 24 bits; R192, R213; reset 0) -/
  shadow : Compares := {}
  /-- compares in force (4 x 24 bits; R212; reset 0) -/
  force : Compares := {}
  /-- group values in force at this slot (R192; reset 0) -/
  vals : GVals := {}
  /-- armed (1 bit; R191, R212; reset 0) -/
  armed : Bool := false
  /-- start of the present period (R176; reset 0) -/
  start : Int := 0
  /-- length of the present period in fine steps (R174, R196; reset 0) -/
  len : Nat := 0
  /-- the present period is transitional (R196; reset false) -/
  trans : Bool := false
  /-- PWM_H and PWM_L levels (R172; reset low) -/
  outH : Bool := false
  outL : Bool := false
  /-- times of the last falls of PWM_H and PWM_L (R184; reset none) -/
  fellH : Option Int := none
  fellL : Option Int := none
  /-- targets of the last rises of PWM_H and PWM_L (R179; reset none) -/
  roseH : Option Int := none
  roseL : Option Int := none
  /-- a rise of PWM_H or PWM_L is delayed (R184; reset false) -/
  delayH : Bool := false
  delayL : Bool := false
  /-- open blanking windows, start and end (R200; reset empty) -/
  blanks : List (Int × Int) := []
  /-- instant at which an active trip level was last found inside a blanking window (R200; reset none) -/
  tripHeld : Option Int := none
  /-- the present period is tripped (1 bit; R205, R212; reset 0) -/
  tripped : Bool := false
  /-- instant of the cut in the present period (R201; reset none) -/
  cut : Option Int := none
  /-- record of the last M periods, newest first, the present one excluded (R205; reset empty) -/
  trips : List Bool := []
  /-- consecutive tripped own periods up to the last one; those before that one (R275; reset 0) -/
  tripRun : Nat := 0
  tripRunWas : Nat := 0
  /-- suspended (R278; reset false) -/
  suspended : Bool := false
  /-- elapsed time and ST stamp of a burst not yet charged (R278; reset none) -/
  burst : Option (Int × Nat) := none
  /-- elapsed time of its last TRIP_BURST in RUN or RAMPDOWN (R279; reset none) -/
  burstAt : Option Int := none
  /-- T of the last successful measurement; 0 none (8 bits; R212; reset 0) -/
  taps : Nat := 0
  /-- delay-line bias that it took at its last calibration measurement (R713; reset 0, DESIGN CHOICE, entry 30) -/
  bias : Int := 0
  /-- T of the map that each edge unit holds: H rise, H fall, L rise, L fall; 0 before the first (R186, R187; reset 0) -/
  maps : Vector Nat 4 := Vector.replicate 4 0
  /-- edge units that wait for the new map, bit u for unit u (4 bits; R187; reset 0) -/
  mapWait : Nat := 0
  /-- coarse only (1 bit; R188, R212; reset 0) -/
  coarse : Bool := false
  /-- last measurement failed (R218; reset false) -/
  calFailed : Bool := false
  /-- calibration faults since reset, saturating at 255 (8 bits; R212; reset 0) -/
  calFaults : Nat := 0
  /-- ST of the last successful measurement (R218; reset 0) -/
  calSt : Nat := 0
  /-- latest current sample, Q16.16 A (R236; reset 0) -/
  current : Int := 0
  /-- it was valid (R230; reset true) -/
  valid : Bool := true
  /-- triggered samples of the present outer cycle, Q16.16 A (R227; reset empty) -/
  samples : List Int := []
  /-- mean over the previous outer cycle, Q16.16 A (R227; reset 0) -/
  mean : Int := 0
  /-- trim b_k, Q16.16 A (R235; reset 0) -/
  trim : Int := 0
  /-- inner integrator x_k, Q2.30 (R236; reset 0) -/
  integ : Int := 0
  /-- instants at which triggered samples of the phase's lane are due, oldest first (R228; reset empty) -/
  points : List Int := []
  /-- instant of the last one taken since the start (R230; reset none) -/
  sampledAt : Option Int := none
  /-- queued computations, oldest first (R229; reset empty) -/
  jobs : List InnerJob := []
  /-- duty, its sample's stamp, its compute-to-load latency and flags of the result in the shadows (R243; reset 0) -/
  duty : Int := 0
  resStamp : Nat := 0
  resLat : Nat := 0
  resClamped : Bool := false
  resInvalid : Bool := false
  /-- the result in the shadows has not been picked up (R241; reset false) -/
  fresh : Bool := false
  /-- results superseded since the last pickup (R243; reset 0) -/
  superseded : Nat := 0
  /-- the last pickup (R241; reset none) -/
  pick : Option PickNote := none
  /-- duty in force, Q2.30 (R288; reset 0) -/
  dutyForce : Int := 0
  deriving DecidableEq, Repr, Inhabited

/-- The timebase of a group (R174 to R198). -/
structure Pwm where
  /-- drive source in force: host test (1 bit; R211, R214; reset 0) -/
  test : Bool := false
  /-- timebase running (1 bit; R211; reset 0) -/
  running : Bool := false
  /-- output mode in force (2 bits; R211, R214; reset 0) -/
  mode : Nat := 0
  /-- trip action in force (R214; reset 0) -/
  tripAction : Nat := 0
  /-- period in force, coarse steps (16 bits; R211; reset 0) -/
  period : Nat := 0
  /-- a reference boundary of the present grid (R176, R195; reset 0) -/
  ref : Int := 0
  /-- slots the present grid is spaced for, in order of position (R175; reset empty) -/
  grid : List Nat := []
  /-- lead position (4 bits; R189, R211; reset 0) -/
  lead : Nat := 0
  /-- a load-all is held (1 bit; R190, R211; reset 0) -/
  held : Bool := false
  /-- an internal load-all for a spacing change waits (R198; reset false) -/
  respace : Bool := false
  /-- S_r of the load-all in effect (R191; reset 0) -/
  leadStart : Int := 0
  /-- the lead slot has picked up in this round, with the period it took (R192; reset none) -/
  roundP : Option Nat := none
  /-- this round changes the period or the spacing (R195; reset false) -/
  roundChange : Bool := false
  /-- slots that the round is spaced for, true when it brings in a new spacing, and the position of its lead slot among
  them (R195, R198; reset empty, false, 0) -/
  round : List Nat := []
  roundSpace : Bool := false
  roundLead : Nat := 0
  /-- PWM.LOADCNT (32 bits; R211; reset 0) -/
  loadCnt : BitVec 32 := 0
  /-- PWM.HELDCNT (32 bits; R211; reset 0) -/
  heldCnt : BitVec 32 := 0
  /-- PWM.TRIPCNT (32 bits; R211; reset 0) -/
  tripCnt : BitVec 32 := 0
  /-- PWM.DTCNT (32 bits; R211; reset 0) -/
  dtCnt : BitVec 32 := 0
  /-- PWM_DEADTIME_CLAMP has been raised since the last pickup (R185; reset false) -/
  dtRaised : Bool := false
  /-- bits [63:32] of the reference boundary as latched (32 bits; R211; reset 0) -/
  refHi : Nat := 0
  deriving DecidableEq, Repr, Inhabited

/-- A set-point to be taken up by the next profile step (R251, R257). -/
structure SetPoint where
  /-- current mode -/
  current : Bool
  /-- target, Q16.16 -/
  target : Int
  /-- current clamp or V_lim, Q16.16 -/
  limit : Int
  /-- restart from the measured value -/
  restart : Bool
  deriving DecidableEq, Repr, Inhabited

/-- Loop engine and profile generator of a group (R219). -/
structure Loop where
  /-- current mode (1 bit; R252; reset 0) -/
  current : Bool := false
  /-- target in force, Q16.16 (32 bits; R252; reset 0) -/
  target : Int := 0
  /-- current clamp in voltage mode or V_lim in current mode, Q16.16 (R231, R232; reset 0) -/
  limit : Int := 0
  /-- voltage set-point stored for the next soft start: target, clamp (R257; reset none, R795) -/
  stored : Option (Int × Int) := none
  /-- set-point waiting for the next profile step (R257; reset none) -/
  next : Option SetPoint := none
  /-- profile position, velocity, acceleration with 40 fraction bits (R222; reset 0) -/
  pos : Int := 0
  vel : Int := 0
  acc : Int := 0
  /-- AT_TARGET (1 bit; R251, R252; reset 0) -/
  atTarget : Bool := false
  /-- elapsed time at which AT_TARGET last rose (R260; reset 0) -/
  atEl : Int := 0
  /-- limits in force with 40 fraction bits: voltage slew, acceleration, jerk, current slew, acceleration, jerk (R794;
  reset from the stored configuration) -/
  limits : List Int := []
  /-- number of the last whole microsecond stepped (R245; reset none) -/
  stepped : Option Nat := none
  /-- sections 0 and 1 of LOOP_PARAM in force (R254; reset stored or zeros) -/
  par0 : Bytes := []
  par1 : Bytes := []
  /-- sticky flags LOOP.SAT (10 bits; R223, R252; reset 0) -/
  sat : Nat := 0
  /-- outer integrators x_v, x_c, Q16.16 (R231, R232; reset 0) -/
  xv : Int := 0
  xc : Int := 0
  /-- I_ref, Q16.16 (32 bits; R252; reset 0) -/
  iref : Int := 0
  /-- I_v is selected (1 bit; R232, R252; reset 0) -/
  vsel : Bool := false
  /-- a phase lane is replaced (1 bit; R230, R252; reset 0) -/
  laneInvalid : Bool := false
  /-- LOOP_LANE_INVALID has been raised since the group start (R230; reset false) -/
  laneRaised : Bool := false
  /-- means of the last outer cycle, Q16.16, none before a complete one (R227; reset none) -/
  vout : Option Int := none
  iout : Option Int := none
  vin : Option Int := none
  /-- V_out, I_out or V_in lane was invalid in the last outer cycle (R230, R300; reset false) -/
  laneBad : Bool := false
  /-- mode transfer: preset the integrators at the next outer stage (R234; reset false) -/
  preset : Bool := false
  /-- spacing change picked up: n of the inner stage (R237; reset 0) -/
  n : Nat := 0
  /-- latency records, newest first, at most 1024 (R243; reset empty) -/
  lats : List Bytes := []
  /-- replan records, newest first, at most 64 (R244; reset empty) -/
  replans : List Bytes := []
  /-- records overwritten since the last read: latency, replan (R258; reset false) -/
  latLost : Bool := false
  replanLost : Bool := false
  /-- LOOP.CLMAX (32 bits; R252; reset 0) -/
  clMax : Nat := 0
  /-- LOOP.EFFMAX (32 bits; R252; reset 0) -/
  effMax : Nat := 0
  /-- smallest effect latency since the last clear, none yet (R258; reset none) -/
  effMin : Option Nat := none
  /-- LOOP.SUPER (32 bits; R252; reset 0) -/
  super : BitVec 32 := 0
  /-- LOOP.REPLAN (32 bits; R252; reset 0) -/
  replan : BitVec 32 := 0
  /-- since the last clear: replans, clamps, arrests, abandoned computations (R258; reset 0) -/
  cReplans : BitVec 32 := 0
  cClamps : BitVec 32 := 0
  cArrests : BitVec 32 := 0
  cAbandoned : BitVec 32 := 0
  /-- ST of the last clear (64 bits; R258; reset 0) -/
  clearSt : Nat := 0
  deriving DecidableEq, Repr, Inhabited

/-- Group states in the order of R259. -/
inductive GState where
  | off | precheck | softstart | run | rampdown | discharge | faulted
  deriving DecidableEq, Repr, Inhabited

/-- A stop in progress (R266). -/
structure Stop where
  /-- 0 normal, 1 emergency, 2 hard -/
  cls : Nat
  /-- elapsed time of the stop tick -/
  at_ : Int
  /-- elapsed time of the stop bound -/
  bound : Int
  /-- I_ref at the stop tick, Q16.16 -/
  iref0 : Int
  deriving DecidableEq, Repr, Inhabited

/-- Step of the pre-start check (R264). -/
inductive PreStep where
  /-- no outer cycle has completed yet: the first one decides -/
  | await
  /-- discharge channel on since -/
  | discharging (since : Int)
  /-- settling since -/
  | settle (since : Int)
  /-- V_in below its minimum since -/
  | lowVin (since : Int)
  /-- MID sampling since -/
  | sampling (since : Int)
  /-- failing slots, true where a sample was too high, wait for their second sampling, which begins at -/
  | resample (since : Int) (slots : List (Nat × Bool))
  deriving DecidableEq, Repr, Inhabited

/-- The state machine and protection of a group (R259 to R282). -/
structure Prot where
  /-- group state (R259; reset OFF) -/
  state : GState := .off
  /-- cause of the last transition (16 bits; R291; reset 0) -/
  cause : Nat := 0
  /-- ST of the last state change (64 bits; R295; reset 0) -/
  changedSt : Nat := 0
  /-- starts permitted, GRP.GSTATE.PERMIT (1 bit; R291, R795; reset 1) -/
  permit : Bool := true
  /-- fault pending and its cause (R261; reset none) -/
  pending : Option Nat := none
  /-- stop in progress (R266; reset none) -/
  stop : Option Stop := none
  /-- outputs of RAMPDOWN have been driven low (R269, R271; reset false) -/
  low : Bool := false
  /-- consecutive outer cycles at or below the zero-current threshold (R269; reset 0) -/
  zeroRun : Nat := 0
  /-- elapsed time of current zero (R269; reset none) -/
  zeroAt : Option Int := none
  /-- CONTACTOR_WAIT has been raised (R270; reset false) -/
  waitRaised : Bool := false
  /-- stop overrun has happened (R271; reset false) -/
  overrun : Bool := false
  /-- elapsed time at which the discharge channel turned on (R272, R273; reset none) -/
  discharge : Option Int := none
  /-- elapsed time since which every outer cycle's mean V_out has been below 60 V (R272; reset none) -/
  below60 : Option Int := none
  /-- pre-start check (R264; reset none) -/
  pre : Option PreStep := none
  /-- retry stamps of a group with no port, elapsed time, newest first (R276; reset empty) -/
  retries : List Int := []
  /-- consecutive outer cycles of the lag rule (R275; reset 0) -/
  lag : Nat := 0
  /-- the lane fault has been acted on (R230; reset false) -/
  laneFault : Bool := false
  /-- ST of the last entry to SOFTSTART (64 bits; R288; reset 0) -/
  softSt : Nat := 0
  /-- last 24 outer cycles, newest first, 32 bytes each (R288; reset empty) -/
  history : List Bytes := []
  deriving DecidableEq, Repr, Inhabited

/-- One power group. -/
structure Group where
  pwm : Pwm := {}
  loop : Loop := {}
  prot : Prot := {}
  deriving DecidableEq, Repr, Inhabited

/-- Fault records of a group in MRAM (R60, R288): newest sequence, last 32 records newest first. -/
structure GroupRecs where
  /-- sequence of the newest record (32 bits; R288; reset 0) -/
  seq : Nat := 0
  /-- records, 1024 bytes each, newest first, at most 32 (R288; reset empty) -/
  recs : List Bytes := []
  deriving DecidableEq, Repr, Inhabited

end Sys2Proof.Machine
end

