-- ==== Sys2Proof/Machine/RegsTwin.lean ====
section
/-! DEFINITION. State of twin redundancy and of the site-master lease (R489 to R528). -/

namespace Sys2Proof.Machine

/-- Messages between the twins (R495, R503, R513). -/
inductive HingeKind where
  /-- time message -/
  | time
  /-- partner report -/
  | report
  /-- twin-lease renewal, on every path -/
  | renewal
  /-- planned handover: offer, answer -/
  | offer
  | answer
  /-- release notice (R509) -/
  | release
  deriving DecidableEq, Repr, Inhabited

/-- Twin states, coded as TWIN.TSTAT.STATE (R506, R525). -/
inductive TwinState where
  | waiting | syncing | standby | carry | active | unfit
  deriving DecidableEq, Repr, Inhabited

/-- One hinge lane (R494). -/
structure HingeLane where
  /-- trained and in service (R494; reset false) -/
  up : Bool := false
  /-- elapsed time of its last training (R494; reset 0) -/
  trainedAt : Int := 0
  deriving DecidableEq, Repr, Inhabited

/-- A planned handover in progress (R513). -/
structure Handover where
  /-- this device gives -/
  giver : Bool
  /-- Q0 -/
  q0 : Nat
  /-- the taker has accepted -/
  accepted : Bool
  /-- Q has passed at the giver -/
  switched : Bool
  /-- 0 not a drill, 1 the handover out, 2 the handover back (R515) -/
  drill : Nat
  /-- giver: elapsed time of the offer, which is answered within 10 us (R513) -/
  at_ : Int := 0
  deriving DecidableEq, Repr, Inhabited

/-- Twin redundancy state. -/
structure Twin where
  /-- twin state (3 bits; R506, R525; reset WAITING) -/
  state : TwinState := .waiting
  /-- partner state as last reported (3 bits; R525; reset WAITING) -/
  partner : TwinState := .waiting
  /-- a partner report has arrived over the hinge link since it came up (R495; reset false) -/
  heard : Bool := false
  /-- LEASE_OUT level (1 bit; R491, R525; reset 0) -/
  leaseOut : Bool := false
  /-- LEASE_IN level (1 bit; R525; reset 0) -/
  leaseIn : Bool := false
  /-- lease generation (32 bits; R525; reset 0) -/
  gen : Nat := 0
  /-- the partner's lease generation as last received (R524; reset 0) -/
  partnerGen : Nat := 0
  /-- lease end in force, elapsed time; none before the first (R501, R525; reset 0 as shown) -/
  leaseEnd : Option Int := none
  /-- elapsed time from which a WAITING device may take the lease, once ready (R505; reset none) -/
  waitFrom : Option Int := none
  /-- own hash of the last captured cycle (R517; reset none) -/
  ownHash : Option (Nat × Nat) := none
  /-- hash and cycle of the image whose end has arrived (R496; reset none) -/
  gotEnd : Option (Nat × Nat) := none
  /-- last cycle whose deadline was handled (R498; reset none) -/
  deadline : Option Nat := none
  /-- partner's hash matched in its last cycles, as its reports show, at most 3 (R513; reset 0) -/
  partnerRun : Nat := 0
  /-- self-diagnosis has failed, starts forbidden by it (R511; reset false) -/
  diagFail : Bool := false
  /-- released under R509 (R537; reset false) -/
  released : Bool := false
  /-- this position held the site-master lease when last seen (R504; reset false) -/
  posMaster : Bool := false
  /-- elapsed time of the last renewal issued (R501; reset 0) -/
  renewedAt : Int := 0
  /-- latest lease end received on any path, elapsed time; none before one (R503; reset none) -/
  seenEnd : Option Int := none
  /-- TWIN_PARTITION stands (R503, R527; reset false) -/
  partition : Bool := false
  /-- configuration CRC differs (R526, R527; reset false) -/
  cfgMismatch : Bool := false
  /-- roles differ (R68; reset false) -/
  roleMismatch : Bool := false
  /-- the partner's configuration CRC and role set as last received (R68, R526; reset none) -/
  partnerSet : Option (Nat × Nat) := none
  /-- acceptance order up to which the standby's matching hash shows that it holds every launch; the order in force when
  the own hash was formed; the order from which the next launch section goes on (R497, R499; model's own, reset 0) -/
  knownOrder : Nat := 0
  hashOrder : Nat := 0
  sentOrder : Nat := 0
  /-- what the next image tells beside: classifier stamps added in the cycle (resource, cause, ST), and feeder-link frames sent or dropped
  (CCP sequence, frame sequence) (R497; reset empty) -/
  clsfNew : List (Nat × Nat × Nat) := []
  flNew : List (Nat × Nat) := []
  /-- own shared sequence at the last capture's tick (R500; model's own, reset 0) -/
  seqAt : Nat := 0
  /-- CARRY was entered from SYNCING, so PWM stays low (R507; reset false) -/
  carryLow : Bool := false
  /-- renewals continued since LEASE_IN fell (R507; reset false) -/
  renewedInCarry : Bool := false
  /-- hinge link up (1 bit; R494; reset 0) -/
  hinge : Bool := false
  /-- hinge lanes (R494; reset not trained) -/
  lanes : Vector HingeLane 4 := Vector.replicate 4 {}
  /-- elapsed time of the last valid hinge frame (R494; reset none) -/
  hingeAt : Option Int := none
  /-- consecutive images on time with matching hashes (R507; reset 0) -/
  goodImages : Nat := 0
  /-- consecutive late images (R507; reset 0) -/
  lateRun : Nat := 0
  /-- consecutive hash mismatches (R517; reset 0) -/
  mismatchRun : Nat := 0
  /-- standby: fault records of its own decisions that no compare has confirmed yet, oldest first: group and bytes without
  sequence and CRC (R263, R288; reset empty) -/
  pendRecs : List (Nat × Bytes) := []
  /-- fault-record values of the groups as the last state image in SRAM holds them (R290; reset empty) -/
  imgRecs : List (Nat × Bytes) := []
  /-- elapsed times of mismatched cycles within the last 1 s, newest first (R517; reset empty) -/
  mismatchAt : List Int := []
  /-- the standby's self-test runs since (R517; reset none) -/
  selfTest : Option Int := none
  /-- TWIN.CMPCNT (32 bits; R525; reset 0) -/
  mismatches : BitVec 32 := 0
  /-- TWIN.LATECNT (32 bits; R525; reset 0) -/
  lates : BitVec 32 := 0
  /-- TWIN.DUPCNT (32 bits; R525; reset 0) -/
  dups : BitVec 32 := 0
  /-- cycle whose image was last captured, and sent (R496; reset none) -/
  captured : Option Nat := none
  /-- ST of the last take (64 bits; R527; reset 0) -/
  takeSt : Nat := 0
  /-- handover in progress (R513; reset none) -/
  handover : Option Handover := none
  /-- scheduled drills suspended (R527, R528; reset false) -/
  drillsOff : Bool := false
  /-- drill that fell due, retried since this elapsed time (R516; reset none) -/
  drillDue : Option Int := none
  /-- drill hold: elapsed time of its end, no mismatch so far (R515; reset none) -/
  drillHold : Option (Int × Bool) := none
  /-- ST of the last drill (64 bits; R527; reset 0) -/
  drillSt : Nat := 0
  /-- TWIN.DRILL.PASSED (16 bits; R525; reset 0) -/
  passed : Nat := 0
  /-- TWIN.DRILL.FAILED (16 bits; R525; reset 0) -/
  failed : Nat := 0
  /-- bits [63:32] of the lease end as latched (32 bits; R525; reset 0) -/
  endHi : Nat := 0
  /-- sequence of the last hinge time message sent, elapsed time (R495; reset none) -/
  timeMsgAt : Option Int := none
  deriving DecidableEq, Repr, Inhabited

/-- The site-master lease (R520 to R523). -/
structure Master where
  /-- this device holds it (1 bit; R525, R616; reset 0) -/
  held : Bool := false
  /-- site-master generation (32 bits; R521; reset 0) -/
  gen : Nat := 0
  /-- own lease end, elapsed time (R520; reset 0) -/
  leaseEnd : Int := 0
  /-- elapsed time of the last renewal (R520; reset none) -/
  renewedAt : Option Int := none
  /-- holder's SITE_ID as last received (R520; reset none) -/
  holder : Option Nat := none
  /-- its lease end, elapsed time (R520; reset none) -/
  holderEnd : Option Int := none
  /-- own renewing stopped by a conflict (R523; reset false) -/
  conflict : Bool := false
  deriving DecidableEq, Repr, Inhabited

end Sys2Proof.Machine
end

