-- ==== Sys2Proof/Machine/RegsImage.lean ====
section
/-! DEFINITION. The twin state image as it crosses the hinge link (R497). -/

namespace Sys2Proof.Machine

/-- One part of an image (R497), as an image segment carries it. -/
inductive ImagePart where
  /-- header: cycle, ST of capture, lease generation, shared sequence, configuration CRC, role set, time quality, hash, launch digest -/
  | header (cycle st gen seq cfgCrc roles : Nat) (quality : Quality) (hash launches launchCrc : Nat)
  /-- groups with their timebases, loops and protection, and the slots' shadows, compares, trims, integrators,
  and the groups' shadow values -/
  | groups (g : Vector Group 8) (s : Vector Slot 48) (sh : Vector (Option Bytes) 8)
  /-- ports with their sessions -/
  | ports (p : Vector Port 8)
  /-- cooling loops -/
  | cools (c : Vector Cool 8)
  /-- allocation -/
  | alloc (a : Alloc)
  /-- launch section: packets that the standby lacks -/
  | launches (l : List Req)
  /-- commanded switch-channel states, classifier stamps added in the cycle, feeder-link frames sent or dropped -/
  | other (sw : Vector SwCmd 24) (clsf : List (Nat × Nat × Nat)) (flSent : List (Nat × Nat))
  deriving DecidableEq, Repr

/-- A frame of an image on the hinge link (R495, R496): a segment, or the image end with the cycle and the hash. The
elapsed times within are in the receiver's count (entry 110). -/
inductive ImageMsg where
  | segment (p : ImagePart)
  | fin (cycle hash : Nat)
  deriving DecidableEq, Repr

/-- A partner report (R495): twin state, own hash with its cycle, configuration CRC, role set; `unfit` when a giver that
resumed marks the receiver UNFIT (R514). -/
structure PartnerReport where
  state : TwinState
  hash : Option (Nat × Nat)
  cfgCrc : Nat
  roles : Nat
  unfit : Bool
  deriving DecidableEq, Repr

/-- The parts of the cycle in reception (R496; reset none). -/
structure Image where
  cycle : Nat := 0
  gen : Nat := 0
  seq : Nat := 0
  cfgCrc : Nat := 0
  roles : Nat := 0
  groups : Option (Vector Group 8 × Vector Slot 48) := none
  groupSh : Option (Vector (Option Bytes) 8) := none
  ports : Option (Vector Port 8) := none
  cools : Option (Vector Cool 8) := none
  alloc : Option Alloc := none
  launches : List Req := []
  sw : Option (Vector SwCmd 24) := none
  clsf : List (Nat × Nat × Nat) := []
  flSent : List (Nat × Nat) := []
  deriving DecidableEq, Repr

end Sys2Proof.Machine
end

