-- ==== Sys2Proof/Machine/RegsMeter.lean ====
section
/-! DEFINITION. State of the metrology partition (R382 to R435). -/

namespace Sys2Proof.Machine

/-- The bitstream of a path up to a sample index, as runs of equal bits, newest first, and whether its sample bus frame was lost after
replay (R50, R392, R396). -/
structure PathBits where
  runs : List (Bool × Nat) := []
  lost : Bool := false
  deriving DecidableEq, Repr, Inhabited

/-- One metering filter output (R392, R396). -/
structure RawSample where
  /-- signed 24-bit code -/
  code : Int
  /-- 64 equal bits within the filter span -/
  overload : Bool
  /-- its sample bus frame was lost after replay -/
  lost : Bool
  deriving DecidableEq, Repr, Inhabited

/-- One meter lane, 0 to 143 (R393). -/
structure Lane where
  /-- range in use (R398; reset 0) -/
  range : Nat := 0
  /-- down count (R398; reset 0) -/
  down : Nat := 0
  /-- samples left of the 16 that settle (R396; reset 16) -/
  settle : Nat := 16
  /-- calibrated values of the stream that the interpolator sees, newest first, at most 32 (R401; reset empty, DESIGN CHOICE, entry 60) -/
  stream : List Rat := []
  /-- last code (24 bits signed; R434; reset 0) -/
  code : Int := 0
  /-- stamp of the last sample (64 bits; R434; reset 0) -/
  stamp : Nat := 0
  /-- overload and invalid flags of the last sample (R396; reset false) -/
  overload : Bool := false
  invalid : Bool := false
  /-- cause of the invalid episode and its samples (R427; reset none) -/
  badCause : Nat := 0
  badCount : Nat := 0
  /-- temperature in use, 0.1 degC (16 bits signed; R434; reset 0) -/
  temp : Int := 0
  /-- the temperature source reads invalid (R403; reset false) -/
  tempBad : Bool := false
  /-- outside the table (R402; reset false) -/
  tempRange : Bool := false
  /-- invalid samples since manufacture, saturating (32 bits; R434) -/
  invalids : Nat := 0
  deriving DecidableEq, Repr, Inhabited

/-- One calibrated sample of a meter (R401): V and A of up to three phases, exact. -/
structure MSample where
  /-- in the present count of ST: a clock step since moves it -/
  stamp : Nat
  /-- as taken, which decides the block of its products (R413) -/
  taken : Nat
  /-- duration, ns (R395) -/
  dt : Rat
  v : List Rat
  i : List Rat
  /-- each phase: a sample it uses is settling or invalid; the voltage's alone -/
  bad : List Bool
  vbad : List Bool
  /-- active product of the sample, mWh, for the mean power -/
  e : Rat
  q : Rat
  deriving DecidableEq, Repr, Inhabited

/-- An accumulator with 64 integer and 32 fraction bits, as 2^-32 mWh or mvarh (R415). -/
abbrev Acc := Nat

/-- One meter: DC 0 to 7, AC 8 to 11 (R430). -/
structure Meter where
  /-- total registers (R415): import, export, Q+, Q-, then the same of L1, L2, L3 (96 bits each; reset kept) -/
  tot : Vector Acc 16 := Vector.replicate 16 0
  /-- open block number (R413; reset none) -/
  block : Option Nat := none
  /-- sums of the open block: DC import, export; AC active L1-3, reactive L1-3, exact (R414; reset 0) -/
  sums : Vector Rat 6 := Vector.replicate 6 0
  /-- sums of a block whose last reactive products are awaited (R413; reset none) -/
  tail : Option (Nat × Vector Rat 6) := none
  /-- sums of the products that follow a block closed before its end, a further block of the same start (R413, R458; reset none) -/
  late : Option (Nat × Vector Rat 6) := none
  /-- block at whose end a new section took effect, the section before it and its samples: its last reactive products are still to be
  formed (R413, R423; reset none) -/
  old : Option (Nat × Bytes × List MSample) := none
  /-- number of the last closed block (R434; reset 0) -/
  lastBlock : Nat := 0
  /-- samples of the last 200 ms, newest first, at most 800 (R412, R421; reset empty) -/
  hist : List MSample := []
  /-- invalid and overrange samples since manufacture, saturating (32 bits each; R434; reset kept) -/
  invalids : Nat := 0
  overs : Nat := 0
  /-- a lane is in overload (R430; reset false) -/
  above : Bool := false
  /-- an overrange excursion of the lanes that enter the products is under way (R412; reset false) -/
  excursion : Bool := false
  /-- status bits of the last sample: invalid, settling, creep (R430; reset false) -/
  inv : Bool := false
  settling : Bool := false
  creep : Bool := false
  /-- the zero-crossing detector is armed (R417; reset false) -/
  armed : Bool := false
  /-- valid crossings, newest first, at most 16 (R418, R421; reset empty) -/
  zc : List Nat := []
  /-- the next crossing is valid whatever its interval: the first one, or the first after LOSS_OF_ZC (R418; reset true) -/
  zcFirst : Bool := true
  /-- LOSS_OF_ZC stands, with its ST (R419; reset none) -/
  zcLost : Option Nat := none
  /-- valid crossings in a row since the loss (R419; reset 0) -/
  zcBack : Nat := 0
  /-- configuration accepted and not yet in force (R423; reset none) -/
  next : Option Bytes := none
  deriving DecidableEq, Repr, Inhabited

/-- What the mirror shows of a meter (R62, R430, R434). -/
structure MMirror where
  /-- total registers' integer parts -/
  tot : Vector Nat 16 := Vector.replicate 16 0
  stat : Nat := 0
  p : Int := 0
  q : Int := 0
  v : Vector Int 3 := Vector.replicate 3 0
  i : Vector Int 3 := Vector.replicate 3 0
  neutral : Int := 0
  freq : Nat := 0
  zc : Nat := 0
  invalids : Nat := 0
  overs : Nat := 0
  /-- CRC-32C of the section in force, number of the last closed block (R434) -/
  crc : Nat := 0
  block : Nat := 0
  deriving DecidableEq, Repr, Inhabited

/-- What the mirror shows of a lane (R62, R434). -/
structure LaneMirror where
  used : Bool := false
  invalid : Bool := false
  overload : Bool := false
  settling : Bool := false
  tempRange : Bool := false
  tempBad : Bool := false
  range : Nat := 0
  code : Int := 0
  stamp : Nat := 0
  temp : Int := 0
  /-- g_r + g_T in 0.01 ppm, d_r + d_T in 0.1 ns -/
  g : Int := 0
  d : Int := 0
  invalids : Nat := 0
  deriving DecidableEq, Repr, Inhabited

/-- A metrology event record (R426). -/
structure MRec where
  st : Nat
  seq : Nat
  code : Nat
  quality : Nat
  keyway : Nat
  p1 : Nat
  p2 : Nat
  deriving DecidableEq, Repr, Inhabited

/-- The metrology partition. -/
structure Metro where
  /-- sealed (R386; kept; reset false) -/
  sealed : Bool := false
  /-- divisors of octets 0 to 15 (8 bits each; R431; reset kept, 20) -/
  divs : Vector Nat 16 := Vector.replicate 16 20
  /-- METER_CONFIG section of each meter in force (R431; reset kept, none) -/
  cfg : Vector (Option Bytes) 12 := Vector.replicate 12 none
  /-- calibration table in force (R400; reset kept, none) -/
  cal : Option Bytes := none
  /-- committed table waiting for the next sample index (R404; reset none) -/
  calNext : Option Bytes := none
  /-- table transfer: generation, bytes so far (R433; reset none) -/
  xfer : Option (Nat × Bytes) := none
  /-- CRC-32C of the firmware's metrology section recorded at sealing (R390; kept) -/
  fwCrc : Nat := 0
  /-- lanes 0 to 143 (R393) -/
  lanes : Vector Lane 144 := Vector.replicate 144 {}
  /-- meters 0 to 11 (R430) -/
  meters : Vector Meter 12 := Vector.replicate 12 {}
  /-- ST of the last sample index, and number of it in the state's count (R393, R395; reset none) -/
  lastSt : Option Nat := none
  index : Nat := 0
  /-- sum of the steps of ST at the last sample index, ns (R395; model's own) -/
  lastMoved : Int := 0
  /-- hidden count at the last sample index, 2^-32 ns (R395; model's own) -/
  lastFix : Nat := 0
  /-- fabric ticks at the last sample index as nominal time, 2^-32 ns; none after a filter start (R393; model's own) -/
  lastTick : Option Int := none
  /-- stopped: elapsed time of the fault, true when for good (R385; reset running) -/
  stopped : Option (Int × Bool) := none
  /-- elapsed time of the last restart (R385; reset none) -/
  restartAt : Option Int := none
  /-- restarts since manufacture (R427; kept) -/
  restarts : Nat := 0
  /-- keyway area records of the general part and of the reserved part, oldest first (R426, R428; kept) -/
  general : List MRec := []
  reserved : List MRec := []
  /-- running area, newest first, at most 4096 (R426; kept) -/
  running : List MRec := []
  /-- METER.LOGSEQ (32 bits; R429; kept) -/
  logSeq : Nat := 0
  /-- METER.KWLOST (32 bits; R428, R429; kept) -/
  kwLost : Nat := 0
  /-- keyway area records since manufacture (32 bits; R429; kept) -/
  kwCount : Nat := 0
  /-- METER_LOG_FULL has been raised (R428; kept) -/
  fullRaised : Bool := false
  /-- mirror (R62, R430, R434): ST, meters, lanes -/
  mirrorSt : Nat := 0
  mirror : Vector MMirror 12 := Vector.replicate 12 {}
  mirLanes : Vector LaneMirror 144 := Vector.replicate 144 {}
  /-- METER.MIRHI (32 bits; R429; reset 0) -/
  mirHi : Nat := 0
  /-- METER.MSTAT, CALCRC, CFGCNT, LOGSEQ, KWLOST as refreshed with the mirror (32 bits each; R429; reset 1, then kept) -/
  mirStat : Nat := 1
  mirCalCrc : Nat := 0
  mirCnt : Nat := 0
  mirLog : Nat := 0
  mirLost : Nat := 0
  /-- sleep entry ST for the gap record (R422; reset none) -/
  sleepAt : Option Nat := none
  deriving DecidableEq, Repr, Inhabited

end Sys2Proof.Machine
end

