-- ==== Sys2Proof/Syntax.lean ====
section
/-! DEFINITION. The commands of the block: one constructor for each row of the opcode table, in its order, with the row's
operands. A row that the host or a peer sends as a CCP packet takes the packet as it arrives; a row that is an event of a
pin, a bus, a timer or a sensor takes what that event delivers. -/

namespace Sys2Proof

open Sys2Proof.Machine

/-- A command. -/
inductive Instr where
  /-- SYS_PING (R617) -/
  | sysPing (p : Pkt)
  /-- SYS_SUMMARY (R618) -/
  | sysSummary (p : Pkt)
  /-- SYS_ROLE (R620) -/
  | sysRole (p : Pkt)
  /-- SYS_RESET (R621) -/
  | sysReset (p : Pkt)
  /-- SYS_SLEEP (R622) -/
  | sysSleep (p : Pkt)
  /-- SYS_LOG_READ (R623) -/
  | sysLogRead (p : Pkt)
  /-- SYS_VIOLATION_READ (R625) -/
  | sysViolationRead (p : Pkt)
  /-- SYS_FW_UPDATE (R628) -/
  | sysFwUpdate (p : Pkt)
  /-- FW_TRIAL_CONFIRM (R629) -/
  | fwTrialConfirm
  /-- CCP_KEY_OVERLAP_END (R631) -/
  | ccpKeyOverlapEnd
  /-- TIME_SET (R117) -/
  | timeSet (p : Pkt)
  /-- TIME_SOURCE (R118) -/
  | timeSource (p : Pkt)
  /-- TIME_STATUS (R120) -/
  | timeStatus (p : Pkt)
  /-- TIME_CAPTURE (R115) -/
  | timeCapture (p : Pkt)
  /-- CAPTURE_DONE (R115) -/
  | captureDone
  /-- ALLOC_LIMIT (R164) -/
  | allocLimit (p : Pkt)
  /-- ALLOC_POLICY (R165) -/
  | allocPolicy (p : Pkt)
  /-- ALLOC_FALLBACK (R166) -/
  | allocFallback (p : Pkt)
  /-- ALLOC_STATUS (R167) -/
  | allocStatus (p : Pkt)
  /-- ALLOC_TARGETS (R169) -/
  | allocTargets (p : Pkt)
  /-- ALLOC_REPORT_SEND (R126) -/
  | allocReportSend
  /-- ALLOC_EPOCH_RUN (R134) -/
  | allocEpochRun
  /-- ALLOC_ACK_WAIT_END (R140) -/
  | allocAckWaitEnd
  /-- CCP_REPLY_RECEIVE (R599) -/
  | ccpReplyReceive (p : Pkt)
  /-- ALLOC_TRAILING_EFFECT (R143) -/
  | allocTrailingEffect
  /-- ALLOC_MISSED_EPOCH_CHECK (R154) -/
  | allocMissedEpochCheck
  /-- STORAGE_STATUS_FRAME (R150) -/
  | storageStatusFrame (f : Fin 4) (b : Bytes)
  /-- STORAGE_STALE (R151) -/
  | storageStale (f : Fin 4)
  /-- STORAGE_SETPOINT_REPEAT (R148) -/
  | storageSetpointRepeat (f : Fin 4)
  /-- LAUNCH_EXECUTE (R110) -/
  | launchExecute
  /-- PTP_MESSAGE_RECEIVE (R86) -/
  | ptpMessageReceive (net : Fin 2) (m : PtpMsg)
  /-- TIME_SOURCE_LOSS (R80) -/
  | timeSourceLoss (k : Fin 5)
  /-- PPS_EDGE (R87) -/
  | ppsEdge
  /-- GNSS_SENTENCE (R87) -/
  | gnssSentence (utc : Nat) (ok : Bool)
  /-- SOURCE_DWELL_EXPIRY (R82) -/
  | sourceDwellExpiry
  /-- PENDING_STEP_EXPIRY (R91) -/
  | pendingStepExpiry
  /-- HOLDOVER_LIMIT_REACHED (R99) -/
  | holdoverLimitReached
  /-- RTC_COPY (R94) -/
  | rtcCopy
  /-- ZONE_TABLE_EXPIRING (R104) -/
  | zoneTableExpiring
  /-- TIME_STLO_READ (R75) -/
  | timeStloRead
  /-- DELAY_LINE_CAL (R186) -/
  | delayLineCal (n : Fin 48) (taps : Option Nat)
  /-- LOADALL_TAKE_EFFECT (R190) -/
  | loadallTakeEffect (g : Fin 8)
  /-- SLOT_PICKUP (R192) -/
  | slotPickup (n : Fin 48)
  /-- TRIP_REGISTERED (R201) -/
  | tripRegistered (n : Fin 48)
  /-- PWM_WRITE (R215) -/
  | pwmWrite (p : Pkt)
  /-- PWM_LOADALL (R217) -/
  | pwmLoadall (p : Pkt)
  /-- PWM_CAL_STATUS (R218) -/
  | pwmCalStatus (p : Pkt)
  /-- PWM_REFLO_READ (R211) -/
  | pwmRefloRead (g : Fin 8)
  /-- PROFILE_STEP (R249) -/
  | profileStep (g : Fin 8)
  /-- OUTER_CYCLE (R221) -/
  | outerCycle (lanes : List LaneCycle)
  /-- TRIGGERED_SAMPLE (R229) -/
  | triggeredSample (n : Fin 48) (code : Int) (valid : Bool)
  /-- INNER_RESULT_WRITE (R239) -/
  | innerResultWrite (n : Fin 48)
  /-- LOOP_OVERRUN (R239) -/
  | loopOverrun (n : Fin 48)
  /-- LOOP_LOADALL (R240) -/
  | loopLoadall (g : Fin 8)
  /-- LOOP_PARAM (R254) -/
  | loopParam (p : Pkt)
  /-- LOOP_PROFILE (R255) -/
  | loopProfile (p : Pkt)
  /-- GROUP_SETPOINT (R257) -/
  | groupSetpoint (p : Pkt)
  /-- LOOP_TRACE (R258) -/
  | loopTrace (p : Pkt)
  /-- GROUP_CONFIG (R292) -/
  | groupConfig (p : Pkt)
  /-- GROUP_ENABLE (R293) -/
  | groupEnable (p : Pkt)
  /-- GROUP_STOP (R294) -/
  | groupStop (p : Pkt)
  /-- GROUP_STATUS (R295) -/
  | groupStatus (p : Pkt)
  /-- PHASE_RETIRE (R296) -/
  | phaseRetire (p : Pkt)
  /-- PHASE_RESTORE (R297) -/
  | phaseRestore (p : Pkt)
  /-- GROUP_FAULT_READ (R298) -/
  | groupFaultRead (p : Pkt)
  /-- FAULT_READ (R299) -/
  | faultRead (p : Pkt)
  /-- FAULT_CLEAR (R300) -/
  | faultClear (p : Pkt)
  /-- RESOURCE_LIST (R301) -/
  | resourceList (p : Pkt)
  /-- PRECHECK_DISCHARGE_TIMEOUT (R264) -/
  | precheckDischargeTimeout (g : Fin 8)
  /-- PRECHECK_SETTLE_END (R264) -/
  | precheckSettleEnd (g : Fin 8)
  /-- PRECHECK_VIN_TIMEOUT (R264) -/
  | precheckVinTimeout (g : Fin 8)
  /-- PRECHECK_MID_SAMPLE_END (R264) -/
  | precheckMidSampleEnd (g : Fin 8) (l : List MidSample)
  /-- PRECHECK_RESAMPLE (R264) -/
  | precheckResample (g : Fin 8) (l : List MidSample)
  /-- STOP_OVERRUN (R271) -/
  | stopOverrun (g : Fin 8)
  /-- CONTACTOR_WAIT (R270) -/
  | contactorWait (g : Fin 8)
  /-- DISCHARGE_COMPLETE (R272) -/
  | dischargeComplete (g : Fin 8)
  /-- DISCHARGE_TIMEOUT (R273) -/
  | dischargeTimeout (g : Fin 8)
  /-- DISCHARGE_CHANNEL_LIMIT (R273) -/
  | dischargeChannelLimit (g : Fin 8)
  /-- TRIP_BURST_CHARGE (R278) -/
  | tripBurstCharge (n : Fin 48)
  /-- PILOT_PERIOD_CLASSIFY (R309) -/
  | pilotPeriodClassify (p : Fin 8) (l : List (Nat × Int))
  /-- VL_FRAME_RECEIVE (R314) -/
  | vlFrameReceive (p : Fin 8) (f : VlFrame)
  /-- SDP_REQUEST (R317) -/
  | sdpRequest (p : Fin 8)
  /-- VL_LINK_DOWN (R316) -/
  | vlLinkDown (l : LinkLoss)
  /-- VEHICLE_SESSION_SETUP (R319) -/
  | vehicleSessionSetup (p : Fin 8) (u : Setup)
  /-- VEHICLE_AUTHORIZATION_REQ (R322) -/
  | vehicleAuthorizationReq (p : Fin 8) (u : Ident)
  /-- VEHICLE_CABLE_CHECK_REQ (R327) -/
  | vehicleCableCheckReq (p : Fin 8)
  /-- CABLE_CHECK_END (R327) -/
  | cableCheckEnd (p : Fin 8)
  /-- VEHICLE_PRECHARGE_REQ (R329) -/
  | vehiclePrechargeReq (p : Fin 8) (v : Int)
  /-- VEHICLE_POWER_DELIVERY_START (R325) -/
  | vehiclePowerDeliveryStart (p : Fin 8) (iReq : Int) (iDreq : Int) (vTarget : Int) (vMin : Int)
  /-- VEHICLE_CURRENT_DEMAND (R334) -/
  | vehicleCurrentDemand (p : Fin 8) (iReq : Int) (iDreq : Int) (vTarget : Int) (vMin : Int)
  /-- VEHICLE_STOP (R339) -/
  | vehicleStop (p : Fin 8)
  /-- AUTH_TIMEOUT (R322) -/
  | authTimeout (p : Fin 8)
  /-- DEMAND_GAP (R339) -/
  | demandGap (p : Fin 8)
  /-- SEQ_TIMEOUT (R339) -/
  | seqTimeout (p : Fin 8)
  /-- CONTACTOR_FAIL (R331) -/
  | contactorFail (p : Fin 8)
  /-- CONTACTOR_WELD (R333) -/
  | contactorWeld (p : Fin 8)
  /-- PORT_CONFIG (R348) -/
  | portConfig (p : Pkt)
  /-- PORT_AUTHORIZE (R349) -/
  | portAuthorize (p : Pkt)
  /-- PORT_LIMIT (R350) -/
  | portLimit (p : Pkt)
  /-- PORT_STOP (R351) -/
  | portStop (p : Pkt)
  /-- PORT_STATUS (R352) -/
  | portStatus (p : Pkt)
  /-- PORT_SESSION_READ (R353) -/
  | portSessionRead (p : Pkt)
  /-- PORT_CLEAR (R354) -/
  | portClear (p : Pkt)
  /-- FLOW_PULSE (R371) -/
  | flowPulse (p : Fin 8)
  /-- COOL_CAP_STALE (R372) -/
  | coolCapStale (p : Fin 8)
  /-- PUMP_START_WINDOW_END (R374) -/
  | pumpStartWindowEnd (p : Fin 8)
  /-- COOL_RUN_ON_END (R357) -/
  | coolRunOnEnd (p : Fin 8)
  /-- COOL_CONFIG (R380) -/
  | coolConfig (p : Pkt)
  /-- COOL_STATUS (R381) -/
  | coolStatus (p : Pkt)
  /-- METER_SAMPLE (R393) -/
  | meterSample (raw : List PathBits)
  /-- METROLOGY_CORE_FAULT (R39) -/
  | metrologyCoreFault
  /-- METROLOGY_RESTART (R385) -/
  | metrologyRestart
  /-- MIRROR_REFRESH (R62) -/
  | mirrorRefresh
  /-- SEAL_N_CHANGE (R387) -/
  | sealNChange (level : SealLevel)
  /-- METER_CONFIG (R432) -/
  | meterConfig (p : Pkt)
  /-- METER_CAL_TABLE (R433) -/
  | meterCalTable (p : Pkt)
  /-- METER_READ (R434) -/
  | meterRead (p : Pkt)
  /-- METER_SEAL (R435) -/
  | meterSeal (p : Pkt)
  /-- METER_MIRLO_READ (R429) -/
  | meterMirloRead
  /-- JOURNAL_COMMIT_REGULAR (R457) -/
  | journalCommitRegular
  /-- LAST_GASP_REPEAT (R458) -/
  | lastGaspRepeat
  /-- BILLING_RESTART (R460) -/
  | billingRestart
  /-- DEFAULT_TARIFF_HOLD_EXPIRY (R446) -/
  | defaultTariffHoldExpiry
  /-- KEYPAD_TOKEN_FRAME (R474) -/
  | keypadTokenFrame (n : Fin 8) (ident : Nat) (b : Bytes)
  /-- TOKEN_LOCKOUT_END (R472) -/
  | tokenLockoutEnd
  /-- BILL_TARIFF_LOAD (R483) -/
  | billTariffLoad (p : Pkt)
  /-- BILL_CALENDAR_LOAD (R484) -/
  | billCalendarLoad (p : Pkt)
  /-- BILL_READ (R485) -/
  | billRead (p : Pkt)
  /-- BILL_TOKEN_ENTER (R486) -/
  | billTokenEnter (p : Pkt)
  /-- BILL_CLOSE_PERIOD (R487) -/
  | billClosePeriod (p : Pkt)
  /-- BILL_ACCOUNT (R488) -/
  | billAccount (p : Pkt)
  /-- BILL_COMMITLO_READ (R480) -/
  | billCommitloRead
  /-- IMAGE_CAPTURE (R496) -/
  | imageCapture
  /-- IMAGE_DEADLINE (R498) -/
  | imageDeadline
  /-- TWIN_SELF_TEST_DONE (R517) -/
  | twinSelfTestDone (ok : Bool)
  /-- PARTNER_REPORT_RECEIVE (R495) -/
  | partnerReportReceive (r : PartnerReport)
  /-- LEASE_RENEWAL (R501) -/
  | leaseRenewal
  /-- LEASE_RENEWAL_RECEIVE (R503) -/
  | leaseRenewalReceive (b : Bytes)
  /-- LEASE_EXPIRY (R502) -/
  | leaseExpiry
  /-- LEASE_TAKEN (R504) -/
  | leaseTaken
  /-- LEASE_IN_CHANGE (R507) -/
  | leaseInChange (level : Bool)
  /-- HINGE_UP (R494) -/
  | hingeUp (mask : Nat)
  /-- HINGE_DOWN (R494) -/
  | hingeDown (mask : Nat)
  /-- HINGE_LANE_RETRAIN (R494) -/
  | hingeLaneRetrain (n : Fin 4) (ok : Bool)
  /-- HINGE_TIME_MESSAGE (R495) -/
  | hingeTimeMessage (off : Int)
  /-- SHARED_SEQ_STORE (R500) -/
  | sharedSeqStore
  /-- SELF_DIAG_FAIL (R511) -/
  | selfDiagFail
  /-- HANDOVER_OFFER (R513) -/
  | handoverOffer (q0 : Nat) (drill : Fin 3)
  /-- HANDOVER_SWITCH (R513) -/
  | handoverSwitch
  /-- HANDOVER_CHECK (R514) -/
  | handoverCheck
  /-- LEASE_DRILL_START (R515) -/
  | leaseDrillStart
  /-- LEASE_DRILL_HOLD_END (R515) -/
  | leaseDrillHoldEnd
  /-- SITE_MASTER_RENEWAL (R520) -/
  | siteMasterRenewal
  /-- SITE_MASTER_RENEWAL_RECEIVE (R520) -/
  | siteMasterRenewalReceive (b : Bytes)
  /-- SITE_MASTER_TAKEN (R521) -/
  | siteMasterTaken
  /-- TWIN_CONFIG (R526) -/
  | twinConfig (p : Pkt)
  /-- TWIN_STATUS (R527) -/
  | twinStatus (p : Pkt)
  /-- TWIN_DRILL (R528) -/
  | twinDrill (p : Pkt)
  /-- TWIN_YIELD (R528) -/
  | twinYield (p : Pkt)
  /-- TWIN_ENDLO_READ (R525) -/
  | twinEndloRead
  /-- CAN_FRAME_RECEIVE (R538) -/
  | canFrameReceive (n : Fin 8) (f : CanRx)
  /-- CAN_ERROR (R548) -/
  | canError (n : Fin 8) (e : CanErr)
  /-- CAN_RECOVERED (R549) -/
  | canRecovered (n : Fin 8)
  /-- CAN_MODE_APPLY (R535) -/
  | canModeApply (n : Fin 8)
  /-- CAN_TX_COMPLETE (R547) -/
  | canTxComplete (n : Fin 8) (sof : Nat) (tdcv : Option Nat)
  /-- CAN_TX_EXPIRED (R544) -/
  | canTxExpired (n : Fin 8)
  /-- SETPOINT_STREAM_FRAME (R545) -/
  | setpointStreamFrame (n : Fin 8) (k : Fin 8)
  /-- CAN_CONFIG (R553) -/
  | canConfig (p : Pkt)
  /-- CAN_SEND (R554) -/
  | canSend (p : Pkt)
  /-- CAN_MODE (R555) -/
  | canMode (p : Pkt)
  /-- CAN_STATUS (R556) -/
  | canStatus (p : Pkt)
  /-- BEACON_TRANSMIT (R577) -/
  | beaconTransmit
  /-- BEACON_RECEIVE (R579) -/
  | beaconReceive (f : FlRx)
  /-- FLINK_BEACON_LOST (R579) -/
  | flinkBeaconLost
  /-- FLINK_FRAME_RECEIVE (R581) -/
  | flinkFrameReceive (f : FlRx)
  /-- LINK_REPORT_RECEIVE (R571) -/
  | linkReportReceive (f : FlRx)
  /-- FLINK_SLOT_TRANSMIT (R572) -/
  | flinkSlotTransmit
  /-- FLINK_ACK_TIMEOUT (R572) -/
  | flinkAckTimeout
  /-- FLINK_SEND_TIMEOUT (R567) -/
  | flinkSendTimeout
  /-- DEGRADED_WINDOW_END (R574) -/
  | degradedWindowEnd
  /-- FLINK_CONFIG (R587) -/
  | flinkConfig (p : Pkt)
  /-- FLINK_SEND (R588) -/
  | flinkSend (p : Pkt)
  /-- FLINK_STATUS (R589) -/
  | flinkStatus (p : Pkt)
  /-- FRAGMENT_REASSEMBLY_TIMEOUT (R591) -/
  | fragmentReassemblyTimeout (net : Fin 2) (id : Nat)
  /-- SITE_DATAGRAM_RECEIVE (R635) -/
  | siteDatagramReceive (d : Dgram)
  /-- ETH_LINK_CHANGE (R664) -/
  | ethLinkChange (net : Fin 2) (up : Bool)
  /-- CCP_INTAKE_RESUME (R592) -/
  | ccpIntakeResume
  /-- HOSTIO_STATUS_READ (R610) -/
  | hostioStatusRead
  /-- HOSTIO_INTERFACE_RESET (R607) -/
  | hostioInterfaceReset
  /-- HOSTIO_UNKNOWN_INSTRUCTION (R607) -/
  | hostioUnknownInstruction (code : BitVec 8)
  /-- WINDOW_WRITE (R609) -/
  | windowWrite (a : Word) (ws : List Word) (part : Bool)
  /-- SYS_READYLO_READ (R616) -/
  | sysReadyloRead
  /-- QUEUE_QDATA_WRITE (R641) -/
  | queueQdataWrite (q : Fin 128) (w : Word)
  /-- QUEUE_QOPEN_WRITE (R641) -/
  | queueQopenWrite (q : Fin 128) (v : Word)
  /-- QUEUE_QCLOSE_WRITE (R642) -/
  | queueQcloseWrite (q : Fin 128) (v : Word)
  /-- QUEUE_QRLO_READ (R641) -/
  | queueQrloRead (q : Fin 128)
  /-- QUEUE_QCTL_DROP (R643) -/
  | queueQctlDrop (q : Fin 128) (v : Word)
  /-- HOST_PACKET_TIMEOUT (R638) -/
  | hostPacketTimeout (q : Fin 128)
  /-- SPILL_MOVE (R648) -/
  | spillMove (q : Fin 128)
  /-- QUEUE_LAYOUT_SWITCH (R634) -/
  | queueLayoutSwitch (q : Fin 128)
  /-- EVENT_RELEASE (R660) -/
  | eventRelease
  /-- EVENT_FLOOD (R659) -/
  | eventFlood (src : Fin 256)
  /-- EVT_ROUTE_WRITE (R663) -/
  | evtRouteWrite (src : Fin 256) (v : Word)
  /-- EVT_PEND_WRITE (R663) -/
  | evtPendWrite (p : Fin 4) (w : Fin 8) (v : Word)
  /-- QUEUE_CONFIG (R667) -/
  | queueConfig (p : Pkt)
  /-- QUEUE_DROP_PACKET (R668) -/
  | queueDropPacket (p : Pkt)
  /-- QUEUE_STATUS (R669) -/
  | queueStatus (p : Pkt)
  /-- EVENT_ROUTE (R670) -/
  | eventRoute (p : Pkt)
  /-- SW_LIMITING (R682) -/
  | swLimiting (n : Fin 24)
  /-- SW_OVERTEMP (R683) -/
  | swOvertemp (n : Fin 24)
  /-- SW_RETRY (R683) -/
  | swRetry (n : Fin 24) (temp : Int)
  /-- CLAMP_COMPLETE (R686) -/
  | clampComplete (n : Fin 24) (e : Nat)
  /-- CLAMP_POWER_WINDOW (R687) -/
  | clampPowerWindow
  /-- SW_OPEN_LOAD (R688) -/
  | swOpenLoad (n : Fin 24) (mv : Int)
  /-- SW_OPEN_LOAD_CLEARED (R688) -/
  | swOpenLoadCleared (n : Fin 24)
  /-- INRUSH_WINDOW_END (R679) -/
  | inrushWindowEnd (n : Fin 24)
  /-- SLEW_TURN_ON_COMPLETE (R680) -/
  | slewTurnOnComplete (n : Fin 24) (reached : Bool)
  /-- BUDGET_WINDOW (R698) -/
  | budgetWindow (m : Vector SwMeas 24)
  /-- BUDGET_RESTORE (R699) -/
  | budgetRestore
  /-- SW_DIP_RESTORE (R691) -/
  | swDipRestore
  /-- SW_CONFIG (R704) -/
  | swConfig (p : Pkt)
  /-- SW_SET (R705) -/
  | swSet (p : Pkt)
  /-- SW_STATUS (R706) -/
  | swStatus (p : Pkt)
  /-- HK_ROUND_COMPLETE (R707) -/
  | hkRoundComplete (raw : Vector Int 64) (int : Vector Int 9)
  /-- THERMAL_CONVERSION (R714) -/
  | thermalConversion (temps : Vector Int 8)
  /-- THERM_HW_LIMIT (R715) -/
  | thermHwLimit (sensor : Fin 8) (elapsed : Nat)
  /-- THROTTLE_WINDOW_START (R716) -/
  | throttleWindowStart
  /-- HK_CONFIG (R726) -/
  | hkConfig (p : Pkt)
  /-- HK_READ (R727) -/
  | hkRead (p : Pkt)
  /-- THERM_CONFIG (R728) -/
  | thermConfig (p : Pkt)
  /-- THERM_RELEASE (R729) -/
  | thermRelease (p : Pkt)
  /-- THERM_LATCHLO_READ (R725) -/
  | thermLatchloRead
  /-- LINK_FRAME_RECEIVE (R31) -/
  | linkFrameReceive (l : Fin 3) (x : BusFrame)
  /-- CLOCK_LOSS (R45) -/
  | clockLoss (c : Fin 8)
  /-- CLOCK_RESTORED (R46) -/
  | clockRestored (c : Fin 8)
  /-- CORE_WATCHDOG (R38) -/
  | coreWatchdog (k : Fin 4)
  /-- ECC_UNCORRECTABLE (R34) -/
  | eccUncorrectable (o : EccOwner)
  /-- DEVICE_FAULT_RESET (R746) -/
  | deviceFaultReset
  /-- VS_QUALIFIED (R732) -/
  | vsQualified (threshold : Nat)
  /-- SEQUENCER_STEP (R732) -/
  | sequencerStep
  /-- PG_TIMEOUT (R733) -/
  | pgTimeout
  /-- SEQUENCER_RETRY (R733) -/
  | sequencerRetry
  /-- PG_FALL (R734) -/
  | pgFall
  /-- VS_BELOW_3V (R737) -/
  | vsBelow3v
  /-- VS_RESTORE (R691) -/
  | vsRestore
  /-- BROWNOUT_ASSERT (R739) -/
  | brownoutAssert
  /-- BROWNOUT_CLEAR (R739) -/
  | brownoutClear
  /-- RESET_N_ASSERT (R743) -/
  | resetNAssert
  /-- RESET_RELEASE (R750) -/
  | resetRelease (site : Fin 16) (twinB : Bool) (tcxo : Bool) (elapsed : Nat)
  /-- BOOT_TIMEOUT (R749) -/
  | bootTimeout
  /-- DEVICE_READY (R752) -/
  | deviceReady
  /-- HEARTBEAT_WRITE (R741) -/
  | heartbeatWrite (elapsed : Nat)
  /-- WAKE (R756) -/
  | wake (src : Fin 5) (elapsed : Nat)
  /-- CCP_PACKET_REJECTED (R600) -/
  | ccpPacketRejected (p : Pkt)
  /-- WINDOW_READ (R613) -/
  | windowRead (a : Word) (n : Nat) (part : Bool)
  /-- SLOT_PERIOD_START (R202) -/
  | slotPeriodStart (n : Fin 48)
  /-- PWM_COMPARE_EDGE (R179) -/
  | pwmCompareEdge (n : Fin 48) (high : Bool) (rise : Bool)
  /-- HANDOVER_ANSWER_RECEIVE (R513) -/
  | handoverAnswerReceive (yes : Bool)
  /-- IMAGE_FRAME_RECEIVE (R496) -/
  | imageFrameReceive (m : ImageMsg)
  /-- SW_LIMITING_END (R682) -/
  | swLimitingEnd (n : Fin 24) (cur : Nat)
  /-- VBAT_DOMAIN_LOSS (R740) -/
  | vbatDomainLoss
  /-- VBAT_DOMAIN_RETURN (R387) -/
  | vbatDomainReturn
  /-- HOSTIO_SERVING_START (R608) -/
  | hostioServingStart
  /-- KEEP_DEFAULT_SET (R693) -/
  | keepDefaultSet
  /-- SELF_TEST_FAILURE (R283) -/
  | selfTestFailure (u : TestUnit)
  /-- ECC_CORRECTION (R34) -/
  | eccCorrection (m : Fin 4)
  deriving DecidableEq, Repr

end Sys2Proof
end

