-- ==== Sys2Proof/Decode.lean ====
section
/-! DEFINITION. The commands of this block reach it as packets, window accesses, frames and events; spec/opcode_table.json gives
none of its rows bits, so no word spells a command. -/

namespace Sys2Proof

/-- The command that a word of the table's bits spells: none, since no row has bits. -/
def decodeTableWord (_nbits _w : Nat) : Option Instr := none

end Sys2Proof
end

