-- ==== Sys2Proof/Config.lean ====
section
/-! DEFINITION. What the spec leaves open: each constant here has no body, so no proof can see a value of it. The
log entries name each. -/

namespace Sys2Proof.Config

/-- Any value the spec states no result for, applied to the counter of State that numbers the uses (entry 3). -/
opaque freeValue : Nat → Nat

/-- Is a result that lies between two representable values taken as the upper one? From the exact numerator and the
divisor (no chapter gives the rounding of the loop engine's products or of metering's and the cable model's sums;
entry 9). -/
opaque roundUp : Int → Nat → Bool

/-- SYS.CFGCRC: the CRC-32C of the stored configuration, whose byte order R616 does not give, from the stored
payloads in the order of the table of R791 (entry 5). -/
opaque cfgCrc : List (Option Bytes) → Nat

/-- Does Evietia's ECDSA signature of an image pass (R627)? The key is in the boot ROM (entry 7). -/
opaque imageSigOk : Bytes → Bool

/-- The servo's integral part at a new offset: from the old frequency part (2^-32 ns per tick) and the offset in ns
(R88 gives no gain; entry 6). -/
opaque servoIntegral : Int → Int → Int

/-- NTC conversion to 0.1 degC where the beta equation gives no temperature (a figure of 0, an input that no resistance gives): R25,
B, pull-up, input in mV (R726; entry 30). -/
opaque ntc : Int → Int → Int → Int → Int

/-- PT1000 conversion to 0.1 degC off the IEC 60751 curve, which runs from -200 to +850 degC: R0 in mOhm, input in mV (R726; entry
30). -/
opaque pt1000 : Int → Int → Int

/-- Delay-line bias trim of the factory table: sensor 1 in 0.1 degC (R713; entry 30). -/
opaque biasTable : Int → Int

/-- AFE reference curvature of the factory table, ppm: sensor 3 in 0.1 degC (R713; entry 30). -/
opaque refTable : Int → Int

/-- Tap k of the 63-tap linear-phase FIR of a metering filter (R392 gives no coefficients; entry 60). -/
opaque firTap : Nat → Rat

/-- The fractional-delay interpolator of a lane (R401 gives no coefficients): delay in 0.1 ns, calibrated values of the lane's stream,
newest first (entry 60). -/
opaque fracDelay : Rat → List Rat → Rat

/-- The 127-tap Hilbert FIR (R411 gives no coefficients), over the phase voltages it spans, newest first (entry 60). -/
opaque hilbert : List Rat → Rat

/-- Hash of the compare set of the image (R517: CRC-32C; the byte layout is not given; entry 70). -/
opaque compareHash : List Int → Nat

/-- Tags of feeder-link reception and tone-map estimation that the chapter leaves to the receiver (entry 80). -/
opaque meanSnr : List Int → Int

/-- Median of the in-band energies of 32 symbols, an even number (R573; entry 272). -/
opaque energyMedian : List Int → Int

/-- Ramp time in us of a move whose ramp rate is 0, from its size in W (R137 divides by the rate; entry 215). -/
opaque rampNoRate : Nat → Nat

/-- The device's own IEEE 1588 data set on a SITE port, in the order of comparison, from its time quality code (R85 names the
best master clock algorithm and no chapter gives the values; entry 230). -/
opaque ptpOwn : Nat → Nat → List Nat

/-- Where the rising edges of an unpaired device's MCLK k lie in its period of 64 N fine steps of elapsed time; the spec aligns
them to ST only while pairing is enabled (R48, R492; DESIGN CHOICE, entry 252). -/
opaque mclkPhase : Nat → Nat → Nat

/-- Do the signatures of a contract certificate chain pass (R321; no chapter gives the form of a chain or its anchors; entry 260)? -/
opaque contractSigned : Bytes → Bool

/-- First and last ST, ns, at which a contract certificate chain is valid (R321; entry 260). -/
opaque contractDates : Bytes → Nat × Nat

/-- Factory calibration of the direct channels of an FLV-7320-CM (R391 gives no figures; entry 262): number k of lane n. -/
opaque factoryTrim : Nat → Nat → Int

end Sys2Proof.Config
end

