-- ==== Sys2Proof/Machine/Bytes.lean ====
section
/-! DEFINITION. Byte order, field extraction and checks: R9 to R12 (least significant byte first, two's
complement), CRC-32C (R594), CRC-16 and CRC-24 (R564), AES-128 and AES-CMAC (R594). -/

namespace Sys2Proof.Machine

/-- Byte at offset `o`; 0 past the end. -/
def u8 (bs : Bytes) (o : Nat) : Nat := (bs.getD o 0).toNat

/-- `n` bytes from offset `o` read least significant byte first (R9). -/
def uN : Nat → Bytes → Nat → Nat
  | 0, _, _ => 0
  | n + 1, bs, o => u8 bs o + 256 * uN n bs (o + 1)

/-- 16-bit field (R9). -/
def u16 (bs : Bytes) (o : Nat) : Nat := uN 2 bs o
/-- 32-bit field (R9). -/
def u32 (bs : Bytes) (o : Nat) : Nat := uN 4 bs o
/-- 64-bit field (R9, R18). -/
def u64 (bs : Bytes) (o : Nat) : Nat := uN 8 bs o

/-- The two's complement value of the low `bits` bits (R11). -/
def toSigned (bits : Nat) (v : Nat) : Int :=
  if v % 2 ^ bits < 2 ^ (bits - 1) then (v % 2 ^ bits : Nat) else (v % 2 ^ bits : Nat) - (2 ^ bits : Nat)

/-- Signed 8-bit field. -/
def i8 (bs : Bytes) (o : Nat) : Int := toSigned 8 (u8 bs o)
/-- Signed 16-bit field. -/
def i16 (bs : Bytes) (o : Nat) : Int := toSigned 16 (u16 bs o)
/-- Signed 32-bit field. -/
def i32 (bs : Bytes) (o : Nat) : Int := toSigned 32 (u32 bs o)
/-- Signed 64-bit field. -/
def i64 (bs : Bytes) (o : Nat) : Int := toSigned 64 (u64 bs o)

/-- `n` bytes of `v`, least significant first (R9); higher bits are dropped. -/
def le : Nat → Nat → Bytes
  | 0, _ => []
  | n + 1, v => BitVec.ofNat 8 v :: le n (v / 256)

/-- `n` bytes of a signed value (R11). -/
def lei (n : Nat) (v : Int) : Bytes := le n (v % (2 ^ (8 * n) : Nat)).toNat

/-- Bit `k` of a number (R10). -/
def bit (v k : Nat) : Bool := v.testBit k

/-- 1 for true. -/
def b01 (b : Bool) : Nat := if b then 1 else 0

/-- Bits [hi:lo] of a number (R10). -/
def bits (v hi lo : Nat) : Nat := v / 2 ^ lo % 2 ^ (hi + 1 - lo)

/-- Are the `n` bytes from `o` all zero (R13)? -/
def zeros (bs : Bytes) (o n : Nat) : Bool := (bs.drop o |>.take n).all (· == 0)

/-- Do the `n` bytes from `o` all hold `v` (R13)? -/
def allAre (bs : Bytes) (o n v : Nat) : Bool := (bs.drop o |>.take n).all (·.toNat == v)

/-- `n` bytes from `o`. -/
def sub (bs : Bytes) (o n : Nat) : Bytes := (bs.drop o).take n

/-- The numbers 0 to n - 1 whose bit is set in `m`. -/
def bitsOf (n m : Nat) : List Nat := (List.range n).filter (m.testBit ·)

/-- The mask of a list of bit numbers. -/
def maskOf (l : List Nat) : Nat := l.foldl (fun m k => m ||| 2 ^ k) 0

/-- Number of set bits among the low `n`. -/
def popcount (n m : Nat) : Nat := (bitsOf n m).length

/-- Limit to [lo, hi]. -/
def clampI (lo hi x : Int) : Int := max lo (min hi x)

/-- Saturate an unsigned value at `m`. -/
def satN (m x : Nat) : Nat := min m x

/-- Floor of a rational. -/
def ratFloor (q : Rat) : Int := q.num.fdiv q.den

/-- Nearest integer, halves away from zero. -/
def ratRound (q : Rat) : Int :=
  if q < 0 then -(ratFloor (-q + 1 / 2)) else ratFloor (q + 1 / 2)

/-- Truncation toward zero. -/
def ratTrunc (q : Rat) : Int := q.num.tdiv q.den

/-- Insert before the first element that is not smaller. -/
def insertBy {α : Type} (le : α → α → Bool) (a : α) : List α → List α
  | [] => [a]
  | b :: l => if le a b then a :: b :: l else b :: insertBy le a l

/-- Sort; elements that compare equal keep their order. -/
def sortBy {α : Type} (le : α → α → Bool) : List α → List α
  | [] => []
  | a :: l => insertBy le a (sortBy le l)

/-! ### Cyclic checks -/

/-- One bit of a reflected CRC with polynomial `poly`. -/
def crcBitR (poly c : Nat) : Nat := if c % 2 = 1 then (c / 2) ^^^ poly else c / 2

/-- One byte of a reflected CRC. -/
def crcByteR (poly c : Nat) (b : Byte) : Nat :=
  let step := crcBitR poly
  step (step (step (step (step (step (step (step (c ^^^ b.toNat))))))))

/-- CRC-32C: polynomial 0x1EDC6F41 reflected, initial value and final XOR all ones (R594). -/
def crc32c (bs : Bytes) : Nat :=
  (bs.foldl (crcByteR 0x82F63B78) 0xFFFFFFFF) ^^^ 0xFFFFFFFF

/-- One bit of a most-significant-first CRC of width `w`. -/
def crcBitM (w poly c : Nat) : Nat :=
  if c.testBit (w - 1) then ((c * 2) % 2 ^ w) ^^^ poly else (c * 2) % 2 ^ w

/-- One byte of a most-significant-first CRC. -/
def crcByteM (w poly c : Nat) (b : Byte) : Nat :=
  let step := crcBitM w poly
  step (step (step (step (step (step (step (step (c ^^^ (b.toNat * 2 ^ (w - 8))))))))))

/-! ### AES-128 and AES-CMAC (R594) -/

/-- CRC-16 of feeder-link headers and heartbeat slots: polynomial 0x1021, initial 0xFFFF, not reflected (R564). -/
def crc16 (bs : Bytes) : Nat := bs.foldl (crcByteM 16 0x1021) 0xFFFF

/-- The AES S-box as one number, entry i in bits [8i+7:8i]. PRESUMED: the published AES standard. -/
def sboxNum : Nat :=
  0x16bb54b00f2d99416842e6bf0d89a18cdf2855cee9871e9b948ed9691198f8e19e1dc186b95735610ef6034866b53e708a8bbd4b1f74dde8c6b4a61c2e2578ba08ae7a65eaf4566ca94ed58d6d37c8e779e4959162acd3c25c2406490a3a32e0db0b5ede14b8ee4688902a22dc4f816073195d643d7ea7c41744975fec130ccdd2f3ff1021dab6bcf5389d928f40a351a89f3c507f02f94585334d43fbaaefd0cf584c4a39becb6a5bb1fc20ed00d153842fe329b3d63b52a05a6e1b1a2c830975b227ebe28012079a059618c323c7041531d871f1e5a534ccf73f362693fdb7c072a49cafa2d4adf04759fa7dc982ca76abd7fe2b670130c56f6bf27b777c63

/-- S-box lookup. -/
def sbox (b : Nat) : Nat := (sboxNum >>> (8 * b)) % 256

/-- Doubling in GF(2^8). -/
def xtime (b : Nat) : Nat := if b < 128 then b * 2 else ((b * 2) ^^^ 0x11B) % 256

/-- The next round key from the last, 4 columns of 4 bytes. -/
def nextKey (rcon : Nat) (k : List Nat) : List Nat :=
  let g := fun i => k.getD i 0
  let t := [sbox (g 13) ^^^ rcon, sbox (g 14), sbox (g 15), sbox (g 12)]
  let w0 := List.zipWith (· ^^^ ·) (k.take 4) t
  let w1 := List.zipWith (· ^^^ ·) ((k.drop 4).take 4) w0
  let w2 := List.zipWith (· ^^^ ·) ((k.drop 8).take 4) w1
  let w3 := List.zipWith (· ^^^ ·) ((k.drop 12).take 4) w2
  w0 ++ w1 ++ w2 ++ w3

/-- ShiftRows on a column-major block. -/
def shiftRows (b : List Nat) : List Nat :=
  [0, 5, 10, 15, 4, 9, 14, 3, 8, 13, 2, 7, 12, 1, 6, 11].map (b.getD · 0)

/-- MixColumns on one column. -/
def mixCol (a b c d : Nat) : List Nat :=
  let t := a ^^^ b ^^^ c ^^^ d
  [a ^^^ t ^^^ xtime (a ^^^ b), b ^^^ t ^^^ xtime (b ^^^ c),
   c ^^^ t ^^^ xtime (c ^^^ d), d ^^^ t ^^^ xtime (d ^^^ a)]

/-- MixColumns on a block. -/
def mixCols (b : List Nat) : List Nat :=
  let g := fun i => b.getD i 0
  mixCol (g 0) (g 1) (g 2) (g 3) ++ mixCol (g 4) (g 5) (g 6) (g 7) ++
  mixCol (g 8) (g 9) (g 10) (g 11) ++ mixCol (g 12) (g 13) (g 14) (g 15)

/-- The rounds of AES-128 after the first key addition; `rcs` are the round constants left. -/
def aesRounds : List Nat → List Nat → List Nat → List Nat
  | [], _, b => b
  | [rc], k, b =>
    List.zipWith (· ^^^ ·) (shiftRows (b.map sbox)) (nextKey rc k)
  | rc :: rcs, k, b =>
    let k' := nextKey rc k
    aesRounds rcs k' (List.zipWith (· ^^^ ·) (mixCols (shiftRows (b.map sbox))) k')

/-- AES-128 encryption of one 16-byte block. -/
def aes128 (key block : List Nat) : List Nat :=
  aesRounds [1, 2, 4, 8, 16, 32, 64, 128, 27, 54] key (List.zipWith (· ^^^ ·) block key)

/-- Doubling of a 16-byte block in GF(2^128), as CMAC subkeys need. -/
def cmacDouble (b : List Nat) : List Nat :=
  let n := b.foldl (fun a x => a * 256 + x) 0
  let d := (n * 2) % 2 ^ 128 ^^^ (if n.testBit 127 then 0x87 else 0)
  (List.range 16).map (fun i => d / 2 ^ (8 * (15 - i)) % 256)

/-- The CBC chain of CMAC over whole blocks, `n` blocks left; the last block is already masked. -/
def cmacChain (key : List Nat) : Nat → List Nat → List Nat → List Nat
  | 0, x, _ => x
  | n + 1, x, m => cmacChain key n (aes128 key (List.zipWith (· ^^^ ·) x (m.take 16))) (m.drop 16)

/-- AES-CMAC with AES-128 over a message, the full 16-byte tag (R594). PRESUMED: the published standard. -/
def cmac (key : Bytes) (msg : Bytes) : Bytes :=
  let k := key.map BitVec.toNat
  let m := msg.map BitVec.toNat
  let k1 := cmacDouble (aes128 k (List.replicate 16 0))
  let k2 := cmacDouble k1
  let n := max 1 ((m.length + 15) / 16)
  let last := m.drop (16 * (n - 1))
  let lastM := if last.length = 16 then List.zipWith (· ^^^ ·) last k1
    else List.zipWith (· ^^^ ·) (last ++ 0x80 :: List.replicate (15 - last.length) 0) k2
  (cmacChain k n (List.replicate 16 0) (m.take (16 * (n - 1)) ++ lastM)).map (BitVec.ofNat 8)

end Sys2Proof.Machine
end

