-- ==== Sys2Proof/Machine/RegsBill.lean ====
section
/-! DEFINITION. State of billing, tariffs and prepayment (R436 to R488). Energies in 2^-32 mWh unless stated. -/

namespace Sys2Proof.Machine

/-- A demand maximum or nothing yet (R448, R485). -/
structure Maxi where
  /-- interval energy, mWh -/
  e : Nat := 0
  start : Nat := 0
  tariff : Nat := 0
  flags : Nat := 0
  /-- L in min -/
  len : Nat := 0
  deriving DecidableEq, Repr, Inhabited

/-- A credit account (R463, R488). -/
structure Account where
  loaded : Bool := false
  cls : Nat := 0
  ceil : Nat := 0
  /-- low-credit threshold, cu -/
  low : Nat := 0
  /-- balance, micro-cu (64 bits signed) -/
  bal : Int := 0
  lastId : Nat := 0
  tokens : Nat := 0
  /-- import energy charged, mWh -/
  charged : Nat := 0
  lastSt : Nat := 0
  /-- how often the account has been unloaded: a commit's balance belongs to one loading (model's own; kept, 0) -/
  life : Nat := 0
  deriving DecidableEq, Repr, Inhabited

/-- An open demand interval (R448). -/
structure Demand where
  start : Nat := 0
  /-- end if it closes in time -/
  stop : Nat := 0
  tariff : Nat := 0
  flags : Nat := 0
  deriving DecidableEq, Repr, Inhabited

/-- The billing state that a commit writes (R456). -/
structure BState where
  /-- port registers, port-major, then tariff, import before export (R436; kept, 0) -/
  port : Vector Acc 256 := Vector.replicate 256 0
  /-- feeder registers, same order (R436; kept, 0) -/
  feeder : Vector Acc 128 := Vector.replicate 128 0
  /-- unregistered registers, meter-major, import before export, mWh (R436; kept, 0) -/
  unreg : Vector Nat 24 := Vector.replicate 24 0
  /-- maxima of the open period (R448; kept, 0) -/
  maxi : Vector Maxi 24 := Vector.replicate 24 {}
  /-- open demand accumulators (R448; kept, 0) -/
  acc : Vector Acc 24 := Vector.replicate 24 0
  /-- open demand interval (R448; kept; reset none) -/
  demand : Option Demand := none
  /-- open period number (32 bits; R451, R480; kept, 1) -/
  period : Nat := 1
  /-- ST of its opening and flags gathered (R451; kept, 0) -/
  opened : Nat := 0
  pflags : Nat := 0
  /-- closure mark (R452; kept, none) -/
  mark : Option Nat := none
  /-- closures requested: STs (R453; kept, none) -/
  closeAt : List Nat := []
  /-- tariff in force (4 bits; R480; kept, 0) -/
  tariff : Nat := 0
  /-- default-tariff condition and its cause (R446; kept, none) -/
  dflt : Option Nat := none
  /-- the last block was booked with quality not LOCKED (R480; kept, false) -/
  degraded : Bool := false
  /-- calendar in force, pending (R444; kept, none) -/
  cal : Option Bytes := none
  calNext : Option (Nat × Bytes) := none
  /-- price table in force, pending (R483; kept, none) -/
  prices : Option Bytes := none
  pricesNext : Option (Nat × Bytes) := none
  /-- accounts 0 to 255 (R463; kept, not loaded) -/
  accounts : Vector Account 256 := Vector.replicate 256 {}
  /-- token replay store: highest accepted id, marked ids (R470; kept, 0 and empty) -/
  tokH : Nat := 0
  tokMarks : List Nat := []
  /-- tokens accepted, rejected since manufacture (32 bits each; R480; kept, 0) -/
  tokOk : BitVec 32 := 0
  tokBad : BitVec 32 := 0
  /-- energy in the blocks that start in the last whole second, and in the running one, mWh exact (R456; kept, 0) -/
  lastSec : Vector Rat 24 := Vector.replicate 24 0
  thisSec : Vector Rat 24 := Vector.replicate 24 0
  secNo : Nat := 0
  /-- total registers of meters 0 to 11 (R456) -/
  totals : Vector (Vector Acc 16) 12 := Vector.replicate 12 (Vector.replicate 16 0)
  deriving DecidableEq, Repr, Inhabited

/-- A journal slot (R456, R457). -/
structure Commit where
  /-- journal sequence (64 bits) -/
  seq : Nat
  st : Nat
  /-- 0 regular, 1 token, 2 last gasp, 3 orderly -/
  kind : Nat
  data : BState
  deriving DecidableEq, Repr, Inhabited

/-- A token-entry path (R472). -/
structure Path where
  /-- elapsed times of BAD_MAC results -/
  fails : List Int := []
  /-- locked until this elapsed time -/
  lockedTo : Option Int := none
  deriving DecidableEq, Repr, Inhabited

/-- Billing. -/
structure Bill where
  /-- working state (R456) -/
  b : BState := {}
  /-- journal slots; none: empty, or its CRC fails (R456; kept, empty) -/
  slots : Vector (Option Commit) 2 := Vector.replicate 2 none
  /-- journal sequence (64 bits; R456, R480; kept, 0) -/
  jseq : Nat := 0
  /-- slot under write and the elapsed time of its commit (R456, R757; model's own; reset none) -/
  writing : Option (Fin 2 × Int) := none
  /-- ST of the last commit (64 bits; R480; kept, 0) -/
  commitSt : Nat := 0
  /-- BILL.COMMITHI (32 bits; R480; reset 0) -/
  commitHi : Nat := 0
  /-- billing state, commit ST, journal sequence, site key held, unregistered records counted, end of the last block, profile and
  unregistered records and snapshots as the mirror of R62 shows them (R383, R465, R480, R485; kept) -/
  mir : BState := {}
  mirCommit : Nat := 0
  mirJseq : Nat := 0
  mirKey : Bool := false
  mirUnregSeq : Nat := 0
  mirBooked : Nat := 0
  mirProfiles : List Bytes := []
  mirUnregs : List Bytes := []
  mirSnaps : List Bytes := []
  /-- restart handling is due: no block is booked before it (R460; reset true) -/
  restartDue : Bool := true
  /-- cause of the coming restart: 0 supply lost, 1 core restart, 2 other reset (R478; reset 0) -/
  restartCause : Nat := 0
  /-- ST of the last heartbeat before the restart, where the heartbeat store was valid (R460, R478; reset none) -/
  cut : Option Nat := none
  /-- last-gasp repetition: elapsed time of the last (R458; reset none) -/
  gaspAt : Option Int := none
  /-- time quality since some ST, newest first, with the ST of the entry to it (R446, R447; model's own; reset empty) -/
  qual : List (Nat × Quality × Nat) := []
  /-- a block has been booked since reset: TARIFF, DEFAULT and DEGRADED are shown (R480; reset false) -/
  shown : Bool := false
  /-- end ST of the last booked block (R485; kept, 0) -/
  bookedTo : Nat := 0
  /-- last whole second of a regular commit (R457; model's own; reset none) -/
  regSec : Option Nat := none
  /-- number of the last mirror refresh's 100 ms (R62; model's own; reset none) -/
  mirWin : Option Nat := none
  /-- profile records, newest first, at most 4096; sequence of the newest (R477; kept) -/
  profiles : List Bytes := []
  profileSeq : Nat := 0
  /-- unregistered records, newest first, at most 64; sequence of the newest (R478; kept) -/
  unregs : List Bytes := []
  unregSeq : Nat := 0
  /-- snapshots of closed periods, newest first, at most 24 (R451; kept) -/
  snaps : List Bytes := []
  /-- keypad map: controller, request identifier, result identifier (R488; kept) -/
  keypads : List (Nat × Nat × Nat) := []
  /-- paths: keypad entries by controller and identifier, HOSTIO 256, SITE0 257, SITE1 258 (R472; reset none) -/
  paths : List (Nat × Nat × Path) := []
  deriving DecidableEq, Repr, Inhabited

end Sys2Proof.Machine
end

