-- ==== Sys2Proof/Machine/State.lean ====
section
/-! DEFINITION. The whole state, and the state right after reset. -/

namespace Sys2Proof.Machine

/-- Why the machine could stop with a fault. Nothing raises one: every row of the table has an effect (safe). -/
inductive Fault where
  /-- raised by nothing; a place kept so that the type is not empty (safe) -/
  | none
  deriving DecidableEq, Repr

/-- Why a command is refused. -/
inductive Refusal where
  /-- a row without a meaning, refused by name in exec; no row is (safe) -/
  | notModelled (mnemonic : String)
  deriving DecidableEq, Repr

/-- What leaves the device: packets, frames and answers, oldest first. The model's own record of outputs that no
register holds (entry 8). -/
inductive Out where
  /-- a CCP packet (R590): transport, address, UDP port, bytes -/
  | ccp (via : Via) (addr port : Nat) (raw : Bytes)
  /-- a direct-window answer: response byte and words (R608) -/
  | window (resp : Nat) (words : List Nat)
  /-- the HOSTIO status byte (R610) -/
  | status (b : Nat)
  /-- an interface answer to an unknown instruction: response byte (R607, R613) -/
  | resp (b : Nat)
  /-- a frame on a CAN bus (R543): controller, identifier, FD, bit rate switch, data -/
  | can (ctl ident : Nat) (fd brs : Bool) (data : Bytes)
  /-- a UDP datagram of a storage converter (R148): SITE port, UDP port, data -/
  | udp (net port : Nat) (data : Bytes)
  /-- an answer to the vehicle at a port: what it is and its figures (R322 to R340, R317), on a framed link its header (R314) -/
  | vehicle (port : Nat) (answer : VAnswer) (figs : List Int) (head : Option VlHead)
  /-- the set-up of a port's MAC-PHY, by protected control transactions (R313) -/
  | macPhy (port : Nat) (cfg : Tc6)
  /-- an IEEE 1588 message of a SITE port: port, port identity answered (0 for none), contents (R85, R86) -/
  | ptp (net who : Nat) (m : PtpOut)
  /-- a feeder-link frame: header and payload (R564, R577), and the bits on each carrier of each symbol after its preamble
  (R558, R565) -/
  | flink (raw : Bytes) (symbols : List (List Nat))
  /-- a message on the hinge link or the CAN path between twins: kind and contents (R495) -/
  | hinge (kind : HingeKind) (figs : List Int) (data : Bytes)
  /-- a frame of the state image on the hinge link (R495 to R497) -/
  | image (m : ImageMsg)
  deriving DecidableEq, Repr

/-- The state of the FLV-7320. -/
structure State where
  /-- straps and factory facts (R1, R742) -/
  strap : Strap := {}
  /-- the site-time counter (R72) -/
  clk : Clk := {}
  /-- time sources and quality (R80 to R105) -/
  time : TimeS := {}
  /-- accepted launches (R108; reset empty) -/
  launches : List Launch := []
  /-- launches accepted since reset (R111; model's own, reset 0) -/
  launchCount : Nat := 0
  /-- captures (R115, R624; reset empty) -/
  captures : List Capture := []
  /-- records noted for captures (R624; reset empty) -/
  capLog : List CapRec := []
  /-- command interface (R590 to R604) -/
  ccp : Ccp := {}
  /-- HOSTIO and direct window (R605 to R616) -/
  hio : HostIo := {}
  /-- hardware queues (R632 to R669) -/
  queues : Vector Queue 128 := Vector.replicate 128 {}
  /-- event router (R655 to R664) -/
  evt : Evt := {}
  /-- MRAM outside metrology, groups and sessions (R60) -/
  nv : Nv := {}
  /-- reset, sleep and device-fault status -/
  sys : Sys := {}
  /-- supply sequencer (R731 to R735) -/
  seqr : Seqr := {}
  /-- VBAT domain (R740) -/
  vbat : Vbat := {}
  /-- housekeeping (R707 to R710) -/
  hk : Hk := {}
  /-- die temperatures (R711 to R723) -/
  therm : Therm := {}
  /-- switch channels (R671 to R706) -/
  sws : Vector SwCh 24 := Vector.replicate 24 {}
  /-- conduction budget (R696 to R699) -/
  budget : Budget := {}
  /-- links, memories, clocks and cores (R30 to R46) -/
  fabric : Fabric := {}
  /-- power groups (R170 to R301) -/
  groups : Vector Group 8 := Vector.replicate 8 {}
  /-- phase slots (R170 to R218) -/
  slots : Vector Slot 48 := Vector.replicate 48 {}
  /-- fault records in MRAM (R288) -/
  groupRecs : Vector GroupRecs 8 := Vector.replicate 8 {}
  /-- vehicle ports (R302 to R354) -/
  ports : Vector Port 8 := Vector.replicate 8 {}
  /-- session records in MRAM (R345) -/
  portRecs : Vector PortRecs 8 := Vector.replicate 8 {}
  /-- last session id given, in MRAM (32 bits; R345; reset 0) -/
  sessionSeq : Nat := 0
  /-- cooling loops (R355 to R381) -/
  cools : Vector Cool 8 := Vector.replicate 8 {}
  /-- site power allocation (R122 to R169) -/
  alloc : Alloc := {}
  /-- metrology partition (R382 to R435) -/
  metro : Metro := {}
  /-- billing (R436 to R488) -/
  bill : Bill := {}
  /-- CAN controllers (R529 to R556) -/
  cans : Vector Can 8 := Vector.replicate 8 {}
  /-- copies that core 3 has not read, oldest first, at most 256: controller, stamp, identifier, data (R541; reset empty) -/
  canCopies : List (Nat × Nat × Nat × Bytes) := []
  /-- feeder link (R557 to R589) -/
  flink : Flink := {}
  /-- twin redundancy (R489 to R528) -/
  twin : Twin := {}
  /-- the image in reception (R496, R497; reset empty) -/
  image : Image := {}
  /-- site-master lease (R520 to R523) -/
  master : Master := {}
  /-- the running counter of originated packets (32 bits; R596; reset 0) -/
  seqCtr : Nat := 0
  /-- what has left the device (model's own, entry 8; reset empty) -/
  out : List Out := []
  /-- number of free values used (model's own, entry 3; reset 0, DESIGN CHOICE) -/
  freeCount : Nat := 0
  /-- commands that wait, first in first out (model's own; reset empty) -/
  pending : List Instr := []
  deriving DecidableEq, Repr

/-- The machine right after a power-on reset release with a new VBAT domain: ST 0, quality INVALID, rails up, lee
period, queues 0 to 13 in their boot layout (R24, R93, R633, R750). -/
def State.reset : State :=
  { queues := Vector.ofFn (fun q => if q.val < 14 then { cfg := bootLayout q, boot := true } else {}) }

end Sys2Proof.Machine
end

