-- ==== Sys2Proof/Machine/Events.lean ====
section
/-! DEFINITION. Event sources and codes (R664, R702, R724), and raising an event (R655, R660). -/

namespace Sys2Proof.Machine

/-- The events of R664. An event of a numbered source carries the index of its group, slot, port, loop, meter,
controller or channel. -/
inductive Ev where
  | deviceReady
  | deviceFaultRecorded
  | siteIdConflict
  | fwUpdateDone
  | fwFallback
  | credentialLoaded
  | coreWatchdog
  | meterClockLoss
  | flinkClockLoss
  | canClockLoss
  | ethClockLoss
  | rtcClockLoss
  | eccUncorrectable
  | linkReplay
  | resourceRetire
  | allocOverLimit
  | allocWithheld
  | allocLimitGuard
  | allocFallbackEnter
  | allocFallbackExit
  | fallbackTableMismatch
  | allocConfigMismatch
  | storageStale
  | storageDeviation
  | ccpAuthFail
  | windowViolation
  | queueHigh
  | queueLow
  | queueDrop
  | queueFallback
  | eventFlood
  | gustDrop
  | groupState (i : Nat)
  | groupCurrentZero (i : Nat)
  | groupContactorWait (i : Nat)
  | stopOverrun (i : Nat)
  | dischargeTimeout (i : Nat)
  | groupOutputFault (i : Nat)
  | tripBurst (i : Nat)
  | pwmDeadtimeClamp (i : Nat)
  | pwmCalFault (i : Nat)
  | loopSaturated (i : Nat)
  | loopOverrun (i : Nat)
  | loopLaneInvalid (i : Nat)
  | profileAtTarget (i : Nat)
  | profileClamp (i : Nat)
  | portState (i : Nat)
  | authRequest (i : Nat)
  | contactorFail (i : Nat)
  | contactorWeld (i : Nat)
  | pilotChange (i : Nat)
  | vlLinkDown (i : Nat)
  | draughtLoss (i : Nat)
  | draughtRestored (i : Nat)
  | coolSensorFault (i : Nat)
  | coolCapStale (i : Nat)
  | pinDerate (i : Nat)
  | pinLimit (i : Nat)
  | cableCapZero (i : Nat)
  | dcMeterOverrange (i : Nat)
  | dcMeterTempRange (i : Nat)
  | acMeterOverrange (i : Nat)
  | acMeterTempRange (i : Nat)
  | lossOfZc (i : Nat)
  | zcRestored (i : Nat)
  | meterRestart
  | meterLogFull
  | keywayChange
  | meterTamper
  | meterSealed
  | billDefaultTariff
  | billOutage
  | unregInterval
  | tokenAccepted
  | tokenRejected
  | creditExhausted
  | creditLow
  | canErrorWarning (i : Nat)
  | canErrorPassive (i : Nat)
  | canErrorActive (i : Nat)
  | canBusOff (i : Nat)
  | canRecovered (i : Nat)
  | canRxDrop (i : Nat)
  | canTxExpired (i : Nat)
  | canFwDrop
  | flinkSendFail
  | flinkBeaconLost
  | flinkCoordConflict
  | flinkRxDrop
  | ethLinkUp (i : Nat)
  | ethLinkDown (i : Nat)
  | swOvertemp (i : Nat)
  | swRetry (i : Nat)
  | swRetryExhausted (i : Nat)
  | swClampOverload (i : Nat)
  | swOpenLoad (i : Nat)
  | swOpenLoadCleared (i : Nat)
  | swShed (i : Nat)
  | swRestored (i : Nat)
  | swStateLost (i : Nat)
  | budgetExceeded
  | budgetCleared
  | budgetThrottled
  | thermWarning
  | thermWarningClear
  | throttleOn
  | throttleOff
  | thermShutdown
  | thermHwLimit
  | thermReleased
  | tempSensorFault
  | hkChannelInvalid
  | hkChannelValid
  | railRange
  | vbatLow
  | refCheckFail
  | refCheckOk
  | twinState
  | leaseTaken
  | leaseReleased
  | twinPartition
  | twinDualAssert
  | twinWireFault
  | hingeUp
  | hingeDown
  | twinCompareFault
  | twinDrillDone
  | twinHandoverFail
  | selfDiagFail
  | twinConfigMismatch
  | twinRoleMismatch
  | siteMasterTaken
  | siteMasterConflict
  | timeQuality
  | timeSourceChange
  | stepPending
  | timeAttack
  | clockStep
  | zoneTableExpiring
  | launchDone
  | launchFailed
  | launchCancelled
  | captureDone
  deriving DecidableEq, Repr

/-- The source number of an event (R664). -/
def Ev.source : Ev → Nat
  | .deviceReady => 0
  | .deviceFaultRecorded => 0
  | .siteIdConflict => 0
  | .fwUpdateDone => 1
  | .fwFallback => 1
  | .credentialLoaded => 1
  | .coreWatchdog => 2
  | .meterClockLoss => 3
  | .flinkClockLoss => 3
  | .canClockLoss => 3
  | .ethClockLoss => 3
  | .rtcClockLoss => 3
  | .eccUncorrectable => 4
  | .linkReplay => 4
  | .resourceRetire => 5
  | .allocOverLimit => 6
  | .allocWithheld => 6
  | .allocLimitGuard => 6
  | .allocFallbackEnter => 6
  | .allocFallbackExit => 6
  | .fallbackTableMismatch => 6
  | .allocConfigMismatch => 6
  | .storageStale => 7
  | .storageDeviation => 7
  | .ccpAuthFail => 8
  | .windowViolation => 8
  | .queueHigh => 9
  | .queueLow => 9
  | .queueDrop => 9
  | .queueFallback => 9
  | .eventFlood => 9
  | .gustDrop => 9
  | .groupState i => 32 + i
  | .groupCurrentZero i => 32 + i
  | .groupContactorWait i => 32 + i
  | .stopOverrun i => 32 + i
  | .dischargeTimeout i => 32 + i
  | .groupOutputFault i => 32 + i
  | .tripBurst i => 32 + i
  | .pwmDeadtimeClamp i => 32 + i
  | .pwmCalFault i => 40 + i
  | .loopSaturated i => 88 + i
  | .loopOverrun i => 88 + i
  | .loopLaneInvalid i => 88 + i
  | .profileAtTarget i => 88 + i
  | .profileClamp i => 88 + i
  | .portState i => 96 + i
  | .authRequest i => 96 + i
  | .contactorFail i => 96 + i
  | .contactorWeld i => 96 + i
  | .pilotChange i => 104 + i
  | .vlLinkDown i => 104 + i
  | .draughtLoss i => 112 + i
  | .draughtRestored i => 112 + i
  | .coolSensorFault i => 112 + i
  | .coolCapStale i => 112 + i
  | .pinDerate i => 120 + i
  | .pinLimit i => 120 + i
  | .cableCapZero i => 120 + i
  | .dcMeterOverrange i => 128 + i
  | .dcMeterTempRange i => 128 + i
  | .acMeterOverrange i => 136 + i
  | .acMeterTempRange i => 136 + i
  | .lossOfZc i => 136 + i
  | .zcRestored i => 136 + i
  | .meterRestart => 140
  | .meterLogFull => 140
  | .keywayChange => 141
  | .meterTamper => 141
  | .meterSealed => 141
  | .billDefaultTariff => 142
  | .billOutage => 142
  | .unregInterval => 142
  | .tokenAccepted => 143
  | .tokenRejected => 143
  | .creditExhausted => 143
  | .creditLow => 143
  | .canErrorWarning i => 160 + i
  | .canErrorPassive i => 160 + i
  | .canErrorActive i => 160 + i
  | .canBusOff i => 160 + i
  | .canRecovered i => 160 + i
  | .canRxDrop i => 160 + i
  | .canTxExpired i => 160 + i
  | .canFwDrop => 168
  | .flinkSendFail => 169
  | .flinkBeaconLost => 169
  | .flinkCoordConflict => 169
  | .flinkRxDrop => 169
  | .ethLinkUp i => 170 + i
  | .ethLinkDown i => 170 + i
  | .swOvertemp i => 192 + i
  | .swRetry i => 192 + i
  | .swRetryExhausted i => 192 + i
  | .swClampOverload i => 192 + i
  | .swOpenLoad i => 192 + i
  | .swOpenLoadCleared i => 192 + i
  | .swShed i => 192 + i
  | .swRestored i => 192 + i
  | .swStateLost i => 192 + i
  | .budgetExceeded => 216
  | .budgetCleared => 216
  | .budgetThrottled => 216
  | .thermWarning => 217
  | .thermWarningClear => 217
  | .throttleOn => 217
  | .throttleOff => 217
  | .thermShutdown => 217
  | .thermHwLimit => 217
  | .thermReleased => 217
  | .tempSensorFault => 217
  | .hkChannelInvalid => 218
  | .hkChannelValid => 218
  | .railRange => 218
  | .vbatLow => 218
  | .refCheckFail => 218
  | .refCheckOk => 218
  | .twinState => 224
  | .leaseTaken => 224
  | .leaseReleased => 224
  | .twinPartition => 224
  | .twinDualAssert => 224
  | .twinWireFault => 224
  | .hingeUp => 225
  | .hingeDown => 225
  | .twinCompareFault => 226
  | .twinDrillDone => 226
  | .twinHandoverFail => 226
  | .selfDiagFail => 226
  | .twinConfigMismatch => 226
  | .twinRoleMismatch => 226
  | .siteMasterTaken => 227
  | .siteMasterConflict => 227
  | .timeQuality => 228
  | .timeSourceChange => 228
  | .stepPending => 228
  | .timeAttack => 228
  | .clockStep => 228
  | .zoneTableExpiring => 228
  | .launchDone => 229
  | .launchFailed => 229
  | .launchCancelled => 229
  | .captureDone => 229

/-- The code of an event: its position in its source's list (R655, R664). -/
def Ev.code : Ev → Nat
  | .deviceReady => 0
  | .deviceFaultRecorded => 1
  | .siteIdConflict => 2
  | .fwUpdateDone => 0
  | .fwFallback => 1
  | .credentialLoaded => 2
  | .coreWatchdog => 0
  | .meterClockLoss => 0
  | .flinkClockLoss => 1
  | .canClockLoss => 2
  | .ethClockLoss => 3
  | .rtcClockLoss => 4
  | .eccUncorrectable => 0
  | .linkReplay => 1
  | .resourceRetire => 0
  | .allocOverLimit => 0
  | .allocWithheld => 1
  | .allocLimitGuard => 2
  | .allocFallbackEnter => 3
  | .allocFallbackExit => 4
  | .fallbackTableMismatch => 5
  | .allocConfigMismatch => 6
  | .storageStale => 0
  | .storageDeviation => 1
  | .ccpAuthFail => 0
  | .windowViolation => 1
  | .queueHigh => 0
  | .queueLow => 1
  | .queueDrop => 2
  | .queueFallback => 3
  | .eventFlood => 4
  | .gustDrop => 5
  | .groupState _ => 0
  | .groupCurrentZero _ => 1
  | .groupContactorWait _ => 2
  | .stopOverrun _ => 3
  | .dischargeTimeout _ => 4
  | .groupOutputFault _ => 5
  | .tripBurst _ => 6
  | .pwmDeadtimeClamp _ => 7
  | .pwmCalFault _ => 0
  | .loopSaturated _ => 0
  | .loopOverrun _ => 1
  | .loopLaneInvalid _ => 2
  | .profileAtTarget _ => 3
  | .profileClamp _ => 4
  | .portState _ => 0
  | .authRequest _ => 1
  | .contactorFail _ => 2
  | .contactorWeld _ => 3
  | .pilotChange _ => 0
  | .vlLinkDown _ => 1
  | .draughtLoss _ => 0
  | .draughtRestored _ => 1
  | .coolSensorFault _ => 2
  | .coolCapStale _ => 3
  | .pinDerate _ => 0
  | .pinLimit _ => 1
  | .cableCapZero _ => 2
  | .dcMeterOverrange _ => 0
  | .dcMeterTempRange _ => 1
  | .acMeterOverrange _ => 0
  | .acMeterTempRange _ => 1
  | .lossOfZc _ => 2
  | .zcRestored _ => 3
  | .meterRestart => 0
  | .meterLogFull => 1
  | .keywayChange => 0
  | .meterTamper => 1
  | .meterSealed => 2
  | .billDefaultTariff => 0
  | .billOutage => 1
  | .unregInterval => 2
  | .tokenAccepted => 0
  | .tokenRejected => 1
  | .creditExhausted => 2
  | .creditLow => 3
  | .canErrorWarning _ => 0
  | .canErrorPassive _ => 1
  | .canErrorActive _ => 2
  | .canBusOff _ => 3
  | .canRecovered _ => 4
  | .canRxDrop _ => 5
  | .canTxExpired _ => 6
  | .canFwDrop => 0
  | .flinkSendFail => 0
  | .flinkBeaconLost => 1
  | .flinkCoordConflict => 2
  | .flinkRxDrop => 3
  | .ethLinkUp _ => 0
  | .ethLinkDown _ => 1
  | .swOvertemp _ => 0
  | .swRetry _ => 1
  | .swRetryExhausted _ => 2
  | .swClampOverload _ => 3
  | .swOpenLoad _ => 4
  | .swOpenLoadCleared _ => 5
  | .swShed _ => 6
  | .swRestored _ => 7
  | .swStateLost _ => 8
  | .budgetExceeded => 0
  | .budgetCleared => 1
  | .budgetThrottled => 2
  | .thermWarning => 0
  | .thermWarningClear => 1
  | .throttleOn => 2
  | .throttleOff => 3
  | .thermShutdown => 4
  | .thermHwLimit => 5
  | .thermReleased => 6
  | .tempSensorFault => 7
  | .hkChannelInvalid => 0
  | .hkChannelValid => 1
  | .railRange => 2
  | .vbatLow => 3
  | .refCheckFail => 4
  | .refCheckOk => 5
  | .twinState => 0
  | .leaseTaken => 1
  | .leaseReleased => 2
  | .twinPartition => 3
  | .twinDualAssert => 4
  | .twinWireFault => 5
  | .hingeUp => 0
  | .hingeDown => 1
  | .twinCompareFault => 0
  | .twinDrillDone => 1
  | .twinHandoverFail => 2
  | .selfDiagFail => 3
  | .twinConfigMismatch => 4
  | .twinRoleMismatch => 5
  | .siteMasterTaken => 0
  | .siteMasterConflict => 1
  | .timeQuality => 0
  | .timeSourceChange => 1
  | .stepPending => 2
  | .timeAttack => 3
  | .clockStep => 4
  | .zoneTableExpiring => 5
  | .launchDone => 0
  | .launchFailed => 1
  | .launchCancelled => 2
  | .captureDone => 3

/-- Is `s` a source number that R664 lists? -/
def isSource (s : Nat) : Bool :=
  s ≤ 9 || (32 ≤ s && s ≤ 143) || (160 ≤ s && s ≤ 171) || (192 ≤ s && s ≤ 218) || (224 ≤ s && s ≤ 229)

/-- The ST of the present tick: the integer part of the count (R73). -/
def State.st (s : State) : Nat := s.clk.fix / 2 ^ 32

/-- The present time in which windows of stated duration are kept: ST less every step made (R79). -/
def State.el (s : State) : Int := (s.st : Int) - s.clk.moved

/-- Raise an event with a stamp: the record waits for its release (R660). Its sequence is given at its release
(DEDUCED, entry 21). -/
def State.raiseAt (s : State) (stamp : Nat) (e : Ev) (p1 p2 flags : Nat) : State :=
  { s with evt := { s.evt with held := s.evt.held ++
      [{ stamp, from_ := (stamp : Int) - s.clk.moved, seq := 0, src := e.source, code := e.code, flags, p1 := p1 % 2 ^ 32, p2 := p2 % 2 ^ 32 }] } }

/-- Raise an event at the present tick (R44, R655). -/
def State.raise (s : State) (e : Ev) (p1 : Nat := 0) (p2 : Nat := 0) (flags : Nat := 0) : State :=
  s.raiseAt s.st e p1 p2 flags

/-- A signed value as an event parameter (R11). -/
def par (v : Int) : Nat := (v % 2 ^ 32).toNat

end Sys2Proof.Machine
end

