-- ==== Sys2Proof/Machine/Queues.lean ====
section
/-! DEFINITION. Hardware queues as named operations: packing, capacity, drops, watermarks, spill, chains
(R632 to R654). -/

namespace Sys2Proof.Machine

/-- The target of a resource (R19). -/
def tgt (type index : Nat) : Nat := type * 4096 + index

/-- Is the resource with this target retired (R286)? -/
def State.isRetired (s : State) (target : Nat) : Bool := s.nv.retired.any (·.target == target)

/-- The settings that a QUEUE_CONFIG payload gives (R667). -/
def qcfgOf (b : Bytes) : QCfg :=
  { mode := if u8 b 0 = 0 then .stream else if u8 b 0 = 1 then .packet else .event
    width := u8 b 1, firmware := u8 b 2 = 1
    hostWrites := bit (u8 b 3) 0, spill := bit (u8 b 3) 1
    pages := u16 b 4, high := u8 b 6, low := u8 b 7
    fc := if u8 b 8 = 0xFF then none else some (u8 b 8)
    spillMB := u16 b 10 }

/-- Words of SRAM that a queue's pages hold: 4 KB a page, 8 bytes a word (R632). -/
def QCfg.capacity (c : QCfg) : Nat := c.pages * 512

/-- Words that the spill limit holds (R648). -/
def QCfg.spillWords (c : QCfg) : Nat := if c.spill then c.spillMB * 131072 else 0

/-- The words an open packet takes: its length word and its data (R644). -/
def Queue.openWords (q : Queue) : Nat :=
  match q.open_ with
  | none => 0
  | some o => 1 + (o.bytes.length + 7) / 8

/-- Words held in SRAM, an open packet included (R666, QFILL). -/
def Queue.sramFill (q : Queue) : Nat :=
  q.words.length + q.behind.length + q.openWords + (if q.part = [] then 0 else 1)

/-- The fill that watermarks compare (R644, R648). -/
def Queue.fill (q : Queue) : Nat := q.sramFill + q.spilled.length

/-- SRAM capacity in force: the pages, the 16 stages of a chain, or nothing (R632, R650, R652). -/
def Queue.room (q : Queue) (retired : Bool) : Nat :=
  if retired then (if q.chain = none then 0 else 16) else q.cfg.capacity

/-- Does the fill reach the high watermark (R644, R651)? -/
def Queue.reachesHigh (q : Queue) (retired : Bool) : Bool :=
  if retired then q.chain.isSome && decide (12 ≤ q.fill)
  else decide (0 < q.cfg.pages) &&
    decide (q.cfg.high * (q.cfg.capacity + q.cfg.spillWords) ≤ q.fill * 256)

/-- Is the fill at or below the low watermark (R644, R651)? -/
def Queue.atLow (q : Queue) (retired : Bool) : Bool :=
  if retired then decide (q.fill ≤ 4)
  else decide (q.fill * 256 ≤ q.cfg.low * (q.cfg.capacity + q.cfg.spillWords))

/-- Pack bytes into words from the least significant byte (R636), `fuel` words at most; the last is tagged. -/
def packWords : Nat → Bytes → List QWord
  | 0, _ => []
  | _, [] => []
  | n + 1, bs =>
    let h := bs.take 8
    { data := uN 8 h 0, valid := h.length, last := decide (bs.length ≤ 8) } :: packWords n (bs.drop 8)

/-- The words of a packet: the length word, then the data (R637). -/
def packetWords (bs : Bytes) : List QWord :=
  { data := bs.length, first := true, last := bs.isEmpty } :: packWords bs.length bs

/-- The three words of an event record (R640). -/
def recordWords (bs : Bytes) : List QWord :=
  match packWords 3 bs with
  | [] => []
  | w :: ws => { w with first := true } :: ws

/-- Tag the first word LOST when items were dropped just before it (R647). -/
def tagLost (lost : Bool) : List QWord → List QWord
  | [] => []
  | w :: ws => { w with lost := lost } :: ws

/-- Words of a spilling queue go behind those that the spill holds; what the spill limit leaves over returns to SRAM in order
(R648). -/
def Queue.spillTail (q : Queue) (ws : List QWord) : Queue :=
  let l := q.spilled ++ q.behind ++ ws
  let above := l.length - q.cfg.spillWords
  { q with words := q.words ++ l.take above, spilled := l.drop above, behind := [] }

/-- Append whole words that fit, in reading order (R637, R648): behind an open packet; behind the spill while the spill pauses
(`stay`, R649); into the spill when it holds words or SRAM is full. -/
def Queue.append (q : Queue) (ws : List QWord) (stay : Bool := false) : Queue :=
  let ws := tagLost q.lostNext ws
  let q := { q with lostNext := false, dropRaised := false }
  let full := q.spilled ≠ [] ∨ q.behind ≠ [] ∨ q.cfg.capacity < q.sramFill + ws.length
  if q.open_.isSome then { q with behind := q.behind ++ ws }
  else if q.cfg.spill ∧ stay ∧ (q.spilled ≠ [] ∨ q.behind ≠ []) then { q with behind := q.behind ++ ws }
  else if q.cfg.spill ∧ !stay ∧ q.chain.isNone ∧ full then q.spillTail ws
  else { q with words := q.words ++ ws }

/-- Do `n` more words fit: SRAM, and the spill limit of a queue whose spill does not pause (R647 to R649)? -/
def Queue.fits (q : Queue) (retired : Bool) (n : Nat) (stay : Bool := false) : Bool :=
  if retired || !q.cfg.spill || stay then decide (q.sramFill + n ≤ q.room retired)
  else decide (q.fill + n ≤ q.room retired + q.cfg.spillWords)

/-- Update one queue. -/
def State.setQueue (s : State) (i : Fin 128) (q : Queue) : State := { s with queues := s.queues.set i q }

/-- After a change of fill: enter or leave high, raising QUEUE_HIGH or QUEUE_LOW (R644). -/
def State.watermark (s : State) (i : Fin 128) : State :=
  let q := s.queues[i]
  let r := s.isRetired (tgt 7 i)
  if !q.isHigh && q.reachesHigh r then (s.setQueue i { q with isHigh := true }).raise .queueHigh
  else if q.isHigh && q.atLow r then (s.setQueue i { q with isHigh := false }).raise .queueLow
  else s

/-- Put queue `i` in place and settle its watermark state (R644). -/
def State.putQueue (s : State) (i : Fin 128) (q : Queue) : State := (s.setQueue i q).watermark i

/-- Count a drop of `n` items, records or packets (R647, R652). -/
def State.queueDrop (s : State) (i : Fin 128) (n : Nat) : State :=
  let q := s.queues[i]
  let s := if q.dropRaised then s else s.raise .queueDrop
  s.setQueue i { q with lostNext := true, dropRaised := true, drops := q.drops + BitVec.ofNat 32 n, lastDrop := s.st }

/-- Throttled work stands: past the first 2 ms of a window begun while throttling (R716, R723). -/
def State.paused (s : State) : Bool :=
  s.therm.throttle && (match s.therm.workEnd with | some e => decide (e ≤ s.st) | none => false)

/-- Do `n` more words fit in queue `i` now? -/
def State.queueFits (s : State) (i : Fin 128) (n : Nat) : Bool :=
  s.queues[i].fits (s.isRetired (tgt 7 i)) n s.paused

/-- Offer whole words of one packet or record; true when taken (R637, R638, R647, R651). -/
def State.offer (s : State) (i : Fin 128) (ws : List QWord) : State × Bool :=
  if s.queueFits i ws.length then (s.putQueue i (s.queues[i].append ws s.paused), true)
  else (s.queueDrop i 1, false)

/-- An internal producer writes a packet whole (R638). -/
def State.offerPacket (s : State) (i : Fin 128) (bs : Bytes) : State × Bool := s.offer i (packetWords bs)

/-- Would a packet of `n` bytes be taken now? -/
def State.packetFits (s : State) (i : Fin 128) (n : Nat) : Bool :=
  s.queueFits i (1 + (n + 7) / 8)

/-- Offer one item of a stream: it joins the partial word or starts a new one (R636, R639, R647). -/
def State.offerItem (s : State) (i : Fin 128) (bs : Bytes) : State :=
  let q := s.queues[i]
  if q.part = [] && !s.queueFits i 1 then s.queueDrop i 1
  else
    let p := q.part ++ bs
    if p.length < 8 then
      if q.part = [] then s.putQueue i { q with part := p } else s.setQueue i { q with part := p }
    else
      s.putQueue i (({ q with part := [] } : Queue).append [{ data := uN 8 p 0 }] s.paused)

/-- Offer a run of items of `w` bytes each, `fuel` of them. -/
def State.offerItems (w : Nat) : Nat → State → Fin 128 → Bytes → State
  | 0, s, _, _ => s
  | n + 1, s, i, bs => State.offerItems w n (s.offerItem i (bs.take w)) i (bs.drop w)

/-- The source index of a boot-default queue: 0 to 7 CAN, 8 and 9 SITE, 10 feeder link (R653). -/
def gustIndex (q : Nat) : Option (Fin 11) :=
  if h : 2 ≤ q ∧ q ≤ 12 then some ⟨q - 2, by omega⟩ else none

/-- A receive path offers a packet. A drop within the lee period is counted as a gust drop (R653, R654), a later
one under R647. -/
def State.offerRx (s : State) (i : Fin 128) (bs : Bytes) : State × Bool :=
  if s.packetFits i bs.length then s.offerPacket i bs
  else if s.sys.lee then
    match gustIndex i with
    | none => (s.queueDrop i 1, false)
    | some g =>
      let s := if bit s.fabric.gustRaised g then s else s.raise .gustDrop g
      ({ s with fabric := { s.fabric with gust := s.fabric.gust.set g (s.fabric.gust[g] + 1),
                                          gustRaised := s.fabric.gustRaised ||| 2 ^ g.val } }, false)
  else (s.queueDrop i 1, false)

/-- Open packets and words that a queue holds are discarded and counted (R650, R667). -/
def State.queueEmpty (s : State) (i : Fin 128) : State :=
  let q := s.queues[i]
  let n := q.words.length + q.behind.length + q.spilled.length + (if q.part = [] then 0 else 1) + q.openWords
  let q' := { q with words := [], behind := [], spilled := [], part := [], open_ := none, inCur := false }
  if n = 0 then s.putQueue i q'
  else s.putQueue i { q' with drops := q.drops + BitVec.ofNat 32 n, lastDrop := s.st }

/-- The lowest-numbered free chain (R650). -/
def State.freeChain (s : State) : Option Nat :=
  (List.range 8).find? (fun c => !(s.queues.toList.any (fun q => q.chain == some c)))

/-- A queue retires: contents discarded, a chain taken, QUEUE_FALLBACK (R650, R652). -/
def State.queueRetire (s : State) (i : Fin 128) : State :=
  let s := s.queueEmpty i
  let c := s.freeChain
  (s.setQueue i { s.queues[i] with chain := c }).raise .queueFallback i (c.getD 0xFF)

/-- Give the closed packet of the host its place: the open packet leaves, and what was behind it follows (R637). -/
def Queue.closeOpen (q : Queue) (ws : List QWord) : Queue :=
  let q := { q with open_ := none }
  let b := q.behind
  let q := { q with behind := [] }
  let q := if ws = [] then q else q.append ws
  { q with words := q.words ++ b }

/-- Pop the next word: SRAM, then the spill, then what SRAM took behind it, then a partial word, which holds the newest items
(R639, R641, R648). -/
def Queue.pop (q : Queue) : Option QWord × Queue :=
  match q.words with
  | w :: ws =>
    (some w, { q with words := ws, inCur := if w.last then false else if w.first then true else q.inCur })
  | [] =>
    match q.spilled with
    | w :: ws => (some w, { q with spilled := ws })
    | [] => match q.open_, q.behind with
    | none, w :: ws => (some w, { q with behind := ws })
    | _, _ =>
      if q.part = [] then (none, q)
      else (some { data := uN q.part.length q.part 0, valid := q.part.length, lost := q.lostNext },
            { q with part := [], lostNext := false, dropRaised := false })

/-- The tag of a read as QUEUE.QTAG holds it (R641). -/
def qtag : Option QWord → Nat
  | none => 0x40
  | some w => w.valid + 16 * b01 w.first + 32 * b01 w.last + 128 * b01 w.lost + 256 * b01 w.error

/-- Discard the rest of the current packet, with the bytes dropped (R643, R668). -/
def Queue.dropCurrent (q : Queue) : Queue × Nat :=
  if q.inCur then
    let rest := q.words.dropWhile (fun w => !w.last)
    let gone := q.words.takeWhile (fun w => !w.last)
    let lastBytes := match rest with | [] => 0 | w :: _ => w.valid
    ({ q with words := rest.drop 1, inCur := false }, 8 * gone.length + lastBytes)
  else (q, 0)

/-- QUEUE.QSTAT of a queue (R666). -/
def State.qstat (s : State) (i : Fin 128) : Nat :=
  let q := s.queues[i]
  b01 (decide (0 < q.cfg.pages)) + 2 * b01 q.isHigh + 4 * b01 (q.spilled ≠ []) +
  8 * b01 (s.isRetired (tgt 7 i)) + 16 * b01 (s.isRetired (tgt 7 i) && q.chain.isSome) + 32 * b01 q.open_.isSome +
  64 * (match q.cfg.mode with | .stream => 0 | .packet => 1 | .event => 2) + 256 * q.cfg.width + 1024 * b01 q.boot

/-- The level of flow-control pin `p`: high while the queue it serves is high (R645). -/
def State.fcPin (s : State) (p : Nat) : Bool :=
  s.queues.toList.any (fun q => q.cfg.fc == some p && q.isHigh)

/-- Words that QLEVEL shows: closed packets only (R641). -/
def Queue.level (q : Queue) : Nat := q.words.length + q.behind.length

/-- Move one page of a spilling queue to the spill when SRAM has reached the high watermark, or back when it lies
below the low watermark (R648). -/
def Queue.spillPage (q : Queue) : Queue :=
  let q := if q.behind ≠ [] ∧ q.open_.isNone then q.spillTail [] else q
  let cap := q.cfg.capacity
  if q.cfg.spill && decide (q.cfg.high * cap ≤ q.sramFill * 256) && decide (q.spilled.length < q.cfg.spillWords) then
    let n := min 512 (min q.words.length (q.cfg.spillWords - q.spilled.length))
    let keep := q.words.take (q.words.length - n)
    { q with words := keep, spilled := q.words.drop (q.words.length - n) ++ q.spilled }
  else if decide (q.sramFill * 256 < q.cfg.low * cap) && q.spilled ≠ [] then
    let n := min 512 (cap - q.sramFill)
    { q with words := q.words ++ q.spilled.take n, spilled := q.spilled.drop n }
  else q

end Sys2Proof.Machine
end

