-- ==== Sys2Proof/Machine/Ops.lean ====
section
/-! DEFINITION. Named operations over the shared state: running a step only while the device runs, stored
configuration, free values, window violations, captures' notes. -/

namespace Sys2Proof.Machine

/-- Apply a step of the running device; asleep or held in reset it does nothing (R743, R754; entry 1). -/
def live (s : State) (f : State → State) : Host.Outcome State Fault Refusal :=
  .next (if s.sys.mode = .run then f s else s)

/-- Apply a step to the state when its condition holds, else leave the state unchanged (entry 1). -/
def whenDo (c : Bool) (f : State → State) (s : State) : State := if c then f s else s

/-- Take a free value: what the spec states no result for (entry 3). -/
def State.free (s : State) : Nat × State :=
  (Config.freeValue s.freeCount, { s with freeCount := s.freeCount + 1 })

/-- SITE0 and SITE1 stand while the Ethernet clock is lost (R45). -/
def State.siteStopped (s : State) : Bool := bit s.fabric.clkLost 6

/-- Does an output leave on SITE0 or SITE1? -/
def Out.onSite : Out → Bool
  | .ccp via _ _ _ => via != .hostio
  | .udp _ _ _ => true
  | .ptp _ _ _ => true
  | _ => false

/-- Add to what has left the device (entry 8); nothing leaves a stopped SITE port (R45). -/
def State.emit (s : State) (o : Out) : State :=
  if s.siteStopped && o.onSite then s else { s with out := s.out ++ [o] }

/-- Replace the stored configuration (R791). -/
def State.store (s : State) (f : Cfg → Cfg) : State := { s with nv := { s.nv with cfg := f s.nv.cfg } }

/-- The role set: PORT and POWER until one is stored (R65, R620). -/
def State.roles (s : State) : Nat := match s.nv.cfg.role with | none => 3 | some b => u8 b 1 % 8

/-- Is the thermal latch set (R721)? -/
def State.latched (s : State) : Bool := s.nv.tlatch.set

/-- The CRC of the stored configuration, in the order of the table of R791, drive sources left out (R616; entry 5). -/
def State.cfgCrc (s : State) : Nat :=
  let c := s.nv.cfg
  Config.cfgCrc ([c.role, c.net, c.timeSource, c.allocLimit, c.allocPolicy, c.allocFeeders, c.allocFallback] ++
    c.group.toList ++ c.pwm.toList.map (·.map (fun b => b.take 1 ++ [0] ++ b.drop 2)) ++ c.loop0.toList ++ c.loop1.toList ++ c.loop2.toList ++ c.profile.toList ++
    c.port.toList ++ c.portLimit.toList ++ c.cool.toList ++ [c.twin, c.sites] ++ c.can0.toList ++ c.can1.toList ++
    c.canMode.toList.map (·.map (fun m => le 1 m)) ++ [c.flink0, c.flink1] ++ c.queue.toList ++
    c.route.toList.map (·.map (fun r => le 1 r.1 ++ le 1 r.2)) ++ c.sw.toList ++ c.hk.toList ++ [c.therm]) % 2 ^ 32

/-- Record a window violation: the log entry, its MRAM copy, the status bit and count, and WINDOW_VIOLATION at most
once per ms (R613 to R615; the ms runs from the last one raised: DESIGN CHOICE, entry 22). -/
def State.violate (s : State) (addr : Nat) (write : Bool) (cause words data : Nat) : State :=
  let seq := s.hio.vseq + 1
  let v : Viol := { st := s.st, addr, write, cause, words := min words 0xFFFF, seq := seq % 2 ^ 32, data }
  let due := match s.hio.violEvt with | none => true | some t => decide (t + 1000000 ≤ s.el)
  let full := decide (64 ≤ s.hio.vlog.length)
  let lostOne := full && decide (s.hio.vread < (s.hio.vlog.headD v).seq)
  let s := { s with
    hio := { s.hio with
      vlog := (if full then s.hio.vlog.drop 1 else s.hio.vlog) ++ [v]
      vseq := seq, vlost := s.hio.vlost + b01 lostOne
      violSeen := true, violCnt := s.hio.violCnt + 1
      lastWriteBad := write || s.hio.lastWriteBad
      violEvt := if due then some s.el else s.hio.violEvt }
    nv := { s.nv with violRing := (v :: s.nv.violRing).take 256 } }
  if due then s.raise .windowViolation (cause + 16 * b01 write) addr else s

/-- Note a record for captures: section kind, group or port, stamp, bytes (R624); notes older than the longest
capture need are let go. -/
def State.capNote (s : State) (kind group stamp : Nat) (bytes : Bytes) : State :=
  { s with capLog := s.capLog.dropWhile (fun r => r.stamp + 200000000 < s.st) ++ [{ kind, group, stamp, bytes }] }

/-- Is the present tick the first at or after a whole multiple of `ns` of ST (R73, R77)? One tick adds 2.5 ns and at most
500 ppm of slew. -/
def State.atMultiple (s : State) (ns : Nat) : Bool := decide (s.clk.fix % (ns * 2 ^ 32) < 10742786949)

/-- Update switch channel `n`. -/
def State.modSw (s : State) (n : Fin 24) (f : SwCh → SwCh) : State := { s with sws := s.sws.set n (f s.sws[n]) }

/-- Apply `f` for each number of a list. -/
def forNums {σ : Type} (l : List Nat) (s : σ) (f : σ → Nat → σ) : σ := l.foldl f s

/-- Apply `f` for each index below `n`. -/
def forFin {σ : Type} (n : Nat) (s : σ) (f : σ → Fin n → σ) : σ := (List.finRange n).foldl f s

/-- Index a vector by a number; the default past its end. -/
def vget {α : Type} {n : Nat} (v : Vector α n) (i : Nat) (d : α) : α := if h : i < n then v[i] else d

/-- Replace an element by number; nothing past the end. -/
def vset {α : Type} {n : Nat} (v : Vector α n) (i : Nat) (a : α) : Vector α n := if h : i < n then v.set i a else v

end Sys2Proof.Machine
end

