-- ==== Sys2Proof/Machine/Twin0.lean ====
section
/-! DEFINITION. What other units ask of the twin state: pairing, holding, driving (R489, R506). -/

namespace Sys2Proof.Machine

/-- Twin pairing is enabled (R489, R526). -/
def State.paired (s : State) : Bool := match s.nv.cfg.twin with | none => false | some b => u8 b 1 == 1

/-- Does this device send as the holder of the twin lease: ACTIVE, but for a giver past Q, which has stopped its lease-holder
transmissions (R513)? An unpaired device acts alone (R489). -/
def State.holdsTwin (s : State) : Bool :=
  !s.paired || (s.twin.state == .active && !(match s.twin.handover with | some h => h.switched | none => false))

/-- Are the switch channels and outputs driven as commanded: an unpaired device, ACTIVE or CARRY (R506)? -/
def State.driving (s : State) : Bool := !s.paired || s.twin.state == .active || s.twin.state == .carry

/-- Do the PWM outputs switch: also the shadow of STANDBY (R506), but none in the device-fault state (R36)? -/
def State.pwmAllowed (s : State) : Bool :=
  s.sys.fault.isNone && ((s.driving && !(s.paired && s.twin.state == .carry && s.twin.carryLow)) || s.twin.state == .standby)

/-- Is this device ACTIVE in a pair? -/
def State.isActive (s : State) : Bool := s.paired && s.twin.state == .active

/-- The code of a twin state (R525). -/
def TwinState.code : TwinState → Nat
  | .waiting => 0 | .syncing => 1 | .standby => 2 | .carry => 3 | .active => 4 | .unfit => 5

/-- Does the device run in shadow, so that what its own TRIP, MID and lane inputs decide is not acted on alone (R263)? -/
def State.shadow (s : State) : Bool := s.paired && s.twin.state == .standby

/-- A fault record, given without its sequence and CRC, joins a group's ring of 32 in MRAM (R288). -/
def State.recordWrite (s : State) (g : Fin 8) (b : Bytes) : State :=
  let r := s.groupRecs[g]
  let seq := r.seq + 1
  let b := b.take 8 ++ le 4 seq ++ b.drop 12
  { s with groupRecs := s.groupRecs.set g { seq, recs := ((b ++ le 4 (crc32c b)) :: r.recs).take 32 } }

/-- The records of a standby's own decisions leave its list: those of the groups in `keep` are written, the others dropped
(R263). -/
def State.recordFlush (s : State) (keep : Fin 8 → Bool) : State :=
  s.twin.pendRecs.foldl (fun s x => if h : x.1 < 8 then (if keep ⟨x.1, h⟩ then s.recordWrite ⟨x.1, h⟩ x.2 else s) else s)
    { s with twin := { s.twin with pendRecs := [] } }

/-- Enter a twin state, raising TWIN_STATE (R507; no parameter is named, so both are 0: R656). -/
def State.twinEnter (s : State) (t : TwinState) : State :=
  if s.twin.state = t then s
  else
    let s := if s.twin.state = .standby then s.recordFlush (fun _ => true) else s
    ({ s with twin := { s.twin with state := t } }).raise .twinState

/-- Count a finished drill and tell its result (R515). -/
def State.drillEnd (s : State) (ok : Bool) : State :=
  ({ s with twin := { s.twin with
    drillHold := none, passed := if ok then min 65535 (s.twin.passed + 1) else s.twin.passed
    failed := if ok then s.twin.failed else min 65535 (s.twin.failed + 1) } }).raise .twinDrillDone (b01 ok)

/-- Did this device start the drill that is in progress: it gives at its first handover, and stands by for the second
(R515)? -/
def State.drillMine (s : State) : Bool :=
  (s.twin.drillHold.isSome && s.twin.state != .active) ||
  (match s.twin.handover with | some h => (h.giver && h.drill == 1) || (!h.giver && h.drill == 2) | none => false)

/-- A handover or a drill in progress is broken off; the device that started a drill tells its failure (R515; entry 267). -/
def State.drillBroken (s : State) : State :=
  let t := { s with twin := { s.twin with handover := none, drillHold := none } }
  if s.drillMine then t.drillEnd false else t

/-- LEASE_OUT level (R491). -/
def State.setLeaseOut (s : State) (b : Bool) : State := { s with twin := { s.twin with leaseOut := b } }

end Sys2Proof.Machine
end

