-- ==== Sys2Proof/Machine/SwOps.lean ====
section
/-! DEFINITION. Protected switch channels as named operations: settings, owners, turn-on, turn-off, commands, fault
states (R671 to R695). -/

namespace Sys2Proof.Machine

/-- Light class: SWO16 to SWO23 (R671). -/
def swLight (n : Fin 24) : Bool := decide (16 ≤ n.val)

/-- Factory values of SW_CONFIG (R704). -/
def swFactory (n : Fin 24) : Bytes :=
  [0x10, 0, 3, 0] ++ le 2 (if swLight n then 300 else 1000) ++ le 2 (if swLight n then 600 else 2000) ++
  le 2 100 ++ le 2 100 ++ le 2 500 ++ le 2 0 ++ le 2 2000 ++ le 2 10 ++ List.replicate 12 0

/-- SW_CONFIG in force: stored, or the factory values (R704). -/
def State.swCfg (s : State) (n : Fin 24) : Bytes := (s.nv.cfg.sw[n]).getD (swFactory n)

/-- The owner of a channel: 0 none, 1 port contactor, 2 group discharge, 3 pump, 4 valve, 5 fan (R673, R706). -/
def State.swOwner (s : State) (n : Fin 24) : Nat :=
  let names (v : Vector (Option Bytes) 8) (o : Nat) : Bool :=
    v.toList.any (fun b => match b with | none => false | some b => u8 b o == n.val)
  if names s.nv.cfg.port 4 then 1
  else if names s.nv.cfg.group 1 then 2
  else if names s.nv.cfg.cool 0 then 3
  else if names s.nv.cfg.cool 1 then 4
  else if names s.nv.cfg.cool 2 then 5
  else 0

/-- Strapped keep, disregarded for contactor drives and discharge channels (R692). -/
def State.swKeep (s : State) (n : Fin 24) : Bool :=
  bit (u8 (s.swCfg n) 0) 0 && s.swOwner n != 1 && s.swOwner n != 2

/-- Is the channel conducting: states 1, 2 and 3 (R672)? -/
def SwCh.conducts (c : SwCh) : Bool := c.state == .on || c.state == .inrush || c.state == .limiting

/-- The code of a channel state (R672). -/
def SwState.code : SwState → Nat
  | .off => 0 | .on => 1 | .inrush => 2 | .limiting => 3 | .awaitRetry => 4 | .latched => 5 | .shed => 6 | .retired => 7

/-- The PWM period in ns: round(10^9 / f) (R675). -/
def pwmPeriodNs (f : Nat) : Nat := (2 * 1000000000 + f) / (2 * f)

/-- The duty in force in 0.1 %: PWM duty, 1000 when on, 0 otherwise (R675, R703). -/
def SwCh.duty (c : SwCh) : Nat :=
  if c.conducts then (match c.cmd with | .pwm d => d | _ => 1000) else 0

/-- Is the output of a channel driven at this tick: on, or under PWM from the first tick at or after each whole multiple of the
period for duty x period / 1000 (R672, R675)? -/
def State.swOutput (s : State) (n : Fin 24) : Bool :=
  let c := s.sws[n]
  c.conducts && (match c.cmd with
    | .pwm d =>
      if u16 (s.swCfg n) 14 = 0 then d != 0
      else let p := pwmPeriodNs (u16 (s.swCfg n) 14); decide (s.st % p * 1000 < d * p)
    | _ => true)

/-- Enter a state; leaving state 0 ends an open load (R688), and the ST of the change is kept (R706). -/
def State.swState (s : State) (n : Fin 24) (st : SwState) : State :=
  let c := s.sws[n]
  let s := if c.openLoad && st != .off then s.raise (.swOpenLoadCleared n) else s
  s.modSw n (fun c => { c with state := st, changedSt := if c.state = st then c.changedSt else s.st,
                               openLoad := c.openLoad && st == .off })

/-- The retry count: back at 0 once the channel has stayed on for 1 s; frozen while the thermal latch is set (R684, R685). -/
def State.swRetries (s : State) (n : Fin 24) : Nat :=
  let c := s.sws[n]
  if c.conducts && decide (c.onAt + 1000000000 ≤ (if s.latched then s.nv.tlatch.at_ else s.el)) then 0 else c.retries

/-- A pump's channel turns on, with a duty above 0: its loop's start window opens and a declared draught loss is cleared, whoever
turned the channel on (R374). -/
def State.pumpTurnsOn (s : State) (n : Fin 24) : State :=
  forFin 8 s (fun s p => match s.nv.cfg.cool[p] with
    | some b => if u8 b 0 = n.val then
        { s with cools := s.cools.set p { s.cools[p] with startWin := true, pumpAt := some s.el, draught := false, lowRun := 0 } }
      else s
    | none => s)

/-- Turn a channel off: D3 is to report its clamp, which runs for as long as it carried current (R686). -/
def State.swTurnOff (s : State) (n : Fin 24) (st : SwState := .off) : State :=
  let c := s.sws[n]
  let count := s.swRetries n
  let s := s.modSw n (fun c => { c with slew := false, windowEnd := none, onAfterClamp := false,
                                        noEdge := false, retries := count, clampDue := c.clampDue || c.conducts
                                        clamping := c.clamping || (c.conducts && decide (0 < c.current)) })
  if c.state = .retired then s else s.swState n st

/-- The elapsed time at which the inrush window of a turn-on made now begins: now, or under PWM the first rising
edge, at the next whole multiple of the period (R675, R679). -/
def State.swWindowStart (s : State) (n : Fin 24) : Int :=
  let f := u16 (s.swCfg n) 14
  match s.sws[n].cmd with
  | .pwm _ => if f = 0 then s.el else
      let p := pwmPeriodNs f
      s.el + ((s.st + p - 1) / p * p : Nat) - s.st
  | _ => s.el

/-- Timed inrush: the window opens (R679). -/
def State.swWindow (s : State) (n : Fin 24) : State :=
  (s.modSw n (fun c => { c with windowEnd := some (s.swWindowStart n + 1000000 * u16 (s.swCfg n) 8) })).swState n .inrush

/-- Turn a channel on: slew-controlled (R678, R680), or timed inrush (R679). A running clamp completes first (R701);
a retired channel stays off (R35), and none turns on in the device-fault state (R694). -/
def State.swTurnOn (s : State) (n : Fin 24) (slew : Bool) : State :=
  let c := s.sws[n]
  let b := s.swCfg n
  if c.state = .retired || s.isRetired (tgt 4 n) || s.sys.fault.isSome then s
  else if c.clamping then s.modSw n (fun c => { c with onAfterClamp := true })
  else
    let s := (if c.cmd = .pwm 0 then s else s.pumpTurnsOn n).modSw n (fun c => { c with clampDue := false })
    if slew || bit (u8 b 0) 5 then
      (s.modSw n (fun c => { c with slew := true, windowEnd := some (s.el + 1000000000), onAt := s.el })).swState n .inrush
    else if u16 b 8 = 0 || c.cmd = .pwm 0 then
      (s.modSw n (fun c => { c with slew := false, windowEnd := none, onAt := s.el, noEdge := c.cmd == .pwm 0 })).swState n .on
    else
      (s.modSw n (fun c => { c with slew := false, onAt := s.el })).swWindow n

/-- A channel on with duty 0 takes another duty: its inrush window opens at the first rising edge (R679). -/
def State.swFirstEdge (s : State) (n : Fin 24) : State :=
  let s' := (s.modSw n (fun c => { c with noEdge := false })).pumpTurnsOn n
  if u16 (s.swCfg n) 8 = 0 then s' else s'.swWindow n

/-- A command under which the output is off: off, or duty 0 (R675). -/
def SwCmd.still (c : SwCmd) : Bool := c == .off || c == .pwm 0

/-- Does a command turn a channel on anew, from which its retry count counts: SW_SET each time, an assigning function when it had
the channel off (R684; not under the latch, R685; DEDUCED, entry 309)? -/
def State.swAnew (s : State) (n : Fin 24) (cmd : SwCmd) (assigned : Bool) : Bool :=
  !cmd.still && !s.latched && (!assigned || s.sws[n].cmd.still)

/-- Give a channel its commanded state (R700, R705, R677). The command is only recorded on a twin that does not
drive (R506), under the thermal latch or in the device-fault state (R721, R694), while the channel is shed, awaits a
retry or is latched and not freed. -/
def State.swCommand (s : State) (n : Fin 24) (cmd : SwCmd) (slew assigned : Bool) : State :=
  let c := s.sws[n]
  let anew := s.swAnew n cmd assigned
  let s := s.modSw n (fun c => { c with cmd := cmd, slewAsk := slew, lost := false, restore := false
                                        retries := if anew then 0 else c.retries })
  if !s.driving || s.latched || s.sys.fault.isSome then s
  else match c.state with
  | .retired => s
  | .shed => if cmd = .off then s.swState n .off else s
  | .awaitRetry => s
  | .latched =>
    if assigned && anew then s.swTurnOn n slew else s
  | .off =>
    if cmd = .off then s else s.swTurnOn n slew
  | _ =>
    if cmd = .off then s.swTurnOff n
    else if c.noEdge && cmd != .pwm 0 && c.state == .on then s.swFirstEdge n
    else s

/-- An assigning function drives its channel: a duty in 0.1 %, as PWM where a frequency is configured, else on for
any duty but 0 (R677). -/
def State.swDrive (s : State) (n : Fin 24) (duty : Nat) : State :=
  let cmd : SwCmd :=
    if u16 (s.swCfg n) 14 ≠ 0 then .pwm duty else if duty = 0 then .off else .on
  if s.sws[n].cmd = cmd then s else s.swCommand n cmd false true

/-- Every channel goes to its fault state: off, or hold for a keep channel with fault hold (R694). Channels off
under their own protection stay as they are (R685). -/
def State.swFaultStates (s : State) : State :=
  forFin 24 s (fun s n =>
    if s.swKeep n && bit (u8 (s.swCfg n) 0) 2 then s.modSw n (fun c => { c with held := true })
    else if s.sws[n].conducts then s.swTurnOff n else s)

/-- Every channel off, keep channels included: release of the twin lease (R509, R701). -/
def State.swAllOff (s : State) : State :=
  forFin 24 s (fun s n => if s.sws[n].conducts then s.swTurnOff n else s)

/-- Commanded states are put on the outputs again, as when the device begins to drive (R506) or at wake (R695):
slew-controlled turn-on where `slew`. -/
def State.swApplyAll (s : State) (slew : Bool) : State :=
  forFin 24 s (fun s n =>
    if s.sws[n].state = .off && s.sws[n].cmd != .off && !s.latched then s.swTurnOn n slew else s)

/-- Rank of shedding (R698): 1 light, 2 light in inrush, 3 heavy, 4 heavy in inrush; none for a channel never shed, nor for one
in state 3, which adds nothing to the figure (R696, R701; DEDUCED, entry 276). -/
def State.swRank (s : State) (n : Fin 24) : Option Nat :=
  let c := s.sws[n]
  if !(c.state == .on || c.state == .inrush) || c.held then none
  else if s.swOwner n = 1 || s.swOwner n = 2 then none
  else some (if swLight n then (if c.state = .inrush then 2 else 1) else (if c.state = .inrush then 4 else 3))

/-- Shed order key: rank, then priority, then higher channel number first (R698). -/
def State.swShedKey (s : State) (n : Fin 24) : Nat :=
  ((s.swRank n).getD 9) * 1000 + u8 (s.swCfg n) 1 * 100 + (23 - n.val)

/-- Restore order key: heavy before light, higher priority first, lower channel number first (R699). -/
def State.swRestoreKey (s : State) (n : Fin 24) : Nat :=
  b01 (swLight n) * 1000 + (3 - u8 (s.swCfg n) 1) * 100 + n.val

/-- The element of a list with the least key. -/
def minBy {α : Type} (key : α → Nat) : List α → Option α
  | [] => none
  | a :: l => match minBy key l with
    | none => some a
    | some b => if key a ≤ key b then some a else some b

/-- Mean of a list, 0 for none; divided by `n`. -/
def meanOver (n : Nat) (l : List Nat) : Nat := l.sum / n

/-- A channel's 1 s mean of conduction power, mW (R696, R699). -/
def SwCh.mean1s (c : SwCh) : Nat := meanOver 10 c.means

/-- The budget figure: the mean over the last 10 windows of the sum (R696). -/
def State.budgetFigure (s : State) : Nat := meanOver 10 s.budget.sums

/-- Set the budget in force by throttling, raising BUDGET_THROTTLED at a change (R697). -/
def State.setBudget (s : State) : State :=
  let b := if s.therm.throttle then 3000 else 6000
  if s.budget.limit = b then s
  else ({ s with budget := { s.budget with limit := b } }).raise .budgetThrottled b

/-- SW.CSTAT (R703). -/
def State.swStat (s : State) (n : Fin 24) : Nat :=
  let c := s.sws[n]
  c.state.code + 8 * b01 c.openLoad + 16 * b01 (s.swKeep n) +
  32 * b01 (c.conducts && (match c.cmd with | .pwm _ => true | _ => false)) + 64 * b01 (s.swOwner n != 0) +
  128 * b01 (swLight n) + 256 * b01 c.slew + 512 * b01 s.latched + 1024 * b01 c.lost +
  2048 * u8 (s.swCfg n) 1 + 8192 * min 7 (s.swRetries n)

end Sys2Proof.Machine
end

