-- ==== Sys2Proof/Machine/CanOps.lean ====
section
/-! DEFINITION. CAN controllers as named operations: settings, records, modes, counters, transmit classes (R529 to
R556). -/

namespace Sys2Proof.Machine

/-- Factory section 0 of controller `n` (R533); it receives into its boot-default queue (R633). -/
def canFactory (n : Fin 8) : Bytes :=
  [0, 5] ++ le 2 2 ++ le 2 63 ++ [16, 16, 2, 15, 4, 4, 0, 0] ++ le 1 (2 + n.val) ++ List.replicate 9 0

/-- Section 0 in force (R533, R553). -/
def State.canCfg (s : State) (n : Fin 8) : Bytes := (s.cans[n].cfg0).getD (canFactory n)

/-- FD enabled (R552). -/
def State.canFd (s : State) (n : Fin 8) : Bool := bit (u8 (s.canCfg n) 1) 0

/-- Fabric frames go as FD with bit rate switch (R545, R553). -/
def State.canFabricFd (s : State) (n : Fin 8) : Bool := s.canFd n && bit (u8 (s.canCfg n) 1) 5

/-- Automatic recovery (R553). -/
def State.canAuto (s : State) (n : Fin 8) : Bool := bit (u8 (s.canCfg n) 1) 2

/-- The receive queue: the boot-default queue during the lee period (R536), the configured one later. -/
def State.canQueue (s : State) (n : Fin 8) : Fin 128 :=
  let q := u8 (s.canCfg n) 14
  if s.sys.lee then ⟨2 + n.val, by omega⟩ else if h : q < 128 then ⟨q, h⟩ else ⟨2 + n.val, by omega⟩

/-- Mode codes (R534). -/
def CanMode.code : CanMode → Nat
  | .normal => 0 | .restricted => 1 | .monitor => 2 | .off => 3

/-- Mode of a code. -/
def canModeOf (c : Nat) : CanMode :=
  if c = 0 then .normal else if c = 1 then .restricted else if c = 2 then .monitor else .off

/-- State codes (R539). -/
def CanState.code : CanState → Nat
  | .active => 0 | .passive => 1 | .busOff => 2

/-- Update controller `n`. -/
def State.modCan (s : State) (n : Fin 8) (f : Can → Can) : State := { s with cans := s.cans.set n (f s.cans[n]) }

/-- DLC of a data length (R539, R554). -/
def dlcOf (n : Nat) : Nat :=
  if n ≤ 8 then n else if n ≤ 12 then 9 else if n ≤ 16 then 10 else if n ≤ 20 then 11 else if n ≤ 24 then 12
  else if n ≤ 32 then 13 else if n ≤ 48 then 14 else 15

/-- Write a record to the receive queue (R538 to R540, R653). -/
def State.canRecord (s : State) (n : Fin 8) (stamp ident dlc kind : Nat) (own : Bool) (data : Bytes) : State :=
  let c := s.cans[n]
  let fl := kind + 4 * b01 c.lee + 8 * b01 c.lost + 16 * b01 own
  let pkt := le 8 stamp ++ le 4 ident ++ le 1 dlc ++ le 1 data.length ++ le 1 n ++ le 1 fl ++ data
  if s.sys.lee then (s.offerRx (s.canQueue n) pkt).1
  else
    let (s', ok) := s.offerPacket (s.canQueue n) pkt
    if ok then s'.modCan n (fun c => { c with lost := false, dropRaised := false })
    else
      let s' := if c.dropRaised then s' else s'.raise (.canRxDrop n)
      s'.modCan n (fun c => { c with lost := true, dropRaised := true, drops := c.drops + 1 })

/-- Write a state record after a change, also of the warning mark (R539, R548). -/
def State.canMarkRec (s : State) (n : Fin 8) (oldMode : CanMode) (oldState : CanState) (cause : Nat) : State :=
  let c := s.cans[n]
  s.canRecord n s.st 0 0 2 false
    (le 1 (oldMode.code + 16 * oldState.code) ++ le 1 (c.mode.code + 16 * c.state.code) ++ le 2 c.txErr ++ le 2 c.rxErr ++
      le 1 cause ++ [0])

/-- A mode or state has changed: its ST is kept (R556) and its state record written (R539). -/
def State.canStateRec (s : State) (n : Fin 8) (oldMode : CanMode) (oldState : CanState) (cause : Nat) : State :=
  (s.modCan n (fun c => { c with changedSt := s.st })).canMarkRec n oldMode oldState cause

/-- A mode takes effect (R535): from the first that does so after ready on, the boot mode or one that replaced it, the lee mark is clear
(R551, R552). -/
def State.canSetMode (s : State) (n : Fin 8) (m : CanMode) (cause : Nat) : State :=
  let c := s.cans[n]
  let s := s.modCan n (fun c => { c with mode := m, next := none })
  let s := if c.mode = m then s else s.canStateRec n c.mode c.state cause
  if s.sys.ready then s.modCan n (fun c => { c with lee := false }) else s

/-- Ask for a mode: it waits for bus idle; from off the change starts at once (R535). -/
def State.canAskMode (s : State) (n : Fin 8) (m : CanMode) (cause : Nat) : State :=
  if s.cans[n].mode = .off then s.canSetMode n m cause
  else s.modCan n (fun c => { c with next := some (m, cause) })

/-- Enter bus-off (R548, R550). -/
def State.canBusOff (s : State) (n : Fin 8) (cause : Nat) : State :=
  let c := s.cans[n]
  if c.state = .busOff then s
  else
    let s := s.modCan n (fun c => { c with state := .busOff, boffs := c.boffs + 1, recovering := cause == 0 && s.canAuto n })
    (s.canStateRec n c.mode c.state cause).raise (.canBusOff n)

/-- The counters take new values; mark and state follow (R548). A controller that does not count is left as it is
(R534). -/
def State.canCounters (s : State) (n : Fin 8) (tec rxe : Nat) : State :=
  let c := s.cans[n]
  if c.mode != .normal || c.state = .busOff then s
  else
    let s := s.modCan n (fun c => { c with txErr := min tec 511, rxErr := min rxe 511 })
    let hi := decide (96 ≤ tec || 96 ≤ rxe)
    let s := s.modCan n (fun c => { c with warn := hi })
    let s := if hi != c.warn then s.canMarkRec n c.mode c.state 0 else s
    let s := if hi && !c.warn then s.raise (.canErrorWarning n) else s
    if 255 < tec then s.canBusOff n 0
    else if (127 < tec || 127 < rxe) && c.state = .active then
      ((s.modCan n (fun c => { c with state := .passive })).canStateRec n c.mode .active 0).raise (.canErrorPassive n)
    else if tec ≤ 127 && rxe ≤ 127 && c.state = .passive then
      ((s.modCan n (fun c => { c with state := .active })).canStateRec n c.mode .passive 0).raise (.canErrorActive n)
    else s

/-- Count an expired frame and raise CAN_TX_EXPIRED with its identifier (R544). -/
def State.canExpired (s : State) (n : Fin 8) (ident : Nat) : State :=
  (s.modCan n (fun c => { c with exps := c.exps + 1 })).raise (.canTxExpired n) ident

/-- Queue a frame in class 0: it replaces the entry of its stream or feeder; a stream's old frame expires (R542,
R544). The entry keeps its place, also in a transmission that has begun: what is then sent is the new frame (DESIGN CHOICE,
entry 270). -/
def State.canQueue0 (s : State) (n : Fin 8) (f : TxFrame) (stream : Bool) : State :=
  let f := { f with at_ := s.st, copy := !s.holdsTwin }
  let old := s.cans[n].tx0.filter (·.key == f.key)
  let s := match old with
    | o :: _ => if stream then s.canExpired n o.ident else s
    | [] => s
  let put := fun (l : List TxFrame) => if old = [] then l ++ [f] else l.map (fun x => if x.key = f.key then { f with at_ := x.at_ } else x)
  s.modCan n (fun c => { c with tx0 := put c.tx0 })

/-- Queue a frame in class 1: when full, the oldest is withdrawn and counted (R542). -/
def State.canQueue1 (s : State) (n : Fin 8) (f : TxFrame) : State :=
  let f := { f with at_ := s.st }
  match s.cans[n].tx1 with
  | o :: rest =>
    if 16 ≤ rest.length + 1 then
      (s.canExpired n o.ident).modCan n (fun c => { c with tx1 := rest ++ [f] })
    else s.modCan n (fun c => { c with tx1 := c.tx1 ++ [f] })
  | [] => s.modCan n (fun c => { c with tx1 := [f] })

/-- Next value of the counter of originated packets and tagged frames (R500, R596). -/
def State.nextSeq (s : State) : Nat × State :=
  ((s.seqCtr + 1) % 2 ^ 32, { s with seqCtr := (s.seqCtr + 1) % 2 ^ 32 })

/-- The twin tag of a frame (R508): sequence bits [30:0], twin flag of a non-holder. -/
def State.twinTag (s : State) : Bytes × State :=
  let (q, s') := s.nextSeq
  (le 4 (q % 2 ^ 31 + 2 ^ 31 * b01 (!s.holdsTwin)), s')

/-- An identifier coded as in R165: its number, and extended or base. -/
def identNum (i : Nat) : Nat := i % 2 ^ 29
def identExt (i : Nat) : Bool := bit i 31

/-- Is an identifier coded as in R165 out of range? -/
def identBad (v : Nat) : Bool := decide ((if identExt v then 2 ^ 29 else 2 ^ 11) ≤ identNum v) || bits v 30 29 != 0

/-- Arbitration value, compared as on the bus: base identifier, then the 11-bit boundary, remote and extended bits
(R543). The lower wins. -/
def arbValue (f : TxFrame) : Nat :=
  let r := b01 (bit f.ident 30)
  if identExt f.ident then
    let i := identNum f.ident
    ((i / 2 ^ 18 % 2 ^ 11) * 4 + 3) * 2 ^ 19 + (i % 2 ^ 18) * 2 + r
  else ((identNum f.ident % 2 ^ 11) * 4 + 2 * r) * 2 ^ 19

/-- The copy identifier of a frame: its own plus the twin offset (R508, R526). -/
def State.copyIdent (s : State) (ident : Nat) : Nat :=
  let off := identNum (u32 ((s.nv.cfg.twin).getD []) 10)
  if identExt ident then (identNum ident + off) % 2 ^ 29 + 2 ^ 31 else (identNum ident + off) % 2 ^ 11

/-- Does this device, without the twin lease, send copies on CAN: TWIN_CONFIG enables them and its twin state transmits (R506,
R508)? -/
def State.canCopying (s : State) : Bool :=
  bit (u8 ((s.nv.cfg.twin).getD []) 2) 0 && (s.twin.state == .syncing || s.twin.state == .standby || s.twin.state == .carry)

/-- May a queued frame be sent: the holder sends its own frames, another twin only tagged copies (R506, R508; entry 271); what
is being sent at a release completes (R537)? -/
def State.canMay (s : State) (n : Fin 8) (f : TxFrame) : Bool := s.holdsTwin || (f.copy && s.canCopying) || s.cans[n].released

/-- The frame that a controller offered at an ST: the lowest arbitration value among the heads of the classes, a tie to the
lower class (R543). -/
def State.canOffered (s : State) (n : Fin 8) (sof : Nat) : Option (Nat × TxFrame) :=
  let c := s.cans[n]
  let head := fun (k : Nat) (l : List TxFrame) => match l with
    | f :: _ => if f.at_ ≤ sof && s.canMay n f then [(k, f)] else []
    | [] => []
  minBy (fun h => arbValue h.2 * 4 + h.1) (head 0 c.tx0 ++ head 1 c.tx1 ++ head 2 c.tx2)

/-- Take the head of a class away. -/
def Can.popClass (c : Can) (k : Nat) : Can :=
  if k = 0 then { c with tx0 := c.tx0.drop 1 } else if k = 1 then { c with tx1 := c.tx1.drop 1 }
  else { c with tx2 := c.tx2.drop 1 }

/-- A controller retires: held in bus-off, its queues keep their contents; the state record carries cause 3 (R35,
R550). -/
def State.canRetire (s : State) (n : Fin 8) : State :=
  let c := s.cans[n]
  let s := s.modCan n (fun c => { c with state := .busOff, recovering := false })
  s.canStateRec n c.mode c.state 3

/-- Release: monitor mode at bus idle until reset (R537). -/
def State.canRelease (s : State) : State :=
  forFin 8 s (fun s n => (s.modCan n (fun c => { c with released := true })).canAskMode n .monitor 6)

end Sys2Proof.Machine
end

