-- ==== Sys2Proof/Machine/GroupCfg.lean ====
section
/-! DEFINITION. Settings of groups, phase slots and loop engines read from the stored payloads (R213, R253 to R255,
R292), with the factory values of R792. -/

namespace Sys2Proof.Machine

/-- GROUP_CONFIG in force; before one is accepted no slot, no port, no lane (R292). -/
def State.gCfg (s : State) (g : Fin 8) : Bytes :=
  (s.nv.cfg.group[g]).getD ([0xFF, 0xFF, 1, 32] ++ le 8 0 ++ List.replicate 6 0xFF ++ le 2 0 ++
    List.replicate 24 0xFF ++ List.replicate 20 0)

/-- Port served (R292). -/
def State.gPort (s : State) (g : Fin 8) : Option (Fin 8) :=
  let p := u8 (s.gCfg g) 0
  if h : p < 8 then some ⟨p, h⟩ else none

/-- Discharge channel (R292). -/
def State.gDischarge (s : State) (g : Fin 8) : Option (Fin 24) :=
  let c := u8 (s.gCfg g) 1
  if h : c < 16 then some ⟨c, by omega⟩ else none

/-- Minimum slots in service (R292). -/
def State.gMin (s : State) (g : Fin 8) : Nat := u8 (s.gCfg g) 2

/-- Slot mask (R292). -/
def State.gMask (s : State) (g : Fin 8) : Nat := u64 (s.gCfg g) 4 % 2 ^ 48

/-- The group's slots in ascending order (R171). -/
def State.gSlots (s : State) (g : Fin 8) : List Nat := bitsOf 48 (s.gMask g)

/-- Lanes of V_out, I_out and V_in (R221). -/
def State.gVoutLane (s : State) (g : Fin 8) : Nat := u16 (s.gCfg g) 12
def State.gIoutLane (s : State) (g : Fin 8) : Nat := u16 (s.gCfg g) 14
def State.gVinLane (s : State) (g : Fin 8) : Nat := u16 (s.gCfg g) 16

/-- Position of slot `n` among the group's slots in ascending order. -/
def State.slotIndex (s : State) (g : Fin 8) (n : Nat) : Nat := (s.gSlots g).idxOf n

/-- Phase current lane of slot `n` (R292). -/
def State.gPhaseLane (s : State) (g : Fin 8) (n : Nat) : Nat := u16 (s.gCfg g) (20 + 2 * s.slotIndex g n)

/-- The group that a slot belongs to (R171). -/
def State.slotGroup (s : State) (n : Nat) : Option (Fin 8) :=
  (List.finRange 8).find? (fun g => (s.gMask g).testBit n)

/-- Is the slot retired (R286)? -/
def State.slotRetired (s : State) (n : Nat) : Bool := s.isRetired (tgt 2 n)

/-- Suspended (R278)? -/
def State.slotSuspended (s : State) (n : Nat) : Bool := (vget s.slots n {}).suspended

/-- The group's slots in service, in ascending order (R210). -/
def State.inService (s : State) (g : Fin 8) : List Nat :=
  (s.gSlots g).filter (fun n => !s.slotRetired n && !s.slotSuspended n)

/-- Slots in service counted once suspended slots have returned (R210, R260). -/
def State.serviceAtStart (s : State) (g : Fin 8) : Nat :=
  ((s.gSlots g).filter (fun n => !s.slotRetired n)).length

/-- Factory values of PWM_WRITE section 0 (R792). -/
def pwmFactory : Bytes :=
  [0, 0, 0, 0] ++ le 4 40000 ++ le 4 512 ++ le 4 512 ++ le 2 0 ++ le 2 4 ++ [1, 0] ++ le 2 1 ++ le 8 0 ++ le 8 0

/-- Shadow group values: the stored PWM_WRITE section 0, or the factory values (R213, R791, R792). -/
def State.pwmCfg (s : State) (g : Fin 8) : Bytes := (s.nv.cfg.pwm[g]).getD pwmFactory

/-- Shadow period, coarse steps (R213). -/
def State.shP (s : State) (g : Fin 8) : Nat := u32 (s.pwmCfg g) 4

/-- Shadow output mode (R213). -/
def State.shMode (s : State) (g : Fin 8) : Nat := u8 (s.pwmCfg g) 2

/-- Shadow dead times, fine steps (R213). -/
def State.shDtHL (s : State) (g : Fin 8) : Nat := u32 (s.pwmCfg g) 8
def State.shDtLH (s : State) (g : Fin 8) : Nat := u32 (s.pwmCfg g) 12

/-- Shadow group values as a slot takes them at its pickup, with the round's period (R192). -/
def State.shVals (s : State) (g : Fin 8) (period : Nat) : GVals :=
  let b := s.pwmCfg g
  { period, dtHL := u32 b 8, dtLH := u32 b 12, blank := u16 b 16, minPulse := u16 b 18 }

/-- Trip count N, window M and enable of a slot, in force at once (R214). -/
def State.tripN (s : State) (g : Fin 8) : Nat := u8 (s.pwmCfg g) 20
def State.tripM (s : State) (g : Fin 8) : Nat := u16 (s.pwmCfg g) 22
def State.tripEn (s : State) (g : Fin 8) (n : Nat) : Bool := (u64 (s.pwmCfg g) 24).testBit n

/-- LOOP_PARAM sections as stored, or zeros (R253, R792). -/
def State.loopPar (s : State) (g : Fin 8) (sec : Nat) : Bytes :=
  (if sec = 0 then s.nv.cfg.loop0[g] else if sec = 1 then s.nv.cfg.loop1[g] else s.nv.cfg.loop2[g]).getD
    (le 1 sec ++ List.replicate 55 0)

/-- LOOP_PROFILE as stored, or zeros (R255, R792). -/
def State.profCfg (s : State) (g : Fin 8) : Bytes := (s.nv.cfg.profile[g]).getD (List.replicate 32 0)

/-- Fully configured: PWM_WRITE section 0, LOOP_PARAM 0 to 2 and LOOP_PROFILE accepted (R792). -/
def State.fullyConfigured (s : State) (g : Fin 8) : Bool :=
  s.nv.cfg.pwm[g].isSome && s.nv.cfg.loop0[g].isSome && s.nv.cfg.loop1[g].isSome && s.nv.cfg.loop2[g].isSome &&
  s.nv.cfg.profile[g].isSome

/-- A limit in decimal units of 10^-k to 40 fraction bits, nearest, ties away from zero (R794). -/
def q40 (v k : Nat) : Int := ((2 * v * 2 ^ 40 + 10 ^ k) / (2 * 10 ^ k) : Nat)

/-- The six limits of LOOP_PROFILE in the internal format (R255, R794). -/
def limitsOf (b : Bytes) : List Int :=
  [q40 (u32 b 0) 3, q40 (u32 b 4) 6, q40 (u32 b 8) 9, q40 (u32 b 12) 3, q40 (u32 b 16) 6, q40 (u32 b 20) 9]

/-- Update group `g`. -/
def State.modG (s : State) (g : Fin 8) (f : Group → Group) : State := { s with groups := s.groups.set g (f s.groups[g]) }

/-- Update the timebase of group `g`. -/
def State.modPwm (s : State) (g : Fin 8) (f : Pwm → Pwm) : State := s.modG g (fun x => { x with pwm := f x.pwm })

/-- Update the loop engine of group `g`. -/
def State.modLoop (s : State) (g : Fin 8) (f : Loop → Loop) : State := s.modG g (fun x => { x with loop := f x.loop })

/-- Update the protection of group `g`. -/
def State.modProt (s : State) (g : Fin 8) (f : Prot → Prot) : State := s.modG g (fun x => { x with prot := f x.prot })

/-- A capture record of PWM edges, trips and pickups (R624, kind 3): 0 H rise, 1 H fall, 2 L rise, 3 L fall, 4 trip acted
on, 5 trip blanked, 6 pickup. -/
def State.edgeNote (s : State) (n ev stamp : Nat) : State :=
  match s.slotGroup n with
  | none => s
  | some g => s.capNote 3 g stamp (le 8 stamp ++ le 1 n ++ le 1 ev ++ List.replicate 6 0)

/-- Update slot `n`, nothing past slot 47; edges of its outputs are noted for captures (R624). -/
def State.modSlot (s : State) (n : Nat) (f : Slot → Slot) : State :=
  let a := vget s.slots n {}
  let b := f a
  let s := { s with slots := vset s.slots n b }
  let s := if a.outH = b.outH then s else s.edgeNote n (if b.outH then 0 else 1) s.st
  if a.outL = b.outL then s else s.edgeNote n (if b.outL then 2 else 3) s.st

/-- Slot `n`. -/
def State.slot (s : State) (n : Nat) : Slot := vget s.slots n {}

/-- State of group `g`. -/
def State.gState (s : State) (g : Fin 8) : GState := s.groups[g].prot.state

/-- The code of a group state, in the order of R259. -/
def GState.code : GState → Nat
  | .off => 0 | .precheck => 1 | .softstart => 2 | .run => 3 | .rampdown => 4 | .discharge => 5 | .faulted => 6

/-- Does the loop engine compute: SOFTSTART, RUN or RAMPDOWN without a hard stop or driven-low outputs, with drive
source loop engine (R220, R259)? -/
def State.loopActive (s : State) (g : Fin 8) : Bool :=
  let p := s.groups[g].prot
  !s.groups[g].pwm.test && !p.laneFault &&
  (p.state == .softstart || p.state == .run || (p.state == .rampdown && !p.low)) &&
  (match p.stop with | some t => t.cls != 2 | none => true)

end Sys2Proof.Machine
end

