-- ==== Sys2Proof/Machine/PwmOps.lean ====
section
/-! DEFINITION. The phase generator as named operations: grids, pieces, load-alls, pickups, cuts (R170 to R218). -/

namespace Sys2Proof.Machine

/-- The present tick in fine steps of elapsed time: 1 fine step is 2.5 ns / 64 (R174, R79). -/
def State.fine (s : State) : Int := (((s.clk.fix : Int) - s.clk.moved * 2 ^ 32) * 128).fdiv (5 * 2 ^ 32)

/-- The interleave offset of position k: round(k x 64P / n), halves up (R175). -/
def offsetOf (k n p : Nat) : Nat := if n = 0 then 0 else (2 * k * 64 * p + n) / (2 * n)

/-- ST of an instant given in fine steps of elapsed time, its integer part (R73). -/
def State.fineStamp (s : State) (f : Int) : Nat := ((f * 5).fdiv 128 + s.clk.moved).toNat

/-- ST of an instant given in fine steps of elapsed time, in whole ns, the tick at or after it (R73). -/
def State.fineToSt (s : State) (f : Int) : Nat := (-((-(f * 5)).fdiv 128) + s.clk.moved).toNat

/-- ST of the first fabric tick at or after an instant in fine steps of elapsed time, counted from the present tick at the
increment in force (R73, R178; entry 279). -/
def State.tickSt (s : State) (f : Int) : Nat :=
  let ahead := f * 5 * 2 ^ 25 + s.clk.moved * 2 ^ 32 - s.clk.fix
  ((s.clk.fix - (-ahead).fdiv s.clk.incr * s.clk.incr).fdiv (2 ^ 32)).toNat

/-- The next period start of a slot (R176). -/
def Slot.next (x : Slot) : Int := x.start + x.len

/-- Position of slot `n` among the slots in service (R175). -/
def State.position (s : State) (g : Fin 8) (n : Nat) : Nat := (s.inService g).idxOf n

/-! ### Edges (R179 to R182, R196) -/

/-- High pieces of an output from its rise and fall over one period of `len` fine steps whose full length is `full`:
nothing beyond 64P, pieces shorter than the minimum pulse not emitted, nothing beyond the end of the period. -/
def pieces (rise fall full len minP : Nat) : List (Nat × Nat) :=
  let raw := if rise < fall then [(rise, min fall full)] else if fall < rise then [(0, min fall full), (rise, full)] else []
  ((raw.filter (fun p => decide (minP * 64 ≤ p.2 - p.1))).filter (fun p => decide (p.1 < len))).map
    (fun p => (p.1, min p.2 len))

/-- PWM_L of mode 0: high over [H_FALL + DT_hl, H_RISE - DT_lh) modulo 64P, low when that is empty or shorter than
the minimum pulse (R181). -/
def piecesLow (c : Compares) (v : GVals) (len : Nat) : List (Nat × Nat) :=
  let full := 64 * v.period
  let gap := if c.hRise = c.hFall then full else (full + c.hRise - c.hFall) % full
  let w := gap - v.dtHL - v.dtLH
  if w = 0 || w = full || w < v.minPulse * 64 then []
  else
    let a := (c.hFall + v.dtHL) % full
    let b := a + w
    if b ≤ full then pieces a b full len v.minPulse
    else pieces a (b - full) full len v.minPulse

/-- Pieces of PWM_H in the present period of a slot, before any cut. -/
def Slot.piecesH (x : Slot) : List (Nat × Nat) :=
  pieces x.force.hRise x.force.hFall (64 * x.vals.period) x.len x.vals.minPulse

/-- Does a list of pieces hold the instant `o` counted from the period start? -/
def inPiece (l : List (Nat × Nat)) (o : Int) : Bool :=
  l.any (fun p => decide ((p.1 : Int) ≤ o) && decide (o < p.2))

/-- Pieces of PWM_L in the present period. A cut of a high PWM_H in mode 0 takes the place of H_FALL: PWM_L rises DT_hl
after it and falls at its scheduled fall (R181, R201). Where PWM_H was low at the cut, PWM_L keeps its schedule
(DEDUCED, entry 41). -/
def Slot.piecesL (x : Slot) (mode : Nat) : List (Nat × Nat) :=
  if mode = 0 then
    match x.cut with
    | none => piecesLow x.force x.vals x.len
    | some c =>
      if !inPiece x.piecesH (c - x.start) then piecesLow x.force x.vals x.len
      else
        let full := 64 * x.vals.period
        let o := (c - x.start).toNat
        let a := o + x.vals.dtHL
        -- the fall comes DT_lh before the first rise of PWM_H after the cut
        let fall := min full ((if o < x.force.hRise then x.force.hRise else full + x.force.hRise) - x.vals.dtLH)
        if decide (a < fall) && decide (x.vals.minPulse * 64 ≤ fall - a) && decide (a < x.len) then [(a, min fall x.len)]
        else []
  else if mode = 1 then pieces x.force.lRise x.force.lFall (64 * x.vals.period) x.len x.vals.minPulse
  else []

/-- Pieces of PWM_L with the trip action: a cut under action 1 holds both outputs low for the rest of the period (R201). -/
def Slot.lowPieces (x : Slot) (mode action : Nat) : List (Nat × Nat) :=
  if x.cut.isSome && action = 1 then [] else x.piecesL mode

/-- The instant at which an edge due at `e` is placed, at the tick `now`: its fine step, or with the delay line out of range
the nearest coarse tick, halves up; an edge that the tick before left is placed at this one (R178, R188). -/
def edgeInstant (coarse : Bool) (now e : Int) : Int :=
  if e ≤ now - 64 then now
  else if !coarse then e
  else if e < now then (if 32 < now - e then now - 64 else now)
  else if e - now < 32 then now else now + 64

/-- Physical tap of fine code `c` when `t` taps span a fabric period: round(c x T / 64), halves up (R186). -/
def tapOf (t c : Nat) : Nat := (2 * c * t + 64) / 128

/-- Open a blanking window at the target of an edge (R200). -/
def Slot.blankAt (x : Slot) (t : Int) : Slot :=
  let w := x.blanks.filter (fun b => decide (t - 204800 ≤ b.2))
  { x with blanks := if x.vals.blank = 0 then w else w ++ [(t, t + 64 * x.vals.blank)] }

/-- Drive PWM_H low: the edge's target and the instant at which it is placed. -/
def Slot.fallH (x : Slot) (e placed : Int) : Slot :=
  if x.outH then ({ x with outH := false, fellH := some placed, delayH := false } : Slot).blankAt e
  else { x with delayH := false }

/-- Drive PWM_L low: the edge's target and the instant at which it is placed. -/
def Slot.fallL (x : Slot) (e placed : Int) : Slot :=
  if x.outL then ({ x with outL := false, fellL := some placed, delayL := false } : Slot).blankAt e
  else { x with delayL := false }

/-- Both outputs low at an instant (R172). -/
def Slot.bothLow (x : Slot) (t : Int) : Slot := (x.fallH t t).fallL t t

/-- The outputs at a period start follow the new period's values (R180): one that is not high there falls, one that is high
stays so. A rise at the start is an edge of its own. -/
def Slot.settle (x : Slot) (mode : Nat) (now : Int) : Slot :=
  let at_ := edgeInstant x.coarse now x.start
  let x := if !inPiece x.piecesH 0 then x.fallH x.start at_ else if x.outH then { x with roseH := some x.start } else x
  if !inPiece (x.piecesL mode) 0 then x.fallL x.start at_ else if x.outL then { x with roseL := some x.start } else x

/-- A period begins at `t` with length `len`, at the tick `now`: an output still high at the end of a transitional period is
driven low (R196), the trip record moves on (R202, R205), outputs settle (R180). -/
def Slot.begin (x : Slot) (t : Int) (len : Nat) (trans : Bool) (mode m : Nat) (now : Int) : Slot :=
  let ran := decide (0 < x.len)
  let at_ := edgeInstant x.coarse now t
  let x : Slot := if ran && x.trans then (x.fallH t at_).fallL t at_ else x
  let x : Slot := { x with
    trips := if ran then (x.tripped :: x.trips).take m else x.trips
    tripRun := if ran then (if x.tripped then x.tripRun + 1 else 0) else x.tripRun
    tripRunWas := if ran then x.tripRun else x.tripRunWas
    start := t, len, trans, tripped := false, cut := none, delayH := false, delayL := false }
  x.settle mode now

/-- Tripped periods among the last `m`, the present one included while there is one (R205, R206, R212). -/
def Slot.tripCount (x : Slot) (m : Nat) : Nat := ((if x.len = 0 then x.trips else x.tripped :: x.trips).take m).countP id

/-- The present period ends its part in the trip record (R205, R207): it becomes the newest of the last `m`. -/
def Slot.tripEnd (x : Slot) (m : Nat) : Slot :=
  { x with trips := if 0 < x.len then (x.tripped :: x.trips).take m else x.trips, tripped := false }

/-! ### Timebase -/

/-- Stop the timebase: outputs low, nothing armed, nothing held (R172, R209, R216). -/
def State.pwmStop (s : State) (g : Fin 8) : State :=
  let t := s.fine
  let s := forNums (s.gSlots g) s (fun s n => s.modSlot n (fun x =>
    { (x.tripEnd (s.tripM g)).bothLow t with armed := false, len := 0, trans := false, cut := none }))
  s.modPwm g (fun p => { p with running := false, held := false, respace := false, roundP := none })

/-- Start the timebase: mode and trip action, period and group values of the shadows come into force, the first
reference boundary is the first whole multiple of P x 2.5 ns of ST at or after this tick, and every slot in service
is armed for its first period start (R176, R189, R207, R214). -/
def State.pwmStart (s : State) (g : Fin 8) : State :=
  let p := s.shP g
  let full : Int := 64 * p
  let stFine : Int := ((s.clk.fix : Int) * 128).fdiv (5 * 2 ^ 32)
  let b := s.fine + ((-((-stFine).fdiv full)) * full - stFine)
  let l := s.inService g
  let n := l.length
  let s := forNums l s (fun s k => s.modSlot k (fun x =>
    { x with start := b + offsetOf (l.idxOf k) n p, len := 0, trans := false, armed := true, trips := [], tripRun := 0, tripRunWas := 0,
             tripped := false, cut := none, blanks := [], vals := s.shVals g p, force := {}, outH := false, outL := false,
             fellH := none, fellL := none, roseH := none, roseL := none, tripHeld := none, points := [], pick := none }))
  s.modPwm g (fun w => { w with
    running := true, mode := s.shMode g, tripAction := u8 (s.pwmCfg g) 3, period := p, ref := b, grid := l, lead := 0,
    held := false, respace := false, leadStart := b, roundP := none, roundChange := false, round := l, roundSpace := false
    roundLead := 0,
    loadCnt := 0, heldCnt := 0, dtRaised := false })

/-- Is any slot of the group armed (R191)? -/
def State.anyArmed (s : State) (g : Fin 8) : Bool := (s.inService g).any (fun n => (s.slot n).armed)

/-- S_r: the next period start of the slot at the lead position, and the opening of its lead window (R189). -/
def State.leadWindow (s : State) (g : Fin 8) : Option (Int × Int) :=
  let l := s.inService g
  let n := l.length
  if n = 0 then none
  else
    let r := s.groups[g].pwm.lead % n
    let a := s.slot (l.getD r 0)
    let sr := if s.fine < a.start then a.start else a.next
    if n = 1 then some (if s.fine < a.start then sr - 64 * a.vals.period else a.start, sr)
    else
      let x := s.slot (l.getD ((r + n - 1) % n) 0)
      let open_ := if x.next < sr then x.next else if x.start < sr then x.start else x.start - 64 * x.vals.period
      some (open_, sr)

/-- Does the present tick lie in the lead window (R77, R189)? -/
def State.inLeadWindow (s : State) (g : Fin 8) : Bool :=
  match s.leadWindow g with
  | none => false
  | some (a, b) => decide (a ≤ s.fine) && decide (s.fine < b)

/-- A load-all takes effect: every slot in service is armed for its first period start at or after S_r (R191). With a change
of spacing waiting the round is spaced for the slots in service, else for those of the present grid (R198). -/
def State.loadEffect (s : State) (g : Fin 8) : State :=
  match s.leadWindow g with
  | none => s
  | some (_, sr) =>
    let l := s.inService g
    let s := forNums l s (fun s n => s.modSlot n (fun x => { x with armed := true }))
    s.modPwm g (fun w =>
      let round := if w.respace then l else w.grid
      { w with held := false, respace := false, leadStart := sr, roundP := none, round, roundSpace := w.respace
               roundLead := round.idxOf (l.getD (w.lead % l.length) 0) })

/-- Issue a load-all; `internal` ones bring in a spacing change and do not count when held (R190, R193, R198). -/
def State.loadAll (s : State) (g : Fin 8) (internal : Bool) : State :=
  if !s.groups[g].pwm.running then s
  else
    let s := if internal then s.modPwm g (fun w => { w with respace := true }) else s
    if !s.anyArmed g && s.inLeadWindow g then s.loadEffect g
    else if internal then s
    else s.modPwm g (fun w => { w with held := true, heldCnt := w.heldCnt + 1 })

/-- A slot leaves the interleave: outputs low, disarmed, no present period, its trip record kept (R207); the others are
re-spaced by an internal load-all (R198, R208). -/
def State.slotLeaves (s : State) (g : Fin 8) (n : Nat) : State :=
  let t := s.fine
  let s := s.modSlot n (fun x => { (x.tripEnd (s.tripM g)).bothLow t with armed := false, len := 0, trans := false })
  if s.groups[g].pwm.running then
    if s.inService g = [] then s.pwmStop g else s.loadAll g true
  else s

/-- PWM_WRITE section 1 compares as a payload gives them (R213). -/
def comparesOf (b : Bytes) : Compares :=
  { hRise := u32 b 4, hFall := u32 b 8, lRise := u32 b 12, lFall := u32 b 16 }

/-- The latency record of a pickup (R243). -/
def latencyRec (x : Slot) (n : Nat) (tick effect : Nat) (trans : Bool) : Bytes :=
  le 8 x.resStamp ++ le 4 x.resLat ++ le 4 effect ++ le 8 tick ++
  [BitVec.ofNat 8 n, BitVec.ofNat 8 (b01 (!x.fresh) + 2 * b01 x.coarse + 4 * b01 x.resClamped + 8 * b01 trans +
    16 * b01 x.resInvalid), BitVec.ofNat 8 (min 255 x.superseded), 0] ++ lei 4 x.duty

/-- Group delay of the control filter in ns, 3 (OSR - 1) / 2 periods of an MCLK of 400 MHz / N (R53), rounded down;
the metering divisors hold N, nominally 20 (R48). -/
def groupDelayNs (osr n : Nat) : Nat := 3 * (osr - 1) * n * 5 / 4

end Sys2Proof.Machine
end

