-- ==== Sys2Proof/Machine/LoopOps.lean ====
section
/-! DEFINITION. The loop engine's arithmetic and stages, and the profile generator (R222 to R251, R794). -/

namespace Sys2Proof.Machine

/-- A quotient that need not be exact: one of the two neighbours, which one is open (entry 9). -/
def rdiv (x : Int) (d : Nat) : Int :=
  if d = 0 then 0
  else x.fdiv d + (if x % d ≠ 0 && Config.roundUp x d then 1 else 0)

/-- Clamp with the sign that it clamps: value and true when limited (R223). -/
def lim (lo hi x : Int) : Int × Bool := if x < lo then (lo, true) else if hi < x then (hi, true) else (x, false)

/-- Saturation at the limits of a 32-bit format (R223). -/
def sat32 (x : Int) : Int × Bool := lim (-(2 ^ 31)) (2 ^ 31 - 1) x

/-- A control-filter code as a Q16.16 value: (c - offset) x FS / 32 768 (R226). -/
def sampleQ16 (c offset fs : Int) : Int × Bool := sat32 (rdiv ((c - offset) * fs) 32768)

/-- Gain (Q16.16) times value (Q16.16) in Q16.16 (R222). -/
def mulQ16 (k v : Int) : Int × Bool := sat32 (rdiv (k * v) 65536)

/-- Gain (Q16.16, duty per A) times value (Q16.16 A) in Q2.30 (R222). -/
def mulQ30 (k v : Int) : Int × Bool := sat32 (rdiv (k * v) 4)

/-- Set sticky flags; LOOP_SATURATED when all were clear (R223, R224). -/
def State.setSat (s : State) (g : Fin 8) (flags : List (Nat × Bool)) : State :=
  let new := (flags.filter (·.2)).map (·.1)
  match new with
  | [] => s
  | k :: _ =>
    let s := if s.groups[g].loop.sat = 0 then s.raise (.loopSaturated g) g k else s
    s.modLoop g (fun l => { l with sat := l.sat ||| maskOf new })

/-- Saturation at the limits of the 64-bit format of the profile (R222, R223). -/
def sat64 (x : Int) : Int := clampI (-(2 ^ 63)) (2 ^ 63 - 1) x

/-- An integrator's update with its anti-windup rule: not updated when the stage is clamped at a limit and the error
drives further into it, and clamped to its own limit (R225); true when a sum saturated or the limit acted. `side` is the sign
of the clamp, 0 for none. -/
def integrate (x inc err : Int) (limit side : Int) : Int × Bool :=
  if (0 < side && 0 < err) || (side < 0 && err < 0) then (x, false)
  else
    let y := sat32 (x + inc)
    let z := lim (-limit) limit y.1
    (z.1, y.2 || z.2)

/-- A sum in the order of its terms, each addition saturating; true when one did (R223). -/
def sumSat (l : List Int) : Int × Bool := l.foldl (fun a x => let y := sat32 (a.1 + x); (y.1, a.2 || y.2)) (0, false)

/-- An integrator set so that its branch equals `want`, then clamped to its limit (R232, R234). -/
def presetTo (want ff p limit : Int) : Int × Bool :=
  let y := sumSat [want, -ff, -p]
  let z := lim (-limit) limit y.1
  (z.1, y.2 || z.2)

/-- The sign of a clamp: 1 at the upper limit, -1 at the lower, 0 for none. -/
def clampSide (lo hi x : Int) : Int := if hi < x then 1 else if x < lo then -1 else 0

/-- I_max of R233. -/
def irefMax (l : Loop) : Int :=
  let r : Int := l.n * i32 l.par1 36
  if l.current then r else min r l.limit

/-- I_min of R233. -/
def irefMin (l : Loop) : Int := max (i32 l.par0 28) (-(l.n * i32 l.par1 36))

/-- The profile position in Q16.16 (R222). -/
def Loop.posQ16 (l : Loop) : Int := rdiv l.pos (2 ^ 24)

/-- The outer stage of one cycle: new loop state and flags (R231, R232, R234). Saturation of an error counts for the
proportional term and for the integrator, that of the sum for I_ref (R223; DEDUCED, entry 250). -/
def outerStage (l : Loop) (vout iout : Int) : Loop × List (Nat × Bool) :=
  let kpv := i32 l.par0 4; let kiv := i32 l.par0 8; let kpc := i32 l.par0 12; let kic := i32 l.par0 16
  let kff := i32 l.par0 20; let xl := i32 l.par0 24
  let lo := irefMin l
  let hi := irefMax l
  let pos := l.posQ16
  if !l.current then
    let (e, fe) := sat32 (pos - vout)
    let (ff, f3) := mulQ16 kff iout
    let (pp, f0) := mulQ16 kpv e
    let (inc, fi) := mulQ16 kiv e
    let (xv, fp) := if l.preset then presetTo l.iref ff pp xl else (l.xv, false)
    let (raw, fr) := sumSat [ff, pp, xv]
    let side := clampSide lo hi raw
    let (xv', f1) := integrate xv inc e xl side
    ({ l with iref := (lim lo hi raw).1, xv := xv', vsel := false, preset := false },
     [(0, f0 || fe), (1, f1 || fe || fi || fp), (2, side != 0 || fr), (3, f3)])
  else
    let (ec, fec) := sat32 (pos - iout)
    let (ev, fev) := sat32 (l.limit - vout)
    let (ffc, f3) := mulQ16 kff pos
    let (pc, f0) := mulQ16 kpc ec
    let (incc, fic) := mulQ16 kic ec
    let (ffv, f3') := mulQ16 kff iout
    let (pv, f0') := mulQ16 kpv ev
    let (incv, fiv) := mulQ16 kiv ev
    let (xc, fpc) := if l.preset then presetTo l.iref ffc pc xl else (l.xc, false)
    let (xv, fpv) := if l.preset then presetTo l.iref ffv pv xl else (l.xv, false)
    let (ic, frc) := sumSat [ffc, pc, xc]
    let (iv, frv) := sumSat [ffv, pv, xv]
    let useV := if 0 ≤ pos then decide (iv < ic) else decide (ic < iv)
    let raw := if useV then iv else ic
    let side := clampSide lo hi raw
    let (x1, f1) := if useV then integrate xv incv ev xl side else integrate xc incc ec xl side
    let (other, fo) := if useV then presetTo raw ffc pc xl else presetTo raw ffv pv xl
    let fe := fec || fev
    ({ l with iref := (lim lo hi raw).1, vsel := useV, preset := false,
              xc := if useV then other else x1, xv := if useV then x1 else other },
     [(0, f0 || f0' || fe), (1, f1 || fe || fic || fiv || fpc || fpv || fo), (2, side != 0 || frc || frv), (3, f3 || f3')])

/-- The trims of a cycle from the trims and means of the phases in service: update, remove the mean, clamp; true when a product,
a sum or the clamp was limited (R223, R235). A phase without valid samples keeps its trim at 0 (R230); that its last mean
current and its updated trim still count in the two means is DESIGN CHOICE (entry 291). -/
def balance (kbal limit : Int) (ph : List (Int × Int × Bool)) : List Int × Bool :=
  let n := ph.length
  let total := sumSat (ph.map (·.2.1))
  let mean := rdiv total.1 n
  let b := ph.map (fun p =>
    let d := sat32 (mean - p.2.1)
    let k := mulQ16 kbal d.1
    let t := sat32 (p.1 + k.1)
    (t.1, d.2 || k.2 || t.2))
  let sum := sumSat (b.map (·.1))
  let m := rdiv sum.1 n
  let c := b.map (fun x =>
    let d := sat32 (x.1 - m)
    let y := lim (-limit) limit d.1
    (y.1, x.2 || d.2 || y.2))
  (List.zipWith (fun p x => if p.2.2 then x.1 else 0) ph c, total.2 || sum.2 || c.any (·.2))

/-- One inner computation: duty, new integrator and flags (R236). Saturation of an error counts for the proportional term and
for the integrator, that of the sum for the duty clamp (R223; DEDUCED, entry 250). -/
def innerStage (l : Loop) (trim current integ vout vin : Int) : Int × Int × List (Nat × Bool) :=
  let kpi := i32 l.par1 4; let kii := i32 l.par1 8; let xl := i32 l.par1 12
  let dmin := i32 l.par1 16; let dmax := i32 l.par1 20; let kdff := i32 l.par1 24
  let (e, fe) := sumSat [rdiv l.iref l.n, trim, -current]
  let small := decide (vin < 65536)
  let kv := mulQ16 kdff vout
  let ff := if small then (0, false) else let q := sat32 (rdiv (kv.1 * 2 ^ 30) vin.toNat); (q.1, kv.2 || q.2)
  let (pp, f5) := mulQ30 kpi e
  let (inc, fi) := mulQ30 kii e
  let (raw, fr) := sumSat [ff.1, pp, integ]
  let side := clampSide dmin dmax raw
  let (x, f6) := integrate integ inc e xl side
  ((lim dmin dmax raw).1, x, [(5, f5 || fe), (6, f6 || fe || fi), (7, side != 0 || fr), (8, small || ff.2)])

/-- Duty to compares (R238): Q2.30 duty, period in coarse steps, output mode, dead times. -/
def dutyCompares (d : Int) (p mode dtHL dtLH : Nat) (old : Compares) : Compares :=
  let full : Int := 64 * p
  let hf := (clampI 0 (full - 1) ((2 * d * full + 2 ^ 30).fdiv (2 ^ 31))).toNat
  if mode = 1 then
    let r := hf + dtHL
    let f := 64 * p - dtLH
    if f ≤ r then { hRise := 0, hFall := hf, lRise := 0, lFall := 0 }
    else { hRise := 0, hFall := hf, lRise := r, lFall := f }
  else { old with hRise := 0, hFall := hf }

/-! ### Profile generator (R245 to R251, R794): 64 bits with 40 fraction bits, every result truncated toward zero and held to
the format (R222, R223) -/

/-- One with 40 fraction bits. -/
def one40 : Int := 2 ^ 40

/-- Truncated product. -/
def mulT (a b : Int) : Int := sat64 ((a * b).tdiv (2 ^ 40))

/-- Truncated quotient; 0 for a zero divisor. -/
def divT (a b : Int) : Int := if b = 0 then 0 else sat64 ((a * 2 ^ 40).tdiv b)

/-- Integer square root, `fuel` bits. -/
def isqrt : Nat → Nat → Nat → Nat
  | 0, r, _ => r
  | k + 1, r, n => let r' := r + 2 ^ k; isqrt k (if r' * r' ≤ n then r' else r) n

/-- Truncated square root. -/
def sqrtT (a : Int) : Int := if a ≤ 0 then 0 else (isqrt 80 0 (a.toNat * 2 ^ 40) : Nat)

/-- Distance, velocity and acceleration after time `t` at jerk `j` from velocity `u`, acceleration `w`: t (u + t (w/2 + j t/6)),
u + t (w + j t/2) and w + j t. The products are formed in this order, in which no power of the time stands alone and each is a
distance, velocity or acceleration that the format holds: DESIGN CHOICE (entry 292). -/
def poly (u w j t : Int) : Int × Int × Int :=
  let jt := mulT j t
  (mulT t (sat64 (u + mulT t (sat64 (w.tdiv 2 + jt.tdiv 6)))), sat64 (u + mulT t (sat64 (w + jt.tdiv 2))), sat64 (w + jt))

/-- advance(): jerk `J` until the acceleration reaches +-a, held there for the rest of 1 us (R249). -/
def advance (a e u w j : Int) : Int × Int × Int :=
  let t1 : Int := if 0 < j then clampI 0 one40 (divT (a - w) j)
    else if j < 0 then clampI 0 one40 (divT (w + a) (-j)) else one40
  let (x1, u1, w1) := poly u w j t1
  if t1 = one40 then (sat64 (e - x1), u1, w1)
  else
    let wA := if 0 < j then a else -a
    let (x2, u2, _) := poly u1 wA 0 (one40 - t1)
    (sat64 (e - x1 - x2), u2, wA)

/-- The stop distance of a state (R249, text before it). -/
def stopDistance (a j u w : Int) : Int :=
  if u ≤ 0 then 0
  else if w < 0 && decide (u ≤ divT (mulT w w) (2 * j)) then
    let t := divT (-w - sqrtT (mulT w w - 2 * mulT j u)) j
    (poly u w j t).1
  else
    let aa := min a (sqrtT (mulT j u + (mulT w w).tdiv 2))
    let t1 := divT (w + aa) j
    let (d1, u1, _) := poly u w (-j) t1
    let u3 := divT (mulT aa aa) (2 * j)
    let t2 := max 0 (divT (u1 - u3) aa)
    let (d2, _, _) := poly u1 (-aa) 0 t2
    let t3 := divT aa j
    let (d3, _, _) := poly u3 (-aa) j t3
    sat64 (d1 + d2 + d3)

/-- Is a candidate acceptable (R249)? -/
def acceptable (v a j : Int) (c : Int × Int × Int) : Bool :=
  decide (c.2.1 + divT (mulT (max c.2.2 0) (max c.2.2 0)) (2 * j) ≤ v) && decide (stopDistance a j c.2.1 c.2.2 ≤ c.1)

/-- The first acceptable jerk of (+j, 0, -j); the last stands when none is (R249). -/
def pickJerk (v a j e u w : Int) : Int × Int × Int :=
  let c1 := advance a e u w j
  if acceptable v a j c1 then c1
  else
    let c2 := advance a e u w 0
    if acceptable v a j c2 then c2 else advance a e u w (-j)

/-- How far short of its target a profile that comes to rest is taken as arrived: twice the distance j x (1 us)^3. By R249 with
R794's truncation alone a profile ends by moving to and fro within about that distance of its target for ever, while R246,
R250 and R251 have every target reached (DEDUCED, entry 40). -/
def arrivalGap (j : Int) : Int := 2 * j

/-- What a profile step did. -/
inductive StepKind where
  | rest | arrived | clamped | arrest | moved | reported
  deriving DecidableEq, Repr

/-- One profile step from position, velocity and acceleration (R249). -/
def profileStep (l : Loop) : Loop × StepKind :=
  let t := l.target * 2 ^ 24
  let k := if l.current then 3 else 0
  let v := l.limits.getD k 0
  let a := l.limits.getD (k + 1) 0
  let j := l.limits.getD (k + 2) 0
  if l.pos = t && l.vel = 0 && l.acc = 0 then
    if l.atTarget then (l, .rest) else ({ l with atTarget := true }, .reported)
  else if l.current && l.vel != 0 && (l.vel.sign != (t - l.pos).sign) then
    ({ l with vel := 0, acc := 0, atTarget := false }, .arrest)
  else
    let sg := if t - l.pos = 0 then l.vel.sign else (t - l.pos).sign
    let (e', u', w') := pickJerk v a j (sg * (t - l.pos)) (sg * l.vel) (sg * l.acc)
    let short := decide (0 ≤ sg * l.vel) && decide (u' ≤ 0) && decide (e' ≤ arrivalGap j)
    if e' ≤ 0 || short then
      ({ l with pos := t, vel := 0, acc := 0, atTarget := true }, if u' ≤ a then .arrived else .clamped)
    else ({ l with pos := t - sg * e', vel := sg * u', acc := sg * w' }, .moved)

/-- A replan record (R244). -/
def replanRec (st : Nat) (l : Loop) (cause : Nat) (old new : Int) : Bytes :=
  le 8 st ++ [BitVec.ofNat 8 (b01 l.current), BitVec.ofNat 8 cause, 0, 0] ++ lei 4 old ++ lei 4 new ++ lei 4 l.posQ16 ++
  lei 4 (rdiv l.vel (2 ^ 24)) ++ lei 4 (rdiv l.acc (2 ^ 24))

/-- Write a replan record to the group's ring of 64 and count it (R244, R252, R258). -/
def State.traceReplan (s : State) (g : Fin 8) (cause : Nat) (old new : Int) : State :=
  let r := replanRec s.st s.groups[g].loop cause old new
  let s := s.modLoop g (fun l => { l with
    replans := (r :: l.replans).take 64, replanLost := l.replanLost || decide (64 ≤ l.replans.length)
    replan := l.replan + 1
    cReplans := l.cReplans + 1
    cClamps := l.cClamps + (if cause = 3 then 1 else 0)
    cArrests := l.cArrests + (if cause = 2 then 1 else 0) })
  s.capNote 1 g s.st r

/-- The loop engine stops computing: AT_TARGET falls, queued computations are dropped, no branch is selected and no lane
replaced (R220, R251, R252). -/
def State.loopIdle (s : State) (g : Fin 8) : State :=
  let s := forNums (s.gSlots g) s (fun s n => s.modSlot n (fun x => { x with jobs := [] }))
  s.modLoop g (fun l => { l with atTarget := false, next := none, vsel := false, laneInvalid := false })

/-- Entry to SOFTSTART: integrators and trims 0, n, the stored set-point becomes the target; the first profile step
sets the position (R220, R247). So the record of cause 1 holds the stored target as old target and as new: DESIGN CHOICE (entry
289). -/
def State.loopStart (s : State) (g : Fin 8) : State :=
  let l := s.inService g
  let s := forNums l s (fun s n => s.modSlot n (fun x => { x with trim := 0, integ := 0, jobs := [], samples := [], valid := true, sampledAt := none }))
  s.modLoop g (fun lp => { lp with
    xv := 0, xc := 0, iref := 0, vsel := false, laneRaised := false, laneInvalid := false, atTarget := false,
    n := l.length, current := false, preset := false,
    target := (lp.stored.getD (0, 0)).1, limit := (lp.stored.getD (0, 0)).2,
    pos := (lp.vout.getD 0) * 2 ^ 24, vel := 0, acc := 0,
    next := some { current := false, target := (lp.stored.getD (0, 0)).1, limit := (lp.stored.getD (0, 0)).2, restart := true } })

end Sys2Proof.Machine
end

