-- ==== Sys2Proof/Machine/PortCore.lean ====
section
/-! DEFINITION. Vehicle ports without their calls into groups: settings, caps, states, session records (R302 to R350). -/

namespace Sys2Proof.Machine

/-- PORT_CONFIG, zeros before one is accepted (R348). -/
def State.pCfg (s : State) (p : Fin 8) : Bytes := (s.nv.cfg.port[p]).getD (List.replicate 64 0)

/-- A 2-byte field of PORT_CONFIG: 0 takes its default (R348). -/
def State.pField (s : State) (p : Fin 8) (o d : Nat) : Nat :=
  let v := u16 (s.pCfg p) o
  if v = 0 then d else v

/-- A signed 2-byte field of a PORT_CONFIG payload with its default (R311, R348). -/
def portThr (b : Bytes) (o : Nat) (ccs mcs : Int) : Int :=
  let v := i16 b o
  if v = 0 then (if u8 b 0 = 1 then mcs else ccs) else v

/-- T1 to T4, low-plateau limit and hysteresis of a PORT_CONFIG payload (R311). -/
def portThrs (b : Bytes) : List Int :=
  [portThr b 12 10500 9800, portThr b 14 7500 7200, portThr b 16 4500 4800, portThr b 18 1500 2400,
   portThr b 20 (-10500) (-10500), portThr b 22 300 250]

/-- Kind of a housekeeping channel (R726). -/
def State.hkKind (s : State) (ch : Nat) : Nat :=
  match vget s.nv.cfg.hk ch none with
  | none => 0
  | some b => u8 b 1

/-- The group that a port's session acts on: the one configured for it, one that is not retired before one that is (R35, R302). -/
def State.portGroup (s : State) (p : Fin 8) : Option (Fin 8) :=
  let mine := (List.finRange 8).filter (fun g => s.gPort g == some p)
  (mine.find? (fun g => !s.isRetired (tgt 1 g.val))).or mine.head?

/-- Configured and served: none of the cases of R303, R304. -/
def State.portServed (s : State) (p : Fin 8) : Bool :=
  s.nv.cfg.port[p].isSome && s.nv.cfg.portLimit[p].isSome &&
  (match s.portGroup p with | none => false | some g => s.fullyConfigured g && !s.isRetired (tgt 1 g)) &&
  s.hkKind (u8 (s.pCfg p) 5) == 4 && s.hkKind (u8 (s.pCfg p) 6) == 4

/-- A logic channel's level as its last round gave it (R304, R726). -/
def State.hkLevel (s : State) (ch : Nat) : Bool := (vget s.hk.pts ch {}).level

/-- The contactor's channel (R348). -/
def State.pContactor (s : State) (p : Fin 8) : Option (Fin 24) :=
  let c := u8 (s.pCfg p) 4
  if s.nv.cfg.port[p].isNone then none else if h : c < 16 then some ⟨c, by omega⟩ else none

/-- Update port `p`. -/
def State.modPort (s : State) (p : Fin 8) (f : Port → Port) : State := { s with ports := s.ports.set p (f s.ports[p]) }

/-- Update the session of port `p`. -/
def State.modSession (s : State) (p : Fin 8) (f : Session → Session) : State :=
  s.modPort p (fun x => { x with session := x.session.map f })

/-- State numbers (R324). -/
def PState.code : PState → Nat
  | .idle => 0 | .connected => 1 | .negotiating => 2 | .precharge => 3 | .charging => 4 | .discharging => 5
  | .rampdown => 6 | .discharge => 7 | .faulted => 8 | .retired => 9

/-- Does power flow under allocation: CHARGING or DISCHARGING (R128)? -/
def PState.live : PState → Bool
  | .charging | .discharging => true
  | _ => false

/-- Energy registers of DC meter `p` as the mirror shows them, mWh (R62, R345). -/
def State.portEnergy (s : State) (p : Fin 8) : Nat × Nat :=
  let m := vget s.metro.mirror p {}
  (m.tot[0], m.tot[1])

/-- Pilot drive that goes with a state (R324). -/
def PState.drive : PState → Nat
  | .idle => 0 | .faulted | .retired => 2 | _ => 1

/-- The session record of R345; `st` is the return to CONNECTED or IDLE, 0 when it did not return. -/
def sessionRec (s : State) (p : Fin 8) (x : Session) (reason st : Nat) : Bytes :=
  let e := s.portEnergy p
  let head := le 4 x.id ++ le 1 p ++ le 1 x.proto ++ le 1 x.ident ++ le 1 reason ++ le 8 x.setupSt ++
    le 8 (x.authSt.getD 0) ++ le 8 x.firstSt ++ le 8 st ++ le 8 (e.1 - x.e0.1) ++ le 8 (e.2 - x.e0.2) ++
    lei 4 x.peakW ++ le 4 x.peakA ++ le 2 x.account ++ le 1 x.retries ++ le 1 (x.flags + 8 * b01 x.chain.isSome) ++
    (x.evccid ++ List.replicate 8 0).take 8 ++ (x.emaid ++ List.replicate 32 0).take 32 ++ le 2 x.vmax ++ le 2 x.imax ++
    List.replicate 12 0
  head ++ le 4 (crc32c head)

/-- Enter a port state: PORT_STATE with old and new state and the end reason (0xFF when no session ends; R656), the ST of the change and the pilot drive
(R324, R325). From an entry to IDLE or CONNECTED the cooling loop's run-on time counts (R357; DEDUCED, entry 263). -/
def State.portSet (s : State) (p : Fin 8) (st : PState) (reason : Nat := 0xFF) : State :=
  let x := s.ports[p]
  if x.state = st then s
  else
    let s := s.raise (.portState p) (x.state.code + 256 * st.code) reason
    let s := if st = .idle || st = .connected then { s with cools := s.cools.set p { s.cools[p] with leftAt := some s.el } } else s
    s.modPort p (fun y => { y with
      state := st, changedSt := s.st
      drive := if st = .discharge && x.level = 0 then 0 else st.drive
      eff := if st.live then y.eff else 0
      dirty := true })

/-- End the session: its record is written and kept among the last 64 (R345). -/
def State.portEndSession (s : State) (p : Fin 8) (reason : Nat) (returned : Bool) : State :=
  match s.ports[p].session with
  | none => s.modPort p (fun y => { y with ending := none, telling := false })
  | some x =>
    let r := sessionRec s p x reason (if returned then s.st else 0)
    let recs := vget s.portRecs p {}
    let s := { s with portRecs := s.portRecs.set p { recs := (r :: recs.recs).take 64 } }
    s.modPort p (fun y => { y with
      session := none, ended := x.authSt.map (fun _ => (x.account, s.el)), lastEnd := reason, ending := none, telling := false, sentI := false, caps := 0 })

/-- A stop cause of row `rank` of R339: within one tick the higher class applies and the reason of the first row is kept
(R342); a later cause of a higher class replaces the reason. -/
def State.noteEnding (s : State) (p : Fin 8) (cls reason rank : Nat) : State :=
  s.modPort p (fun x => { x with ending := some (match x.ending with
    | none => { reason, cls, rank, st := s.st }
    | some e =>
      if e.st = s.st then
        (if rank < e.rank then { reason, cls := max cls e.cls, rank, st := e.st } else { e with cls := max cls e.cls })
      else if e.cls < cls then { reason, cls, rank, st := s.st } else e) })

/-- Does an accepted level read as plugged and ready: L1 or L2, and under CCS DC L3 as L2 (R308, R325)? -/
def State.levelPlugged (s : State) (p : Fin 8) (lv : Nat) : Bool :=
  lv == 1 || lv == 2 || (lv == 3 && u8 (s.pCfg p) 0 == 0)

/-- The state a port returns to: CONNECTED with level L1 or L2 accepted, otherwise IDLE (R325). -/
def State.portHome (s : State) (p : Fin 8) : PState :=
  if s.levelPlugged p s.ports[p].level then .connected else .idle

/-- Return to CONNECTED or IDLE, ending the session (R325, R345). -/
def State.portReturn (s : State) (p : Fin 8) (dflt : Nat) : State :=
  let reason := match s.ports[p].ending with | some e => e.reason | none => dflt
  let ends := s.ports[p].session.isSome
  let home := s.portHome p
  (s.portEndSession p reason true).portSet p home (if ends then reason else 0xFF)

/-- NEGOTIATING ends: CONNECTED, and on to IDLE when the vehicle is gone (R325). -/
def State.portBack (s : State) (p : Fin 8) (reason : Nat) : State :=
  let s := (s.portEndSession p reason true).portSet p .connected reason
  if s.ports[p].level = 0 then s.portSet p .idle else s

/-- FAULTED (R325): the session ends with its record; the pilot shows UNAVAILABLE. -/
def State.portFault (s : State) (p : Fin 8) (reason : Nat) : State :=
  if s.ports[p].state = .faulted || s.ports[p].state = .retired then s
  else
    let reason := match s.ports[p].ending with | some e => e.reason | none => reason
    let ends := s.ports[p].session.isSome
    (s.portEndSession p reason false).portSet p .faulted (if ends then reason else 0xFF)

/-- The contactor drive is turned on or off through its switch channel (R330 to R332). -/
def State.contactorDrive (s : State) (p : Fin 8) (on : Bool) : State :=
  if s.ports[p].cdrive = on then s
  else
    let s := match s.pContactor p with | none => s | some c => s.swDrive c (if on then 1000 else 0)
    s.modPort p (fun y => { y with
      cdrive := on, cAt := s.el, cRun := 0, cFailed := false, cWeld := false, reported := y.reported || on })

/-! ### Vehicle link, what the device sends (R312 to R314) -/

/-- PILOTn_DRV now (R305). -/
def State.pilotDrv (s : State) (p : Fin 8) : Bool := pilotHigh s.ports[p].drive (u8 (s.pCfg p) 0 == 1) s.st

/-- An answer to the vehicle. On a framed link it travels in one Ethernet frame behind the device's own header (R314): ready
to receive, no frame follows, no overflow, the sequence one up for the next; the length of the message is a free value within the
frame's bounds (entry 256). -/
def State.tell (s : State) (p : Fin 8) (a : VAnswer) (figs : List Int) : State :=
  if u8 (s.pCfg p) 1 = 0 then
    let (n, s) := s.free
    let q := s.ports[p].sendSeq
    (s.emit (.vehicle p a figs (some { len := 60 + n % 1455, flags := 1, seq := q }))).modPort p
      (fun y => { y with sendSeq := (q + 1) % 256 })
  else s.emit (.vehicle p a figs none)

/-- VLn_RST_N of a configured port is released; a MAC-PHY is set up (R312, R313). -/
def State.linkRelease (s : State) (p : Fin 8) : State :=
  if s.nv.cfg.port[p].isNone then s
  else
    let s := s.modPort p (fun x => { x with linkOn := true, heardAt := s.el })
    if u8 (s.pCfg p) 1 = 1 then s.emit (.macPhy p Tc6.setting) else s

/-! ### Caps (R127, R144, R323, R350, R369, R465) -/

/-- A power in W from a current and a voltage in Q16.16, its rounding open (entry 9). -/
def watts (i v : Int) : Int := rdiv (i * v) (2 ^ 32)

/-- The credit cap of an account as the mirror shows it (R465); none when postpaid. -/
def State.creditCap (s : State) (a : Nat) : Option Nat :=
  let x := vget s.bill.mir.accounts a {}
  if 256 ≤ a || !x.loaded then none else some (if 0 < x.bal then x.ceil else 0)

/-- Group capacity: phases in service times phase rating (R127), Q16.16 A. -/
def State.groupCurrent (s : State) (g : Fin 8) : Int := (s.inService g).length * i32 s.groups[g].loop.par1 36

/-- The local caps of a port beside the vehicle's request: CAPS bit and W, for charge or discharge. -/
def State.portCaps (s : State) (p : Fin 8) (disch : Bool) : List (Nat × Int) :=
  let x := s.ports[p]
  let v := x.vcable
  let (ch, di, cur, _) := x.limits
  let se := x.session.getD {}
  [(0, min (if disch then (di : Int) else ch) (watts (cur * 65536) v)),
   (1, ((s.cools[p].pcap : Nat) : Int)),
   (3, match s.portGroup p with | none => 0 | some g => watts (s.groupCurrent g) v),
   (5, ((if disch then se.dischCeil else se.chargeCeil : Nat) : Int))] ++
  (match s.creditCap se.account with | none => [] | some c => [(2, (c : Int))])

/-- The vehicle's request in W: upper, lower (R337); 0 unless CHARGING or DISCHARGING (R128), and the lower one 0
unless the session runs BPT and is permitted to discharge. -/
def State.portRequest (s : State) (p : Fin 8) : Int × Int :=
  let x := s.ports[p]
  match x.session with
  | none => (0, 0)
  | some e =>
    if !x.state.live then (0, 0)
    else (max 0 (watts e.iReq x.vcable), if e.proto = 4 && e.dischOk then -(max 0 (watts e.iDreq x.vcable)) else 0)

/-- The least of a list of caps, not above `m`. -/
def leastCap (m : Int) (l : List (Nat × Int)) : Int := l.foldl (fun a c => min a c.2) m

/-- The port's range in W within every local cap (R127). -/
def State.portRange (s : State) (p : Fin 8) : Int × Int :=
  let (u, l) := s.portRequest p
  (max 0 (leastCap u (s.portCaps p false)), -(max 0 (leastCap (-l) (s.portCaps p true))))

/-- The effective target of a port and the caps that bind (R144, R341, R347). -/
def State.portEff (s : State) (p : Fin 8) : Int × Nat :=
  let x := s.ports[p]
  if !x.state.live then (0, 0)
  else
    let disch := decide (x.alloc < 0)
    let (u, l) := s.portRequest p
    let req := if disch then -l else u
    let a := if disch then -x.alloc else x.alloc
    let caps := (4, a) :: s.portCaps p disch
    let m := max 0 (leastCap req caps)
    (if disch then -m else m, if m < req then maskOf ((caps.filter (fun c => decide (c.2 ≤ m))).map (·.1)) else 0)

/-- Bring the effective target of a port up to date (R144); a change of it or of a local cap asks for a new I_t (R336;
DEDUCED, entry 297). -/
def State.refreshEff (s : State) (p : Fin 8) : State :=
  let (e, c) := s.portEff p
  let caps := s.portCaps p (decide (s.ports[p].alloc < 0))
  let s := s.modPort p (fun x => { x with
    dirty := x.dirty || x.eff != e || x.capsSeen != caps, eff := e, caps := c, capsSeen := caps })
  { s with cools := s.cools.set p { s.cools[p] with binding := bit c 1 } }

/-- The capacity of a group has changed: its port's effective target follows at once (R144). -/
def State.capsOf (s : State) (g : Fin 8) : State :=
  match s.gPort g with | some p => s.refreshEff p | none => s

/-- Bring every effective target up to date. -/
def State.refreshAll (s : State) : State := forFin 8 s (fun s p => s.refreshEff p)

/-- Mark every session with a bit of byte 67 of its record (R345). -/
def State.markSessions (s : State) (b : Nat) : State :=
  forFin 8 s (fun s p => s.modSession p (fun x => { x with flags := x.flags ||| 2 ^ b }))

/-- Mark the sessions, open or kept as records, whose span overlaps an unregistered interval of ST (R345, R462). -/
def State.markOverlap (s : State) (start cut : Nat) : State :=
  let s := forFin 8 s (fun s p => s.modSession p (fun x => if x.setupSt ≤ cut then { x with flags := x.flags ||| 2 } else x))
  { s with portRecs := s.portRecs.map (fun (l : PortRecs) => { recs := l.recs.map (fun r =>
      let done := if u64 r 32 = 0 then u64 r 8 else u64 r 32
      if u64 r 8 ≤ cut && start ≤ done then
        let b := r.take 67 ++ le 1 (u8 r 67 ||| 2) ++ (r.drop 68).take 56
        b ++ le 4 (crc32c b)
      else r) }) }

/-- Stamps in the present retry window: at least t + 1 - 60 s (R276). -/
def retriesIn (now : Int) (l : List Int) : Nat := (l.filter (fun t => decide (now + 1 - 60000000000 ≤ t))).length

/-- Does the port report its contactor closed to the group (R270)? A group with no port takes it as open. -/
def State.contactorClosed (s : State) (g : Fin 8) : Bool :=
  match s.gPort g with | none => false | some p => s.ports[p].reported

end Sys2Proof.Machine
end

