-- ==== Sys2Proof/Machine/GroupOps.lean ====
section
/-! DEFINITION. The group state machine as named operations: fault records, transitions, starts, stops, discharge,
short detection, bursts (R259 to R290). -/

namespace Sys2Proof.Machine

/-- 60 V in Q16.16. -/
def v60 : Int := 3932160

/-- A field of GROUP_CONFIG in 0.1 units as Q16.16. -/
def tenthsQ16 (n : Nat) : Int := (n * 65536 / 10 : Nat)

/-- The retry stamps that count for a group: its port's, or its own (R276). -/
def State.groupRetries (s : State) (g : Fin 8) : List Int :=
  match s.gPort g with | some p => s.ports[p].retries | none => s.groups[g].prot.retries

/-- Are the retry counters frozen (R277)? -/
def State.retriesNow (s : State) (g : Fin 8) : Nat :=
  retriesIn (if s.latched then s.nv.tlatch.at_ else s.el) (s.groupRetries g)

/-- Every sensor word of a record: 2 bytes, signed 0.1 degC, 0x8000 when absent. -/
def tempWord : Option Int → Bytes
  | none => le 2 0x8000
  | some t => lei 2 t

/-- A temperature of the cable model in 0.1 degC, rounded down. -/
def tenths (t : Rat) : Int := ratFloor (t * 10)

/-- The hottest valid pin of a loop, 0.1 degC (R367). -/
def Cool.hotPin (c : Cool) : Option Int :=
  let l := [c.sens[3], c.sens[4], c.sens[5], c.sens[6]].filter (·.valid)
  match l with
  | [] => none
  | x :: xs => some (xs.foldl (fun m y => max m y.value) x.value)

/-- The four port temperatures of a fault record (R288). -/
def State.portTemps (s : State) (g : Fin 8) : Bytes :=
  match s.gPort g with
  | none => tempWord none ++ tempWord none ++ tempWord none ++ tempWord none
  | some p =>
    if s.nv.cfg.cool[p].isNone then tempWord none ++ tempWord none ++ tempWord none ++ tempWord none
    else
      let c := s.cools[p]
      tempWord (some (tenths c.pred)) ++ tempWord c.sens[0].shown ++ tempWord c.sens[1].shown ++
      tempWord c.hotPin

/-- One value per group slot in ascending order, 12 entries of `w` bytes, unused ones 0. -/
def State.perSlot (s : State) (g : Fin 8) (w : Nat) (f : Slot → Bytes) : Bytes :=
  (((s.gSlots g).map (fun n => f (s.slot n))).flatten ++ List.replicate (12 * w) 0).take (12 * w)

/-- A fault record without its CRC (R288). -/
def State.faultRec (s : State) (g : Fin 8) (st seq cause stCode cls slot kind : Nat) : Bytes :=
  let l := s.groups[g].loop
  let h := s.groups[g].prot.history
  le 8 st ++ le 4 seq ++ le 2 cause ++ le 1 stCode ++ le 1 cls ++ le 1 slot ++ le 1 kind ++
  le 1 (s.retriesNow g) ++ [0] ++ lei 4 (l.vin.getD 0) ++ lei 4 (l.vout.getD 0) ++ lei 4 (l.iout.getD 0) ++
  lei 4 l.iref ++ lei 4 l.posQ16 ++ le 8 (maskOf (s.inService g)) ++
  s.perSlot g 4 (fun x => lei 4 x.current) ++ s.perSlot g 4 (fun x => lei 4 x.dutyForce) ++
  (s.therm.dies.toList.map (fun d => lei 2 d.temp)).flatten ++ s.portTemps g ++ le 4 l.sat ++
  s.perSlot g 1 (fun x => le 1 (min 255 (x.tripCount (s.tripM g)))) ++ le 8 s.groups[g].prot.softSt ++
  List.replicate (32 * (24 - h.length)) 0 ++ h.reverse.flatten ++ List.replicate 60 0

/-- Write a fault record of group `g` to MRAM: slot 0xFF none, class 0xFF none, kind 0 transient, 1 permanent, 2 port
fault, 3 group fault (R288). A standby's waits until the compare of its cycle agrees (R263; DEDUCED, entry 254). -/
def State.groupRecord (s : State) (g : Fin 8) (st cause stCode cls slot kind : Nat) : State :=
  let b := s.faultRec g st 0 cause stCode cls slot kind
  if s.shadow then { s with twin := { s.twin with pendRecs := s.twin.pendRecs ++ [(g.val, b)] } } else s.recordWrite g b

/-- Turn the group's discharge channel on or off (R259, R272). -/
def State.dischargeChannel (s : State) (g : Fin 8) (on : Bool) : State :=
  match s.gDischarge g with
  | none => s
  | some c => s.swDrive c (if on then 1000 else 0)

/-- The reason of a stop that a port did not ask for (R339): DEVICE for the device-fault state and the thermal shut-down, SHORT for
one inside the cable check (R328), else GROUP_FAULT. -/
def ownStopReason (cause : Nat) (checking : Bool) : Nat :=
  if cause = 0x50 || cause = 0x51 then 13 else if checking && (cause = 0x10 || cause = 0x11) then 9 else 12

/-- What a transition of the group means to its port (R325, R328, R339). A stop of the group's own takes its class (R342). -/
def State.portFollows (s : State) (g : Fin 8) (new : GState) (cause : Nat) : State :=
  match s.gPort g with
  | none => s
  | some p =>
    let x := s.ports[p]
    let check := match x.session with | some e => e.check | none => .none
    let checking := x.state == .negotiating && (check != .none && check != .passed)
    let why := ownStopReason cause checking
    let cls := match s.groups[g].prot.stop with
      | some t => t.cls
      | none => 2 * b01 (new = .faulted || cause = 0x10 || cause = 0x11)
    let note := fun (s : State) => if x.ending.isSome || x.session.isNone then s
      else (s.noteEnding p cls why (9 + b01 (why = 13))).modPort p (fun y => { y with telling := true })
    -- a check that the port has not ended itself ends with a stop of the group's own
    let own := match check with | .ending _ => false | _ => true
    let checkFails := fun (s : State) => (if own then note s else s).modSession p (fun e => { e with
      check := match e.check with | .ending b => .ending b | _ => .ending false })
    match new with
    | .rampdown =>
      if x.state = .precharge || x.state.live then (note s).portSet p .rampdown
      else if checking then checkFails s
      else s
    | .discharge =>
      if x.state = .precharge then (note s).portSet p .discharge
      else if x.state = .rampdown then s.portSet p .discharge
      else if checking then checkFails s
      else s
    | .off =>
      if x.state = .discharge || x.state = .precharge then (note s).portReturn p why
      else if checking then
        let ok := check == .ending true && x.ending.isNone
        let s := if own then note s else s
        let s := if (x.session.getD {}).checkWaits then
          s.tell p .finished [if ok then 1 else 0] else s
        let s := s.modSession p (fun e => { e with check := if ok then .passed else .none, checkWaits := false, seqAt := s.el })
        if ok then s else s.portBack p (match s.ports[p].ending with | some e => e.reason | none => 8)
      else s
    | .faulted =>
      if x.state = .idle || x.state = .connected then s else (note s).portFault p why
    | _ => s

/-- Move a group to a state: GROUP_STATE, the cause and ST of the transition, and what it means to the port (R260,
R656). Entry to FAULTED clears fault pending (R261). -/
def State.setGState (s : State) (g : Fin 8) (new : GState) (cause : Nat) : State :=
  let old := s.gState g
  let s := s.raise (.groupState g) (old.code + 256 * new.code) cause
  let s := s.modProt g (fun p => { p with
    state := new, cause := cause, changedSt := s.st
    pending := if new = .faulted then none else p.pending
    stop := if new = .rampdown then p.stop else none
    pre := none })
  s.portFollows g new cause

/-- Drive every output of the group low and let its loop engine rest (R172, R220, R262). -/
def State.groupLow (s : State) (g : Fin 8) : State :=
  ((s.pwmStop g).loopIdle g).modProt g (fun p => { p with low := true })

/-- Enter DISCHARGE: outputs low, discharge channel on (R259, R272). -/
def State.toDischarge (s : State) (g : Fin 8) (cause : Nat) : State :=
  let s := (s.groupLow g).dischargeChannel g true
  let s := s.modProt g (fun p => { p with discharge := some s.el, below60 := none })
  s.setGState g .discharge cause

/-- Enter FAULTED: its record (R288), outputs low; the discharge channel off, or left on under R273. -/
def State.toFaulted (s : State) (g : Fin 8) (cause : Nat) (keepOn : Bool) : State :=
  let s := s.groupRecord g s.st cause (s.gState g).code 0xFF 0xFF 3
  let s := s.groupLow g
  let s := if keepOn then s else (s.dischargeChannel g false).modProt g (fun p => { p with discharge := none })
  s.setGState g .faulted cause

/-- Is every slot of a group that has slots retired (R209)? -/
def State.allRetired (s : State) (g : Fin 8) : Bool := decide (s.gSlots g ≠ []) && decide (s.serviceAtStart g = 0)

/-- Enter OFF: the discharge channel off (R259); a group whose slots are all retired goes on to FAULTED at once (R209, R260). -/
def State.toOff (s : State) (g : Fin 8) (cause : Nat) : State :=
  let s := (s.groupLow g).dischargeChannel g false
  let s := s.modProt g (fun p => { p with discharge := none, below60 := none, overrun := false })
  let s := s.setGState g .off cause
  if s.allRetired g then s.toFaulted g 0x40 false else s

/-- Set fault pending with its cause (R261). -/
def State.setPending (s : State) (g : Fin 8) (cause : Nat) : State :=
  s.modProt g (fun p => { p with pending := some (p.pending.getD cause) })

/-- The bound of a stop of a class from now, in ns (R266): |I_0|/v + v/a + a/j + 1 us, or 30 ms, plus the margin. Each quotient is
rounded up to a whole ns: DESIGN CHOICE (entry 295). -/
def State.stopBound (s : State) (g : Fin 8) (cls : Nat) : Int :=
  let margin : Int := 1000000 * u16 (s.gCfg g) 54
  if cls = 0 then
    let l := s.groups[g].loop
    let i0 : Int := ((l.iout.getD 0).natAbs : Int) * 2 ^ 24
    let v := l.limits.getD 3 0
    let a := l.limits.getD 4 0
    let j := l.limits.getD 5 0
    -- limits are per us
    let q := fun (x y : Int) => if y ≤ 0 then 0 else (x * 1000 + y - 1) / y
    q i0 v + q v a + q a j + 1000 + margin
  else 30000000 + margin

/-- Begin or override the stop of a group in RUN or RAMPDOWN (R266, R268); cycles at zero current in RAMPDOWN go on counting under a
higher class (R269); those before the first stop do not count: DESIGN CHOICE (entry 294). -/
def State.applyStop (s : State) (g : Fin 8) (cls : Nat) : State :=
  let l := s.groups[g].loop
  let s := s.modProt g (fun p => { p with
    stop := some { cls, at_ := s.el, bound := s.el + s.stopBound g cls, iref0 := l.iref } })
  if cls = 0 then
    -- current mode toward 0 A; V_lim stays, or is the voltage target in force (R266)
    s.modLoop g (fun l => { l with next := some {
      current := true, target := 0, limit := if l.current then l.limit else l.target, restart := !l.current } })
  else if cls = 2 then s.groupLow g
  else s

/-- A stop of the group's own that overrides one under way counts among the causes of its port's stop (R339, R342). -/
def State.overrideNoted (s : State) (g : Fin 8) (cls cause : Nat) : State :=
  match s.gPort g with
  | some p => whenDo (decide (cause ≠ 0) && s.ports[p].session.isSome && s.ports[p].ending.isSome)
      (·.noteEnding p cls (ownStopReason cause false) (9 + b01 (ownStopReason cause false = 13))) s
  | none => s

/-- A stop of class `cls` with its cause reaches the group; true when it has an effect (R260, R262, R266 to R268).
Class 1 and 2 stops write a record (R288). The outer cycles of R269 count from the stop, not from before it: DESIGN CHOICE (entry
294). -/
def State.stopGroup (s : State) (g : Fin 8) (cls cause : Nat) : State × Bool :=
  let p := s.groups[g].prot
  let rec_ := fun (s : State) => if cls = 0 then s else s.groupRecord g s.st cause p.state.code cls 0xFF 3
  match p.state with
  | .precheck =>
    match p.pre with
    | some (.discharging _) => ((rec_ s).toDischarge g cause, true)
    | _ => ((rec_ s).toOff g cause, true)
  | .softstart => ((rec_ s).toDischarge g cause, true)
  | .run =>
    let s := (rec_ s).modProt g (fun p => { p with low := false, zeroRun := 0, zeroAt := none, waitRaised := false, overrun := false })
    let s := s.applyStop g cls
    (s.setGState g .rampdown cause, true)
  | .rampdown =>
    match p.stop with
    | some t => if t.cls < cls then (((rec_ s).applyStop g cls).overrideNoted g cls cause, true) else (s, false)
    | none => (s, false)
  | _ => (s, false)

/-- A fault in service: fault pending, then a stop of its class (R261, R280 to R282). -/
def State.faultStop (s : State) (g : Fin 8) (cls cause : Nat) : State :=
  match s.gState g with
  | .softstart | .run | .rampdown => ((s.setPending g cause).stopGroup g cls cause).1
  | _ => s

/-- Start a group: entry to PRECHECK. Suspended slots return (R210); the first step follows from the mean V_out of the
last complete outer cycle (R264). -/
def State.startGroup (s : State) (g : Fin 8) : State :=
  let s := forNums (s.gSlots g) s (fun s n => s.modSlot n (fun x => { x with suspended := false, burst := none }))
  let s := s.modProt g (fun p => { p with
    stop := none, low := false, zeroRun := 0, zeroAt := none, waitRaised := false, overrun := false, discharge := none,
    below60 := none, lag := 0, laneFault := false })
  let s := s.setGState g .precheck 0
  match s.groups[g].loop.vout with
  | none => s.modProt g (fun p => { p with pre := some .await })
  | some v =>
    if v60 ≤ v then
      (s.dischargeChannel g true).modProt g (fun p => { p with pre := some (.discharging s.el) })
    else s.modProt g (fun p => { p with pre := some (.settle s.el) })

/-- May the group leave OFF (R260, R792)? -/
def State.mayStart (s : State) (g : Fin 8) : Bool :=
  s.gState g == .off && s.groups[g].prot.permit && !s.latched && s.groups[g].loop.stored.isSome &&
  s.fullyConfigured g && decide (s.gMin g ≤ s.serviceAtStart g) && !s.groups[g].pwm.test &&
  decide (u8 (s.pwmCfg g) 1 = 0) && !s.isRetired (tgt 1 g) && s.sys.fault.isNone

/-- Entry to SOFTSTART: the timebase start is ordered at this tick, the loop engine begins (R176, R220, R260). -/
def State.toSoftstart (s : State) (g : Fin 8) : State :=
  let s := (s.pwmStart g).loopStart g
  let s := s.modProt g (fun p => { p with softSt := s.st, lag := 0, low := false })
  s.setGState g .softstart 0

/-- The end of the pre-start check: SOFTSTART, or FAULTED when retirements leave too few slots (R260, R264). -/
def State.precheckPassed (s : State) (g : Fin 8) (cause : Nat) : State :=
  if (s.inService g).length < s.gMin g then s.toFaulted g cause false else s.toSoftstart g

/-- Count a retry (R276); under a thermal latch it is not counted (R277). True when the counter is exhausted. -/
def State.addRetry (s : State) (g : Fin 8) : State × Bool :=
  if s.latched then (s, false)
  else
    let t := s.el
    match s.gPort g with
    | some p =>
      let l := (t :: s.ports[p].retries).filter (fun x => decide (t + 1 - 60000000000 ≤ x))
      let s := s.modPort p (fun y => { y with retries := l })
      let s := s.modSession p (fun e => { e with retries := e.retries + 1 })
      (s, decide (3 ≤ l.length))
    | none =>
      let l := (t :: s.groups[g].prot.retries).filter (fun x => decide (t + 1 - 60000000000 ≤ x))
      (s.modProt g (fun p => { p with retries := l }), decide (3 ≤ l.length))

/-- A short detected in SOFTSTART: outputs low, DISCHARGE, one retry; an exhausted counter makes the port FAULTED, or
sets fault pending for a group with no port (R275, R276). -/
def State.softShort (s : State) (g : Fin 8) (cause : Nat) : State :=
  let (s, full) := s.addRetry g
  let s := s.groupRecord g s.st cause s.groups[g].prot.state.code 2 0xFF 2
  let s := if full && (s.gPort g).isNone then s.setPending g 0x14 else s
  let s := s.toDischarge g cause
  if full then (match s.gPort g with | some p => s.portFault p 12 | none => s) else s

/-- Slots in service fall below the minimum: a hard stop with fault pending (R281). In PRECHECK the check's end decides
(R260). -/
def State.checkMinimum (s : State) (g : Fin 8) : State :=
  if (s.inService g).length < s.gMin g then s.faultStop g 2 0x40 else s

/-- TRIP_BURST of a slot with the stamp of its N-th tripped period (R206, R275, R278, R279): bursts of two slots whose stamps
lie less than 1 ms apart (R78) are one cause outside the stage, however many slots join it. -/
def State.tripBurst (s : State) (g : Fin 8) (n : Nat) (stamp : Nat) : State :=
  let s := s.raiseAt stamp (.tripBurst g) n stamp 0
  let t : Int := (stamp : Int) - s.clk.moved
  let near := fun (o : Option Int) => match o with | none => false | some b => decide ((t - b).natAbs < 1000000)
  match s.gState g with
  | .softstart => s.softShort g 0x10
  | .run | .rampdown =>
    let others := (s.gSlots g).filter (fun k => k ≠ n && near (s.slot k).burstAt)
    let s := s.modSlot n (fun x => { x with burstAt := some t })
    let emergency : Bool := match s.groups[g].prot.stop with | some x => decide (x.cls = 1) | none => false
    if others ≠ [] then
      let s := forNums others s (fun s k => s.modSlot k (fun x => { x with burst := none }))
      let s := s.raise (.groupOutputFault g)
      (s.stopGroup g (1 + b01 emergency) 0x13).1
    else
      let s := s.modSlot n (fun x => { x with suspended := true, burst := some (t, stamp) })
      let s := (s.slotLeaves g n).capsOf g
      (whenDo emergency (fun s => (s.stopGroup g 2 0x12).1) s).checkMinimum g
  | _ => s

/-- The cause that a stop under way carries: the pending fault's, or that of the last transition (R260, R261). -/
def State.stopCause (s : State) (g : Fin 8) : Nat := s.groups[g].prot.pending.getD s.groups[g].prot.cause

/-- GROUP_CURRENT_ZERO (R269): outputs low, the contactor's drive off (R332), and DISCHARGE once it is open (R270). -/
def State.currentZero (s : State) (g : Fin 8) : State :=
  let s := s.raise (.groupCurrentZero g)
  let s := (s.groupLow g).modProt g (fun p => { p with zeroAt := some s.el })
  let s := match s.gPort g with | some p => s.contactorDrive p false | none => s
  if s.contactorClosed g then s else s.toDischarge g (s.stopCause g)

/-- The contactor of a group is now open: RAMPDOWN with current zero goes on to DISCHARGE (R270). -/
def State.contactorOpened (s : State) (g : Fin 8) : State :=
  if s.gState g = .rampdown && s.groups[g].prot.zeroAt.isSome && !s.contactorClosed g then
    s.toDischarge g (s.stopCause g)
  else s

/-- The pre-start check decides on the leftover voltage (R264 step 1): `v` is a mean V_out. -/
def State.precheckVolt (s : State) (g : Fin 8) (v : Int) : State :=
  match s.groups[g].prot.pre with
  | some .await =>
    if v60 ≤ v then (s.dischargeChannel g true).modProt g (fun p => { p with pre := some (.discharging s.el) })
    else s.modProt g (fun p => { p with pre := some (.settle s.el) })
  | some (.discharging _) =>
    if v < v60 then (s.dischargeChannel g false).modProt g (fun p => { p with pre := some (.settle s.el) }) else s
  | _ => s

end Sys2Proof.Machine
end

