-- ==== Sys2Proof/Machine/Classify.lean ====
section
/-! DEFINITION. The classifier, retirement with its type-specific actions (R35, R283 to R287), the device-fault state
(R36) and the release of the twin lease (R509). -/

namespace Sys2Proof.Machine

/-- K and W in ns of a resource type (R283). -/
def classLimits (type : Nat) : Nat × Int :=
  if type = 1 then (3, 10000000000)
  else if type = 2 then (5, 60000000000)
  else if type = 3 then (5, 60000000000)
  else if type = 4 then (8, 60000000000)
  else (3, 3600000000000)

/-- A loop engine retires (R35, R267): at rest the group reads FAULTED, running it makes an emergency stop. -/
def State.groupRetire (s : State) (g : Fin 8) (cause : Nat) : State :=
  match s.gState g with
  | .off | .precheck => s.toFaulted g cause false
  | .discharge => s.setPending g cause
  | .faulted => s
  | _ => s.faultStop g 1 cause

/-- A slot has been retired: it leaves the interleave and the group's bounds are judged (R208, R209, R260, R281). -/
def State.slotRetire (s : State) (n : Nat) (wasIn : Bool) : State :=
  let s := s.modSlot n (fun x => { x with suspended := false, burst := none })
  match s.slotGroup n with
  | none => s.modSlot n (fun x => x.bothLow s.fine)
  | some g =>
    let s := (if wasIn then s.slotLeaves g n else s).capsOf g
    match s.gState g with
    | .off => if s.allRetired g then s.toFaulted g 0x40 false else s
    | .precheck => if (s.inService g).length < s.gMin g then s.toFaulted g 0x40 false else s
    | _ => s.checkMinimum g

/-- A port retires: its vehicle link is down with it, so power stops as an emergency (R35, R325, R339). -/
def State.portRetire (s : State) (p : Fin 8) : State :=
  let x : Port := s.ports[p]
  let ends := x.session.isSome
  let on := x.state.live || x.state == .precharge || x.state == .negotiating
  let s := match s.portGroup p with
    | some g => whenDo on (fun s => (s.stopGroup g 1 0).1) s
    | none => s
  (s.portEndSession p 4 false).portSet p .retired (if ends then 4 else 0xFF)

/-- A switch channel retires: held off (R35, R672). -/
def State.swRetire (s : State) (n : Fin 24) : State := (s.swTurnOff n).swState n .retired

/-- Split a target into type and index (R19). -/
def tType (t : Nat) : Nat := t / 4096
def tIndex (t : Nat) : Nat := t % 4096

/-- Retire a resource: the list in MRAM, RESOURCE_RETIRE, and the behaviour of its type (R35, R286). -/
def State.retire (s : State) (target cause t : Nat) : State :=
  let i := tIndex target
  let wasIn := match s.slotGroup i with | some g => (s.inService g).contains i | none => false
  let s := { s with nv := { s.nv with
    retired := s.nv.retired ++ [({ target := target, cause := cause, st := t } : Retired)], retirements := s.nv.retirements + 1 } }
  let s := s.raise .resourceRetire target cause
  match tType target with
  | 1 => if h : i < 8 then s.groupRetire ⟨i, h⟩ cause else s
  | 2 => s.slotRetire i wasIn
  | 3 => if h : i < 8 then s.portRetire ⟨i, h⟩ else s
  | 4 => if h : i < 24 then s.swRetire ⟨i, h⟩ else s
  | 6 => if h : i < 8 then s.canRetire ⟨i, h⟩ else s
  | 7 => if h : i < 128 then s.queueRetire ⟨i, h⟩ else s
  | _ => s

/-- The classifier's entry of a resource (R284). -/
def State.clsfOf (s : State) (target : Nat) : Clsf :=
  (s.nv.clsf.find? (fun e => e.target == target)).getD ({ target := target } : Clsf)

/-- Store a classifier entry. -/
def State.setClsf (s : State) (e : Clsf) : State :=
  { s with nv := { s.nv with clsf := e :: s.nv.clsf.filter (·.target != e.target) } }

/-- The fault record of a fault charged to a group or to one of its slots (R288). -/
def State.chargeRecord (s : State) (target cause t kind : Nat) : State :=
  let i := tIndex target
  match tType target with
  | 1 => if h : i < 8 then s.groupRecord ⟨i, h⟩ t cause (s.gState ⟨i, h⟩).code 0xFF 0xFF kind else s
  | 2 => match s.slotGroup i with
    | some g => s.groupRecord g t cause (s.gState g).code 0xFF i kind
    | none => s
  | _ => s

/-- Charge a fault with stamp `t` (ST) to a resource: its record of the kind given, and retirement when K is exceeded within
W or at the first occurrence where `permanent` (R284, R285). -/
def State.chargeAs (s : State) (kind target cause t : Nat) (permanent : Bool) : State :=
  if s.isRetired target then s
  else
    let e := s.clsfOf target
    let (k, w) := classLimits (tType target)
    let at_ : Int := (t : Int) - s.clk.moved
    let hist := at_ :: e.hist.filter (fun x => decide (at_ + 1 - w ≤ x))
    let gone := permanent || decide (k < hist.length)
    let s := s.setClsf { target, hist := hist.take (k + 1), latest := (t :: e.latest).take 4, total := min 0xFFFFFFFF (e.total + 1), cause }
    let s := { s with fabric := { s.fabric with transients := s.fabric.transients + 1 } }
    let s := if s.isActive then { s with twin := { s.twin with clsfNew := s.twin.clsfNew ++ [(target, cause, t)] } } else s
    let s := s.chargeRecord target cause t kind
    if gone then s.retire target cause t else s

/-- The classifier: its record says transient, also where the fault retires the resource (R284). -/
def State.classify (s : State) (target cause t : Nat) (permanent : Bool) : State := s.chargeAs 0 target cause t permanent

/-! ### Device-fault state and release -/

/-- Enter the device-fault state (R36): PWM and LEASE_OUT low, running groups FAULTED in the same tick, switch channels
to their fault states unless a rail or VS is the cause (R735), sessions whose group is OFF ended with DEVICE (R339), the cause
recorded in MRAM. The groups' records are
written after the restart (R290). A further fault while the device is in that state already changes nothing, a fault of
another cause in a thermal state included: DESIGN CHOICE (entry 239). A group's record takes its values from the last state
image; where none was captured, from the fault's own tick without history (R290; DESIGN CHOICE, entry 253). -/
def State.deviceFault (s : State) (level : Nat) (thermal rail : Bool) : State :=
  if s.sys.fault.isSome then s
  else
    let cause := if thermal then 0x51 else 0x50
    let recs := (List.finRange 8).filterMap (fun g =>
      if s.gState g = .off then none
      else
        let r := s.faultRec g s.st 0 cause (s.gState g).code 0xFF 0xFF 3
        some (g.val, match s.twin.imgRecs.find? (fun x => x.1 == g.val) with
          | some x => r.take 20 ++ x.2.drop 20
          | none => r.take 192 ++ List.replicate 768 0 ++ r.drop 960))
    let s := { s with
      sys := { s.sys with fault := some { thermal, rail, level, at_ := s.el } }
      nv := { s.nv with faultRec := some { level, thermal, st := s.st }, devFaults := s.nv.devFaults + 1,
                        devGroups := recs }
      twin := { s.twin with leaseOut := false } }
    let s := forFin 8 s (fun s g =>
      if s.groups[g].pwm.test || s.gState g = .off || s.gState g = .faulted then s.groupLow g
      else (((s.groupLow g).dischargeChannel g false).modProt g (fun p => { p with discharge := none })).setGState g .faulted cause)
    let s := forFin 8 s (fun s p => match s.ports[p].state with
      | .negotiating => s.portBack p 13
      | .precharge => s.portReturn p 13
      | _ => s)
    if rail then s else s.swFaultStates

/-- The configured shut-down mode (R719, R728). -/
def State.thermMode (s : State) : Nat := match s.nv.cfg.therm with | none => 1 | some b => u8 b 0

/-- Set the thermal latch (R715, R719, R722): kept in MRAM with its ST and mode, the channels go to their fault states
(R721). A latch already set is only marked when the hardware limit trips (R720). -/
def State.setLatch (s : State) (hw : Bool) : State :=
  let l := s.nv.tlatch
  if l.set then { s with nv := { s.nv with tlatch := { l with hw := l.hw || hw } } }
  else
    ({ s with
      nv := { s.nv with tlatch := { set := true, mode := s.thermMode, st := s.st, at_ := s.el, hw := hw, count := l.count + 1 } }
      therm := { s.therm with stopping := false, releasable := false } }).swFaultStates

/-- An orderly shut-down ends when every group is OFF or FAULTED: the latch is set (R719). -/
def State.latchWhenDone (s : State) : State :=
  if s.therm.stopping && (List.finRange 8).all (fun g => s.gState g == .off || s.gState g == .faulted) then s.setLatch false
  else s

/-- The twin releases (R509): LEASE_OUT, PWM, pilot drives and vehicle links low, channels off, transmissions stop,
a release notice; ACTIVE becomes UNFIT (R507). -/
def State.release (s : State) : State :=
  let s := s.setLeaseOut false
  let s := forFin 8 s (fun s g => s.groupLow g)
  let s := forFin 8 s (fun s p => s.modPort p (fun x => { x.unlinked with drive := 2 }))
  let s := s.swAllOff.canRelease
  let s := s.drillBroken
  let s := { s with twin := { s.twin with released := true, leaseEnd := none, drillDue := none }
                    master := { s.master with held := false } }
  let s := s.raise .leaseReleased
  let s := if s.twin.hinge then s.emit (.hinge .release [] []) else s
  s.twinEnter .unfit

end Sys2Proof.Machine
end

