-- ==== Sys2Proof/Machine/Answer.lean ====
section
/-! DEFINITION. Answers of CCP commands: status codes (R604), the answer of a command's own table, retired targets
(R22). -/

namespace Sys2Proof.Machine

/-- Status codes (R604). -/
def stOk : Nat := 0
def stPending : Nat := 1
def stOpcode : Nat := 0x0101
def stLength : Nat := 0x0102
def stParam : Nat := 0x0103
def stTarget : Nat := 0x0104
def stCheck : Nat := 0x0105
def stStale : Nat := 0x0106
def stNotHolder : Nat := 0x0201
def stConflict : Nat := 0x0202
def stPast : Nat := 0x0203
def stTooFar : Nat := 0x0204
def stRetired : Nat := 0x0301
def stFaulted : Nat := 0x0302
def stSealed : Nat := 0x0401
def stDenied : Nat := 0x0402
def stBusy : Nat := 0x0501
def stThermal : Nat := 0x0601

/-- What a command's own table answers: status, offset of the field at fault in the payload without a launch ST (0xFFFF
for none), the reply after the status of an OK answer, and the state it leaves (R603). -/
structure Ans where
  status : Nat
  off : Nat
  rest : Bytes
  s : State
  /-- no reply is sent, wanted or not (R476) -/
  silent : Bool := false

/-- OK with the reply's bytes after the status; 2 reserved bytes where no layout is stated (R603). -/
def Ans.ok (s : State) (rest : Bytes := [0, 0]) : Ans := { status := 0, off := 0xFFFF, rest, s }

/-- An error status without effect (R604). -/
def Ans.err (s : State) (status : Nat) (off : Nat := 0xFFFF) : Ans := { status, off, rest := [], s }

/-- The first row that matches: rows of (condition, status, offset) before the OK row. -/
def firstRow : List (Bool × Nat × Nat) → Option (Nat × Nat)
  | [] => none
  | (c, st, o) :: l => if c then some (st, o) else firstRow l

/-- A command's own table: the first matching row decides, else `f` runs (R600, R604). -/
def Ans.table (s : State) (rows : List (Bool × Nat × Nat)) (f : State → Ans) : Ans :=
  match firstRow rows with
  | some (st, o) => .err s st o
  | none => f s

/-- A row of a table whose field stands at no single offset. -/
def row (c : Bool) (st : Nat) (off : Nat := 0xFFFF) : Bool × Nat × Nat := (c, st, off)

/-- The R22 row of a target. -/
def retRow (s : State) (target : Nat) : Bool × Nat × Nat := row (s.isRetired target) stRetired

/-- The index of a request's target, below `n`. -/
def Req.fin (r : Req) (n : Nat) [NeZero n] : Fin n := Fin.ofNat n (tIndex r.target)

/-- Is the request timed and being run at its launch, or untimed? (The body runs once.) -/
def Req.timed (r : Req) : Bool := bit r.flags 0

/-- Reply wanted (R593). -/
def Req.wants (r : Req) : Bool := bit r.flags 1

/-- Override flag (R593). -/
def Req.override (r : Req) : Bool := bit r.flags 3

/-- Received over HOSTIO. -/
def Req.isLocal (r : Req) : Bool := r.via == .hostio

/-- Store an accepted setting (R791). -/
def Ans.stored (s : State) (f : Cfg → Cfg) : Ans := .ok (s.store f)

/-- `n` reserved or unused bytes at `o` that are not all 0, with the offset of the first such byte (R13, R603). -/
def rz (b : Bytes) (o n : Nat) : Bool × Nat := (!zeros b o n, o + ((sub b o n).takeWhile (· == 0)).length)

/-- A value outside [lo, hi], of the field at `o`. -/
def outside (v lo hi : Int) (o : Nat) : Bool × Nat := (decide (v < lo) || decide (hi < v), o)

/-- The BAD_PARAM row of a list of field checks: of the fields at fault, the one that stands first gives the offset (R603). In a
list of elements or entries each is a field, and of two that clash the later one is at fault (DEDUCED, entry 138). -/
def paramRow (l : List (Bool × Nat)) : Bool × Nat × Nat :=
  match l.filter (·.1) with
  | [] => (false, stParam, 0xFFFF)
  | x :: xs => (true, stParam, xs.foldl (fun (m : Nat) (y : Bool × Nat) => min m y.2) x.2)

/-- The row of retired targets that payload fields name, with the offset of the first such field (R22, R603). -/
def retiredRow (s : State) (l : List (Nat × Nat)) : Bool × Nat × Nat :=
  match l.find? (fun x => s.isRetired x.1) with
  | some (_, o) => (true, stRetired, o)
  | none => (false, stRetired, 0xFFFF)

/-- The group that a request targets. -/
def Req.g (r : Req) : Fin 8 := r.fin 8

end Sys2Proof.Machine
end

