-- ==== Sys2Proof/Machine/Peers.lean ====
section
/-! DEFINITION. The site table, originated CCP packets and the site-master lease as every device sees it (R500, R508,
R520, R526, R593 to R596). -/

namespace Sys2Proof.Machine

/-- An entry of the site table (R526). -/
structure SitePeer where
  site : Nat
  /-- 0 A, 1 B, 2 unpaired -/
  twin : Nat
  net : Nat
  port : Nat
  addr : Nat
  deriving DecidableEq, Repr, Inhabited

/-- The site table (R526). -/
def State.peers (s : State) : List SitePeer :=
  match s.nv.cfg.sites with
  | none => []
  | some b => (List.range (u8 b 1)).map (fun k =>
      let o := 8 + 24 * k
      { site := u8 b o, twin := u8 b (o + 1), net := u8 b (o + 2), port := u16 b (o + 4), addr := uN 16 b (o + 8) })

/-- Does an entry name this device? -/
def State.isSelf (s : State) (e : SitePeer) : Bool :=
  e.site == s.strap.siteId && (e.twin == 2 || e.twin == b01 s.strap.twinB)

/-- Configured positions: those of the site table and the own one. -/
def State.positions (s : State) : List Nat :=
  (List.range 16).filter (fun i => i == s.strap.siteId || s.peers.any (·.site == i))

/-- The header of R593. -/
def ccpHeader (flags code seq len target : Nat) : Bytes :=
  [3] ++ le 1 flags ++ le 2 code ++ le 4 seq ++ le 2 len ++ le 2 target ++ List.replicate 4 0

/-- Header and payload with the CRC-32C of R594. -/
def withCrc (b : Bytes) : Bytes := b ++ le 4 (crc32c b)

/-- A packet with its tag under a key (R594). -/
def tagged (key : Bytes) (b : Bytes) : Bytes := withCrc b ++ cmac key (withCrc b)

/-- The transport of a network number. -/
def viaOf (net : Nat) : Via := if net = 0 then .site0 else .site1

/-- Flag bit 2: a paired device that does not hold the twin lease (R508, R596). -/
def State.twinFlag (s : State) : Nat := 4 * b01 (!s.holdsTwin)

/-- May the device transmit CCP packets of its own: it holds a CCP key (R595) and its twin state sends (R506)? -/
def State.maySend (s : State) : Bool :=
  s.nv.fw.ccpKey.isSome && !(s.paired && (s.twin.state == .waiting || s.twin.state == .unfit))

/-- Originate one packet under the next shared sequence to every entry of the site table that `dest` selects, itself
excepted (R500, R508, R596); nothing where none may be sent (R506, R595). The sequence is answered beside. -/
def State.originate (s : State) (code : Nat) (timed wants : Bool) (payload : Bytes) (dest : SitePeer → Bool) :
    Nat × State :=
  match s.nv.fw.ccpKey with
  | none => (0, s)
  | some key =>
    let dests := s.peers.filter (fun e => dest e && !s.isSelf e)
    if !s.maySend then (0, s)
    else
      let (q, s) := s.nextSeq
      let raw := tagged key (ccpHeader (b01 timed + 2 * b01 wants + s.twinFlag) code q payload.length 0 ++ payload)
      let s := dests.foldl (fun s e => s.emit (.ccp (viaOf e.net) e.addr e.port raw)) s
      let asked : List Outstanding := if wants then ((dests.map (·.site)).eraseDups).map (fun p => { code, seq := q, site := p }) else []
      (q, { s with ccp := { s.ccp with waiting := (asked ++ s.ccp.waiting).take 256 } })

/-- SITE_MASTER candidacy (R66). -/
def State.candidate (s : State) : Bool := bit s.roles 2

/-- Does the device contend for the site-master lease: a candidate without a SITE_ID conflict (R6, R66)? -/
def State.contends (s : State) : Bool := s.candidate && !s.sys.idConflict

/-- Does this device hold the site-master lease: taken, and its end not passed (R66, R520)? -/
def State.mastering (s : State) : Bool := s.master.held && decide (s.el < s.master.leaseEnd)

/-- The position that this device knows as the holder of the site-master lease: until the lease end + 200 us
(R161, R520). -/
def State.masterSite (s : State) : Option Nat :=
  if s.mastering then some s.strap.siteId
  else match s.master.holder, s.master.holderEnd with
    | some p, some e => if s.el < e + 200000 then some p else none
    | _, _ => none

/-- Does this device's position hold the site-master lease as far as it knows? -/
def State.posHolds (s : State) : Bool := s.masterSite == some s.strap.siteId

/-- Hold an accepted launch (R108, R111). -/
def State.pushLaunch (s : State) (r : Req) : State :=
  { s with launches := s.launches ++ [{ at_ := r.launch, order := s.launchCount, req := r }]
           launchCount := s.launchCount + 1 }

/-- The rows of R107 and R106 for a launch at `t`. -/
def State.launchRows (s : State) (t : Nat) : List (Bool × Nat × Nat) :=
  [ row (s.time.quality == .invalid) stConflict
  , row (decide (t < s.st + 20000)) stPast 0
  , row (decide (s.st + 10000000000 ≤ t)) stTooFar 0 ]

/-- The row of R108: every launch slot is in use. -/
def State.slotsRow (s : State) : Bool × Nat × Nat := row (decide (256 ≤ s.launches.length)) stBusy

/-- A site-time or allocation message from outside the own pair carried the own SITE_ID (R6): raised at each, and pending until reset. -/
def State.siteConflict (s : State) : State :=
  ({ s with sys := { s.sys with idConflict := true } }).raise .siteIdConflict

/-- The code of a time quality (R75). -/
def Quality.code : Quality → Nat
  | .locked => 0 | .holdover => 1 | .free => 2 | .invalid => 3

end Sys2Proof.Machine
end

