-- ==== Sys2Proof/Machine/MetroOps.lean ====
section
/-! DEFINITION. The metrology partition's log, keyway, calibration table and settings as named operations (R382 to R407,
R426 to R428). -/

namespace Sys2Proof.Machine

/-! ### Metrology event log (R426 to R428) -/

/-- Keyway state: 0 OPEN, 1 CLOSED, 2 SEALED (R386, R390). -/
def State.keyway (s : State) : Nat :=
  if s.strap.partCM || s.metro.sealed then 2 else if s.vbat.sealLevel then 0 else 1

/-- The bytes of a record (R426). -/
def MRec.bytes (r : MRec) : Bytes :=
  let b := le 8 r.st ++ le 4 r.seq ++ le 2 r.code ++ le 1 r.quality ++ le 1 r.keyway ++ le 4 r.p1 ++ le 4 r.p2 ++
    List.replicate 4 0
  b ++ le 4 (crc32c b)

/-- Is the general part of the keyway area full (R428)? -/
def State.keywayFull (s : State) : Bool := decide (960 ≤ s.metro.general.length)

/-- Place a record in its area (R426, R428): codes 0x05 and 0x06 in the reserved part, where a TAMPER record past 63
replaces the oldest but the first; other keyway codes in the general part while it has room; the rest in the running
area. -/
def Metro.place (m : Metro) (r : MRec) : Metro :=
  if r.code = 5 then { m with reserved := r :: m.reserved, kwCount := m.kwCount + 1 }
  else if r.code = 6 then
    let sealed := m.reserved.filter (·.code == 5)
    let tampers := m.reserved.filter (·.code != 5) ++ [r]
    let tampers := if 63 < tampers.length then tampers.take 1 ++ tampers.drop 2 else tampers
    { m with reserved := sealed ++ tampers, kwCount := m.kwCount + 1 }
  else if r.code ≤ 7 then { m with general := m.general ++ [r], kwCount := m.kwCount + 1 }
  else { m with running := (r :: m.running).take 4096 }

/-- Write a metrology event record (R426, R427); METER_LOG_FULL at the record that fills the general part (R428). -/
def State.mrec (s : State) (code : Nat) (p1 : Nat := 0) (p2 : Nat := 0) (st : Nat := s.st) : State :=
  let seq := (s.metro.logSeq + 1) % 2 ^ 32
  let r : MRec := { st, seq, code, quality := s.time.quality.code, keyway := s.keyway, p1 := p1 % 2 ^ 32, p2 := p2 % 2 ^ 32 }
  let s := { s with metro := { s.metro.place r with logSeq := seq } }
  if s.keywayFull && !s.metro.fullRaised then
    ({ s with metro := { s.metro with fullRaised := true } }).raise .meterLogFull
  else s

/-- The accepted changes of SEAL_N that wait for the log, each with the ST of its acceptance: a record, or a count where the general part
is full; KEYWAY_CHANGE while powered (R387, R428). -/
def State.sealRecord (s : State) (powered : Bool) : State :=
  let l := s.vbat.sealNew
  let s := { s with vbat := { s.vbat with sealNew := [] } }
  l.foldl (fun s x =>
    let s := if s.keywayFull then
        { s with metro := { s.metro with kwLost := min 0xFFFFFFFF (s.metro.kwLost + 1) } }
      else s.mrec (if x.2 then 1 else 2) 0 0 x.1
    if powered then s.raise .keywayChange else s) s

/-- The tampers that wait for their records, with the ST of acceptance that the VBAT domain latched (R388; DEDUCED, entry 265);
`late` when found at power-up. -/
def State.tamperRecords (s : State) (late : Bool) : State :=
  let l := s.vbat.tamperNew
  let s := { s with vbat := { s.vbat with tamperNew := [] } }
  l.foldl (fun s x => (s.mrec 6 x.2 (b01 late) x.1).raise .meterTamper) s

/-- A sample of SEAL_N by the VBAT domain, `elapsed` ns after the RTC's last copy: the tenth equal one is accepted; a high level under
SEALED is a tamper (R387, R388). The log follows at once while the device runs, else at the next power-up. The ST of an acceptance
while it does not run is the RTC's, 0 where that is not valid (R93). -/
def State.sealSample (s : State) (level : Bool) (elapsed : Nat) : State :=
  if !s.vbat.powered then s
  else
    let n := if s.vbat.sealSample.1 = level then min 10 (s.vbat.sealSample.2 + 1) else 1
    let s := { s with vbat := { s.vbat with sealSample := (level, n) } }
    if n < 10 || s.vbat.sealLevel = level then s
    else
      let t := if s.sys.mode = .run then s.st else (s.vbat.now elapsed).getD 0
      let s := { s with vbat := { s.vbat with sealLevel := level, sealNew := s.vbat.sealNew ++ [(t, level)] } }
      let s := if level && s.keyway = 2 then
          { s with vbat := { s.vbat with tamperHeld := true, tampers := s.vbat.tampers + 1, tamperNew := s.vbat.tamperNew ++ [(t, s.vbat.tampers + 1)] } }
        else { s with vbat := { s.vbat with tamperHeld := s.vbat.tamperHeld && level } }
      if s.sys.mode = .run then (s.sealRecord true).tamperRecords false else s

/-- What power-up, or a wake of the powered device, finds (R387, R388). -/
def State.sealAtPower (s : State) (powered : Bool) : State := (s.sealRecord powered).tamperRecords (!powered)

/-- SEAL_N as the VBAT domain samples it, whether or not the device is powered (R387). -/
def execSealNChange (level : SealLevel) (s : State) : Host.Outcome State Fault Refusal := .next (s.sealSample level.high level.elapsed)

/-- Is the partition stopped (R385)? -/
def State.metroStopped (s : State) : Bool := s.metro.stopped.isSome

/-! ### Calibration (R400 to R407) -/

/-- Split a table's records, `n` of them (R406). -/
def calRecs : Nat → Bytes → List Bytes
  | 0, _ => []
  | n + 1, b =>
    let k := 8 + 16 * u8 b 2 + 136
    b.take k :: calRecs n (b.drop k)

/-- The record of a lane in a table (R400). -/
def calOf (t : Option Bytes) (lane : Nat) : Option Bytes :=
  match t with
  | none => none
  | some b => (calRecs (u16 b 2) (b.drop 32)).find? (fun r => u16 r 0 == lane)

/-- Range block `r` of a record: O, FS, g, d (R406). -/
def calRange (b : Bytes) (r : Nat) : Int × Nat × Int × Int :=
  let o := 8 + 16 * r
  (i32 b o, u32 b (o + 4), i32 b (o + 8), i32 b (o + 12))

/-- Temperature point `i` of a record: g_T, d_T. -/
def calPoint (b : Bytes) (i : Nat) : Int × Int :=
  let o := 8 + 16 * u8 b 2 + 8 * i
  (i32 b o, i32 b (o + 4))

/-- g_T and d_T at a temperature in 0.1 degC (R402, R407). -/
def calTemp (b : Bytes) (temp : Int) : Rat × Rat :=
  if u8 b 3 = 0xFF then (0, 0)
  else
    let x : Rat := ((temp : Rat) / 10 + 40) / (103125 / 10000)
    if x ≤ 0 then ((calPoint b 0).1, (calPoint b 0).2)
    else if 16 ≤ x then ((calPoint b 16).1, (calPoint b 16).2)
    else
      let i := (ratFloor x).toNat
      let f := x - (i : Nat)
      let a := calPoint b i
      let c := calPoint b (i + 1)
      (a.1 + f * ((c.1 - a.1 : Int) : Rat), a.2 + f * ((c.2 - a.2 : Int) : Rat))

/-- Is a temperature outside the table's range (R402)? -/
def tempOutside (temp : Int) : Bool := decide (temp < -400) || decide (1250 < temp)

/-- The calibrated value of a code, and the lane's delay correction in 0.1 ns (R401). -/
def calibrate (b : Bytes) (range : Nat) (temp code : Int) : Rat × Rat :=
  let (o, fs, g, d) := calRange b range
  let (gt, dt) := calTemp b temp
  (((code - o) * (fs : Int) : Int) / (8388608 * 1000000 : Rat) * (1 + ((g : Rat) + gt) / 100000000), (d : Rat) + dt)

/-! ### Fixed metrology state of an FLV-7320-CM (R3, R391) -/

/-- METER_CONFIG section of meter `m` of an FLV-7320-CM. -/
def cmSection (m : Nat) : Bytes :=
  if m < 8 then le 1 1 ++ le 1 1 ++ le 2 (8 * m) ++ le 2 (128 + 2 * m) ++ [0, 0] ++ le 4 0 ++ le 4 1000 ++ List.replicate 8 0
  else
    let v := 8 * m
    le 1 2 ++ le 1 3 ++ le 1 1 ++ [0] ++ le 2 v ++ le 2 (v + 1) ++ le 2 (v + 2) ++ le 2 (v + 3) ++ le 2 (v + 4) ++ le 2 (v + 5) ++
      le 2 (v + 6) ++ [0, 0] ++ le 4 200 ++ List.replicate 8 0

/-- A factory figure within its bound (R406, R407). -/
def factoryFig (n k bound : Nat) : Int :=
  let x := Config.factoryTrim n k
  if x.natAbs ≤ bound then x else 0

/-- Calibration record of a modulator lane of an FLV-7320-CM: quantity and full scale in uV or uA; offset, trim and delay 0, no
temperature source. -/
def cmModRec (lane quantity fs : Nat) : Bytes :=
  le 2 lane ++ le 1 1 ++ le 1 0xFF ++ le 1 quantity ++ [0, 0, 0] ++ le 4 0 ++ le 4 fs ++ List.replicate 144 0

/-- Calibration record of direct channel `i`, with the factory's figures: of an even one, which a DC meter uses, the full scale is
3000 A at x1 and an eighth of it at each higher gain; of an odd one it is open (entry 262). -/
def cmDirectRec (i : Nat) : Bytes :=
  let n := 128 + i
  let fs : Nat := if i % 2 = 0 then 3000000000 else 1 + (Config.factoryTrim n 0).toNat % 0xFFFFFFFF
  let ranges := (List.range 3).map (fun r =>
    (factoryFig n (4 * r + 1) 1048576, max 1 (fs / 8 ^ r), factoryFig n (4 * r + 2) 5000000, factoryFig n (4 * r + 3) 1000000))
  let point := fun (k bound : Nat) (l : List Int) =>
    let x := Config.factoryTrim n k
    if l.all (fun g => decide ((g + x).natAbs ≤ bound)) then x else 0
  let src := (Config.factoryTrim n 13).toNat % 73
  le 2 n ++ le 1 3 ++ le 1 (if src < 64 then src else if src < 72 then 64 + src else 0xFF) ++ le 1 1 ++ [0, 0, 0] ++
    ranges.flatMap (fun x => lei 4 x.1 ++ le 4 x.2.1 ++ lei 4 x.2.2.1 ++ lei 4 x.2.2.2) ++
    (List.range 17).flatMap (fun j =>
      lei 4 (point (14 + 2 * j) 5000000 (ranges.map (·.2.2.1))) ++ lei 4 (point (15 + 2 * j) 1000000 (ranges.map (·.2.2.2))))

/-- Calibration table of an FLV-7320-CM: the lanes that R391 names and every direct channel. Its generation and its ST of creation
are open (entry 262). -/
def cmTable : Bytes :=
  let recs := (List.range 8).map (fun n => cmModRec (8 * n) 0 1500000000) ++
    (List.range 4).flatMap (fun m => (List.range 7).map (fun k =>
      if k < 3 then cmModRec (64 + 8 * m + k) 0 600000000 else cmModRec (64 + 8 * m + k) 1 2000000000)) ++
    (List.range 16).map cmDirectRec
  let gen := 1 + (Config.factoryTrim 144 0).toNat % 0xFFFFFFFF
  let body := recs.flatten
  let b := le 2 1 ++ le 2 recs.length ++ le 4 gen ++ le 8 ((Config.factoryTrim 144 1).toNat % 2 ^ 64) ++ le 4 (36 + body.length) ++
    List.replicate 12 0 ++ body
  b ++ le 4 (crc32c b)

/-- The calibration table in force (R400): of an FLV-7320-CM the factory's, for good (R3, R391). -/
def State.calTable (s : State) : Option Bytes := if s.strap.partCM then some cmTable else s.metro.cal

/-- MCLK divisor of octet `k` (R431): 20 for every octet of an FLV-7320-CM (R391). -/
def State.mclkDiv (s : State) (k : Nat) : Nat := if s.strap.partCM then 20 else vget s.metro.divs k 20

/-- CRC-32C of the metrology section recorded at sealing (R390): an FLV-7320-CM left the factory sealed with the section that
it runs. -/
def State.metroSection (s : State) : Nat := if s.strap.partCM && !s.metro.sealed then s.nv.fw.metroCrc else s.metro.fwCrc

/-- CRC-32C of the table in force; 0 with none (R429). -/
def State.calCrc (s : State) : Nat := match s.calTable with | none => 0 | some b => u32 b (b.length - 4)

/-- Is a record's every field within range (R406, R407)? -/
def calRecOk (b : Bytes) : Bool :=
  let r := u8 b 2
  let lane := u16 b 0
  let src := u8 b 3
  decide (lane < 144) && (r == if lane < 128 then 1 else 3) && decide (b.length = 8 + 16 * r + 136) &&
  (decide (src ≤ 63) || (decide (0x80 ≤ src) && decide (src ≤ 0x87)) || src == 0xFF) && decide (u8 b 4 ≤ 1) && zeros b 5 3 &&
  (List.range r).all (fun k =>
    let (o, fs, g, d) := calRange b k
    decide (o.natAbs ≤ 1048576) && decide (1 ≤ fs) && decide (g.natAbs ≤ 5000000) && decide (d.natAbs ≤ 1000000) &&
    (List.range 17).all (fun i =>
      let p := calPoint b i
      decide ((g + p.1).natAbs ≤ 5000000) && decide ((d + p.2).natAbs ≤ 1000000)))

/-- Is a table accepted (R406, R407)? -/
def calTableOk (b : Bytes) : Bool :=
  let recs := calRecs (u16 b 2) (b.drop 32)
  let lanes := recs.map (fun r => u16 r 0)
  u16 b 0 == 1 && decide (1 ≤ u16 b 2) && decide (u16 b 2 ≤ 144) && u32 b 4 != 0 &&
  decide (u32 b 16 = b.length) && decide (36 ≤ b.length) && decide (b.length ≤ 27684) && zeros b 20 12 &&
  decide (32 + (recs.map (·.length)).sum + 4 = b.length) &&
  u32 b (b.length - 4) == crc32c (b.take (b.length - 4)) && recs.all calRecOk &&
  (List.zipWith (fun a c => decide (a < c)) lanes (lanes.drop 1)).all id

/-! ### Meters (R408 to R410, R431) -/

/-- METER_CONFIG section of a meter in force: of an FLV-7320-CM the factory's, for good (R3, R391). -/
def State.mCfg (s : State) (m : Fin 12) : Bytes :=
  if s.strap.partCM then cmSection m else (s.metro.cfg[m]).getD (List.replicate 32 0)

/-- Enabled (R431). -/
def mEnabled (b : Bytes) : Bool := bit (u8 b 1) 0

/-- Is `m` a DC meter (R430)? -/
def isDc (m : Nat) : Bool := decide (m < 8)

/-- Voltage lanes, current lanes and the neutral lane of a section (R431). -/
def mVolts (m : Nat) (b : Bytes) : List Nat := if isDc m then [u16 b 2] else [u16 b 4, u16 b 6, u16 b 8]
def mAmps (m : Nat) (b : Bytes) : List Nat := if isDc m then [u16 b 4] else [u16 b 10, u16 b 12, u16 b 14]
def mNeutral (m : Nat) (b : Bytes) : Option Nat :=
  if !isDc m && bit (u8 b 1) 1 && decide (u16 b 16 < 144) then some (u16 b 16) else none

/-- Every lane of a section. -/
def mLanes (m : Nat) (b : Bytes) : List Nat := mVolts m b ++ mAmps m b ++ (mNeutral m b).toList

/-- Creep threshold, mA (R431). -/
def mCreep (m : Nat) (b : Bytes) : Nat := u32 b (if isDc m then 12 else 20)

/-- The enabled meters. -/
def State.metersOn (s : State) : List (Fin 12) := (List.finRange 12).filter (fun m => mEnabled (s.mCfg m))

/-- The enabled meters that use a lane. -/
def State.metersOf (s : State) (lane : Nat) : List (Fin 12) := s.metersOn.filter (fun m => (mLanes m (s.mCfg m)).contains lane)

/-- Update meter `m`. -/
def State.modMeter (s : State) (m : Fin 12) (f : Meter → Meter) : State :=
  { s with metro := { s.metro with meters := s.metro.meters.set m (f s.metro.meters[m]) } }

/-- Update lane `n`. -/
def State.modLane (s : State) (n : Fin 144) (f : Lane → Lane) : State :=
  { s with metro := { s.metro with lanes := s.metro.lanes.set n (f s.metro.lanes[n]) } }

/-- Filters of lanes start or restart: 16 settling samples, range 0 (R396, R399). -/
def State.filterRestart (s : State) (which : Nat → Bool) : State :=
  forFin 144 s (fun s n => whenDo (which n) (·.modLane n (fun l => { l with settle := 16, range := 0, down := 0 })) s)

/-- The event METER_OVERRANGE of a meter (R664). -/
def overrangeEv (m : Nat) : Ev := if isDc m then .dcMeterOverrange m else .acMeterOverrange (m - 8)

/-- The event METER_TEMP_RANGE of a meter. -/
def tempRangeEv (m : Nat) : Ev := if isDc m then .dcMeterTempRange m else .acMeterTempRange (m - 8)

/-- The temperature that a calibration source reads, none while invalid (R402, R403). -/
def State.calSource (s : State) (src : Nat) : Option Int :=
  if src ≤ 63 then
    let p := vget s.hk.pts src {}
    if p.valid then some p.value else none
  else
    let d := vget s.therm.dies (src - 0x80) {}
    if d.failed then none else some d.temp

/-- Lane temperatures at a housekeeping round (R402, R403); a lane without a source has neither flag. -/
def State.meterTemps (s : State) : State :=
  if s.metroStopped then s
  else
    let recs := match s.calTable with | none => [] | some b => calRecs (u16 b 2) (b.drop 32)
    let with_ := (recs.filter (fun r => u8 r 3 != 0xFF)).map (fun r => u16 r 0)
    let s := { s with metro := { s.metro with lanes := Vector.ofFn (fun (n : Fin 144) =>
      let l := s.metro.lanes[n]
      if with_.contains n.val then l else { l with tempBad := false, tempRange := false }) } }
    recs.foldl (fun s r =>
      let src := u8 r 3
      if h : u16 r 0 < 144 then
        if src = 0xFF then s
        else
          let n : Fin 144 := ⟨u16 r 0, h⟩
          let l := s.metro.lanes[n]
          match s.calSource src with
          | none => if l.tempBad then s else (s.modLane n (fun l => { l with tempBad := true })).mrec 0x16 n src
          | some t =>
            let out := tempOutside t
            let s := s.modLane n (fun l => { l with temp := t, tempBad := false, tempRange := out })
            if out && !l.tempRange then (s.metersOf n).foldl (fun (s : State) (m : Fin 12) => s.raise (tempRangeEv m)) (s.mrec 0x15 n (par t)) else s
      else s) s

end Sys2Proof.Machine
end

