-- ==== Sys2Proof/Machine/PhaseGen.lean ====
section
/-! DEFINITION. The phase generator: delay-line calibration, load-alls, pickups, period starts, edges, trips, and the
PWM commands (R170 to R218). -/

namespace Sys2Proof.Machine

/-- The new map is written to each edge unit that waits for it and has no edge in this and the next fabric tick: none of the
present period, none at or after the next period start, and no rise that is delayed (R184, R187). -/
def State.mapTurn (s : State) (n : Nat) : State :=
  let x := s.slot n
  if x.mapWait = 0 then s
  else
    let now := s.fine
    let (mode, action, on) := match s.slotGroup n with
      | some g => (s.groups[g].pwm.mode, s.groups[g].pwm.tripAction, s.groups[g].pwm.running && decide (0 < x.len))
      | none => (0, 0, false)
    let h := x.piecesH
    let l := x.lowPieces mode action
    let busy := fun (u : Nat) => on && (decide (x.next < now + 128) || (u == 0 && x.delayH) || (u == 2 && x.delayL) ||
      ((if u < 2 then h else l).map (fun p => x.start + (if u % 2 = 0 then p.1 else p.2 : Nat))).any
        (fun e => decide (now ≤ e) && decide (e < now + 128)))
    let due := fun (u : Nat) => bit x.mapWait u && !busy u
    s.modSlot n (fun x => { x with
      maps := Vector.ofFn (fun (u : Fin 4) => if due u then x.taps else x.maps[u])
      mapWait := maskOf ((List.range 4).filter (fun u => bit x.mapWait u && busy u)) })

/-- A delay-line measurement of a slot has its result: `taps` is T, none when the replica fails its self-test (R186 to R188).
The measurement starts at the slot's own tick of each millisecond; its range check, at whose tick the command acts, comes
18 us after that (step 3 of the table of R187; DEDUCED, entry 249). The measurement takes the bias of the last housekeeping round
(R713). -/
def State.delayLineCal (s : State) (n : Fin 48) (taps : Option Nat) : State :=
  let s := forNums (List.range 48) s (fun s k => s.mapTurn k)
  let at_ := (n.val * 20000 + 18000) * 2 ^ 32
  if s.clk.fix % (1000000 * 2 ^ 32) - at_ < 10737418240 && decide (at_ ≤ s.clk.fix % (1000000 * 2 ^ 32)) then
    let s := s.modSlot n (fun x => { x with bias := s.hk.bias })
    let s := if n.val = 47 then { s with fabric := { s.fabric with calRound := s.st / 1000000 * 1000000 } } else s
    match taps.filter (fun t => decide (40 ≤ t) && decide (t ≤ 90)) with
    | some t => (s.modSlot n (fun x => { x with taps := t, coarse := false, calFailed := false, calSt := s.st, mapWait := 15 })).mapTurn n
    | none =>
      let s := s.modSlot n (fun x => { x with coarse := true, calFailed := true, calFaults := min 255 (x.calFaults + 1) })
      (s.raise (.pwmCalFault n) n).classify (tgt 2 n) 0x23 s.st false
  else s

def execDelayLineCal (n : Fin 48) (taps : Option Nat) (s : State) : Host.Outcome State Fault Refusal :=
  live s (·.delayLineCal n taps)

/-- A held load-all, or a waiting change of spacing, takes effect at the first tick of the lead window once no slot is
armed (R190, R193, R198). -/
def State.loadallTakeEffect (s : State) (g : Fin 8) : State :=
  let w := s.groups[g].pwm
  whenDo (w.running && (w.held || w.respace) && !s.anyArmed g && s.inLeadWindow g) (·.loadEffect g) s

def execLoadallTakeEffect (g : Fin 8) (s : State) : Host.Outcome State Fault Refusal := live s (·.loadallTakeEffect g)

/-- First start of position `k`'s new grid at or after `t`, the reference at `ref` and period `p` (R195, R196). -/
def gridStart (ref : Int) (k n p : Nat) (t : Int) : Int :=
  let a := ref + offsetOf k n p
  let full : Int := 64 * p
  if full = 0 then t else a + (-((a - t).fdiv full)) * full

/-- The latency record of a pickup by the loop engine, and its maxima (R242, R243, R252, R258). A slot with no result yet
has no sample: its stamp and latencies are free values (entry 3). -/
def State.latencyTrace (s : State) (g : Fin 8) (n : Nat) : State :=
  let x := s.slot n
  if x.resStamp = 0 then
    let (a, s) := s.free
    let (b, s) := s.free
    let r := latencyRec { x with resStamp := a, resLat := b } n s.st a x.trans
    let s := s.modLoop g (fun l => { l with lats := (r :: l.lats).take 1024, latLost := l.latLost || decide (1024 ≤ l.lats.length) })
    s.capNote 0 g s.st r
  else
    let octet := s.gPhaseLane g n / 8
    let centre : Int := (x.resStamp : Int) - groupDelayNs (u8 (s.gCfg g) 3) (s.mclkDiv octet)
    let eff := ((s.st : Int) - centre).toNat
    let r := latencyRec x n s.st eff x.trans
    let s := s.modLoop g (fun l => { l with
      lats := (r :: l.lats).take 1024, latLost := l.latLost || decide (1024 ≤ l.lats.length)
      effMax := max l.effMax eff, effMin := some (match l.effMin with | none => eff | some m => min m eff) })
    s.capNote 0 g s.st r

/-- The first tick at or after an instant, both in fine steps of elapsed time, as ticks follow the present one. -/
def State.tickAt (s : State) (t : Int) : Int := s.fine - 64 * (s.fine - t).fdiv 64

/-- The first edge of MCLK `k` at or after an instant, N being its divisor: while pairing is enabled at the first tick at or
after each whole multiple of N x 2.5 ns of ST (R492), else at a phase of its own (entry 252). -/
def State.mclkEdge (s : State) (k n : Nat) (t : Int) : Int :=
  let step : Int := 64 * n
  if s.paired then
    let shift := ((s.clk.fix : Int) * 128).fdiv (5 * 2 ^ 32) - s.fine
    let m := -((-(t + shift)).fdiv step) * step - shift
    if t ≤ s.tickAt (m - step) then s.tickAt (m - step) else s.tickAt m
  else t + ((Config.mclkPhase k n : Int) - t) % step

/-- The sample of the period that begins: its impulse centre at the first MCLK edge at or after the sample point, its stamp the
filter's group delay of 3 (OSR - 1) / 2 MCLK periods later (R53, R228). -/
def State.notePoint (s : State) (g : Fin 8) (n : Nat) : State :=
  if s.groups[g].pwm.test then s
  else
    let x := s.slot n
    let b := s.groups[g].loop.par1
    let off := if u8 b 40 = 1 then x.force.hFall / 2 else min (u32 b 44) (64 * x.vals.period - 1)
    let k := s.gPhaseLane g n / 8
    let div := s.mclkDiv k
    let at_ := s.mclkEdge k div (x.start + off) + 96 * (u8 (s.gCfg g) 3 - 1 : Nat) * div
    s.modSlot n (fun x => { x with points := x.points.filter (fun p => decide (s.fine < p + 64)) ++ [at_] })

/-- Slot `n` of group `g` picks up at its period start (R192, R195, R196). The first slot of a round is the lead: its
pickup fixes the round's period, pins a new grid to S_r and advances the lead position among the slots in service (R189). -/
def State.pickup (s : State) (g : Fin 8) (n : Nat) : State :=
  let w := s.groups[g].pwm
  let x := s.slot n
  let t := x.next
  let l := s.inService g
  let cnt := l.length
  let note : PickNote := { tick := s.fine, fresh := x.fresh, superseded := x.superseded, effMax := s.groups[g].loop.effMax
                           effMin := s.groups[g].loop.effMin, opened := w.roundP.isNone, periodWas := w.period, refWas := w.ref
                           period := 0, change := false }
  -- the lead's pickup opens the round
  let (s, p) := match w.roundP with
    | some p => (s, p)
    | none =>
      let p := s.shP g
      let change := decide (p ≠ w.period) || w.roundSpace
      let s := s.modPwm g (fun w => { w with
        roundP := some p, roundChange := change, lead := if cnt = 0 then 0 else (w.lead % cnt + 1) % cnt
        loadCnt := w.loadCnt + 1, dtRaised := false, period := p, grid := w.round
        ref := if change then w.leadStart - offsetOf w.roundLead w.round.length p else w.ref })
      -- a spacing change clears the trims, and n follows (R237)
      let s := if w.roundSpace && !w.test then
        (forNums l s (fun s k => s.modSlot k (fun x => { x with trim := 0 }))).modLoop g (fun lp => { lp with n := cnt }) else s
      (s, p)
  let w := s.groups[g].pwm
  let full := 64 * p
  let len := if w.roundChange then (gridStart w.ref (w.round.idxOf n) w.round.length p (t + 32 * p) - t).toNat else full
  let m := s.tripM g
  let s := s.modSlot n (fun x =>
    { ({ x with force := x.shadow, vals := s.shVals g p, armed := false, dutyForce := x.duty } : Slot).begin t len w.roundChange w.mode m s.fine with
      pick := some { note with period := p, change := w.roundChange } })
  let s := s.edgeNote n 6 s.st
  -- the record tells whether the result was new at this pickup
  let s := if w.test then s else (s.notePoint g n).latencyTrace g n
  let s := s.modSlot n (fun y => { y with fresh := false, superseded := 0 })
  if s.anyArmed g then s else s.modPwm g (fun w => { w with roundChange := false })

/-- The shadows are taken up anew by a pickup of this tick, which they were written in: its values, the length of its period, and
those of its round when it opened that (R192, R195, R241). -/
def State.retake (s : State) (g : Fin 8) (n : Nat) (p : PickNote) : State :=
  let w := s.groups[g].pwm
  let per := if p.opened then s.shP g else p.period
  let change := if p.opened then decide (per ≠ p.periodWas) || w.roundSpace else p.change
  let ref := if !p.opened then w.ref else if change then w.leadStart - offsetOf w.roundLead w.round.length per else p.refWas
  let s := if p.opened then s.modPwm g (fun w => { w with roundP := some per, roundChange := change && s.anyArmed g, period := per, ref })
    else s
  let t := (s.slot n).start
  let len := if change then (gridStart ref (w.round.idxOf n) w.round.length per (t + 32 * per) - t).toNat else 64 * per
  s.modSlot n (fun x =>
    { ({ x with force := x.shadow, vals := s.shVals g per, dutyForce := x.duty, len, trans := change } : Slot).settle w.mode s.fine with
      pick := some { p with fresh := x.fresh, superseded := x.superseded, period := per, change } })

/-- A write to the shadows in the tick of the slot's pickup: what that pickup noted is undone, and it is made again with what
`write` leaves in the shadows (R241). Maxima cleared in this tick stay cleared but for this pickup (R258). -/
def State.pickAgain (s : State) (g : Fin 8) (n : Nat) (p : PickNote) (write : State → State) : State :=
  let mine := fun (r : Bytes) => u8 r 24 == n && u64 r 16 == s.st
  let s := { s with capLog := (s.capLog.reverse.eraseP (fun (r : CapRec) => r.kind == 0 && r.group == g.val && mine r.bytes)).reverse }
  let s := s.modLoop g (fun l =>
    let cleared := decide (l.clearSt = s.st)
    { l with lats := l.lats.eraseP mine, effMax := if cleared then 0 else p.effMax, effMin := if cleared then none else p.effMin })
  let s := write (s.modSlot n (fun x => { x with fresh := p.fresh, superseded := p.superseded }))
  let s := s.retake g n p
  if s.groups[g].pwm.test then s.modSlot n (fun x => { x with fresh := false, superseded := 0 })
  else
    let s := s.modSlot n (fun x => { x with points := x.points.dropLast })
    ((s.notePoint g n).latencyTrace g n).modSlot n (fun x => { x with fresh := false, superseded := 0 })

/-- A write to the shadows of slot `n` takes place, and a pickup of this very tick takes it up (R241). -/
def State.shadowWrite (s : State) (n : Nat) (write : State → State) : State :=
  match s.slotGroup n with
  | none => write s
  | some g =>
    match (s.slot n).pick.filter (fun p => decide (p.tick = s.fine) && s.groups[g].pwm.running && decide (0 < (s.slot n).len)) with
    | some p => s.pickAgain g n p write
    | none => write s

/-- What was written to the shadows of slot `n` or of its group is taken up by a pickup of this very tick (R241). -/
def State.pickTaken (s : State) (n : Nat) : State := s.shadowWrite n id

/-- A slot armed for this period start picks up (R191, R192). -/
def State.slotPickup (s : State) (n : Fin 48) : State :=
  match s.slotGroup n with
  | none => s
  | some g =>
    let x := s.slot n
    let w := s.groups[g].pwm
    whenDo (w.running && (s.inService g).contains n.val && x.armed && decide (x.next ≤ s.fine) && decide (w.leadStart ≤ x.next))
      (fun s => (s.pickup g n).mapTurn n) s

def execSlotPickup (n : Fin 48) (s : State) : Host.Outcome State Fault Refusal := live s (·.slotPickup n)

/-- A period of a slot starts on the values in force (R176, R180, R202). -/
def State.slotPeriodStart (s : State) (n : Fin 48) : State :=
  match s.slotGroup n with
  | none => s
  | some g =>
    let x := s.slot n
    let w := s.groups[g].pwm
    let picks := x.armed && decide (w.leadStart ≤ x.next)
    whenDo (w.running && (s.inService g).contains n.val && !picks && decide (0 < x.len) && decide (x.next ≤ s.fine))
      (fun s => ((s.modSlot n (fun x => x.begin x.next (64 * x.vals.period) false w.mode (s.tripM g) s.fine)).notePoint g n).mapTurn n) s

def execSlotPeriodStart (n : Fin 48) (s : State) : Host.Outcome State Fault Refusal := live s (·.slotPeriodStart n)

/-! ### Edges -/

/-- Does an instant come after the last one noted? -/
def afterLast (last : Option Int) (t : Int) : Bool := match last with | none => true | some r => decide (r < t)

/-- The piece whose rise is due by the end of the present tick, which has not risen yet and still has time to run, as
(start, end) in fine steps of elapsed time. -/
def duePiece (l : List (Nat × Nat)) (start now : Int) (rose : Option Int) : Option (Int × Int) :=
  (l.map (fun p => (start + p.1, start + p.2))).find? (fun p =>
    decide (p.1 < now + 64) && decide (now < p.2) && afterLast rose p.1)

/-- The fall that is due by the end of the present tick for an output that last rose at `rose`. A piece that reaches the
period's end has no compare there: the next period start decides (R180, R196). -/
def dueFall (l : List (Nat × Nat)) (start now : Int) (len : Nat) (rose : Option Int) : Option Int :=
  ((l.filter (fun p => decide (p.2 < len))).map (fun p => start + (p.2 : Int))).find? (fun e =>
    decide (e < now + 64) && afterLast rose e)

/-- A rising edge of one output is delayed (R184); in modes 1 and 2 it counts, and the first of a pickup raises
PWM_DEADTIME_CLAMP (R185). -/
def State.delayEdge (s : State) (g : Fin 8) (n : Nat) (high : Bool) : State :=
  let x := s.slot n
  let w := s.groups[g].pwm
  if (if high then x.delayH else x.delayL) then s
  else
    let s := s.modSlot n (fun x => if high then { x with delayH := true } else { x with delayL := true })
    if w.mode = 0 then s
    else
      let s := if w.dtRaised then s else s.raise (.pwmDeadtimeClamp g) n
      s.modPwm g (fun w => { w with dtCnt := w.dtCnt + 1, dtRaised := true })

/-- A rising edge of PWM_H or PWM_L: kept out of every tick in which the other was high, and delayed to the end of the dead
time (R179 to R184). -/
def State.risingEdge (s : State) (g : Fin 8) (n : Nat) (high : Bool) : State :=
  let x := s.slot n
  let w := s.groups[g].pwm
  let now := s.fine
  let dt : Int := if high then x.vals.dtLH else x.vals.dtHL
  let l := if high then x.piecesH else x.lowPieces w.mode w.tripAction
  let isOn := if high then x.outH else x.outL
  let otherOn := if high then x.outL else x.outH
  let fell := if high then x.fellL else x.fellH
  let waiting := if high then x.delayH else x.delayL
  -- PWM_H goes first when both fall due in one tick (R184)
  let hDue := !high && !x.outH && x.cut.isNone && !x.delayH && (duePiece x.piecesH x.start now x.roseH).isSome
  match duePiece l x.start now (if high then x.roseH else x.roseL) with
  | none => s
  | some (a, b) =>
    let near : Bool := match fell with | none => false | some f => decide (now - 64 < f)
    let inTick : Bool := match fell with | none => false | some f => decide (now < f)
    let clear := match fell with | none => a | some f => max a (f + dt)
    let e := if waiting || near then max clear now else clear
    let late := waiting || otherOn || hDue || inTick || decide (a < e)
    if isOn || (high && x.cut.isSome) then s
    else
      let s := if late then s.delayEdge g n high else s
      if otherOn || hDue || inTick || decide (now + 64 ≤ e) then s
      else
        let at_ := edgeInstant x.coarse now e
        -- in coarse steps an edge nearer to the next tick waits for it (R188)
        if now + 64 ≤ at_ then s
        else if late && decide (b - at_ < 64 * x.vals.minPulse) then s
        else s.modSlot n (fun x =>
          (if high then ({ x with outH := true, roseH := some e, delayH := false } : Slot)
           else { x with outL := true, roseL := some e, delayL := false }).blankAt e)

/-- A falling edge of PWM_H or PWM_L at its compare (R179); of an output that is low, a delay with nothing left to wait for
ends. -/
def State.fallingEdge (s : State) (g : Fin 8) (n : Nat) (high : Bool) : State :=
  let x := s.slot n
  let w := s.groups[g].pwm
  let now := s.fine
  let l := if high then x.piecesH else x.lowPieces w.mode w.tripAction
  let rose := if high then x.roseH else x.roseL
  let fall := fun (e : Int) => s.modSlot n (fun x =>
    let at_ := edgeInstant x.coarse now e
    if high then x.fallH e at_ else x.fallL e at_)
  if !(if high then x.outH else x.outL) then (if (duePiece l x.start now rose).isNone then fall now else s)
  else
    match dueFall l x.start now x.len rose with
    | some e => fall e
    | none => if now < x.next && !inPiece l (max now (rose.getD now) - x.start) then fall now else s

/-- A compare edge of an output. -/
def State.pwmCompareEdge (s : State) (n : Fin 48) (high rise : Bool) : State :=
  match s.slotGroup n with
  | none => s
  | some g =>
    let x := s.slot n
    let on := s.groups[g].pwm.running && decide (0 < x.len) && (s.inService g).contains n.val
    let s := if rise then whenDo (on && s.pwmAllowed) (·.risingEdge g n high) s else whenDo on (·.fallingEdge g n high) s
    s.mapTurn n

def execPwmCompareEdge (n : Fin 48) (high rise : Bool) (s : State) : Host.Outcome State Fault Refusal :=
  live s (·.pwmCompareEdge n high rise)

/-! ### Trips -/

/-- A trip at instant `f` (fine steps) with its stamp, outside every blanking window, is acted on: the pulse is cut, the period that holds
the stamp is a tripped one, and the counts of R205, R206 and R275 are judged. -/
def State.tripActed (s : State) (g : Fin 8) (n : Nat) (f : Int) (stamp : Nat) : State :=
  let x := s.slot n
  let w := s.groups[g].pwm
  let now := s.fine
  let s := (s.modSlot n (fun x => { x with tripHeld := none })).edgeNote n 4 stamp
  let inThis := decide (x.start ≤ f)
  let first := if inThis then !x.tripped else !(x.trips.headD true)
  -- the cut, in the period that holds the stamp only (R201, R203)
  let s := if !inThis then s.modSlot n (fun x => { x with trips := match x.trips with | [] => [] | _ :: l => true :: l
                                                          tripRun := if first then x.tripRunWas + 1 else x.tripRun })
    else s.modSlot n (fun x =>
      let x : Slot := { x with tripped := true, cut := some (x.cut.getD now) }
      if w.tripAction = 1 then x.bothLow now else x.fallH now now)
  if !first then s
  else
    let s := s.modPwm g (fun w => { w with tripCnt := w.tripCnt + 1 })
    let x := s.slot n
    let run := x.tripRun + b01 x.tripped
    let s := if s.gState g = .softstart && decide (8 ≤ run) then s.softShort g 0x10 else s
    if s.groups[g].pwm.running && decide (s.tripN g ≤ x.tripCount (s.tripM g)) then
      let s := s.tripBurst g n stamp
      if w.test then s.pwmStop g else s
    else s

/-- An active trip level arrives: its stamp is its tick of arrival less 20 ns (R199). It is ignored when not enabled
(R204), for a slot out of service (R208), and inside a blanking window; a level that stays active past the window's end is
stamped with that end (R200). -/
def State.tripRegistered (s : State) (n : Fin 48) : State :=
  match s.slotGroup n with
  | none => s
  | some g =>
    let x := s.slot n
    let f := s.fine - 512
    let ends := (x.blanks.map (·.2)).filter (fun e => decide (f - 64 < e) && decide (e ≤ f))
    let lasts : Bool := match x.tripHeld with | some h => decide (f - 128 < h) | none => false
    if !(s.groups[g].pwm.running && decide (0 < x.len) && (s.inService g).contains n.val && s.tripEn g n) then s
    else if x.blanks.any (fun b => decide (b.1 ≤ f) && decide (f < b.2)) then (s.modSlot n (fun x => { x with tripHeld := some f })).edgeNote n 5 (s.st - 20)
    else match lasts, ends with
      | true, e :: l => s.tripActed g n (l.foldl max e) (s.fineStamp (l.foldl max e))
      | _, _ => s.tripActed g n f (s.st - 20)

def execTripRegistered (n : Fin 48) (s : State) : Host.Outcome State Fault Refusal := live s (·.tripRegistered n)

/-! ### Commands -/

/-- PWM_WRITE section 0 (R213 to R216); a paired device with slots in the group keeps dead times of at least 512 (R493). -/
def bodyPwmGroup (r : Req) (s : State) : Ans :=
  let b := r.body
  let g := r.g
  let old := s.pwmCfg g
  let sw := decide (u8 b 1 ≠ b01 s.groups[g].pwm.test) || decide (u8 b 2 ≠ u8 old 2) || decide (u8 b 3 ≠ u8 old 3)
  let n := u8 b 20
  .table s
    [paramRow [outside (u8 b 1) 0 1 1, outside (u8 b 2) 0 2 2, outside (u8 b 3) 0 1 3, outside (u32 b 4) 800 40000 4,
       (s.paired && s.gMask g != 0 && decide (u32 b 8 < 512), 8), (s.paired && s.gMask g != 0 && decide (u32 b 12 < 512), 12),
       outside (u32 b 8) 0 65535 8, outside (u32 b 12) 0 65535 12, outside (u16 b 16) 0 640 16, outside (u16 b 18) 4 400 18,
       outside n 1 255 20, rz b 21 1, outside (u16 b 22) n 65535 22,
       (decide (u64 b 24 &&& s.gMask g ≠ u64 b 24), 24), rz b 32 8],
     retRow s r.target,
     row (sw && s.gState g != .off) stConflict]
    (fun s =>
      let was := s.tripEn g
      let s := s.store (fun c => { c with pwm := c.pwm.set g (some b) })
      let s := if s.groups[g].pwm.test && decide (u8 b 1 = 0) then s.pwmStop g else s
      let s := s.modPwm g (fun w => { w with test := decide (u8 b 1 = 1) })
      .ok (forNums (s.gSlots g) s (fun s k =>
        let s := if s.tripEn g k && !was k then
          s.modSlot k (fun x => { x with trips := [], tripRun := 0, tripRunWas := 0, tripped := false }) else s
        s.pickTaken k)))

/-- PWM_WRITE section 1 (R213, R215). -/
def bodyPwmSlot (r : Req) (s : State) : Ans :=
  let b := r.body
  let n := tIndex r.target
  let fields := match s.slotGroup n with
    | none => []
    | some g =>
      let full : Int := 64 * s.shP g
      let lz := s.shMode g != 1
      [outside (u32 b 4) 0 (full - 1) 4, outside (u32 b 8) 0 (full - 1) 8,
       outside (u32 b 12) 0 (if lz then 0 else full - 1) 12, outside (u32 b 16) 0 (if lz then 0 else full - 1) 16]
  .table s
    [paramRow ([rz b 1 3] ++ fields ++ [rz b 20 4]),
     retRow s r.target,
     row (s.slotGroup n).isNone stConflict,
     row (match s.slotGroup n with | none => true | some g => !s.groups[g].pwm.test) stConflict]
    (fun s => .ok ((s.modSlot n (fun x => { x with shadow := comparesOf b })).pickTaken n))

/-- PWM_WRITE (0x0501). -/
def bodyPwmWrite (r : Req) (s : State) : Ans :=
  let sec := u8 r.body 0
  .table s
    [row (decide (1 < sec)) stParam 0,
     row (decide (tType r.target ≠ if sec = 0 then 1 else 2)) stTarget]
    (fun s => if sec = 0 then bodyPwmGroup r s else bodyPwmSlot r s)

/-- The period starts of slot `k` that lie ahead as its round in progress makes them, the present one in front: an armed slot
picks up at its first own start at or after S_r, and its transitional period ends on the new grid (R191, R195, R196). -/
def State.startsAhead (s : State) (g : Fin 8) (k : Nat) : List Int :=
  let w := s.groups[g].pwm
  let x := s.slot k
  let own : Int := 64 * x.vals.period
  if !x.armed then [x.start, x.next, x.next + own, x.next + 2 * own, x.next + 3 * own]
  else
    let p := w.roundP.getD (s.shP g)
    let full : Int := 64 * p
    let n := w.round.length
    let opened := w.roundP.isSome
    let change := if opened then w.roundChange else decide (p ≠ w.period) || w.roundSpace
    let ref := if opened then w.ref else w.leadStart - offsetOf w.roundLead n p
    let t := if x.next < w.leadStart then x.next + own else x.next
    let e := if change then gridStart ref (w.round.idxOf k) n p (t + 32 * p) else t + full
    [t, e, e + full, e + 2 * full, e + 3 * full]

/-- Where the lead slot will pick up for a load-all issued now, and its lead position: in the window that is open or
opens next, or once the round in progress is over (R189, R193; entry 42). -/
def State.leadAhead (s : State) (g : Fin 8) : Nat × Int :=
  let l := s.inService g
  let n := l.length
  let w := s.groups[g].pwm
  if n = 0 then (0, s.fine)
  else if !s.anyArmed g then (w.lead % n, match s.leadWindow g with | some (_, sr) => sr | none => s.fine)
  else
    let r := if w.roundP.isSome then w.lead % n else (w.lead + 1) % n
    let done := (l.map (fun k => if (s.slot k).armed then (s.startsAhead g k).headD 0 else s.fine)).foldl max s.fine
    let mine := s.startsAhead g (l.getD r 0)
    let before := s.startsAhead g (l.getD ((r + n - 1) % n) 0)
    (r, (mine.find? (fun t => before.any (fun b => decide (done ≤ b) && decide (b < t)))).getD (mine.getLastD s.fine))

/-- PWM_LOADALL (0x0502, R216, R217). The first one under host test starts the timebase (entry 42). -/
def bodyPwmLoadall (r : Req) (s : State) : Ans :=
  let g := r.g
  .table s
    [retRow s r.target,
     row (!s.groups[g].pwm.test) stConflict,
     row (decide (s.inService g = [])) stConflict,
     row (s.gState g == .faulted) stFaulted]
    (fun s =>
      if s.groups[g].pwm.running then
        let (lead, sr) := s.leadAhead g
        let held := s.anyArmed g || !s.inLeadWindow g
        let s' := s.loadAll g false
        .ok s' (le 1 lead ++ le 1 (b01 held) ++ le 8 (s.tickSt sr))
      else
        let s' := s.pwmStart g
        .ok s' (le 1 0 ++ le 1 0 ++ le 8 (s'.tickSt s'.groups[g].pwm.leadStart)))

/-- One record of PWM_CAL_STATUS (R218). -/
def calRec (s : State) (n : Nat) : Bytes :=
  let x := s.slot n
  le 1 n ++ le 1 (b01 x.coarse + 2 * b01 (s.slotRetired n) + 4 * b01 x.calFailed) ++ le 1 x.taps ++ le 1 x.calFaults ++ le 4 x.calSt

/-- PWM_CAL_STATUS (0x0503, R218). -/
def bodyPwmCalStatus (r : Req) (s : State) : Ans :=
  let l := if tType r.target = 0 then List.range 48 else [tIndex r.target]
  .ok s (le 1 l.length ++ [0] ++ le 8 s.fabric.calRound ++ List.replicate 4 0 ++ (l.map (calRec s)).flatten)

end Sys2Proof.Machine
end

