-- ==== Sys2Proof/Machine/LoopEngine.lean ====
section
/-! DEFINITION. The loop engine: profile steps, samples, inner results, load-alls, set-points and the LOOP commands
(R219 to R258). -/

namespace Sys2Proof.Machine

/-- The next profile step takes up a set-point: a soft-start start or mode transfer sets the position from the measured
value (R247, R248), any other new target only replaces the old one (R251). True when the step went no further. The records of
causes 0, 2 and 3 hold the position before that step's move: DESIGN CHOICE (entry 289). -/
def State.takeSetPoint (s : State) (g : Fin 8) (p : SetPoint) : State × Bool :=
  let l := s.groups[g].loop
  let old := l.target
  let transfer := p.current != l.current
  if transfer || p.restart then
    let measured := if p.current then l.iout.getD 0 else l.vout.getD 0
    let s := s.modLoop g (fun l => { l with
      current := p.current, target := p.target, limit := p.limit, next := none, pos := measured * 2 ^ 24 })
    let s := s.traceReplan g (if transfer then 4 else 1) old p.target
    (s.modLoop g (fun l => { l with vel := 0, acc := 0, atTarget := false, preset := l.preset || transfer }), true)
  else
    let s := s.modLoop g (fun l => { l with target := p.target, limit := p.limit, next := none })
    if p.target = old then (s, false)
    else ((s.traceReplan g 0 old p.target).modLoop g (fun l => { l with atTarget := false }), false)

/-- One step of the profile generator (R249), with its records and events (R244, R251). -/
def State.profileAdvance (s : State) (g : Fin 8) : State :=
  let l := s.groups[g].loop
  let (l', k) := profileStep l
  let arrive := fun (s : State) => (s.modLoop g (fun l => { l with atEl := s.el })).raise (.profileAtTarget g)
  match k with
  | .rest => s
  | .reported | .arrived => arrive (s.modLoop g (fun _ => l'))
  | .moved => s.modLoop g (fun _ => l')
  | .arrest => (s.traceReplan g 2 l.target l.target).modLoop g (fun x => { x with vel := 0, acc := 0, atTarget := l'.atTarget })
  | .clamped =>
    let s := s.traceReplan g 3 l.target l.target
    let s := s.modLoop g (fun x => { x with pos := l'.pos, vel := 0, acc := 0, atTarget := true })
    arrive (s.raise (.profileClamp g))

/-- At every whole microsecond of ST (R245), while the loop engine computes (R220); an emergency stop bypasses the
profile (R266). -/
def State.profileTick (s : State) (g : Fin 8) : State :=
  let l := s.groups[g].loop
  let us := s.st / 1000
  let bypass := match s.groups[g].prot.stop with | some t => decide (t.cls = 1) | none => false
  if s.loopActive g && !bypass && s.atMultiple 1000 && l.stepped != some us then
    let s := s.modLoop g (fun l => { l with stepped := some us })
    match l.next with
    | none => s.profileAdvance g
    | some p =>
      let (s, done) := s.takeSetPoint g p
      if done then s else s.profileAdvance g
  else s

def execProfileStep (g : Fin 8) (s : State) : Host.Outcome State Fault Refusal := live s (·.profileTick g)

/-! ### Samples and the inner stage -/

/-- A triggered sample of a phase lane (R226 to R230): at a tick at which one is due, at most one a period; a retired lane's
is invalid (R35). -/
def State.triggeredSample (s : State) (n : Fin 48) (code : Int) (valid : Bool) : State :=
  match s.slotGroup n with
  | none => s
  | some g =>
    let now := s.fine
    let point := (s.slot n).points.find? (fun p => decide (p ≤ now) && decide (now < p + 64))
    let lane := s.gPhaseLane g n
    let valid := valid && !s.isRetired (tgt 5 lane)
    if !(s.loopActive g && s.groups[g].pwm.running && (s.inService g).contains n.val) || point.isNone then s
    else
      let p2 := s.loopPar g 2
      let (v, sat) := sampleQ16 code (i16 p2 (28 + 2 * s.slotIndex g n)) (i32 p2 16)
      let s := s.setSat g [(9, sat)]
      let s := s.modSlot n (fun x => { x with
        current := v, valid := valid
        samples := if valid then v :: x.samples else x.samples
        points := x.points.filter (fun p => decide (now < p)), sampledAt := some now
        jobs := x.jobs ++ [{ stamp := s.st, avail := s.el + 20, current := v, valid := valid }] })
      let s := s.capNote 2 g s.st (le 8 s.st ++ le 2 lane ++ lei 2 code ++ le 1 g ++ [0, 0, 0])
      if valid then s
      else
        let s := if s.groups[g].loop.laneRaised then s else s.raise (.loopLaneInvalid g)
        let s := s.modLoop g (fun l => { l with laneRaised := true, laneInvalid := true })
        let s := s.modSlot n (fun x => { x with trim := 0 })
        if (s.inService g).all (fun k => !(s.slot k).valid) then
          (s.modProt g (fun p => { p with laneFault := true })).faultStop g 2 0x21
        else s

def execTriggeredSample (n : Fin 48) (code : Int) (valid : Bool) (s : State) : Host.Outcome State Fault Refusal :=
  live s (·.triggeredSample n code valid)

/-- The mean of the valid phase samples of the period round that ends now, which replaces an invalid one; none where the round
has no valid sample (R230). A round is taken as one period before the result is written: DESIGN CHOICE (entry 290). -/
def State.validMean (s : State) (g : Fin 8) : Option Int :=
  let l := ((s.inService g).map s.slot).filter (fun x => x.valid &&
    (match x.sampledAt with | none => false | some t => decide (s.fine < t + 64 * x.vals.period)))
  if l = [] then none else some (rdiv (l.map (·.current)).sum l.length)

/-- What the inner stage takes for a sample: its value, for an invalid one the mean of the round's valid samples, without any a
free value (R230; entry 3). -/
def State.sampleFor (s : State) (g : Fin 8) (j : InnerJob) : Int × State :=
  if j.valid then (j.current, s)
  else match s.validMean g with
    | some m => (m, s)
    | none => let (v, s) := s.free; ((v : Int), s)

/-- The result of one inner computation reaches its slot's shadows (R236, R238, R243). -/
def State.resultWrite (s : State) (g : Fin 8) (n : Nat) (j : InnerJob) : State :=
  let (i, s) := s.sampleFor g j
  let l := s.groups[g].loop
  let x := s.slot n
  let (d, integ, flags) := innerStage l x.trim i x.integ (l.vout.getD 0) (l.vin.getD 0)
  let lat := (s.el - j.avail).toNat
  let clamped := flags.any (fun f => f.1 == 7 && f.2)
  let w := s.groups[g].pwm
  let sh := dutyCompares d (s.shP g) w.mode (s.shDtHL g) (s.shDtLH g) x.shadow
  let s := s.modSlot n (fun x => { x with
    jobs := x.jobs.tail, integ := integ, duty := d, shadow := sh, resStamp := j.stamp, resLat := lat, resClamped := clamped
    resInvalid := !j.valid, fresh := true, superseded := x.superseded + b01 x.fresh })
  let s := s.modLoop g (fun l => { l with
    clMax := max l.clMax lat, super := l.super + BitVec.ofNat 32 (b01 x.fresh)
    laneInvalid := (s.inService g).any (fun k => !(s.slot k).valid) })
  s.setSat g flags

/-- The oldest queued computation of a slot has its result, within 1.8 us of its sample becoming available (R239); a pickup in
this very tick takes it up (R241). -/
def State.innerResult (s : State) (n : Fin 48) : State :=
  match s.slotGroup n with
  | none => s
  | some g =>
    match (s.slot n).jobs with
    | [] => s
    | j :: _ =>
      if !(s.loopActive g && decide (j.avail ≤ s.el) && decide (s.el ≤ j.avail + 1800)) then s
      else s.shadowWrite n (·.resultWrite g n j)

def execInnerResultWrite (n : Fin 48) (s : State) : Host.Outcome State Fault Refusal := live s (·.innerResult n)

/-- A computation that has not written within 1.8 us is abandoned: LOOP_OVERRUN, charged to the group (R239, R282). -/
def State.loopOverrun (s : State) (n : Fin 48) : State :=
  match s.slotGroup n with
  | none => s
  | some g =>
    match (s.slot n).jobs with
    | [] => s
    | j :: _ =>
      if s.loopActive g && decide (j.avail + 1800 < s.el) then
        let s := s.modSlot n (fun x => { x with jobs := x.jobs.tail })
        let s := s.modLoop g (fun l => { l with cAbandoned := l.cAbandoned + 1 })
        (s.raise (.loopOverrun g) n j.stamp).classify (tgt 1 g) 0x22 s.st false
      else s

def execLoopOverrun (n : Fin 48) (s : State) : Host.Outcome State Fault Refusal := live s (·.loopOverrun n)

/-- The loop engine issues a load-all at the first tick of a lead window that opens while no slot is armed (R240). -/
def State.loopLoadall (s : State) (g : Fin 8) : State :=
  match s.leadWindow g with
  | none => s
  | some (a, b) =>
    whenDo (s.loopActive g && s.groups[g].pwm.running && !s.anyArmed g && decide (a ≤ s.fine) && decide (s.fine < b) &&
        decide (s.fine < a + 65))
      (·.loadAll g false) s

def execLoopLoadall (g : Fin 8) (s : State) : Host.Outcome State Fault Refusal := live s (·.loopLoadall g)

/-! ### Commands -/

/-- Field checks of LOOP_PARAM (R253): fields after the section byte. -/
def loopParamFields (s : State) (g : Fin 8) (b : Bytes) : List (Bool × Nat) :=
  let q : Int := 65536
  match u8 b 0 with
  | 0 => [rz b 1 3, outside (i32 b 4) 0 0x7FFFFFFF 4, outside (i32 b 8) 0 0x7FFFFFFF 8, outside (i32 b 12) 0 0x7FFFFFFF 12,
      outside (i32 b 16) 0 0x7FFFFFFF 16, outside (i32 b 20) 0 0x7FFFFFFF 20, outside (i32 b 24) 0 (5000 * q) 24,
      outside (i32 b 28) (-5000 * q) 0 28, rz b 32 24]
  | 1 => [rz b 1 3, outside (i32 b 4) 0 0x7FFFFFFF 4, outside (i32 b 8) 0 0x7FFFFFFF 8, outside (i32 b 12) 0 0x40000000 12,
      outside (i32 b 16) 0 (i32 b 20 - 1) 16, outside (i32 b 20) (i32 b 16 + 1) 0x3FFFFFFF 20,
      outside (i32 b 24) 0 0x7FFFFFFF 24, outside (i32 b 28) 0 0x7FFFFFFF 28, outside (i32 b 32) 0 (100 * q) 32,
      outside (i32 b 36) q (500 * q) 36, outside (u8 b 40) 0 1 40, rz b 41 3, outside (u32 b 44) 0 (64 * s.shP g - 1) 44,
      rz b 48 8]
  | 2 =>
    let k := (s.gSlots g).length
    [rz b 1 3, outside (i32 b 4) q (2000 * q) 4, outside (i32 b 8) q (5000 * q) 8, outside (i32 b 12) q (2000 * q) 12,
      outside (i32 b 16) q (1000 * q) 16, rz b 26 2] ++
    ((List.range 12).filter (fun i => k ≤ i)).map (fun i => rz b (28 + 2 * i) 2) ++ [rz b 52 4]
  | _ => [(true, 0)]

/-- LOOP_PARAM (0x0601, R253, R254). -/
def bodyLoopParam (r : Req) (s : State) : Ans :=
  let b := r.body
  let g := r.g
  .table s
    [paramRow (loopParamFields s g b), retRow s r.target, row (s.gState g == .faulted) stFaulted,
     row (u8 b 0 == 2 && s.gState g != .off) stConflict]
    (fun s => .stored s (fun c =>
      match u8 b 0 with
      | 0 => { c with loop0 := c.loop0.set g (some b) }
      | 1 => { c with loop1 := c.loop1.set g (some b) }
      | _ => { c with loop2 := c.loop2.set g (some b) }))

/-- LOOP_PROFILE (0x0602, R255). -/
def bodyLoopProfile (r : Req) (s : State) : Ans :=
  let b := r.body
  let g := r.g
  let l := s.groups[g].loop
  let rest := decide (l.pos = l.target * 2 ^ 24) && decide (l.vel = 0) && decide (l.acc = 0)
  .table s
    [paramRow [outside (u32 b 0) 1 100000 0, outside (u32 b 4) 1 100000000 4, outside (u32 b 8) 1 1000000000 8,
       outside (u32 b 12) 1 100000 12, outside (u32 b 16) 1 100000000 16, outside (u32 b 20) 1 1000000000 20, rz b 24 8],
     retRow s r.target, row (s.gState g == .faulted) stFaulted, row (s.gState g != .off && !rest) stConflict]
    (fun s => .ok ((s.store (fun c => { c with profile := c.profile.set g (some b) })).modLoop g
      (fun l => { l with limits := limitsOf b })))

/-- The state rows of R257 after the field checks: the status that refuses a set-point. -/
def State.setpointRefused (s : State) (g : Fin 8) (current restart : Bool) : Option Nat :=
  let st := s.gState g
  if s.isRetired (tgt 1 g) then some stRetired
  else if st = .faulted then some stFaulted
  else if st = .discharge then some stConflict
  else if current && st != .run then some stConflict
  else if restart && st != .softstart then some stConflict
  else none

/-- An accepted set-point: stored for the next soft start, or taken up at the next profile step (R251, R257). One accepted
before the first step of a soft start gives that start its target (R247). -/
def State.setpointTake (s : State) (g : Fin 8) (current restart : Bool) (target limit : Int) : State :=
  let s := if current then s else s.modLoop g (fun l => { l with stored := some (target, limit) })
  match s.gState g with
  | .softstart | .run => s.modLoop g (fun l => { l with next := some {
      restart := restart || (match l.next with | some p => p.restart && p.current == current | none => false)
      current, target, limit } })
  | _ => s

/-- A set-point from the port session (R257): its status and effect. -/
def State.setpoint (s : State) (g : Fin 8) (current restart : Bool) (target limit : Int) : Nat × State :=
  let q : Int := 65536
  if (outside target (if current then -3000 * q else 0) (if current then 3000 * q else 1250 * q) 4).1 ||
      (outside limit 0 (if current then 1250 * q else 3000 * q) 8).1 then (stParam, s)
  else match s.setpointRefused g current restart with
  | some st => (st, s)
  | none => (stOk, s.setpointTake g current restart target limit)

/-- The port that a group serves is not IDLE (R326). -/
def State.portBusy (s : State) (g : Fin 8) : Bool :=
  match s.gPort g with | none => false | some p => s.ports[p].state != .idle

/-- GROUP_SETPOINT (0x0403, R256, R257). -/
def bodyGroupSetpoint (r : Req) (s : State) : Ans :=
  let b := r.body
  let g := r.g
  let current := u8 b 0 == 1
  let restart := bit (u8 b 1) 0
  let q : Int := 65536
  let target := i32 b 4
  let limit := i32 b 8
  .table s
    [row (s.portBusy g) stConflict,
     paramRow [outside (u8 b 0) 0 1 0, outside (u8 b 1) 0 1 1, rz b 2 2,
       outside target (if current then -3000 * q else 0) (if current then 3000 * q else 1250 * q) 4,
       outside limit 0 (if current then 1250 * q else 3000 * q) 8, rz b 12 4],
     match s.setpointRefused g current restart with
       | some st => (true, st, 0xFFFF)
       | none => row false stConflict]
    (fun s =>
      let l := s.groups[g].loop
      let s' := s.setpointTake g current restart target limit
      let taken := s.gState g == .softstart || s.gState g == .run
      let us := s.st / 1000
      let nextSt := if s.atMultiple 1000 && l.stepped != some us then s.st else (us + 1) * 1000
      let fresh := restart || current != l.current || (match l.next with | some p => p.restart | none => false)
      let d := target * 2 ^ 24 - l.pos
      let k := if current then 3 else 0
      let sg := if d = 0 && !current then l.vel.sign else d.sign
      let inside := !fresh && l.vel != 0 && decide (l.vel.sign = sg) &&
        decide (d.natAbs < stopDistance (l.limits.getD (k + 1) 0) (l.limits.getD (k + 2) 0) (sg * l.vel) (sg * l.acc))
      .ok s' (le 1 (b01 (taken && !fresh && decide (target ≠ l.target)) + 2 * b01 (taken && inside)) ++ [0] ++
        le 8 (if taken then nextSt else 0)))

/-- LOOP_TRACE (0x0603, R258). -/
def bodyLoopTrace (r : Req) (s : State) : Ans :=
  let b := r.body
  let g := r.g
  let kind := u8 b 0
  let n := u16 b 2
  let l := s.groups[g].loop
  .table s
    [paramRow [outside kind 0 2 0, outside (u8 b 1) 0 (if kind = 2 then 1 else 0) 1,
       outside n (if kind = 2 then 0 else 1) (if kind = 0 then 127 else if kind = 1 then 64 else 0) 2, rz b 4 4]]
    (fun s =>
      if kind = 2 then
        let rest := [0, 0] ++ le 4 l.sat ++ le 4 l.clMax ++ le 4 l.effMax ++ le 4 (l.effMin.getD 0) ++ le 4 l.super.toNat ++
          le 4 l.cReplans.toNat ++ le 4 l.cClamps.toNat ++ le 4 l.cArrests.toNat ++ le 4 l.cAbandoned.toNat ++ le 8 l.clearSt
        let s := if bit (u8 b 1) 0 then s.modLoop g (fun l => { l with
            sat := 0, clMax := 0, effMax := 0, effMin := none, super := 0, cReplans := 0, cClamps := 0, cArrests := 0
            cAbandoned := 0, clearSt := s.st }) else s
        .ok s rest
      else
        let all := (if kind = 0 then l.lats else l.replans).reverse
        let key := fun (x : Bytes) => u64 x (if kind = 0 then 16 else 0)
        let want := all.dropWhile (fun x => decide (key x < u64 b 8))
        let got := want.take n
        let lost := if kind = 0 then l.latLost else l.replanLost
        let (oldest, s) := match all with
          | x :: _ => (key x, s)
          | [] => s.free
        let s := s.modLoop g (fun l => if kind = 0 then { l with latLost := false } else { l with replanLost := false })
        .ok s (le 1 got.length ++ le 1 (b01 (decide (got.length < want.length)) + 2 * b01 lost) ++ List.replicate 4 0 ++
          le 8 oldest ++ got.flatten))

end Sys2Proof.Machine
end

