-- ==== Sys2Proof/Machine/StageProt.lean ====
section
/-! DEFINITION. Power-stage protection: the pre-start check, stops, discharge, faults in service, the group's part of an
outer cycle, and the GROUP, PHASE, FAULT and RESOURCE commands (R259 to R301). -/

namespace Sys2Proof.Machine

/-! ### Pre-start check (R264, R265) -/

/-- V_in minimum as Q16.16. -/
def State.vinMin (s : State) (g : Fin 8) : Int := u16 (s.gCfg g) 52 * 65536

/-- Step 2: V_out has not fallen below 60 V within 1 s of the discharge channel turning on (R273). -/
def State.precheckDischargeTimeout (s : State) (g : Fin 8) : State :=
  match s.groups[g].prot.pre with
  | some (.discharging t) =>
    if s.gState g = .precheck && decide (t + 1000000000 ≤ s.el) then
      ((s.raise (.dischargeTimeout g)).modProt g (fun p => { p with discharge := some t })).toFaulted g 0x31 true
    else s
  | _ => s

def execPrecheckDischargeTimeout (g : Fin 8) (s : State) : Host.Outcome State Fault Refusal :=
  live s (·.precheckDischargeTimeout g)

/-- Step 3: the settle of 2 ms ends and V_in is checked against its minimum. -/
def State.precheckSettleEnd (s : State) (g : Fin 8) : State :=
  match s.groups[g].prot.pre with
  | some (.settle t) =>
    if s.gState g = .precheck && decide (t + 2000000 ≤ s.el) then
      let low : Bool := match s.groups[g].loop.vin with | none => true | some v => decide (v < s.vinMin g)
      s.modProt g (fun p => { p with pre := some (bif low then .lowVin s.el else .sampling s.el) })
    else s
  | _ => s

def execPrecheckSettleEnd (g : Fin 8) (s : State) : Host.Outcome State Fault Refusal := live s (·.precheckSettleEnd g)

/-- V_in has stayed below its minimum for 100 ms: OFF with cause PRECHECK_VIN. -/
def State.precheckVinTimeout (s : State) (g : Fin 8) : State :=
  match s.groups[g].prot.pre with
  | some (.lowVin t) =>
    whenDo (s.gState g == .precheck && decide (t + 100000000 ≤ s.el)) (·.toOff g 0x03) s
  | _ => s

def execPrecheckVinTimeout (g : Fin 8) (s : State) : Host.Outcome State Fault Refusal := live s (·.precheckVinTimeout g)

/-- A slot's judgement: none when every sample lies inside the window, else whether one was too high (R265). -/
def State.midFails (s : State) (g : Fin 8) (l : List MidSample) (n : Nat) : Option Bool :=
  match l.find? (·.slot == n) with
  | none => none
  | some m =>
    let lo := u16 (s.gCfg g) 44
    let hi := u16 (s.gCfg g) 46
    if (hi : Int) ≤ m.high then some true else if m.low ≤ lo then some false else none

/-- Step 4 ends: the check passes, or the failing slots are sampled again 1 ms after step 3. -/
def State.precheckMidEnd (s : State) (g : Fin 8) (l : List MidSample) : State :=
  match s.groups[g].prot.pre with
  | some (.sampling t) =>
    if s.gState g = .precheck && decide (t + 100000 ≤ s.el) then
      match (s.inService g).filterMap (fun n => (s.midFails g l n).map (fun h => (n, h))) with
      | [] => s.precheckPassed g 0
      | bad => s.modProt g (fun p => { p with pre := some (.resample (t + 1000000) bad) })
    else s
  | _ => s

def execPrecheckMidSampleEnd (g : Fin 8) (l : List MidSample) (s : State) : Host.Outcome State Fault Refusal :=
  live s (·.precheckMidEnd g l)

/-- Steps 5 to 7: a slot that fails twice is retired, PRECHECK_HIGH when any sample was too high (R265); at a standby the
active's stamp, in the image, retires it (R263). -/
def State.precheckResample (s : State) (g : Fin 8) (l : List MidSample) : State :=
  match s.groups[g].prot.pre with
  | some (.resample t bad) =>
    if s.gState g = .precheck && decide (t + 100000 ≤ s.el) then
      let s := bad.foldl (fun s (x : Nat × Bool) =>
        match s.midFails g l x.1 with
        | none => s
        | some h => if s.shadow then s else s.classify (tgt 2 x.1) (if x.2 || h then 0x01 else 0x02) s.st true) s
      if s.gState g = .precheck then s.precheckPassed g 0x40 else s
    else s
  | _ => s

def execPrecheckResample (g : Fin 8) (l : List MidSample) (s : State) : Host.Outcome State Fault Refusal :=
  live s (·.precheckResample g l)

/-! ### Stops and discharge -/

/-- The stop bound passes before current is zero (R271): a hard stop with fault pending (R267). -/
def State.stopOverrun (s : State) (g : Fin 8) : State :=
  let p := s.groups[g].prot
  match p.stop with
  | some t =>
    if p.state = .rampdown && p.zeroAt.isNone && !p.overrun && decide (t.bound ≤ s.el) then
      let s := ((s.raise (.stopOverrun g)).modProt g (fun p => { p with overrun := true })).setPending g 0x30
      if t.cls < 2 then (s.stopGroup g 2 0x30).1
      else (s.groupRecord g s.st 0x30 p.state.code 2 0xFF 3).groupLow g
    else s
  | none => s

def execStopOverrun (g : Fin 8) (s : State) : Host.Outcome State Fault Refusal := live s (·.stopOverrun g)

/-- The contactor is still reported closed 200 ms after current zero (R270). -/
def State.contactorWait (s : State) (g : Fin 8) : State :=
  let p := s.groups[g].prot
  match p.zeroAt with
  | some t => whenDo (p.state == .rampdown && !p.waitRaised && s.contactorClosed g && decide (t + 200000000 ≤ s.el))
      (fun s => (s.raise (.groupContactorWait g)).modProt g (fun p => { p with waitRaised := true })) s
  | none => s

def execContactorWait (g : Fin 8) (s : State) : Host.Outcome State Fault Refusal := live s (·.contactorWait g)

/-- Mean V_out has been below 60 V in every outer cycle of 10 ms (R272): OFF, or FAULTED with a fault pending (R260). -/
def State.dischargeComplete (s : State) (g : Fin 8) : State :=
  let p := s.groups[g].prot
  match p.below60 with
  | some t =>
    if p.state = .discharge && decide (t + 10000000 ≤ s.el) then
      match p.pending with
      | some c => s.toFaulted g c false
      | none => s.toOff g p.cause
    else s
  | none => s

def execDischargeComplete (g : Fin 8) (s : State) : Host.Outcome State Fault Refusal := live s (fun s => (s.dischargeComplete g).latchWhenDone)

/-- V_out has not fallen below 60 V within 1 s of entry to DISCHARGE (R273): FAULTED, the channel left on. -/
def State.dischargeTimeout (s : State) (g : Fin 8) : State :=
  let p := s.groups[g].prot
  match p.discharge with
  | some t => whenDo (p.state == .discharge && p.below60.isNone && decide (t + 1000000000 ≤ s.el))
      (fun s => (s.raise (.dischargeTimeout g)).toFaulted g 0x31 true) s
  | none => s

def execDischargeTimeout (g : Fin 8) (s : State) : Host.Outcome State Fault Refusal := live s (fun s => (s.dischargeTimeout g).latchWhenDone)

/-- The discharge channel has been on for 5 s in FAULTED (R273). -/
def State.dischargeChannelLimit (s : State) (g : Fin 8) : State :=
  let p := s.groups[g].prot
  match p.discharge with
  | some t => whenDo (p.state == .faulted && decide (t + 5000000000 ≤ s.el))
      (fun s => (s.dischargeChannel g false).modProt g (fun p => { p with discharge := none })) s
  | none => s

def execDischargeChannelLimit (g : Fin 8) (s : State) : Host.Outcome State Fault Refusal := live s (·.dischargeChannelLimit g)

/-- 1 ms has passed from a suspending burst without a burst of another slot: the slot is charged (R278), at a standby by the
active's stamp in the image (R263). -/
def State.tripBurstCharge (s : State) (n : Fin 48) : State :=
  match (s.slot n).burst with
  | some (t, stamp) =>
    if t + 1000000 ≤ s.el then
      let s := s.modSlot n (fun x => { x with burst := none })
      if s.shadow then s else s.classify (tgt 2 n) 0x12 stamp false
    else s
  | none => s

def execTripBurstCharge (n : Fin 48) (s : State) : Host.Outcome State Fault Refusal := live s (·.tripBurstCharge n)

/-! ### A group's part of an outer cycle -/

/-- Mean of a lane's converted outputs, the mean of their magnitudes, and true when all conversions held (R226, R227). -/
def laneMean (c : LaneCycle) (offset fs : Int) : Option (Int × Int × Bool) :=
  match c.codes with
  | [] => none
  | l =>
    let v := l.map (fun x => sampleQ16 x.2 offset fs)
    some (rdiv (v.map (·.1)).sum l.length, rdiv (v.map (fun x => (x.1.natAbs : Int))).sum l.length, v.any (·.2))

/-- The lane of a number among those delivered. -/
def laneOf (lanes : List LaneCycle) (n : Nat) : LaneCycle :=
  (lanes.find? (·.lane == n)).getD { lane := n, valid := false, codes := [] }

/-- Means of V_out, I_out and V_in (R227), the record of the outer cycle (R288), parameters that take effect at the cycle
start (R254); the mean of |I_out| is answered beside. -/
def State.groupMeans (s : State) (g : Fin 8) (lanes : List LaneCycle) : State × Option Int :=
  let p2 := s.loopPar g 2
  let lanes := lanes.filter (fun x => !s.isRetired (tgt 5 x.lane))
  let a := laneOf lanes (s.gVoutLane g)
  let b := laneOf lanes (s.gIoutLane g)
  let c := laneOf lanes (s.gVinLane g)
  let va := laneMean a (i16 p2 20) (i32 p2 4)
  let vb := laneMean b (i16 p2 22) (i32 p2 8)
  let vc := laneMean c (i16 p2 24) (i32 p2 12)
  let dead := fun (n : Nat) => s.isRetired (tgt 5 n)
  let bad := !(a.valid && b.valid && c.valid) || va.isNone || vb.isNone || vc.isNone ||
    dead (s.gVoutLane g) || dead (s.gIoutLane g) || dead (s.gVinLane g)
  let sat := [va, vb, vc].any (fun x => match x with | some (_, _, t) => t | none => false)
  let s := if s.loopActive g then s.setSat g [(9, sat)] else s
  let keep := fun (o : Option Int) (x : Option (Int × Int × Bool)) => match x with | some (m, _, _) => some m | none => o
  let s := s.modLoop g (fun l => { l with
    vout := keep l.vout va, iout := keep l.iout vb, vin := keep l.vin vc, laneBad := bad
    par0 := s.loopPar g 0, par1 := s.loopPar g 1 })
  let l := s.groups[g].loop
  let h := le 8 s.st ++ lei 4 (l.vout.getD 0) ++ lei 4 (l.iout.getD 0) ++ lei 4 l.iref ++ lei 4 l.posQ16 ++
    lei 4 (l.vin.getD 0) ++ le 4 l.sat
  let s := s.modProt g (fun p => { p with history := (h :: p.history).take 24 })
  let codes := (a.codes.map (fun x => (a.lane, x))) ++ (b.codes.map (fun x => (b.lane, x))) ++ (c.codes.map (fun x => (c.lane, x)))
  let s := codes.foldl (fun s x => s.capNote 2 g x.2.1 (le 8 x.2.1 ++ le 2 x.1 ++ lei 2 x.2.2 ++ le 1 g ++ [0, 0, 0])) s
  (s, vb.map (·.2.1))

/-- State checks on the means (R260, R264, R269, R272, R273, R275, R280, R282). -/
def State.groupChecks (s : State) (g : Fin 8) (absI : Option Int) : State :=
  let l := s.groups[g].loop
  let v := l.vout.getD 0
  -- a lane fault stops the engine and the group (R230, R282)
  let s := if s.loopActive g && l.laneBad then
      (s.modProt g (fun p => { p with laneFault := true })).faultStop g 2 0x21 else s
  -- output overvoltage (R280)
  let st := s.gState g
  let s := if (st == .softstart || st == .run || st == .rampdown) && decide (tenthsQ16 (u16 (s.gCfg g) 48) < v) then
      s.faultStop g 2 0x20 else s
  match s.gState g with
  | .precheck =>
    match s.groups[g].prot.pre with
    | some (.lowVin _) =>
      if s.vinMin g ≤ l.vin.getD 0 && l.vin.isSome then s.modProt g (fun p => { p with pre := some (.sampling s.el) }) else s
    | _ => match l.vout with | some v => s.precheckVolt g v | none => s
  | .softstart =>
    let lags := decide (l.target < 10 * (l.posQ16 - v))
    let s := s.modProt g (fun p => { p with lag := if lags then p.lag + 1 else 0 })
    if 40 ≤ s.groups[g].prot.lag then s.softShort g 0x11
    else if l.atTarget && decide (l.atEl ≤ s.el - 49997) &&
        decide (((v - l.target).natAbs : Int) * 100 ≤ max l.target (200 * 65536)) then s.setGState g .run 0
    else s
  | .rampdown =>
    if s.groups[g].prot.zeroAt.isSome then s
    else
      let z := match absI with | none => false | some i => decide (i ≤ tenthsQ16 (u16 (s.gCfg g) 50))
      let s := s.modProt g (fun p => { p with zeroRun := if z then p.zeroRun + 1 else 0 })
      if 3 ≤ s.groups[g].prot.zeroRun then s.currentZero g else s
  | .discharge => s.modProt g (fun p => { p with below60 := if v < v60 then some (p.below60.getD s.el) else none })
  | .faulted =>
    if s.groups[g].prot.discharge.isSome && decide (v < v60) then
      (s.dischargeChannel g false).modProt g (fun p => { p with discharge := none }) else s
  | _ => s

/-- Outer stage and current balancing (R231 to R235), or the current ramp of an emergency stop (R266). A phase in whose lane no
triggered sample fell in the previous outer cycle keeps its earlier mean (R227): DESIGN CHOICE (entry 293). -/
def State.groupOuter (s : State) (g : Fin 8) : State :=
  if !s.loopActive g then s
  else
    let l := s.groups[g].loop
    let s := match s.groups[g].prot.stop with
      | some t =>
        if t.cls = 1 then
          let left := max 0 (30000000 - (s.el - t.at_))
          s.modLoop g (fun l => { l with iref := (t.iref0 * left).tdiv 30000000 })
        else
          let (l', f) := outerStage l (l.vout.getD 0) (l.iout.getD 0)
          (s.modLoop g (fun _ => l')).setSat g f
      | none =>
        let (l', f) := outerStage l (l.vout.getD 0) (l.iout.getD 0)
        (s.modLoop g (fun _ => l')).setSat g f
    let ns := s.inService g
    let s := forNums ns s (fun s n => s.modSlot n (fun x => { x with
      mean := if x.samples = [] then x.mean else rdiv x.samples.sum x.samples.length, samples := [] }))
    let ph := ns.map (fun n => let x := s.slot n; (x.trim, x.mean, x.valid))
    let (trims, sat) := balance (i32 l.par1 28) (i32 l.par1 32) ph
    let s := (ns.zip trims).foldl (fun s (x : Nat × Int) => s.modSlot x.1 (fun y => { y with trim := x.2 })) s
    s.setSat g [(4, sat)]

/-- A configured group's part of an outer cycle. -/
def State.groupCycle (s : State) (g : Fin 8) (lanes : List LaneCycle) : State :=
  if s.nv.cfg.group[g].isNone then s
  else
    let (s, absI) := s.groupMeans g lanes
    (s.groupChecks g absI).groupOuter g

/-! ### Commands -/

/-- Does another holder name switch channel `c` than role `role` (1 port, 2 group, 3 cooling) of index `i` (R673)? -/
def State.swNamed (s : State) (c role i : Nat) : Bool :=
  let other (v : Vector (Option Bytes) 8) (o k : Nat) : Bool :=
    (List.finRange 8).any (fun j => !(k == role && j.val == i) && (match v[j] with | none => false | some b => u8 b o == c))
  c != 0xFF && (other s.nv.cfg.port 4 1 || other s.nv.cfg.group 1 2 ||
    other s.nv.cfg.cool 0 3 || other s.nv.cfg.cool 1 3 || other s.nv.cfg.cool 2 3)

/-- Lanes that a GROUP_CONFIG payload uses, with the offsets of their fields; a phase lane field of 0xFFFF is unused, also
for a slot of the mask (R292; DEDUCED, entry 229). -/
def cfgLanes (b : Bytes) : List (Nat × Nat) :=
  (([12, 14, 16] ++ (List.range (popcount 48 (u64 b 4))).map (fun k => 20 + 2 * k)).map (fun o => (u16 b o, o))).filter
    (fun x => x.1 != 0xFFFF)

/-- A value or 0xFF. -/
def orNone (v hi o : Nat) : Bool × Nat := (decide (hi < v) && v != 0xFF, o)

/-- GROUP_CONFIG (0x0401, R292). The image always fits its 12 KB (R71, R497). -/
def bodyGroupConfig (r : Req) (s : State) : Ans :=
  let b := r.body
  let g := r.g
  let mask := u64 b 4
  let k := popcount 48 mask
  let phase := (List.range k).map (fun i => u16 b (20 + 2 * i))
  let others := (List.finRange 8).filter (fun h => h != g && s.nv.cfg.group[h].isSome)
  let clash : Nat → Bool := fun l => others.any (fun h =>
    (cfgLanes (s.gCfg h)).any (fun x => x.1 == l) && u8 (s.gCfg h) 3 != u8 b 3)
  let tight := s.paired && mask != 0 && (decide (s.shDtHL g < 512) || decide (s.shDtLH g < 512))
  .table s
    [paramRow ([orNone (u8 b 0) 7 0, (others.any (fun h => u8 b 0 != 0xFF && u8 (s.gCfg h) 0 == u8 b 0 && !s.isRetired (tgt 1 h)), 0),
        orNone (u8 b 1) 15 1, (s.swNamed (u8 b 1) 2 g, 1), outside (u8 b 2) 1 12 2, outside (u8 b 3) 8 64 3,
        (decide (k < 1) || decide (12 < k) || decide (2 ^ 48 ≤ mask) || tight, 4),
        outside (u16 b 12) 0 143 12, outside (u16 b 14) 0 143 14, outside (u16 b 16) 0 143 16, rz b 18 2] ++
      (cfgLanes b).map (fun x => (clash x.1, x.2)) ++
      (List.range 12).map (fun i => let v := u16 b (20 + 2 * i)
        (v != 0xFFFF && (decide (k ≤ i) || decide (143 < v) || (phase.take i).contains v), 20 + 2 * i)) ++
      [outside (u16 b 44) 0 3300 44, outside (u16 b 46) (u16 b 44 + 1) 3300 46, outside (u16 b 48) 100 13750 48,
       outside (u16 b 50) 1 1000 50, outside (u16 b 52) 0 1500 52, outside (u16 b 54) 1 100 54, rz b 56 8]),
     retiredRow s (if u8 b 0 = 0xFF then [] else [(tgt 3 (u8 b 0), 0)]),
     row ((bitsOf 48 mask).any (fun n => s.slotRetired n)) stRetired 4,
     retiredRow s ((cfgLanes b).map (fun x => (tgt 5 x.1, x.2))), retRow s r.target,
     row (others.any (fun h => s.gMask h &&& mask != 0)) stConflict 4,
     row (!(s.gState g == .off || s.gState g == .faulted) || s.groups[g].pwm.running) stConflict]
    (fun s => .ok ((s.store (fun c => { c with
        group := Vector.ofFn (fun (h : Fin 8) => if h = g then some b
          else c.group[h].map (fun o => if u8 b 0 = 0xFF || u8 o 0 != u8 b 0 then o else 0xFF :: o.drop 1)) })).modLoop g
      (fun l => { l with vout := none, iout := none, vin := none })))

/-- GROUP_ENABLE (0x0402, R293). -/
def bodyGroupEnable (r : Req) (s : State) : Ans :=
  let b := r.body
  let g := r.g
  let a := u8 b 0
  let portFaulted := match s.gPort g with | none => false | some p => s.ports[p].state == .faulted
  .table s
    [paramRow [outside a 0 2 0, rz b 1 7], retRow s r.target,
     row (a == 2 && (s.gState g == .faulted || portFaulted)) stFaulted,
     row (a == 2 && s.latched) stThermal,
     row (a == 2 && (s.portBusy g || !s.mayStart g)) stConflict]
    (fun s => .ok (if a = 2 then s.startGroup g else s.modProt g (fun p => { p with permit := a == 1 })))

/-- GROUP_STOP (0x0404, R294). -/
def bodyGroupStop (r : Req) (s : State) : Ans :=
  let b := r.body
  let g := r.g
  .table s [paramRow [outside (u8 b 0) 0 2 0, rz b 1 7], retRow s r.target]
    (fun s =>
      if s.groups[g].pwm.test then .ok (s.pwmStop g) (le 1 (s.gState g).code ++ [0] ++ le 4 0)
      else
        let was := s.gState g
        let (s, eff) := s.stopGroup g (u8 b 0) 0
        .ok s (le 1 (s.gState g).code ++ le 1 (b01 (was == .rampdown && !eff)) ++ le 4 0))

/-- Retry stamps in the present window, elapsed time (R276, R277). -/
def State.retryWindow (s : State) (g : Fin 8) : List Int :=
  let now := if s.latched then s.nv.tlatch.at_ else s.el
  (s.groupRetries g).filter (fun t => decide (now + 1 - 60000000000 ≤ t))

/-- Suspended slots of a group, as a mask. -/
def State.suspendedMask (s : State) (g : Fin 8) : Nat := maskOf ((s.gSlots g).filter s.slotSuspended)

/-- Is the group waiting for its contactor (R270)? -/
def State.contactorWaits (s : State) (g : Fin 8) : Bool :=
  s.gState g == .rampdown && s.groups[g].prot.zeroAt.isSome && s.contactorClosed g

/-- GROUP_STATUS (0x0405, R295). -/
def bodyGroupStatus (r : Req) (s : State) : Ans :=
  let g := r.g
  let p := s.groups[g].prot
  let l := s.groups[g].loop
  let oldest := match (s.retryWindow g).getLast? with | none => 0 | some t => (t + s.clk.moved).toNat
  .ok s (le 1 p.state.code ++ le 1 (match p.stop with | some t => t.cls | none => 0xFF) ++ le 2 p.cause ++
    le 1 (b01 p.permit + 2 * b01 p.pending.isSome + 4 * b01 s.latched + 8 * b01 (s.contactorWaits g)) ++
    le 1 (s.retriesNow g) ++ le 8 (maskOf (s.inService g)) ++ le 8 (s.suspendedMask g) ++
    le 8 (maskOf ((s.gSlots g).filter s.slotRetired)) ++ le 8 p.changedSt ++ lei 4 (l.vout.getD 0) ++
    lei 4 (l.iout.getD 0) ++ lei 4 (l.vin.getD 0) ++ le 4 s.groupRecs[g].seq ++ le 8 oldest)

/-- PHASE_RETIRE (0x0406, R296). -/
def bodyPhaseRetire (r : Req) (s : State) : Ans :=
  .table s [retRow s r.target] (fun s => .ok (s.chargeAs 1 r.target 0x41 s.st true))

/-- A resource leaves the retired list (R286). -/
def State.unretire (s : State) (target : Nat) : State :=
  { s with nv := { s.nv with retired := s.nv.retired.filter (·.target != target) } }

/-- Clear a resource's classifier history (R297, R300). -/
def State.clearHistory (s : State) (target : Nat) : State :=
  let e := s.clsfOf target
  if s.nv.clsf.any (·.target == target) then s.setClsf { e with hist := [], latest := [] } else s

/-- PHASE_RESTORE (0x0407, R210, R297). -/
def bodyPhaseRestore (r : Req) (s : State) : Ans :=
  let n := tIndex r.target
  let busy := match s.slotGroup n with
    | none => false
    | some g => !(s.gState g == .off || s.gState g == .faulted) || s.groups[g].pwm.running
  .table s [row (!s.isRetired r.target) stConflict, row busy stConflict]
    (fun s => .ok ((s.clearHistory r.target).unretire r.target))

/-- GROUP_FAULT_READ (0x0408, R298). -/
def bodyGroupFaultRead (r : Req) (s : State) : Ans :=
  let b := r.body
  let q := s.groupRecs[r.g]
  .table s [paramRow [outside (u8 b 4) 1 3 4, rz b 5 3]]
    (fun s =>
      let first := q.seq + 1 - q.recs.length
      let want := max first (u32 b 0)
      let l := q.recs.reverse.drop (want - first)
      let got := l.take (u8 b 4)
      let (old, s) := if q.recs = [] then s.free else (first, s)
      .ok s (le 1 got.length ++ le 1 (b01 (decide (got.length < l.length))) ++ le 4 old ++ le 4 q.seq ++ le 4 0 ++ got.flatten))

/-- Is a resource suspended, and is it faulted (R299)? -/
def State.resourceFlags (s : State) (target : Nat) : Bool × Bool :=
  let i := tIndex target
  match tType target with
  | 1 => (false, if h : i < 8 then s.gState ⟨i, h⟩ == .faulted else false)
  | 2 => (s.slotSuspended i, false)
  | 3 => (false, if h : i < 8 then s.ports[i].state == .faulted else false)
  | _ => (false, false)

/-- FAULT_READ (0x1101, R299). -/
def bodyFaultRead (r : Req) (s : State) : Ans :=
  let e := s.clsfOf r.target
  let (k, w) := classLimits (tType r.target)
  let (susp, flt) := s.resourceFlags r.target
  let cnt := (e.hist.filter (fun x => decide (s.el + 1 - w ≤ x))).length
  .ok s (le 1 (b01 (s.isRetired r.target) + 2 * b01 susp + 4 * b01 flt) ++ le 1 cnt ++ le 1 k ++ [0] ++ le 2 e.cause ++
    le 4 (w / 1000000000).toNat ++ le 4 e.total ++ (((e.latest.map (le 8)).flatten ++ List.replicate 32 0).take 32))

/-- Put a retired resource other than a phase slot back into service (R286, R300). -/
def State.restoreResource (s : State) (target : Nat) : State :=
  if !s.isRetired target then s
  else
    let s := s.unretire target
    let i := tIndex target
    match tType target with
    | 3 => if h : i < 8 then (if s.ports[i].state = .retired then s.portSet ⟨i, h⟩ .idle else s) else s
    | 4 =>
      if h : i < 24 then
        let n : Fin 24 := ⟨i, h⟩
        let s := s.swState n .off
        if s.sws[n].cmd != .off && s.driving && !s.latched then s.swTurnOn n s.sws[n].slewAsk else s
      else s
    | 5 =>
      let l := { vget s.metro.lanes i {} with settle := 16, range := 0, down := 0 }
      { s with metro := { s.metro with lanes := vset s.metro.lanes i l } }
    | 6 =>
      if h : i < 8 then
        let n : Fin 8 := ⟨i, h⟩
        s.modCan n (fun c => { c with recovering := c.state == .busOff && s.canAuto n })
      else s
    | 7 => if h : i < 128 then s.setQueue ⟨i, h⟩ { s.queues[i] with chain := none } else s
    | _ => s

/-- Does the cause of a group's FAULTED state still hold (R300)? `restored` when bit 2 restores its loop engine. -/
def State.causeHolds (s : State) (g : Fin 8) (restored : Bool) : Bool :=
  decide (s.serviceAtStart g < s.gMin g) || s.groups[g].loop.laneBad ||
  (cfgLanes (s.gCfg g)).any (fun l => s.isRetired (tgt 5 l.1)) || (s.isRetired (tgt 1 g) && !restored)

/-- FAULT_CLEAR (0x1102, R300). -/
def bodyFaultClear (r : Req) (s : State) : Ans :=
  let b := r.body
  let a := u8 b 0
  let ty := tType r.target
  let g := r.g
  .table s
    [paramRow [(a == 0 || decide (7 < a) || (bit a 0 && ty != 1) || (bit a 2 && ty == 2), 0), rz b 1 7],
     row (bit a 0 && (s.gState g != .faulted || s.causeHolds g (bit a 2))) stConflict,
     row ((bit a 0 || bit a 1) && s.isRetired r.target && !bit a 2) stRetired]
    (fun s =>
      let s := whenDo (bit a 2) (·.restoreResource r.target) s
      let s := whenDo (bit a 1) (fun s =>
        let s := s.clearHistory r.target
        if ty = 1 && (s.gPort g).isNone then s.modProt g (fun p => { p with retries := [] }) else s) s
      .ok (whenDo (bit a 0) (fun s => (s.modProt g (fun p => { p with laneFault := false, pending := none })).toOff g 0) s))

/-- RESOURCE_LIST (0x1103, R301). -/
def bodyResourceList (r : Req) (s : State) : Ans :=
  let l := s.nv.retired
  let got := (l.drop (u32 r.body 0)).take 254
  .ok s (le 2 got.length ++ le 2 l.length ++ [0, 0] ++
    (got.map (fun e => le 2 e.target ++ le 2 e.cause ++ le 4 0 ++ le 8 e.st)).flatten)

end Sys2Proof.Machine
end

