-- ==== Sys2Proof/Machine/PortOps.lean ====
section
/-! DEFINITION. Vehicle ports as named operations over groups: stops, cable check, set-points, contactor rounds, the
port's part of an outer cycle (R327 to R342). -/

namespace Sys2Proof.Machine

/-! ### Stops (R339 to R342) -/

/-- A stop of class `cls` reaches the group of a port. -/
def State.portStopGroup (s : State) (p : Fin 8) (cls : Nat) : State :=
  match s.portGroup p with
  | none => s
  | some g => (s.stopGroup g cls 0).1

/-- The cable check ends: a normal stop, the answer waits for OFF (R328). -/
def State.checkEnds (s : State) (p : Fin 8) (ok : Bool) : State :=
  (s.modSession p (fun e => { e with check := .ending ok })).portStopGroup p 0

/-- Is the group at work for a cable check? -/
def Session.checking (e : Session) : Bool :=
  match e.check with
  | .rising | .holding _ | .ending _ => true
  | _ => false

/-- A stop cause reaches a port (R325, R339, R351). In the tick in which it entered DISCHARGE the cause still counts among those
of the stop (R342; DEDUCED, entry 298). -/
def State.portStop (s : State) (p : Fin 8) (cls reason rank : Nat) : State :=
  let x := s.ports[p]
  match x.state with
  | .connected => if x.session.isSome then s.portEndSession p reason true else s
  | .negotiating =>
    if (x.session.getD {}).checking then
      ((s.noteEnding p cls reason rank).modSession p (fun e => { e with check := .ending false })).portStopGroup p cls
    else s.portBack p reason
  | .precharge =>
    let s := (s.noteEnding p cls reason rank).modPort p (fun y => { y with telling := true })
    match s.portGroup p with
    | none => s.portReturn p reason
    | some g => if s.gState g = .off then s.portReturn p reason else (s.stopGroup g cls 0).1
  | .charging | .discharging =>
    ((s.noteEnding p cls reason rank).modPort p (fun y => { y with telling := true })).portStopGroup p cls
  | .rampdown => (s.noteEnding p cls reason rank).portStopGroup p cls
  | .discharge => whenDo (x.session.isSome && x.changedSt == s.st) (·.noteEnding p cls reason rank) s
  | _ => s

/-! ### Starts and set-points through the session path (R257, R327, R329) -/

/-- Precharge current clamp, Q16.16 A (R348). -/
def State.prechargeClamp (s : State) (p : Fin 8) : Int := tenthsQ16 (s.pField p 34 20)

/-- Store a voltage set-point for the group and start it when it is OFF; false when a start was refused. -/
def State.portVolts (s : State) (p : Fin 8) (target : Int) : State × Bool :=
  match s.portGroup p with
  | none => (s, false)
  | some g =>
    let (st, s) := s.setpoint g false false target (s.prechargeClamp p)
    if st ≠ stOk then (s, false)
    else if s.gState g = .off then (if s.mayStart g then (s.startGroup g, true) else (s, false))
    else (s, true)

/-- The set-point of the cable check: the lesser of the vehicle's maximum voltage and the port's voltage limit (R327). -/
def State.checkVolts (s : State) (p : Fin 8) : Int :=
  let e := s.ports[p].session.getD {}
  (min e.vmax s.ports[p].limits.2.2.2 : Nat) * 65536

/-- I_t of R334 and R335, Q16.16 A, and V_lim. -/
def State.portCurrent (s : State) (p : Fin 8) : Int × Int :=
  let x := s.ports[p]
  let e := x.session.getD {}
  let lim : Int := (x.limits.2.2.1 : Nat) * 65536
  let byPower : Int := if x.eff = 0 then 0 else if x.vcable ≤ 0 then lim else rdiv ((x.eff.natAbs : Int) * 2 ^ 32) x.vcable.toNat
  if x.eff < 0 then (-(max 0 (min e.iDreq (min byPower lim))), e.vMin)
  else (max 0 (min e.iReq (min byPower lim)), min e.vTarget ((x.limits.2.2.2 : Nat) * 65536))

/-- CHARGING, or DISCHARGING where the first current target is negative, once the contactor is confirmed closed and the
vehicle's power-delivery start has been received: one transition (R325). -/
def State.powerGo (s : State) (p : Fin 8) : State :=
  let x := s.ports[p]
  if !(x.state == .precharge && x.closed && x.cdrive && (x.session.getD {}).started && x.ending.isNone) then s
  else
    let probe := (s.modPort p (fun y => { y with state := .charging })).refreshEff p
    (s.portSet p (if (probe.portCurrent p).1 < 0 then .discharging else .charging)).refreshEff p

/-! ### Contactor rounds (R331) -/

/-- One housekeeping round of a port: confirmation of the contactor, the insulation verdict of a cable check. -/
def State.portRound (s : State) (p : Fin 8) : State :=
  if s.nv.cfg.port[p].isNone then s
  else
    let contact := s.hkLevel (u8 (s.pCfg p) 5)
    let x := s.ports[p]
    let agrees := contact == x.cdrive
    let s := s.modPort p (fun y => { y with cRun := if agrees then y.cRun + 1 else 0 })
    let sure := agrees && decide (2 ≤ x.cRun + 1)
    let s := if sure && x.cdrive && !x.closed then
        ((s.modPort p (fun y => { y with closed := true })).modSession p (fun e => { e with
          check := match e.check with | .rising => .holding s.el | c => c })).powerGo p
      else if sure && !x.cdrive && (x.reported || x.closed) then
        let s := s.modPort p (fun y => { y with closed := false, reported := false })
        match s.portGroup p with | some g => s.contactorOpened g | none => s
      else s
    match s.ports[p].session with
    | some e => match e.check with
      | .holding _ => if s.hkLevel (u8 (s.pCfg p) 6) then s else s.checkEnds p false
      | _ => s
    | none => s

/-! ### The port's part of an outer cycle -/

/-- Is a new target sent: any decrease in magnitude, an increase beyond the larger of 1 A and 0.5 % (R336)? Where only V_lim has
changed, the set-point with the new V_lim repeats the target in force (DEDUCED, entry 220). -/
def sendsCurrent (old new : Int) : Bool :=
  let a : Int := old.natAbs
  let b : Int := new.natAbs
  if old = new then false
  else if (0 < old && new < 0) || (old < 0 && 0 < new) then true
  else if b < a then true
  else decide (max (65536 * 200) a < 200 * (b - a))

/-- Current target of a live port: recomputed after a change and once per epoch, and sent under R336; its sign chooses
CHARGING or DISCHARGING (R325, R334 to R338). -/
def State.portTarget (s : State) (p : Fin 8) : State :=
  let x := s.ports[p]
  match s.portGroup p with
  | none => s
  | some g =>
    let (it, vl) := s.portCurrent p
    let s := s.modPort p (fun y => { y with dirty := false })
    let s := if it < 0 && x.state = .charging then s.portSet p .discharging
      else if 0 ≤ it && x.state = .discharging then s.portSet p .charging else s
    let inForce := if x.sentI then x.itgt else 0
    let sends := sendsCurrent inForce it
    if sends || (x.sentI && vl ≠ x.vlim) then
      let out := if sends then it else inForce
      let (st, s) := s.setpoint g true false out vl
      if st = stOk then
        (s.modPort p (fun y => { y with itgt := out, vlim := vl, sentI := true, dirty := false })).modSession p
          (fun e => { e with firstSt := if e.firstSt = 0 then s.st else e.firstSt })
      else s
    else s.modPort p (fun y => { y with dirty := false })

/-- The sums of the epoch's mean power and mean cable voltage, in every state of the port (R126). -/
def State.portSums (s : State) (p : Fin 8) (iout : Int) : State :=
  s.modPort p (fun y => { y with
    pSum := y.pSum + rdiv (y.vcable * iout * 1000000) (2 ^ 32), vSum := y.vSum + y.vcable, pCount := y.pCount + 1 })

/-- Peak power and current of the session (R345). -/
def State.portPeaks (s : State) (p : Fin 8) (iout : Int) : State :=
  let x := s.ports[p]
  let w := watts x.vcable iout
  let a := (iout.natAbs * 10 / 65536)
  s.modSession p (fun e => { e with peakW := if e.peakW.natAbs < w.natAbs then w else e.peakW, peakA := max e.peakA a })

/-- A credit cap of 0 ends the authorized session once the effective target and the current target sent are 0; before power flows
both are (R339, R341, R465). -/
def State.portCredit (s : State) (p : Fin 8) : State :=
  let x := s.ports[p]
  match x.session with
  | some e =>
    let on := x.state.live || x.state == .precharge || (x.state == .negotiating && e.authSt.isSome)
    whenDo (on && x.ending.isNone && s.creditCap e.account == some 0 && decide (x.eff = 0) &&
        (!x.sentI || decide (x.itgt = 0))) (·.portStop p 0 10 8) s
  | none => s

/-- The contactor is turned on when the output matches (R327, R330). From 60 V the cable carries the vehicle's voltage
(DESIGN CHOICE, entry 43). -/
def State.portClose (s : State) (p : Fin 8) : State :=
  let x := s.ports[p]
  match s.portGroup p, x.session with
  | some g, some e =>
    if s.gState g ≠ .run || x.cdrive then s
    else
      let v := s.groups[g].loop.vout.getD 0
      let tol : Int := s.pField p 26 20 * 65536
      match x.state with
      | .negotiating => if e.check = .rising then s.contactorDrive p true else s
      | .precharge =>
        let ref := if v60 ≤ x.vcable then x.vcable else e.vTarget
        if ((v - ref).natAbs : Int) ≤ tol then s.contactorDrive p true else s
      | _ => s
  | _, _ => s

/-- While a cable check holds, the cable voltage stays within 5 % of the set-point (R327). -/
def State.portCheckVolts (s : State) (p : Fin 8) : State :=
  let x := s.ports[p]
  match x.session with
  | some e => match e.check with
    | .holding _ =>
      let v := e.checkVolts
      if 20 * ((x.vcable - v).natAbs : Int) ≤ v then s else s.checkEnds p false
    | _ => s
  | none => s

/-- Full scale of the cable voltage lane, Q16.16 V (R55, R348). -/
def State.cableFs (s : State) (p : Fin 8) : Int := s.pField p 10 1500 * 65536

/-- The mean cable voltage of the outer cycle that ended (R334). -/
def State.portVoltage (s : State) (p : Fin 8) (lanes : List LaneCycle) : State :=
  let lane := u16 (s.pCfg p) 8
  match s.nv.cfg.port[p], laneMean (laneOf lanes lane) 0 (s.cableFs p) with
  | some _, some (v, _, _) => if s.isRetired (tgt 5 lane) then s else s.modPort p (fun y => { y with vcable := v })
  | _, _ => s

/-- A configured port's part of an outer cycle, once its voltage and its cable cap are known. -/
def State.portCycle (s : State) (p : Fin 8) : State :=
  if s.nv.cfg.port[p].isNone then s
  else
    let s := s.refreshEff p
    let s := (s.portClose p).portCheckVolts p
    let iout := match s.portGroup p with | some g => s.groups[g].loop.iout.getD 0 | none => 0
    let s := s.portSums p iout
    let s := (if s.ports[p].state.live then s.portPeaks p iout else s).portCredit p
    if s.ports[p].state.live && s.ports[p].dirty then s.portTarget p else s

end Sys2Proof.Machine
end

