-- ==== Sys2Proof/Machine/AllocDevice.lean ====
section
/-! DEFINITION. Site power allocation at every device: settings, reports, moves, fallback, storage gateways, and the
ALLOC commands (R122 to R131, R143 to R151, R154 to R169). -/

namespace Sys2Proof.Machine

/-! ### Settings -/

/-- What stands in force of a setting that takes effect for the next epoch (R165): within the epoch of its acceptance the
one before it. -/
def State.nextEpoch (s : State) (was : Option (Nat × Option Bytes)) (stored : Option Bytes) : Option Bytes :=
  match was with
  | some (n, b) => if n = s.st / 1000000 then b else stored
  | none => stored

/-- The note to keep as a new payload is accepted over `stored` (R165). -/
def State.wasNote (s : State) (was : Option (Nat × Option Bytes)) (stored : Option Bytes) : Option (Nat × Option Bytes) :=
  some (s.st / 1000000, s.nextEpoch was stored)

/-- ALLOC_POLICY section 0 in force: the stored one, or its defaults (R165). -/
def State.policy (s : State) : Bytes :=
  (s.nextEpoch s.alloc.policyWas s.nv.cfg.allocPolicy).getD (List.replicate 4 0 ++ le 4 10000 ++ le 4 100 ++ le 4 300 ++ le 2 1000 ++ le 2 9500 ++
    le 4 50000 ++ le 2 20 ++ List.replicate 6 0)

/-- D_max, settle and ack wait, us; deviation tolerance, W (R165). -/
def State.dMax (s : State) : Nat := u32 s.policy 4
def State.settle (s : State) : Nat := u32 s.policy 8
def State.ackWait (s : State) : Nat := u32 s.policy 12
def State.devTol (s : State) : Nat := u32 s.policy 20

/-- The fallback share table, bytes 8 to 135 of ALLOC_FALLBACK; zeros before one is accepted (R158, R166). -/
def State.fbTable (s : State) : Bytes :=
  match s.nv.cfg.allocFallback with
  | none => List.replicate 128 0
  | some b => sub b 8 128

/-- Import and export share of a position in a table (R166). -/
def shareOf (t : Bytes) (site : Nat) : Nat × Nat := (u32 t (8 * site), u32 t (8 * site + 4))

/-- Sums of a table's import and export shares (R157). -/
def shareSums (t : Bytes) : Nat × Nat :=
  (((List.range 16).map (fun i => (shareOf t i).1)).sum, ((List.range 16).map (fun i => (shareOf t i).2)).sum)

/-- The device's own shares: 0 while its table differs from the lease holder's (R158). -/
def State.ownShares (s : State) : Nat × Nat := if s.alloc.tableBad then (0, 0) else shareOf s.fbTable s.strap.siteId

/-- The limits for an epoch that starts at `t`: the newest accepted at or before it (R164). -/
def State.limitsAt (s : State) (t : Nat) : Option Limits := s.alloc.limits.find? (fun l => decide (l.since ≤ t))

/-- Store limits that hold from `since`; those of the present epoch and of the one before stay in hand (R163, R164). -/
def State.addLimits (s : State) (l : Limits) : State :=
  let t := s.st / 1000000 * 1000000
  { s with alloc := { s.alloc with limits := l :: ([t, t - 1000000].filterMap s.limitsAt).eraseDups } }

/-- The entry of feeder `f` in an ALLOC_POLICY section 1: 32 bytes, zeros when unused (R165). -/
def feederEntry (b : Option Bytes) (f : Nat) : Bytes :=
  match b with
  | none => List.replicate 32 0
  | some b => ((List.range (u8 b 1)).map (fun k => sub b (8 + 32 * k) 32)).find? (fun e => u8 e 0 == f)
      |>.getD (List.replicate 32 0)

/-- The entry of feeder `f` in force (R165). -/
def State.feederCfg (s : State) (f : Nat) : Bytes := feederEntry (s.nextEpoch s.alloc.feedersWas s.nv.cfg.allocFeeders) f

/-- The entry under which the running sums of feeder `f` are formed, up to the turn of their epoch (R131, R165). -/
def State.feederSumCfg (s : State) (f : Nat) : Bytes :=
  feederEntry (match s.alloc.feedersWas with | some (_, b) => b | none => s.nv.cfg.allocFeeders) f

/-- Kind of a feeder: 0 unused, 1 grid, 2 storage (R165). -/
def State.feederKind (s : State) (f : Nat) : Nat := u8 (s.feederCfg f) 1

/-- Feeders of a kind, in ascending order. -/
def State.feedersOf (s : State) (kind : Nat) : List (Fin 4) :=
  (List.finRange 4).filter (fun f => s.feederKind f == kind)

/-- Update feeder `f`. -/
def State.modFeeder (s : State) (f : Fin 4) (g : Feeder → Feeder) : State :=
  { s with alloc := { s.alloc with feeders := s.alloc.feeders.set f (g s.alloc.feeders[f]) } }

/-! ### Measured power (R126, R131) -/

/-- Sum over the phases of V x I for the k-th control-filter outputs of a feeder's lanes, in steps of full scale / 32 768
of both (R226). -/
def feederSamples (lanes : List LaneCycle) (e : Bytes) : List Int :=
  let codes := fun (k : Nat) => (laneOf lanes (u8 e (12 + k))).codes.map (·.2)
  let p := fun (k : Nat) => List.zipWith (· * ·) (codes k) (codes (3 + k))
  List.zipWith (· + ·) (List.zipWith (· + ·) (p 0) (p 1)) (p 2)

/-- A sum of those products as W over `n` samples. -/
def feederWatts (e : Bytes) (sum : Int) (n : Nat) : Int :=
  if n = 0 then 0 else rdiv (sum * (u16 e 28 * u16 e 30 : Nat)) (n * 2 ^ 30)

/-- An outer cycle's power of every feeder joins the epoch's sums (R131). -/
def State.feederCycle (s : State) (lanes : List LaneCycle) : State :=
  forFin 4 s (fun s f =>
    let e := s.feederSumCfg f
    if u8 e 1 = 0 then s
    else
      let l := feederSamples (lanes.filter (fun c => !s.isRetired (tgt 5 c.lane))) e
      s.modFeeder f (fun x => { x with
        sum := x.sum + l.sum, count := x.count + l.length
        peakNow := l.foldl (fun a v => if a.natAbs < v.natAbs then v else a) x.peakNow }))

/-- At an epoch's start the sums of the last one become its means; every port recomputes its current target once
(R126, R131, R336). -/
def State.epochRoll (s : State) : State :=
  let e := s.st / 1000000
  if s.alloc.sumEpoch = some e then s
  else
    let s := forFin 4 s (fun s f =>
      let c := s.feederSumCfg f
      let s := s.modFeeder f (fun x => { x with
        mean := feederWatts c x.sum x.count, peak := feederWatts c x.peakNow 1, sum := 0, count := 0, peakNow := 0 })
      if c = s.feederCfg f then s else s.modFeeder f (fun x => { x with stale := true, told := false, statusAt := none, cfgAt := s.el }))
    let governs := fun (w : Option (Nat × Option Bytes)) => w.filter (fun x => x.1 == e)
    let s := { s with alloc := { s.alloc with policyWas := governs s.alloc.policyWas, feedersWas := governs s.alloc.feedersWas } }
    let s := forFin 8 s (fun s p => s.modPort p (fun x => { x with
      pMean := rdiv x.pSum (1000000 * max 1 x.pCount), vMean := rdiv x.vSum (max 1 x.pCount)
      pSum := 0, vSum := 0, pCount := 0, dirty := true }))
    { s with alloc := { s.alloc with sumEpoch := some e } }

/-! ### Reports (R126 to R130, R167) -/

/-- Down-ramp rate in W/us and ramp overhead in us of a port (R129). -/
def State.rampOf (s : State) (p : Fin 8) : Nat × Nat :=
  match s.portGroup p with
  | none => (0, 0)
  | some g =>
    let b := s.profCfg g
    let v := u32 b 12
    let a := u32 b 16
    let j := u32 b 20
    if a = 0 || j = 0 then (0, 0)
    else
      let x : Rat := (v * 1000 : Nat) / (a : Nat) + (a * 1000 : Nat) / (j : Nat)
      ((95 * v * s.ports[p].vcable.toNat) / (100 * 1000 * 65536), (-(ratFloor (-x))).toNat)

/-- The port record of a report. -/
def State.portRec (s : State) (p : Fin 8) : PRec :=
  let x := s.ports[p]
  let r := s.portRange p
  let m := s.rampOf p
  { port := p, state := x.state.code
    flags := b01 ((x.session.map (·.proto)).getD 0 == 4) + 2 * b01 s.cools[p].draught + 4 * b01 (bit x.caps 2) +
      8 * b01 (s.alloc.trailing.any (fun t => t.entries.any (fun e => !e.storage && e.index == p.val)))
    upper := if x.state.live then r.1 else 0, lower := if x.state.live then r.2 else 0
    target := x.alloc, power := x.pMean, rate := m.1, overhead := m.2
    volt := (max 0 (rdiv (x.vMean * 10) 65536)).toNat }

/-- The storage record of a report. -/
def State.storeRec (s : State) (f : Fin 4) : SRec :=
  let x := s.alloc.feeders[f]
  let e := s.feederCfg f
  { feeder := f, flags := b01 (bit x.sflags 1) + 2 * b01 x.stale + 4 * b01 x.deviation, soc := x.soc
    charge := x.avCharge, disch := x.avDisch, target := x.target, power := x.mean
    rate := u32 e 20, latency := u32 e 24 }

/-- Ports with a configuration (R168). -/
def State.cfgPorts (s : State) : List (Fin 8) := (List.finRange 8).filter (fun p => s.nv.cfg.port[p].isSome)

/-- The device's report for epoch `e` (R126, R167). -/
def State.report (s : State) (e : Nat) : Report :=
  { epoch := e, own := e, site := s.strap.siteId
    flags := b01 s.alloc.fallback + 2 * b01 s.alloc.tableBad + 4 * b01 s.alloc.policyBad +
      8 * b01 (s.time.quality != .locked)
    ports := s.cfgPorts.map s.portRec
    stores := (s.feedersOf 2).map s.storeRec
    feeders := (List.finRange 4).filterMap (fun (f : Fin 4) =>
      if s.feederKind f = 0 then none
      else some { feeder := f, kind := s.feederKind f, mean := s.alloc.feeders[f].mean, peak := s.alloc.feeders[f].peak }) }

/-- The bytes of a report (R167). -/
def reportBytes (r : Report) : Bytes :=
  le 8 r.epoch ++ [1] ++ le 1 r.site ++ le 1 r.flags ++ le 1 r.ports.length ++ le 1 r.stores.length ++
  le 1 r.feeders.length ++ [0, 0] ++
  r.ports.flatMap (fun p => le 1 p.port ++ le 1 p.state ++ le 1 p.flags ++ [0] ++ lei 4 p.upper ++ lei 4 p.lower ++
    lei 4 p.target ++ lei 4 p.power ++ le 4 p.rate ++ le 4 p.overhead ++ le 2 p.volt ++ [0, 0]) ++
  r.stores.flatMap (fun x => le 1 x.feeder ++ le 1 x.flags ++ le 2 x.soc ++ le 4 x.charge ++ le 4 x.disch ++
    lei 4 x.target ++ lei 4 x.power ++ le 4 x.rate ++ le 4 x.latency ++ List.replicate 4 0) ++
  r.feeders.flatMap (fun x => le 1 x.feeder ++ le 1 x.kind ++ [0, 0] ++ lei 4 x.mean ++ lei 4 x.peak ++
    List.replicate 4 0)

/-- Read a report's bytes (R167). -/
def reportOf (b : Bytes) : Report :=
  let np := u8 b 11
  let ns := u8 b 12
  let nf := u8 b 13
  let o2 := 16 + 32 * np
  let o3 := o2 + 32 * ns
  { epoch := u64 b 0, own := u64 b 0, site := u8 b 9, flags := u8 b 10
    ports := (List.range np).map (fun k =>
      let o := 16 + 32 * k
      { port := u8 b o, state := u8 b (o + 1), flags := u8 b (o + 2), upper := i32 b (o + 4), lower := i32 b (o + 8)
        target := i32 b (o + 12), power := i32 b (o + 16), rate := u32 b (o + 20), overhead := u32 b (o + 24)
        volt := u16 b (o + 28) })
    stores := (List.range ns).map (fun k =>
      let o := o2 + 32 * k
      { feeder := u8 b o, flags := u8 b (o + 1), soc := u16 b (o + 2), charge := u32 b (o + 4), disch := u32 b (o + 8)
        target := i32 b (o + 12), power := i32 b (o + 16), rate := u32 b (o + 20), latency := u32 b (o + 24) })
    feeders := (List.range nf).map (fun k =>
      let o := o3 + 16 * k
      { feeder := u8 b o, kind := u8 b (o + 1), mean := i32 b (o + 4), peak := i32 b (o + 8) }) }

/-- The lease holder keeps a report: after the cutoff it counts toward the next epoch, whose own report stands before it
(R127). -/
def State.takeReport (s : State) (r : Report) : State :=
  let e := if s.st < r.epoch * 1000000 + 400000 then r.epoch else r.epoch + 1
  if s.alloc.reports.any (fun x => x.site == r.site && x.epoch == e && decide (r.own < x.own)) then s
  else
  let rest := s.alloc.reports.filter (fun x => x.site != r.site)
  let old := (s.alloc.reports.filter (fun x => x.site == r.site && x.epoch != e)).take 1
  { s with alloc := { s.alloc with reports := { r with epoch := e } :: old ++ rest } }

/-- R126: the report is sent to both devices of the position that holds the site-master lease; the holder's own reaches
it within the device (DEDUCED, entry 90). -/
def State.reportSend (s : State) : State :=
  let e := s.st / 1000000
  if !s.sys.ready || s.st < e * 1000000 + 10000 * s.strap.siteId || s.alloc.reported = some e then s
  else
    let s := s.epochRoll
    let s := { s with alloc := { s.alloc with reported := some e } }
    match s.masterSite with
    | none => s
    | some m =>
      let r := s.report e
      let s := if m = s.strap.siteId then s.takeReport r else s
      (s.originate 0x0304 false false (reportBytes r) (fun x => x.site == m)).2

def execAllocReportSend (s : State) : Host.Outcome State Fault Refusal := live s (·.reportSend)

/-! ### Storage gateways (R148 to R151) -/

/-- Transmission class key of a feeder's set-point frame (R542). -/
def feederKey (f : Nat) : Nat := 1000 + f

/-- Send the set-point frame (R148, R149); on a twin pair the holder only (R508). -/
def State.sendStore (s : State) (f : Fin 4) : State :=
  let x := s.alloc.feeders[f]
  let e := s.feederCfg f
  let data := lei 4 x.target ++ le 2 x.seq ++ le 1 (b01 s.alloc.fallback) ++ le 1 x.epoch
  let s := s.modFeeder f (fun x => { x with sentAt := s.el })
  if !s.holdsTwin then s
  else if u8 e 2 = 0 then
    let n : Fin 8 := Fin.ofNat 8 (u8 e 3)
    s.canQueue0 n { ident := u32 e 4, fd := s.canFabricFd n, brs := s.canFabricFd n, data, singleShot := false, echo := false,
                    expiry := some (s.el + 10000000), key := feederKey f } false
  else s.emit (.udp (u8 e 2 - 1) (u32 e 4 % 65536) data)

/-- A storage entry takes effect: target, sequence at a change, frame (R148, R149). -/
def State.setStore (s : State) (f : Fin 4) (v : Int) (epoch : Nat) : State :=
  let s := s.modFeeder f (fun x => { x with
    seq := if x.target = v then x.seq else (x.seq + 1) % 65536, target := v, epoch })
  s.sendStore f

/-- R148: the frame is repeated every 10 ms while nothing changes. -/
def State.storeRepeat (s : State) (f : Fin 4) : State :=
  whenDo (s.feederKind f == 2 && decide (s.alloc.feeders[f].sentAt + 10000000 ≤ s.el)) (·.sendStore f) s

def execStorageSetpointRepeat (f : Fin 4) (s : State) : Host.Outcome State Fault Refusal := live s (·.storeRepeat f)

/-- The status is stale; the event is raised once until a valid frame without the fault flag (R151). -/
def State.storeStale (s : State) (f : Fin 4) : State :=
  if s.alloc.feeders[f].told then s else (s.modFeeder f (fun x => { x with stale := true, told := true })).raise .storageStale

/-- A status frame of the converter of feeder `f` (R150, R151). -/
def State.storeStatus (s : State) (f : Fin 4) (b : Bytes) : State :=
  if s.feederKind f ≠ 2 || b.length ≠ 16 then s
  else
    let s := s.modFeeder f (fun x => { x with
      soc := u16 b 0, sflags := u16 b 2, avCharge := u32 b 4, avDisch := u32 b 8, lastSeq := u16 b 12
      statusAt := some s.el })
    if bit (u16 b 2) 0 then s.storeStale f else s.modFeeder f (fun x => { x with stale := false, told := false })

/-- Core 3 takes the frame's copy off its path when it holds one (R541). -/
def State.storeCopy (s : State) (f : Fin 4) (b : Bytes) : State :=
  let e := s.feederCfg f
  match s.canCopies.find? (fun c => u8 e 2 == 0 && c.1 == u8 e 3 && c.2.2.1 == u32 e 8 && c.2.2.2 == b) with
  | some c => ({ s with canCopies := s.canCopies.erase c }).storeStatus f b
  | none => s.storeStatus f b

def execStorageStatusFrame (f : Fin 4) (b : Bytes) (s : State) : Host.Outcome State Fault Refusal :=
  live s (·.storeCopy f b)

/-- R151: no valid status frame for 100 ms; before the first one the time runs from ready and from the entry's taking
effect (DEDUCED, entry 245). -/
def State.storeLate (s : State) (f : Fin 4) : State :=
  let x := s.alloc.feeders[f]
  let t := x.statusAt.getD (max s.sys.readyAt x.cfgAt)
  whenDo (s.feederKind f == 2 && s.sys.ready && decide (t + 100000000 ≤ s.el)) (·.storeStale f) s

def execStorageStale (f : Fin 4) (s : State) : Host.Outcome State Fault Refusal := live s (·.storeLate f)

/-! ### Moves at the device (R143 to R146, R154 to R158) -/

/-- An entry takes effect (R143): the port's allocated target, or the storage set-point. -/
def State.applyEntry (s : State) (epoch : Nat) (e : TEntry) : State :=
  if e.storage then
    if h : e.index < 4 then s.setStore ⟨e.index, h⟩ e.target epoch else s
  else if h : e.index < 8 then
    (s.modPort ⟨e.index, h⟩ (fun x => { x with alloc := e.target })).refreshEff ⟨e.index, h⟩
  else s

/-- Entries take effect in order. -/
def State.applyEntries (s : State) (epoch : Nat) (l : List TEntry) : State := l.foldl (fun s e => s.applyEntry epoch e) s

/-- A trailing time passes: its moves take effect when released, else they are dropped with ALLOC_WITHHELD (R143, R155).
Moves that are no longer held have been dropped. -/
def State.trailOne (s : State) (t : Trailing) : State :=
  if !s.alloc.trailing.contains t then s
  else
    let s := { s with
      alloc := { s.alloc with trailing := s.alloc.trailing.filter (· != t) } }
    if t.released || t.fallback then s.applyEntries t.epoch t.entries
    else if t.entries = [] then s else s.raise .allocWithheld

/-- The order of execution: launch time, then order of acceptance (R111). -/
def Launch.before (a b : Launch) : Bool := decide (a.at_ < b.at_) || (a.at_ == b.at_ && decide (a.order ≤ b.order))

/-- What falls due: a launch, or a trailing time with the order in which its packet was accepted. -/
inductive Due where
  | lead (l : Launch)
  | trail (order : Nat) (t : Trailing)
  deriving DecidableEq, Repr

/-- Time, order of acceptance, and the place of the trailing time after the launch itself (R111, R145). -/
def Due.key : Due → Nat × Nat × Nat
  | .lead l => (l.at_, l.order, 0)
  | .trail n t => (t.at_, n, 1)

/-- The order in which what is due takes effect (R111, R113, R145). -/
def Due.before (a b : Due) : Bool :=
  decide (a.key.1 < b.key.1) || (a.key.1 == b.key.1 &&
    (decide (a.key.2.1 < b.key.2.1) || (a.key.2.1 == b.key.2.1 && decide (a.key.2.2 ≤ b.key.2.2))))

/-- Is it a trailing time? -/
def Due.isTrail : Due → Bool
  | .trail .. => true
  | .lead _ => false

/-- Launches and trailing times that have come, in their order (R110, R111, R113). -/
def State.dues (s : State) : List Due :=
  let order := fun (t : Trailing) =>
    if t.fallback then 0
    else match s.launches.find? (fun l => l.req.code == 0x0305 && u64 l.req.body 0 == t.epoch) with | some l => l.order | none => 0
  sortBy Due.before (((s.launches.filter (fun l => !l.trailing && decide (l.at_ ≤ s.st))).map Due.lead) ++
    ((s.alloc.trailing.filter (fun t => decide (t.at_ ≤ s.st))).map (fun t => Due.trail (order t) t)))

/-- Launch slots past their trailing time are freed (R146). -/
def State.freeSlots (s : State) : State :=
  { s with launches := s.launches.filter (fun l => !(l.trailing && decide (l.at_ ≤ s.st))) }

/-- Trailing times that have come before any launch that is due in the same tick; the rest follow with those launches (R111,
R143, R145). -/
def State.trailDue (s : State) : State :=
  ((s.dues.takeWhile (·.isTrail)).foldl (fun s x => match x with | .trail _ t => s.trailOne t | .lead _ => s) s).freeSlots

def execAllocTrailingEffect (s : State) : Host.Outcome State Fault Refusal := live s (·.trailDue)

/-- The largest value in [0, hi] for which `ok` holds, `ok` being true up to some value; `n` halvings. -/
def largest (ok : Nat → Bool) : Nat → Nat → Nat → Nat
  | 0, lo, _ => lo
  | n + 1, lo, hi =>
    if hi ≤ lo then lo
    else
      let mid := (lo + hi + 1) / 2
      if ok mid then largest ok n mid hi else largest ok n lo (mid - 1)

/-- Equal shares of a budget within each one's bound (R134 step 4, weight 1). -/
def equalShare (budget : Nat) (bounds : List Nat) : Nat :=
  largest (fun x => decide ((bounds.map (fun b => min b x)).sum ≤ budget)) 40 0 (bounds.foldl max 0)

/-- Does a port share the export in fallback: DISCHARGING, or live with a request to discharge and none to charge (R134,
R155; DEDUCED, entry 225)? -/
def State.sharesExport (s : State) (p : Fin 8) : Bool :=
  s.ports[p].state == .discharging ||
    (s.ports[p].state == .charging && decide ((s.portRange p).1 ≤ 0) && decide ((s.portRange p).2 < 0))

/-- The fallback targets of the device's ports (R155). -/
def State.fallbackTargets (s : State) : List (Fin 8 × Int) :=
  let (imp, exp) := s.ownShares
  let ps := s.cfgPorts
  let dn := ps.filter (fun p => s.sharesExport p)
  let up := ps.filter (fun p => s.ports[p].state == .charging && !s.sharesExport p)
  let a := equalShare imp (up.map (fun p => (s.portRange p).1.toNat))
  let b := equalShare exp (dn.map (fun p => (-(s.portRange p).2).toNat))
  ps.map (fun p => (p,
    if s.sharesExport p then -(min (-(s.portRange p).2) b)
    else if s.ports[p].state == .charging then min (s.portRange p).1 a else 0))

/-- The target that a port has or is about to take in fallback: that of a trailing move that waits, else the one in force. -/
def State.plannedTarget (s : State) (p : Fin 8) : Int :=
  match (s.alloc.trailing.filter (·.fallback)).flatMap (fun t => t.entries.filter (fun e => !e.storage && e.index == p.val)) with
  | e :: _ => e.target
  | [] => s.ports[p].alloc

/-- |dP| / rate of R137 in us, rounded up; of a move at rate 0 the quotient is open (DESIGN CHOICE, entry 215). -/
def rampBy (rate d : Nat) : Nat :=
  if d = 0 then 0 else if rate = 0 then Config.rampNoRate d else (d + rate - 1) / rate

/-- The ramp time of a move of the device, in us, rounded up (R137); of a move at rate 0 free (entry 215). -/
def State.rampTime (s : State) (e : TEntry) (old : Int) : Nat :=
  let (rate, above) :=
    if e.storage then (u32 (s.feederCfg e.index) 20, u32 (s.feederCfg e.index) 24)
    else if h : e.index < 8 then s.rampOf ⟨e.index, h⟩ else (0, 0)
  rampBy rate (e.target - old).natAbs + above + s.settle

/-- The device moves to its fallback shares: leading moves now, trailing ones after D of its own ramps, without RELEASE
(R155). The direction follows its own sum with U_est taken as 0 (DEDUCED, entry 91). -/
def State.reshare (s : State) : State :=
  let ports := s.fallbackTargets.map (fun x => (({ storage := false, index := x.1, cls := 0, target := x.2 } : TEntry), s.ports[x.1].alloc))
  let net := (ports.map (·.2)).sum + ((s.feedersOf 2).map (fun f => s.alloc.feeders[f].target)).sum
  let importFirst := decide (0 ≤ net)
  let leadsP := fun (x : TEntry × Int) => decide (x.1.target < x.2) == importFirst
  let moves := ports.filter (fun x => decide (x.1.target ≠ x.2))
  let stores := (s.feedersOf 2).filterMap (fun (f : Fin 4) =>
    let t := s.alloc.feeders[f].target
    if t = 0 then none else some (({ storage := true, index := f, cls := 0, target := 0 } : TEntry), t))
  let lead := moves.filter leadsP ++ stores.filter (fun x => decide (0 < x.2))
  let trail := moves.filter (fun x => !leadsP x) ++ stores.filter (fun x => decide (x.2 < 0))
  let d := (lead.map (fun x => s.rampTime x.1 x.2)).foldl max 0
  let e := s.st / 1000000
  let s := { s with alloc := { s.alloc with trailing := s.alloc.trailing.filter (!·.fallback) } }
  let s := s.applyEntries e (lead.map (·.1))
  if trail = [] then s
  else { s with alloc := { s.alloc with trailing := s.alloc.trailing ++
    [{ epoch := e, at_ := s.st + d * 1000, entries := trail.map (·.1), released := false, fallback := true }] } }

/-- Have the fallback shares changed since the last moves, as ranges do when a session starts or ends (R155; DEDUCED,
entry 225)? -/
def State.sharesMoved (s : State) : Bool := s.fallbackTargets.any (fun x => decide (x.2 ≠ s.plannedTarget x.1))

/-- Enter fallback (R155). -/
def State.enterFallback (s : State) : State :=
  (({ s with alloc := { s.alloc with fallback := true, fallbacks := s.alloc.fallbacks + 1 } }).raise .allocFallbackEnter).reshare

/-- R154: at T_E + 2 000 000 an epoch that was not received counts as missed; the fifth starts fallback (R155). Epochs are
counted from the first that begins at or after ready, when firmware runs (DEDUCED, entry 139). -/
def State.missedCheck (s : State) : State :=
  let n := s.st / 1000000
  if n < 2 || !s.sys.ready || decide (s.el < s.sys.readyAt + 2000000) then s
  else
    let e := n - 2
    if (match s.alloc.checked with | some c => decide (e ≤ c) | none => false) then s
    else
      let got := s.alloc.received.contains e
      let missed := if got then 0 else s.alloc.missed + 1
      let s := { s with alloc := { s.alloc with
        checked := some e, missed, received := s.alloc.received.filter (fun x => decide (e < x)) } }
      if s.alloc.fallback then (if s.sharesMoved then s.reshare else s) else if 5 ≤ missed then s.enterFallback else s

def execAllocMissedEpochCheck (s : State) : Host.Outcome State Fault Refusal := live s (·.missedCheck)

/-! ### ALLOC_TARGETS at the device (R158, R161, R163, R168, R169) -/

/-- The entries of a TARGETS payload without its launch ST. -/
def entriesOf (b : Bytes) : List TEntry :=
  (List.range (u8 b 10 + u8 b 11)).map (fun k =>
    let o := 40 + 16 * k
    { storage := decide (u8 b 10 ≤ k), index := u8 b o, cls := u8 b (o + 1), target := i32 b (o + 4) })

/-- Does an entry name what this device has configured (R169)? A storage entry that names a feeder configured as grid names no
configured storage feeder: DESIGN CHOICE (entry 287). -/
def State.entryOk (s : State) (e : TEntry) : Bool :=
  decide (e.cls ≤ 2) &&
  (if e.storage then decide (e.index < 4) && s.feederKind e.index == 2
   else decide (e.index < 8) && (vget s.nv.cfg.port e.index none).isSome)

/-- The CRCs of a TARGETS packet against the device's own (R158, R163); each event at a change to a difference. -/
def State.checkCrcs (s : State) (b : Bytes) : State :=
  let tb := u32 b 32 != crc32c s.fbTable
  let pb := s.candidate && u32 b 28 != crc32c s.policy
  let s := if tb && !s.alloc.tableBad then s.raise .fallbackTableMismatch else s
  let s := if pb && !s.alloc.policyBad then s.raise .allocConfigMismatch else s
  { s with alloc := { s.alloc with tableBad := tb, policyBad := pb } }

/-- What accepting a TARGETS or HOLD packet does at once: the epoch is received, of a
TARGETS packet (kind 0) limits are stored and CRCs compared (R163), trailing entries held until T + D (R143). -/
def State.allocAccept (s : State) (t : Nat) (b : Bytes) : State :=
  let e := u64 b 0
  let s := if u8 b 8 = 0 then s.checkCrcs b else s
  let s := if u8 b 8 ≠ 0 || s.candidate && s.nv.cfg.allocLimit.isSome then s
    else s.addLimits { since := 0, limp := u32 b 16, lexp := u32 b 20, reserve := u32 b 24 }
  let s := { s with alloc := { s.alloc with lastEpoch := some e, received := e :: s.alloc.received } }
  let trail := (entriesOf b).filter (·.cls == 2)
  if u8 b 8 = 0 && trail ≠ [] then
    { s with alloc := { s.alloc with trailing := s.alloc.trailing ++
      [{ epoch := e, at_ := t + u32 b 12, entries := trail, released := false, fallback := false }] } }
  else s

/-- The launch of a TARGETS or HOLD packet at T: fallback left (R156), leading moves (R143). Refused with the status where the
state then forbids it, and without effect (R112). -/
def State.allocLaunch (s : State) (b : Bytes) : State × Nat :=
  if u8 b 8 ≠ 0 then (s, stOk)
  else
    let es := entriesOf b
    if es.any (fun e => !s.entryOk e) then (s, stParam)
    else if es.any (fun e => !e.storage && s.isRetired (tgt 3 e.index)) then (s, stRetired)
    else
      let s := if s.alloc.fallback then
          ({ s with alloc := { s.alloc with fallback := false, trailing := s.alloc.trailing.filter (!·.fallback) } }).raise .allocFallbackExit
        else s
      (s.applyEntries (u64 b 0) (es.filter (·.cls == 1)), stOk)

/-- RELEASE of epoch `e` arms its trailing moves (R140, R143). -/
def State.allocRelease (s : State) (e : Nat) : State :=
  { s with alloc := { s.alloc with trailing := s.alloc.trailing.map (fun t =>
    if t.epoch = e && !t.fallback then { t with released := true } else t) } }

/-- The rows of R169 that stand before the launch checks of R107 and R106. `body` begins after any launch ST. -/
def State.targetsRows1 (s : State) (r : Req) : List (Bool × Nat × Nat) :=
  let b := r.body
  let k := u8 b 8
  let fromHolder := match r.sender with | .position p _ => s.masterSite == some p | _ => false
  [ row r.isLocal stDenied
  , row (!fromHolder) stNotHolder
  , row (decide (2 < k) || (k == 2) == r.timed) stParam 8
  , paramRow (if k = 2 then [rz b 9 7]
      else [outside (u8 b 9) 0 1 9, outside (u8 b 10) 0 (if k = 1 then 0 else 8) 10, outside (u8 b 11) 0 (if k = 1 then 0 else 4) 11,
        outside (u32 b 12) 0 50000000 12, rz b 37 3] ++ (List.range (u8 b 10 + u8 b 11)).flatMap (fun j =>
        let o := 40 + 16 * j
        [rz b (o + 2) 2, (u8 b (o + 1) != 1 && u32 b (o + 8) != 0, o + 8), rz b (o + 12) 4]))
  , row (decide (k < 2) && decide (r.launch ≠ (u64 b 0 + 2) * 1000000)) stParam 0 ]

/-- The rows of R169 after them. -/
def State.targetsRows2 (s : State) (r : Req) : List (Bool × Nat × Nat) :=
  let b := r.body
  let k := u8 b 8
  let es := if k = 2 then [] else entriesOf b
  [ row (decide (k < 2) && (match s.alloc.lastEpoch with | some l => decide (u64 b 0 ≤ l) | none => false)) stStale 0
  , paramRow (es.zipIdx.map (fun x => (!s.entryOk x.1, 40 + 16 * x.2 + (if 2 < x.1.cls then 1 else 0))))
  , retiredRow s ((es.zipIdx.filter (fun x => !x.1.storage)).map (fun x => (tgt 3 x.1.index, 40 + 16 * x.2)))
  , row (k == 0 && s.alloc.trailing.any (fun t => decide (r.launch < t.at_))) stConflict
  , row (k == 2 && !(s.alloc.trailing.any (fun t => t.epoch == u64 b 0 && !t.fallback && decide (s.st < t.at_)))) stConflict ]

/-! ### Commands -/

/-- The sums that a device checks fallback shares against (R157): the limits it stores. -/
def sharesBad (l : Limits) (t : Bytes) : Bool × Bool :=
  let (i, x) := shareSums t
  (decide ((l.limp : Int) - l.reserve < i), decide (l.lexp < x))

/-- ALLOC_LIMIT (R164). -/
def bodyAllocLimit (r : Req) (s : State) : Ans :=
  let b := r.body
  let l : Limits := { since := s.st, limp := u32 b 0, lexp := u32 b 4, reserve := u32 b 8 }
  let (bi, bx) := sharesBad l s.fbTable
  .table s
    [ paramRow [outside l.limp 0 200000000 0, outside l.lexp 0 200000000 4, outside l.reserve 0 20000000 8, rz b 12 4]
    , row bi stParam 0, row bx stParam 4
    , row (!s.candidate) stConflict ]
    (fun s => .ok ((s.addLimits l).store (fun c => { c with allocLimit := some b })))

/-- The field checks of the weight entries of section 0 (R165). -/
def weightFields (b : Bytes) : List (Bool × Nat) :=
  (List.range (u8 b 3)).flatMap (fun k =>
    let o := 32 + 4 * k
    [outside (u8 b o) 0 15 o, outside (u8 b (o + 1)) 0 7 (o + 1), outside (u8 b (o + 2)) 0 3 (o + 2), outside (u8 b (o + 3)) 1 255 (o + 3)])

/-- The field checks of a feeder entry, which stands at offset `o` (R165). Of an unused feeder (kind 0) neither lanes nor ramp rate
are checked: DESIGN CHOICE (entry 288). -/
def feederEntryFields (e : Bytes) (o : Nat) : List (Bool × Nat) :=
  let kind := u8 e 1
  let store := kind == 2
  let ident := fun (o : Nat) => if u8 e 2 = 0 then decide ((if identExt (u32 e o) then 2 ^ 29 else 2 ^ 11) ≤ identNum (u32 e o)) ||
      bits (u32 e o) 30 29 != 0 else decide (65535 < u32 e o)
  [outside (u8 e 0) 0 3 o, outside kind 0 2 (o + 1), (decide (2 < u8 e 2) || (kind == 1 && u8 e 2 != 0), o + 2),
    (decide (7 < u8 e 3) || ((kind == 1 || u8 e 2 != 0) && u8 e 3 != 0), o + 3), (store && ident 4, o + 4), (store && ident 8, o + 8)] ++
  (List.range 6).map (fun k => (kind != 0 && decide (143 < u8 e (12 + k)), o + 12 + k)) ++
  [(!zeros e 18 2, o + 18), (if store then u32 e 20 == 0 || decide (100000 < u32 e 20) else kind == 1 && u32 e 20 != 0, o + 20),
    outside (u32 e 24) 0 20000 (o + 24)]

/-- ALLOC_POLICY (R165). -/
def bodyAllocPolicy (r : Req) (s : State) : Ans :=
  let b := r.body
  if u8 b 0 = 0 then
    .table s
      [ paramRow ([outside (u8 b 1) 0 1 1, outside (u8 b 2) 0 2 2, outside (u8 b 3) 0 128 3,
          outside (u32 b 4) 1000 50000 4, outside (u32 b 8) 0 5000 8, outside (u32 b 12) 100 1500 12,
          outside (u16 b 16) 0 10000 16, outside (u16 b 18) (u16 b 16 + 1) 10000 18,
          outside (u32 b 20) 1000 5000000 20, outside (u16 b 24) 0 200 24, rz b 26 6] ++ weightFields b)
      , row (!s.candidate) stConflict ]
      (fun s => .ok (({ s with alloc := { s.alloc with policyWas := s.wasNote s.alloc.policyWas s.nv.cfg.allocPolicy } }).store
        (fun c => { c with allocPolicy := some b })))
  else
    let es := (List.range (u8 b 1)).map (fun k => sub b (8 + 32 * k) 32)
    let idx := es.map (fun e => u8 e 0)
    let lanes := es.zipIdx.flatMap (fun x =>
      if u8 x.1 1 = 0 then [] else (List.range 6).map (fun k => (tgt 5 (u8 x.1 (12 + k)), 8 + 32 * x.2 + 12 + k)))
    let entryOf := fun (f : Nat) => (es.find? (fun e => u8 e 0 == f)).getD (List.replicate 32 0)
    .table s
      [ row (u8 b 0 != 1) stParam 0
      , paramRow ([outside (u8 b 1) 0 4 1, rz b 2 6] ++ es.zipIdx.flatMap (fun x =>
          ((idx.take x.2).contains (u8 x.1 0), 8 + 32 * x.2) :: feederEntryFields x.1 (8 + 32 * x.2)))
      , retiredRow s lanes
      , row ((List.finRange 4).any (fun f => s.alloc.feeders[f].target != 0 && entryOf f != feederEntry s.nv.cfg.allocFeeders f)) stConflict ]
      (fun s => .ok (({ s with alloc := { s.alloc with feedersWas := s.wasNote s.alloc.feedersWas s.nv.cfg.allocFeeders } }).store
        (fun c => { c with allocFeeders := some b })))

/-- ALLOC_FALLBACK (R166). -/
def bodyAllocFallback (r : Req) (s : State) : Ans :=
  let b := r.body
  let bad := match s.limitsAt s.st with | none => (false, false) | some l => sharesBad l (sub b 8 128)
  .table s
    [ paramRow [rz b 4 4]
    , row (s.limitsAt s.st).isNone stConflict
    , row bad.1 stParam 8, row bad.2 stParam 12 ]
    (fun s =>
      let s := s.store (fun c => { c with allocFallback := some b })
      .ok (if s.alloc.fallback then s.reshare else s))

/-- Allocation state of R167. -/
def State.allocState (s : State) : Nat :=
  if !s.posHolds then 0 else if s.st < s.alloc.collectUntil then 1 else if s.alloc.wasHeld then 3 else 2

/-- Allocation flags of R167. -/
def State.allocFlags (s : State) : Nat :=
  b01 s.posHolds + 2 * b01 s.candidate + 4 * b01 s.alloc.fallback + 8 * b01 s.alloc.tableBad + 16 * b01 s.alloc.policyBad

/-- ALLOC_STATUS: the host's query, or a report to the lease holder (R167). -/
def bodyAllocStatus (r : Req) (s : State) : Ans :=
  let b := r.body
  if u8 b 8 = 1 then
    let site := match r.sender with | .position p _ => some p | _ => none
    .table s
      [ row r.isLocal stDenied
      , row (!s.posHolds) stNotHolder
      , row (site.isNone || site != some (u8 b 9)) stDenied 9
      , paramRow ([outside (u8 b 10) 0 15 10, outside (u8 b 11) 0 8 11, outside (u8 b 12) 0 4 12, outside (u8 b 13) 0 4 13, rz b 14 2] ++
          (List.range (u8 b 11)).flatMap (fun j => [rz b (19 + 32 * j) 1, rz b (46 + 32 * j) 2]) ++
          (List.range (u8 b 12)).map (fun j => rz b (44 + 32 * (u8 b 11 + j)) 4) ++
          (List.range (u8 b 13)).flatMap (fun j =>
            let o := 16 + 32 * (u8 b 11 + u8 b 12) + 16 * j
            [rz b (o + 2) 2, rz b (o + 12) 4])) ]
      (fun s => .ok (s.takeReport (reportOf b)))
  else
    let l := (s.limitsAt (s.st / 1000000 * 1000000)).getD { since := 0, limp := 0, lexp := 0, reserve := 0 }
    let a := s.alloc
    .table s [ row (u8 b 8 != 0) stParam 8, paramRow [rz b 0 8, rz b 9 7] ]
      (fun s => .ok s (le 1 s.allocFlags ++ le 1 s.allocState ++ le 8 (s.st / 1000000) ++ le 4 l.limp ++ le 4 l.lexp ++
        lei 4 a.lastSum ++ lei 4 a.lastImport ++ le 4 a.dPrev ++ le 4 a.helds.toNat ++ le 4 a.withhelds.toNat ++
        le 4 a.missed ++ le 4 a.fallbacks.toNat ++ le 2 a.reporting ++ le 2 a.inFallback ++ le 4 a.trips.toNat ++
        List.replicate 8 0))

end Sys2Proof.Machine
end

