-- ==== Sys2Proof/Machine/AllocMaster.lean ====
section
/-! DEFINITION. Site power allocation at the holder of the site-master lease: estimates, sharing, ordered launch, acks and
RELEASE (R124, R125, R127, R132 to R142, R152, R153, R159, R160). -/

namespace Sys2Proof.Machine

/-- Does this device compute allocation: the holder, or the standby of the holding pair in shadow (R124, R159)? -/
def State.allocates (s : State) : Bool :=
  s.mastering || (s.posHolds && s.paired && (s.twin.state == .standby || s.twin.state == .carry))

/-- The value of a contribution that is expected in force: a start value and the later moves that were acknowledged, or
released (R141). -/
def State.expected (s : State) (c : Contrib) (start : Int) (since : Nat) : Int :=
  s.alloc.issued.reverse.foldl (fun v i =>
    match i.moves.find? (fun m => m.who == c) with
    | none => v
    | some m =>
      if m.cls = 1 then (if decide (since ≤ i.t) && i.acked.contains c.site then m.new else v)
      else if m.cls = 2 then (if decide (since ≤ i.t + i.d) && i.released then m.new else v)
      else v) start

/-- A contribution as sharing sees it (R134). -/
structure Item where
  who : Contrib
  old : Int
  lo : Int
  hi : Int
  /-- a port's upper request as reported -/
  want : Int
  rate : Nat
  above : Nat
  /-- a DISCHARGING port -/
  disch : Bool
  tier : Nat
  weight : Nat
  new : Int
  deriving DecidableEq, Repr, Inhabited

/-- Tier and weight of a port (R165): unlisted ports take tier 1, weight 1. -/
def State.weightOf (s : State) (site port : Nat) : Nat × Nat :=
  let b := s.policy
  match (List.range (u8 b 3)).find? (fun k => u8 b (32 + 4 * k) == site && u8 b (33 + 4 * k) == port) with
  | some k => (u8 b (34 + 4 * k), u8 b (35 + 4 * k))
  | none => (1, 1)

/-- The range of a storage feeder (R134 step 1, R151, R152). Of a feeder that is both fixed for deviation and stale or idle
the spec does not say which holds: the fix does (DESIGN CHOICE, entry 246). -/
def State.storeRange (s : State) (c : Contrib) (x : SRec) : Int × Int :=
  let b := s.policy
  match (s.alloc.devs.find? (fun d => d.who == c)).bind (·.fixed) with
  | some v => (v, v)
  | none =>
    if bit x.flags 1 || u8 b 2 = 2 then (0, 0)
    else (if x.soc < u16 b 16 then 0 else -(x.disch : Int), if u16 b 18 < x.soc then 0 else (x.charge : Int))

/-- The contributions of a report with their old values (R134, R141). -/
def State.itemsOf (s : State) (r : Report) : List Item :=
  let since := r.own * 1000000 + 1
  r.ports.map (fun p =>
    let c : Contrib := { site := r.site, storage := false, index := p.port }
    let d := p.state == 5
    let w := s.weightOf r.site p.port
    { who := c, old := s.expected c p.target since, lo := if d then p.lower else 0, hi := if d then 0 else max 0 p.upper
      want := p.upper, rate := p.rate, above := p.overhead, disch := d, tier := w.1, weight := w.2, new := 0 }) ++
  r.stores.map (fun x =>
    let c : Contrib := { site := r.site, storage := true, index := x.feeder }
    let g := s.storeRange c x
    { who := c, old := s.expected c x.target since, lo := g.1, hi := g.2, want := g.2, rate := x.rate, above := x.latency
      disch := false, tier := 0, weight := 1, new := 0 })

/-- Part of the import sum (R133). -/
def Item.imp (i : Item) (v : Int) : Int := if i.who.storage then v else max v 0

/-- The import and net sums of values chosen from items (R133). -/
def impSum (l : List Item) (f : Item → Int) : Int := (l.map (fun i => i.imp (f i))).sum
def netSum (l : List Item) (f : Item → Int) : Int := (l.map f).sum

/-- R134 step 2: the range allows no leading move longer than D_max. -/
def Item.narrow (importFirst : Bool) (dMax settle : Nat) (i : Item) : Item :=
  let d : Int := ((dMax : Int) - i.above - settle).toNat * i.rate
  if importFirst then { i with lo := max i.lo (i.old - d), hi := max i.hi (i.old - d) }
  else { i with lo := min i.lo (i.old + d), hi := min i.hi (i.old + d) }

/-- Limit a value to an item's range. -/
def Item.within (i : Item) (v : Int) : Int := clampI i.lo i.hi v

/-- A port's share at level `x` (R134 step 4), in whole W rounded down: x / 2^32 times its weight, or x / 2^32 of its upper
reported request, within the range that step 2 leaves. The step 2^-32 is finer than any two levels at which the shares of two
weights change (DEDUCED, entry 92). -/
def Item.share (prop : Bool) (x : Nat) (i : Item) : Int :=
  i.within (if prop then (max 0 i.want * x) / 2 ^ 32 else (x * i.weight / 2 ^ 32 : Nat))

/-- Fill the charging ports of one tier within a budget. -/
def fillTier (prop : Bool) (budget : Int) (l : List Item) : List Item :=
  let x := largest (fun x => decide ((l.map (fun i => max 0 (i.share prop x))).sum ≤ budget)) (if prop then 34 else 66) 0
    (if prop then 2 ^ 32 else 2 ^ 64)
  l.map (fun i => { i with new := i.share prop x })

/-- Fill tier by tier: `tiers` are filled in order, each within what the others' least values leave. -/
def fillTiers (prop : Bool) : List (List Item) → Int → List Item
  | [], _ => []
  | t :: ts, budget =>
    let rest := ((ts.flatten).map (fun i => max 0 i.lo)).sum
    let l := fillTier prop (budget - rest) t
    l ++ fillTiers prop ts (budget - (l.map (fun i => max 0 i.new)).sum)

/-- Move values by `rest` in all, each as far as its range goes, in list order. -/
def spreadStores : List Item → Int → List Item
  | [], _ => []
  | i :: l, rest =>
    let v := i.within (i.new + rest)
    { i with new := v } :: spreadStores l (rest - (v - i.new))

/-- R134 step 5: the storage feeders together take `total`. Each begins at its value nearest to 0; where that leaves them
above the total the others discharge, below it they charge when `absorb` holds (storage mode 1). The spec does not say how
several share one total: they are filled in list order (DESIGN CHOICE, entry 243). -/
def fillStores (absorb : Bool) (l : List Item) (total : Int) : List Item :=
  let l := l.map (fun i => { i with new := i.within 0 })
  let rest := total - (l.map (·.new)).sum
  if rest < 0 || absorb then spreadStores l rest else l

/-- R134: the new targets within B_imp and L_exp; `imp` and `net` are the sums counted for silent positions (R142).
Several DISCHARGING ports are raised by one common level, at which each delivers the lesser of it and its request: the spec
does not say how they share (DESIGN CHOICE, entry 244). -/
def shareTargets (prop : Bool) (storageMode : Nat) (bImp lexp imp net : Int) (l : List Item) : List Item :=
  let stores := l.filter (·.who.storage)
  let up := l.filter (fun i => !i.who.storage && !i.disch)
  let dn := l.filter (·.disch)
  let room := bImp - imp - (stores.map (·.lo)).sum
  let up := fillTiers prop ((List.range 4).map (fun t => up.filter (·.tier == t))) room
  let used := (up.map (fun i => max 0 i.new)).sum + (dn.map (fun i => max 0 i.lo)).sum + imp
  let total : Int := if bImp < used then bImp - used else if storageMode = 1 then bImp - used else 0
  let stores := fillStores (storageMode == 1) stores total
  let others := netSum up (·.new) + netSum stores (·.new) + net
  let x := largest (fun x => decide (-lexp ≤ others + (dn.map (fun i => i.within (-(x : Int)))).sum)) 40 0 (2 ^ 32)
  up ++ dn.map (fun i => { i with new := i.within (-(x : Int)) }) ++ stores

/-- Is the move leading: to a lower value under import-first, to a higher one under export-first (R136)? -/
def Item.leads (importFirst : Bool) (i : Item) : Bool := if importFirst then decide (i.new < i.old) else decide (i.old < i.new)

/-- Class of an item's move: 0 hold, 1 leading, 2 trailing (R136). -/
def Item.cls (importFirst : Bool) (i : Item) : Nat := if i.new = i.old then 0 else if i.leads importFirst then 1 else 2

/-- The amount by which the transient bound of R139 is missed. -/
def shortfall (importFirst : Bool) (bImp lexp imp net : Int) (l : List Item) : Int :=
  let v := fun (i : Item) => if i.leads importFirst then i.new else i.old
  if importFirst then -lexp - (netSum l v + net) else impSum l v + imp - bImp

/-- R139: the largest leading moves are brought back until the bound holds, each just far enough, or to its old value where that
does not suffice. -/
def trimLeads (importFirst : Bool) (bImp lexp imp net : Int) : Nat → List Item → List Item
  | 0, l => l
  | n + 1, l =>
    let miss := shortfall importFirst bImp lexp imp net l
    if miss ≤ 0 then l
    else
      match minBy (fun i => (2 ^ 40 : Nat) - (i.new - i.old).natAbs) (l.filter (·.leads importFirst)) with
      | none => l
      | some m =>
        let reach := if importFirst then m.old - m.new else m.imp m.new - m.imp m.old
        let back := if reach < miss then m.old else if importFirst then m.new + miss else m.new - miss
        trimLeads importFirst bImp lexp imp net n (l.map (fun i => if i.who = m.who then { i with new := back } else i))

/-- Ramp time of a move in us, rounded up (R137). -/
def Item.ramp (settle : Nat) (i : Item) : Nat :=
  rampBy i.rate (i.new - i.old).natAbs + i.above + settle

/-! ### Estimates of an epoch (R132, R142, R152, R153) -/

/-- Sums counted for a position that is silent or in fallback (R142). -/
def State.countedFor (s : State) (p : Nat) : Int × Int :=
  let vs := (s.alloc.base.filter (fun x => x.1.site == p)).map (fun x => (x.1, s.expected x.1 x.2.1 x.2.2))
  let imp := (vs.map (fun x => if x.1.storage then x.2 else max x.2 0)).sum
  let net := (vs.map (·.2)).sum
  let sh := shareOf s.fbTable p
  (max imp sh.1, min net (-(sh.2 : Int)))

/-- The last known targets with an epoch's reports (R141, R142, R160): a report gives those of its own start; for a position
silent or in fallback the moves before `at_`, long acknowledged or not, join the value known before. -/
def State.noteBase (s : State) (at_ : Nat) (reps : List Report) : State :=
  let told := reps.flatMap (fun r =>
    let since := r.own * 1000000 + 1
    r.ports.map (fun p => (({ site := r.site, storage := false, index := p.port } : Contrib), p.target, since, bit r.flags 0)) ++
    r.stores.map (fun x => (({ site := r.site, storage := true, index := x.feeder } : Contrib), x.target, since, bit r.flags 0)))
  let heard := (told.filter (fun x => !x.2.2.2 || !s.alloc.base.any (fun b => b.1 == x.1))).map (fun x => (x.1, x.2.1, x.2.2.1))
  let live := reps.filter (fun r => !bit r.flags 0)
  let kept := (s.alloc.base.filter (fun b => !live.any (fun r => r.site == b.1.site))).map (fun b =>
    if at_ ≤ b.2.2 then b
    else
      let gone := s.alloc.issued.map (fun (i : Issued) => { i with moves := i.moves.filter (fun m =>
        decide ((if m.cls = 1 then i.t else i.t + i.d) < at_)) })
      (b.1, ({ s with alloc := { s.alloc with issued := gone } }).expected b.1 b.2.1 b.2.2, at_))
  { s with alloc := { s.alloc with base := heard ++ kept } }

/-- Measured grid import and the uncontrolled load of an epoch's reports (R132). -/
def loadOf (l : List Report) : Int × Int :=
  let fs := l.flatMap (·.feeders)
  let grid := ((fs.filter (·.kind == 1)).map (·.mean)).sum
  (grid, grid - (l.flatMap (fun r => r.ports.map (·.power))).sum - ((fs.filter (·.kind == 2)).map (·.mean)).sum)

/-- Has every move of a contribution that took effect ramped before the epoch measured began (R152)? -/
def State.rampPassed (s : State) (c : Contrib) (x : SRec) (te : Nat) : Bool :=
  !(s.alloc.issued.any (fun i => i.moves.any (fun m => m.who == c && m.cls != 0 &&
    (let at_ := if m.cls = 1 then i.t else i.t + i.d
     let ramp := 1000 * (rampBy x.rate (m.new - m.old).natAbs + x.latency)
     decide (at_ ≤ te) && decide (te < at_ + ramp + 1000000)))))

/-- One epoch of the deviation watch of a storage feeder (R152): an epoch that was not run ends both counts. Every epoch outside
the tolerance counts, also within the ramp time; the event waits until that has passed (DEDUCED, entry 247). -/
def State.watchStore (s : State) (te : Nat) (site : Nat) (x : SRec) : State :=
  let c : Contrib := { site, storage := true, index := x.feeder }
  let e := te / 1000000
  let d : Deviation := (s.alloc.devs.find? (fun d => d.who == c)).getD { who := c, epoch := e, outside := 0, within := 0, fixed := none }
  let d : Deviation := if d.epoch + 1 = e then { d with epoch := e } else { d with epoch := e, outside := 0, within := 0 }
  let off := decide (s.devTol < (x.power - x.target).natAbs)
  let d : Deviation := if off then { d with outside := d.outside + 1, within := 0 } else { d with outside := 0, within := d.within + 1 }
  let hit : Bool := d.fixed.isNone && decide (3 ≤ d.outside) && s.rampPassed c x te
  let s := if hit then s.raise .storageDeviation else s
  let fixed := if hit || (d.fixed.isSome && decide (d.within < 1000)) then some x.power else none
  let s := { s with alloc := { s.alloc with devs := { d with fixed } :: s.alloc.devs.filter (fun d => d.who != c) } }
  if site = s.strap.siteId then
    (if h : x.feeder < 4 then s.modFeeder ⟨x.feeder, h⟩ (fun f => { f with deviation := fixed.isSome }) else s)
  else s

/-- Guard and estimates of an epoch (R132, R152, R153, R167). An epoch that was not run ends the guard's count. At a trip the count
begins anew, so an excess that goes on trips again after 3 more epochs and renews the 100, of which the epoch being run is the
first: DESIGN CHOICE (entry 286). -/
def State.estimates (s : State) (te : Nat) (l : List Report) (limp : Nat) : State :=
  let (grid, u) := loadOf l
  let above := decide ((limp * (1000 + u16 s.policy 24) : Nat) < grid * 1000)
  let e := te / 1000000
  let n := if above then (if s.alloc.aboveAt + 1 = e then s.alloc.above + 1 else 1) else 0
  let trip := decide (3 ≤ n)
  let s := if trip then s.raise .allocLimitGuard else s
  let past := s.alloc.loads.filter (fun (x : Nat × Int) => decide (te < (x.1 + 8) * 1000000) && decide (x.1 * 1000000 < te))
  let s := { s with alloc := { s.alloc with
    loads := (e, u) :: past, lastImport := grid, above := if trip then 0 else n, aboveAt := e
    doubledTo := if trip then e + 100 else s.alloc.doubledTo
    trips := if trip then s.alloc.trips + 1 else s.alloc.trips
    reporting := maskOf (l.map (fun (r : Report) => r.site))
    inFallback := maskOf ((l.filter (fun (r : Report) => bit r.flags 0)).map (fun (r : Report) => r.site)) } }
  let s : State := { s with alloc := { s.alloc with devs := s.alloc.devs.map (fun (d : Deviation) =>
    if l.any (fun r => r.site == d.who.site && r.stores.any (fun x => x.feeder == d.who.index)) then d
    else { d with outside := 0, within := 0 }) } }
  l.foldl (fun s r => r.stores.foldl (fun s x => s.watchStore te r.site x) s) s

/-! ### Sending (R124, R125, R140, R159, R168) -/

/-- The payload of a TARGETS or HOLD packet after its launch ST (R168). -/
def State.targetsBody (s : State) (e kind dir d : Nat) (lim : Limits) (moves : List (Move × Nat)) : Bytes :=
  let ps := moves.filter (fun m => !m.1.who.storage)
  let ss := moves.filter (fun m => m.1.who.storage)
  le 8 e ++ le 1 kind ++ le 1 dir ++ le 1 ps.length ++ le 1 ss.length ++ le 4 d ++ le 4 lim.limp ++ le 4 lim.lexp ++
  le 4 lim.reserve ++ le 4 (crc32c s.policy) ++ le 4 (crc32c s.fbTable) ++ le 1 s.strap.siteId ++ [0, 0, 0] ++
  (ps ++ ss).flatMap (fun m => le 1 m.1.who.index ++ le 1 m.1.cls ++ [0, 0] ++ lei 4 m.1.new ++ le 4 m.2 ++
    List.replicate 4 0)

/-- The holder's own position takes the packet within the device (DEDUCED, entry 90): true when accepted. -/
def State.ownTargets (s : State) (t : Nat) (b : Bytes) : State × Bool :=
  let r : Req := { code := 0x0305, sender := .position s.strap.siteId 2, via := .site0, flags := 1, seq := s.seqCtr
                   target := 0, body := b, launch := t }
  match firstRow (s.targetsRows1 r ++ s.launchRows t ++ s.targetsRows2 r ++ [s.slotsRow]) with
  | some _ => (s, false)
  | none => ((s.allocAccept t b).pushLaunch r, true)

/-- Send TARGETS or HOLD to one position; the sequence, when one was sent, is noted. -/
def State.sendTargets (s : State) (t : Nat) (b : Bytes) (wants : Bool) (p : Nat) : State × List (Nat × Nat) × Bool :=
  let (q, s') := s.originate 0x0305 true wants (le 8 t ++ b) (·.site == p)
  let seqs := if s.maySend then [(p, q)] else []
  if p = s.strap.siteId then
    let (s'', ok) := s'.ownTargets t b
    (s'', seqs, ok)
  else (s', seqs, false)

/-- HOLD for epoch `e` to every position (R125, R138, R160). -/
def State.sendHold (s : State) (e : Nat) (lim : Limits) : State :=
  let b := s.targetsBody e 1 0 0 lim []
  s.positions.foldl (fun s p => (s.sendTargets ((e + 2) * 1000000) b false p).1) s

/-- Send RELEASE of an issued epoch once every position with a leading entry has acknowledged, before the ack wait ends
(R140); only as the lease holder, and not while quality is INVALID (R124). -/
def State.tryRelease (s : State) : State :=
  if !s.allocates || s.time.quality == .invalid then s
  else s.alloc.issued.foldl (fun s i =>
    if !i.released && !i.withheld && i.need.all (i.acked.contains ·) && decide (s.st + i.wait * 1000 < i.t) then
      let b := le 8 i.epoch ++ [2] ++ List.replicate 7 0
      let s := (s.originate 0x0305 false false b (fun _ => true)).2
      let s := { s with alloc := { s.alloc with issued := s.alloc.issued.map (fun (x : Issued) =>
        if x.epoch = i.epoch then { x with released := true } else x) } }
      s.allocRelease i.epoch
    else s) s

/-- An ACCEPTED_PENDING reply of a position to a TARGETS packet (R140, R141). -/
def State.allocAck (s : State) (p seq : Nat) : State :=
  ({ s with alloc := { s.alloc with issued := s.alloc.issued.map (fun (i : Issued) =>
    if i.seqs.contains (p, seq) && !i.acked.contains p then { i with acked := p :: i.acked } else i) } }).tryRelease

/-- The ack wait ends without every ack: no RELEASE, ALLOC_WITHHELD (R140). -/
def State.ackWaitEnd (s : State) : State :=
  if !s.allocates then s
  else s.alloc.issued.foldl (fun s i =>
    if !i.released && !i.withheld && decide (i.t ≤ s.st + i.wait * 1000) then
      ({ s with alloc := { s.alloc with
        withhelds := s.alloc.withhelds + 1
        issued := s.alloc.issued.map (fun (x : Issued) => if x.epoch = i.epoch then { x with withheld := true } else x) } }).raise .allocWithheld
    else s) s

def execAllocAckWaitEnd (s : State) : Host.Outcome State Fault Refusal := live s (·.ackWaitEnd)

/-! ### One epoch -/

/-- Issue the targets of epoch `e` (R134 to R141). -/
def State.issueEpoch (s : State) (e : Nat) (lim : Limits) (reps : List Report) : State :=
  let t := (e + 2) * 1000000
  let heard := reps.filter (fun r => !bit r.flags 0)
  let quiet := s.positions.filter (fun p => !heard.any (·.site == p))
  let counted := quiet.map s.countedFor
  let imp := (counted.map (·.1)).sum
  let net := (counted.map (·.2)).sum
  let uest := (s.alloc.loads.map (·.2)).foldl max 0
  let reserve := lim.reserve * (if e < s.alloc.doubledTo then 2 else 1)
  let bImp : Int := (lim.limp : Int) - uest - reserve
  let items := heard.flatMap s.itemsOf
  let first := decide (0 ≤ netSum items (·.old) + net + uest)
  let dMax := s.dMax
  let settle := s.settle
  let items := items.map (·.narrow first dMax settle)
  let items := shareTargets (u8 s.policy 1 == 1) (u8 s.policy 2) bImp lim.lexp imp net items
  let bad := decide (bImp < impSum items (·.new) + imp) || decide (netSum items (·.new) + net < -(lim.lexp : Int))
  let s := if bad then s.raise .allocOverLimit else s
  let items := if bad then items.map (fun i => if i.leads first then i else { i with new := i.old }) else items
  let items := trimLeads first bImp lim.lexp imp net (2 * items.length) items
  let d := 1000 * ((items.filter (·.leads first)).map (·.ramp settle)).foldl max 0
  let moves := items.map (fun i =>
    (({ who := i.who, cls := i.cls first, old := i.old, new := i.new } : Move), if i.leads first then i.ramp settle else 0))
  let (s, seqs, acked) := s.positions.foldl (fun (a : State × List (Nat × Nat) × List Nat) p =>
    let b := a.1.targetsBody e 0 (b01 (!first)) d lim (moves.filter (fun m => m.1.who.site == p))
    let (s', q, ok) := a.1.sendTargets t b true p
    (s', a.2.1 ++ q, if ok then p :: a.2.2 else a.2.2)) (s, [], [])
  let need := ((moves.filter (fun m => m.1.cls == 1)).map (fun m => m.1.who.site)).eraseDups
  let rec_ : Issued := { epoch := e, t := t, d := d, moves := moves.map (·.1), acked := acked, need := need, wait := s.ackWait
                         seqs := seqs, released := false, withheld := false }
  let s := { s with alloc := { s.alloc with
    issued := (rec_ :: s.alloc.issued).take 64
    tPrev := t, dPrev := d, wasHeld := false, lastSum := impSum items (·.new) + imp } }
  s.tryRelease

/-- R124 to R142: one epoch of the holder, at the report cutoff. An epoch that did not run by its T_E + 1 200 us is
answered with HOLD (R125). A holder without limits allocates with L_imp, L_exp and reserve 0: the spec does not say what it
allocates with (DESIGN CHOICE, entry 248). -/
def State.epochRun (s : State) : State :=
  let n := s.st / 1000000
  let done : Nat → Bool := fun e => match s.alloc.ran with | some r => decide (e ≤ r) | none => false
  if !s.allocates || s.time.quality == .invalid then s
  else
    let limOf := fun (e : Nat) => (s.limitsAt (e * 1000000)).getD { since := 0, limp := 0, lexp := 0, reserve := 0 }
    let lim := limOf n
    if s.st < n * 1000000 + 400000 then
      if 0 < n && s.st < n * 1000000 + 200000 && !done (n - 1) then
        ({ s with alloc := { s.alloc with ran := some (n - 1), wasHeld := true, helds := s.alloc.helds + 1 } }).sendHold (n - 1) (limOf (n - 1))
      else s
    else if done n then s
    else
      let s := { s with alloc := { s.alloc with ran := some n } }
      let reps := s.positions.filterMap (fun p => s.alloc.reports.find? (fun r => r.site == p && r.epoch == n))
      let s := (s.estimates (n * 1000000) reps lim.limp).noteBase (s.st - 10000000) reps
      if n * 1000000 < s.alloc.collectUntil || (n + 2) * 1000000 < s.alloc.tPrev + s.alloc.dPrev then
        ({ s with alloc := { s.alloc with wasHeld := true, helds := s.alloc.helds + 1 } }).sendHold n lim
      else s.issueEpoch n lim reps

def execAllocEpochRun (s : State) : Host.Outcome State Fault Refusal := live s (·.epochRun)

/-- A position takes the site-master lease from another one: HOLD until its lease start + D_max + 3 ms, old values from
reports (R160). -/
def State.allocTake (s : State) : State :=
  { s with alloc := { s.alloc with
    collectUntil := s.st + s.dMax * 1000 + 3000000, issued := [], base := [], loads := [], devs := [], above := 0
    doubledTo := 0, tPrev := 0, dPrev := 0 } }

end Sys2Proof.Machine
end

