-- ==== Sys2Proof/Machine/Civil.lean ====
section
/-! DEFINITION. Civil time: dates, the zone table, and the tariff calendar's choice of a tariff (R101 to R105, R441,
R442, R444, R445). -/

namespace Sys2Proof.Machine

/-- Days from 2000-01-01 to a date of the proleptic Gregorian calendar (R16). -/
def daysOf (y m d : Int) : Int :=
  let y' := if m ≤ 2 then y - 1 else y
  let era := y'.fdiv 400
  let yoe := y' - era * 400
  let doy := (153 * (if 2 < m then m - 3 else m + 9) + 2).fdiv 5 + d - 1
  era * 146097 + yoe * 365 + yoe.fdiv 4 - yoe.fdiv 100 + doy - 730425

/-- Year, month, day of a day number counted from 2000-01-01. -/
def dateOf (n : Int) : Int × Int × Int :=
  let z := n + 730425
  let era := z.fdiv 146097
  let doe := z - era * 146097
  let yoe := (doe - doe.fdiv 1460 + doe.fdiv 36524 - doe.fdiv 146096).fdiv 365
  let doy := doe - (365 * yoe + yoe.fdiv 4 - yoe.fdiv 100)
  let mp := (5 * doy + 2).fdiv 153
  let m := if mp < 10 then mp + 3 else mp - 9
  (yoe + era * 400 + (if m ≤ 2 then 1 else 0), m, doy - (153 * mp + 2).fdiv 5 + 1)

/-- Weekday of a day number, Monday 0; 2000-01-01 was a Saturday. -/
def weekdayOf (n : Int) : Nat := ((n + 5) % 7).toNat

/-- Days of a month. -/
def monthDays (y m : Nat) : Nat :=
  if m = 2 then (if (y % 4 = 0 && y % 100 ≠ 0) || y % 400 = 0 then 29 else 28)
  else if m = 4 || m = 6 || m = 9 || m = 11 then 30 else 31

/-! ### Zone table (R102, R103) -/

/-- Leap entries: ST, TAI - UTC from it. -/
def leaps (z : Bytes) : List (Nat × Int) := (List.range (u8 z 1)).map (fun k => (u64 z (8 + 12 * k), (u16 z (16 + 12 * k) : Int)))

/-- Transitions: ST, offset in minutes, daylight time. -/
def transitions (z : Bytes) : List (Nat × Int × Bool) :=
  let o := 8 + 12 * u8 z 1
  (List.range (u8 z 2)).map (fun k => (u64 z (o + 12 * k), i16 z (o + 12 * k + 8), bit (u8 z (o + 12 * k + 10)) 0))

/-- TAI - UTC at an ST (R102). -/
def taiUtc (z : Bytes) (st : Int) : Int :=
  match ((leaps z).filter (fun l => decide ((l.1 : Int) ≤ st))).getLast? with
  | some l => l.2
  | none => u16 z 4

/-- Offset from UTC in minutes and daylight time at an ST (R103). -/
def utcOffset (z : Bytes) (st : Int) : Int × Bool :=
  match ((transitions z).filter (fun t => decide ((t.1 : Int) ≤ st))).getLast? with
  | some t => t.2
  | none => ((transitions z).headD (0, 0, false)).2

/-- Is the table expired at an ST (R103)? -/
def zoneExpired (z : Bytes) (st : Nat) : Bool :=
  match (transitions z).getLast? with | some t => decide (t.1 ≤ st) | none => true

/-- Seconds of local time since 2000-01-01 00:00:00 at an ST (R101). -/
def localSec (z : Bytes) (st : Int) : Int := st.fdiv 1000000000 - taiUtc z st + (utcOffset z st).1 * 60

/-- Is an ST in an inserted leap second: the second before an increase of TAI - UTC (R101)? -/
def inLeap (z : Bytes) (st : Int) : Bool :=
  (leaps z).any (fun l => decide (st < l.1) && decide ((l.1 : Int) ≤ st + 1000000000) && decide (taiUtc z st < l.2))

/-- The civil record of an ST (R101); the inserted leap second reads 60. -/
def civilRecord (z : Bytes) (st : Nat) (locked : Bool) : Bytes :=
  let inserted := inLeap z st
  let t := localSec z st - (if inserted then 1 else 0)
  let (y, m, d) := dateOf (t.fdiv 86400)
  let sod := t % 86400
  let off := utcOffset z st
  lei 2 y ++ lei 1 m ++ lei 1 d ++ lei 1 (sod / 3600) ++ lei 1 (sod / 60 % 60) ++
  lei 1 (sod % 60 + (if inserted then 1 else 0)) ++
  le 1 (b01 off.2 + 2 * b01 (zoneExpired z st) + 4 * b01 (!locked)) ++ lei 2 off.1 ++ le 2 (st / 1000000 % 1000)

/-- The instants at which local time may jump. -/
def jumps (z : Bytes) : List Nat := (leaps z).map (·.1) ++ (transitions z).map (·.1)

/-- The ST of a local time in seconds (R105): its first occurrence, or the transition that skips it. The inserted
leap second is no occurrence of the second that follows it (R101). -/
def stOfLocal (z : Bytes) (t : Int) : Nat :=
  let js := jumps z
  let probes : List Int := 0 :: js.flatMap (fun (j : Nat) => [(j : Int) - 1, (j : Int)])
  let cands := probes.map (fun p => (t + taiUtc z p - (utcOffset z p).1 * 60) * 1000000000)
  let good := cands.filter (fun c => decide (0 ≤ c) && localSec z c == t && !inLeap z c)
  match good with
  | c :: cs => (cs.foldl min c).toNat
  | [] =>
    match (js.filter (fun (j : Nat) => decide (localSec z ((j : Int) - 1) < t) && decide (t < localSec z (j : Int)))) with
    | j :: l => l.foldl min j
    | [] => 0

/-- Is a zone table within range, of `n` bytes (R102, R103)? -/
def zoneOk (z : Bytes) : Bool :=
  let l := u8 z 1
  let t := u8 z 2
  let asc := fun (x : List Nat) => (List.zipWith (fun a c => decide (a < c)) x (x.drop 1)).all id
  u8 z 0 == 1 && decide (l ≤ 8) && decide (1 ≤ t) && decide (t ≤ 64) && zeros z 3 1 && zeros z 6 2 &&
  decide (z.length = 8 + 12 * l + 12 * t) && asc ((leaps z).map (·.1)) && asc ((transitions z).map (·.1)) &&
  (List.range l).all (fun k => zeros z (18 + 12 * k) 2) &&
  (List.range t).all (fun k =>
    let o := 8 + 12 * l + 12 * k
    decide (-720 ≤ i16 z (o + 8)) && decide (i16 z (o + 8) ≤ 840) && decide (u8 z (o + 10) ≤ 1) && zeros z (o + 11) 1)

/-! ### Calendar (R441, R442, R444, R445) -/

/-- The zone table of a calendar. -/
def calZone (c : Bytes) : Bytes := (c.drop 2288).take (c.length - 2292)

/-- Used seasons: month x 100 + day, week profile. -/
def seasons (c : Bytes) : List (Nat × Nat) :=
  ((List.range 4).filter (fun k => u8 c (34 + 4 * k) != 0xFF)).map (fun k =>
    (u8 c (32 + 4 * k) * 100 + u8 c (33 + 4 * k), u8 c (34 + 4 * k)))

/-- The day profile of a civil date (R441). -/
def dayProfile (c : Bytes) (n : Int) : Nat :=
  let (y, m, d) := dateOf n
  let md := (m * 100 + d).toNat
  let specials := (List.range (u8 c 25)).map (fun k =>
    let o := 1776 + 8 * k
    (u16 c o, u8 c (o + 2) * 100 + u8 c (o + 3), u8 c (o + 4)))
  let hit := fun (yr : Nat) => specials.find? (fun x => x.1 == yr && x.2.1 == md)
  match hit y.toNat, hit 0 with
  | some x, _ => x.2.2
  | none, some x => x.2.2
  | none, none =>
    let ss := seasons c
    let s := match (ss.filter (fun x => decide (x.1 ≤ md))).getLast? with
      | some x => x
      | none => (ss.getLast?).getD (0, 0)
    u8 c (48 + 8 * s.2 + weekdayOf n)

/-- Switch points of a date: ST, tariff (R442). -/
def switchPoints (c : Bytes) (n : Int) : List (Nat × Nat) :=
  let o := 112 + 52 * dayProfile c n
  (List.range (u8 c o)).map (fun k =>
    let p := o + 4 + 4 * k
    (stOfLocal (calZone c) (n * 86400 + (u8 c p * 3600 + u8 c (p + 1) * 60 + u8 c (p + 2) : Nat)), u8 c (p + 3)))

/-- The switch points of a calendar that lie after ST `a` and at or before ST `b`, which is at most a day later (R442). -/
def switchesIn (c : Bytes) (a b : Nat) : List Nat :=
  let n := (localSec (calZone c) b).fdiv 86400
  ((switchPoints c (n - 3) ++ switchPoints c (n - 2) ++ switchPoints c (n - 1) ++ switchPoints c n ++ switchPoints c (n + 1)).map
    (·.1)).filter (fun x => decide (a < x) && decide (x ≤ b))

/-- The tariff of a calendar at an ST (R442). -/
def calTariff (c : Bytes) (st : Nat) : Nat :=
  let n := (localSec (calZone c) st).fdiv 86400
  let pts := (switchPoints c (n - 2) ++ switchPoints c (n - 1) ++ switchPoints c n ++ switchPoints c (n + 1)).filter
    (fun x => decide (x.1 ≤ st))
  ((pts.foldl (fun (a : Option (Nat × Nat)) x => match a with
    | none => some x
    | some y => if y.1 ≤ x.1 then some x else some y) none).getD (0, 0)).2

/-- Is a month and day valid in some year? -/
def validMonthDay (m d : Nat) : Bool := decide (1 ≤ m) && decide (m ≤ 12) && decide (1 ≤ d) && decide (d ≤ monthDays 2000 m)

/-- Is a day profile sound (R445)? -/
def dayProfileOk (c : Bytes) (i : Nat) : Bool :=
  let o := 112 + 52 * i
  let k := u8 c o
  let pt := fun (j : Nat) => u8 c (o + 4 + 4 * j) * 3600 + u8 c (o + 5 + 4 * j) * 60 + u8 c (o + 6 + 4 * j)
  decide (k ≤ 12) && zeros c (o + 1) 3 &&
  (k == 0 || (pt 0 == 0 && (List.range (k - 1)).all (fun j => decide (pt j < pt (j + 1))) &&
    (List.range k).all (fun j => decide (u8 c (o + 4 + 4 * j) ≤ 23) && decide (u8 c (o + 5 + 4 * j) ≤ 59) &&
      decide (u8 c (o + 6 + 4 * j) ≤ 59) && decide (u8 c (o + 7 + 4 * j) ≤ 15))))

/-- Is a special day sound (R445)? -/
def specialOk (c : Bytes) (k : Nat) : Bool :=
  let o := 1776 + 8 * k
  if k < u8 c 25 then
    let y := u16 c o
    validMonthDay (u8 c (o + 2)) (u8 c (o + 3)) &&
    (y == 0 || decide (u8 c (o + 3) ≤ monthDays y (u8 c (o + 2)))) && decide (u8 c (o + 4) ≤ 31) &&
    u8 c (112 + 52 * u8 c (o + 4)) != 0 && zeros c (o + 5) 3 &&
    (List.range k).all (fun j => sub c (1776 + 8 * j) 4 != sub c o 4)
  else zeros c o 8

/-- Is a calendar accepted (R444, R445)? -/
def calendarOk (c : Bytes) : Bool :=
  let ss := seasons c
  u16 c 0 == 1 && zeros c 2 2 && u32 c 4 != 0 && decide (u64 c 8 % 1000000000 = 0) && decide (u32 c 16 = c.length) &&
  decide (2312 ≤ c.length) && decide (c.length ≤ 3164) && decide (u8 c 20 ≤ 15) &&
  [1, 5, 10, 15, 30, 60].contains (u8 c 21) && decide (u8 c 22 ≤ 28) && decide (u8 c 23 ≤ 23) && decide (u8 c 24 ≤ 59) &&
  decide (u8 c 25 ≤ 64) && decide (1 ≤ u16 c 26) && decide (u16 c 26 ≤ 720) && zeros c 28 4 &&
  u32 c (c.length - 4) == crc32c (c.take (c.length - 4)) &&
  ss != [] && (List.range 4).all (fun k => u8 c (34 + 4 * k) == 0xFF ||
    (validMonthDay (u8 c (32 + 4 * k)) (u8 c (33 + 4 * k)) && decide (u8 c (34 + 4 * k) ≤ 7))) &&
  (List.zipWith (fun a b => decide (a.1 < b.1)) ss (ss.drop 1)).all id &&
  (List.range 4).all (fun k => zeros c (35 + 4 * k) 1) &&
  ss.all (fun x => (List.range 7).all (fun d => u8 c (112 + 52 * u8 c (48 + 8 * x.2 + d)) != 0)) &&
  (List.range 8).all (fun w => (List.range 7).all (fun d => decide (u8 c (48 + 8 * w + d) ≤ 31)) && zeros c (55 + 8 * w) 1) &&
  (List.range 32).all (dayProfileOk c) && (List.range 64).all (specialOk c) && zoneOk (calZone c)

/-- The first instant of the monthly closure later than `after` (R452), looking at `n` months from the one before it. -/
def nextClosure (c : Bytes) (after : Nat) : Option Nat :=
  if u8 c 22 = 0 then none
  else
    let z := calZone c
    let (y, m, _) := dateOf ((localSec z after).fdiv 86400)
    let at_ := fun (k : Int) =>
      let i := y * 12 + (m - 1) + k
      stOfLocal z (daysOf (i.fdiv 12) (i % 12 + 1) (u8 c 22) * 86400 + (u8 c 23 * 3600 + u8 c 24 * 60 : Nat))
    ([-1, 0, 1, 2].map at_).find? (fun x => decide (after < x))

end Sys2Proof.Machine
end

