-- ==== Sys2Proof/Machine/Billing.lean ====
section
/-! DEFINITION. Billing: default tariff, demand intervals, billing periods, booking, clock steps, journal, restart,
credit and tokens (R436 to R476). -/

namespace Sys2Proof.Machine

/-- Update the working billing state. -/
def State.modB (s : State) (f : BState → BState) : State := { s with bill := { s.bill with b := f s.bill.b } }

/-- Demand interval L in minutes: of the calendar, else 15 (R443, R444). -/
def State.demandMin (s : State) : Nat := match s.bill.b.cal with | none => 15 | some c => u8 c 21

/-- L in ns. -/
def State.demandNs (s : State) : Nat := s.demandMin * 60000000000

/-- Default-tariff hold time in ns: of the calendar, else 72 h (R443). -/
def State.holdNs (s : State) : Nat := (match s.bill.b.cal with | none => 72 | some c => u16 c 26) * 3600000000000

/-- The default-tariff condition at ST `st` under a quality entered at `entry`: 1 INVALID, 0 FREE beyond the hold time (R446,
R479). -/
def State.dfltOf (s : State) (q : Quality) (entry st : Nat) : Option Nat :=
  match q with
  | .invalid => some 1
  | .free => if entry + s.holdNs < st then some 0 else none
  | _ => none

/-- The default-tariff condition now. -/
def State.dfltNow (s : State) : Option Nat := s.dfltOf s.time.quality s.vbat.qualitySt s.st

/-- Entry to the default-tariff condition and exit from it are logged and raised; the quality that blocks see is kept with
its ST (R446, R447). -/
def State.dfltUpdate (s : State) : State :=
  let now := s.dfltNow
  let s := match s.bill.b.dflt, now with
    | none, some c => (s.mrec 0x45 c).raise .billDefaultTariff
    | some _, none => (s.mrec 0x46).raise .billDefaultTariff
    | _, _ => s
  let s := s.modB (fun b => { b with dflt := now })
  { s with bill := { s.bill with
    qual := ((s.st, s.time.quality, s.vbat.qualitySt) :: s.bill.qual.filter (fun q => decide (q.1 < s.st))).take 8 } }

/-- The row of the hold time's end (R446). -/
def execDefaultTariffHoldExpiry (s : State) : Host.Outcome State Fault Refusal :=
  live s (fun s => whenDo (s.dfltNow.isSome && s.bill.b.dflt.isNone && !s.metroStopped && !s.bill.restartDue) (·.dfltUpdate) s)

/-- Default-tariff cause and degraded quality at an ST (R446, R447). -/
def State.qualAt (s : State) (st : Nat) : Option Nat × Bool :=
  let (q, entry) : Quality × Nat := match s.bill.qual.find? (fun q => decide (q.1 ≤ st)) with
    | some q => q.2
    | none => (s.time.quality, s.vbat.qualitySt)
  (s.dfltOf q entry st, q != .locked)

/-- The tariff that a block starting at `st` books under (R442, R443, R446). -/
def State.tariffAt (s : State) (st : Nat) : Nat :=
  match s.bill.b.cal with
  | none => 0
  | some c => if (s.qualAt st).1.isSome then u8 c 20 else calTariff c st

/-! ### Demand intervals and periods (R439, R448 to R453, R477) -/

/-- How a boundary is processed: flags added to intervals and to the period, whether intervals open, and the gap's start
in restart handling. -/
structure BoundMode where
  ivl : Nat := 0
  per : Nat := 0
  opens : Bool := true
  gap : Option Nat := none

/-- The bytes of a profile record (R477). -/
def profileBytes (d : Demand) (close seq period len count : Nat) (es : List Nat) : Bytes :=
  let b := le 8 d.start ++ le 8 close ++ le 4 seq ++ le 4 period ++ le 2 len ++ le 1 d.tariff ++ le 1 d.flags ++ le 4 count ++
    es.flatMap (le 8) ++ List.replicate 28 0
  b ++ le 4 (crc32c b)

/-- Does the tariff switch after ST `a` and at or before ST `b`, a demand interval later at most (R442, R461)? -/
def State.switchesTariff (s : State) (a b : Nat) : Bool :=
  match s.bill.b.cal with
  | none => false
  | some c => (switchesIn c a b).any (fun x => s.tariffAt (x - 1) != s.tariffAt x)

/-- Does the newest record continue into an interval of the gap that starts at `d.start`: no switch of the tariff and no closure lies
between, nor in the last interval that the record covers (R461)? -/
def State.continues (s : State) (r : Bytes) (gap : Nat) (d : Demand) (period len : Nat) : Bool :=
  decide (gap ≤ u64 r 0) && u64 r 8 == d.start && u32 r 20 == period && u16 r 24 == len && u8 r 26 == d.tariff &&
  u8 r 27 == d.flags && zeros r 32 192 && !s.switchesTariff (max (u64 r 0) (d.start - s.demandNs)) d.start

/-- Close the open demand interval at `close` with further flags: record, maxima (R448, R449, R461). -/
def State.demandClose (s : State) (close flags : Nat) (mode : BoundMode) : State :=
  match s.bill.b.demand with
  | none => s
  | some d =>
    let d := { d with flags := d.flags ||| flags ||| mode.ivl }
    let b := s.bill.b
    let es := b.acc.toList.map (· / 2 ^ 32)
    let len := s.demandMin
    let joined : Option Bytes := match mode.gap, s.bill.profiles with
      | some g, r :: _ => if decide (g ≤ d.start) && s.continues r g d b.period len && es.all (· == 0) then some r else none
      | _, _ => none
    let s := match joined with
      | some r =>
        let r' := profileBytes { d with start := u64 r 0 } close (u32 r 16) b.period len (u32 r 28 + 1) es
        { s with bill := { s.bill with profiles := r' :: s.bill.profiles.drop 1 } }
      | none =>
        let seq := s.bill.profileSeq + 1
        { s with bill := { s.bill with
          profiles := (profileBytes d close seq b.period len 1 es :: s.bill.profiles).take 4096, profileSeq := seq } }
    let maxi := Vector.ofFn (fun (i : Fin 24) =>
      let e := b.acc[i] / 2 ^ 32
      if b.maxi[i].e < e then ({ e, start := d.start, tariff := d.tariff, flags := d.flags, len } : Maxi) else b.maxi[i])
    s.modB (fun b => { b with maxi, acc := b.acc.map (· % 2 ^ 32), demand := none })

/-- Open the interval that contains `x`, from `x`, partial when it does not start there (R448, R450, R454). -/
def State.demandOpen (s : State) (x flags : Nat) : State :=
  let n := s.demandNs
  let part := if x % n = 0 then 0 else 4
  s.modB (fun b => { b with demand := some { start := x, stop := (x / n + 1) * n, tariff := s.tariffAt x, flags := flags ||| part } })

/-- A maximum as BILL_READ shows it (R485). -/
def Maxi.bytes (m : Maxi) : Bytes :=
  le 8 m.e ++ le 8 m.start ++ le 4 (if m.len = 0 then 0 else m.e * 60 / (1000 * m.len)) ++ le 1 m.tariff ++ le 1 m.flags ++ le 2 m.len

/-- A snapshot (R451, R485). -/
def snapshotBytes (b : BState) (cause close : Nat) : Bytes :=
  le 4 b.period ++ le 1 cause ++ le 1 b.pflags ++ [0, 0] ++ le 8 b.opened ++ le 8 close ++
  b.port.toList.flatMap (fun a => le 8 (a / 2 ^ 32)) ++ b.feeder.toList.flatMap (fun a => le 8 (a / 2 ^ 32)) ++
  b.unreg.toList.flatMap (le 8) ++ b.maxi.toList.flatMap Maxi.bytes

/-- Close the open period at `x` (R451). -/
def State.periodClose (s : State) (x cause : Nat) (mode : BoundMode) : State :=
  let s := s.modB (fun b => { b with pflags := b.pflags ||| mode.per })
  let b := s.bill.b
  let s := { s with bill := { s.bill with snaps := (snapshotBytes b cause x :: s.bill.snaps).take 24 } }
  (s.mrec 0x44 b.period cause).modB (fun b => { b with
    period := b.period + 1, opened := x, pflags := mode.per, maxi := Vector.replicate 24 {} })

/-- The next scheduled closure (R452). -/
def State.closureNext (s : State) : Option Nat :=
  match s.bill.b.cal, s.bill.b.mark with
  | some c, some m => nextClosure c m
  | _, _ => none

/-- Activate a pending calendar or price table at `x` (R439, R444, R450, R452, R483). A change of L closes the open interval; the
one that follows is flagged partial in every case, also where the old one ended at `x`. -/
def State.activate (s : State) (x : Nat) (mode : BoundMode) : State :=
  let s := match s.bill.b.calNext with
    | some (t, c) =>
      if t ≤ x then
        let changes := s.demandMin != u8 c 21
        let s := if changes then s.demandClose x 4 mode else s
        let s := s.modB (fun b => { b with
          cal := some c, calNext := none, mark := if b.mark.isNone && u8 c 22 != 0 then some x else b.mark })
        let s := (s.mrec 0x43 (u32 c 4) 0).dfltUpdate
        if changes && mode.opens then s.demandOpen x (mode.ivl ||| 4) else s
      else s
    | none => s
  match s.bill.b.pricesNext with
  | some (t, p) =>
    if t ≤ x then (s.modB (fun b => { b with prices := some p, pricesNext := none })).mrec 0x43 (u32 p 0) 1 else s
  | none => s

/-- Every boundary at `x`, in the order of R439. -/
def State.boundary (s : State) (x : Nat) (mode : BoundMode) : State :=
  let s := match s.bill.b.demand with
    | some d => if d.stop ≤ x then s.demandClose d.stop 0 mode else s
    | none => s
  let sched := s.closureNext == some x
  let asked := s.bill.b.closeAt.any (fun t => decide (t ≤ x))
  let s := if sched then (s.periodClose x (if mode.gap.isSome then 2 else 0) mode).modB (fun b => { b with mark := some x })
    else if asked then s.periodClose x 1 mode else s
  let s := if asked then s.modB (fun b => { b with closeAt := b.closeAt.filter (fun t => decide (x < t)) }) else s
  let s := s.activate x mode
  if s.bill.b.demand.isNone && mode.opens then s.demandOpen x mode.ivl else s

/-- The next boundary after which something is due. -/
def State.boundNext (s : State) : Option Nat :=
  let l := (s.bill.b.demand.map (·.stop)).toList ++ s.bill.b.closeAt ++ s.closureNext.toList ++
    (s.bill.b.calNext.map (·.1)).toList ++ (s.bill.b.pricesNext.map (·.1)).toList
  minBy id l

/-- Process boundaries up to `now` in ascending order, `fuel` at most; the number processed is answered beside. -/
def State.boundaries (mode : BoundMode) (now : Nat) : Nat → State → Nat × State
  | 0, s => (0, s)
  | n + 1, s =>
    match s.boundNext with
    | some x =>
      if x ≤ now then
        let r := State.boundaries mode now n (s.boundary x mode)
        (r.1 + 1, r.2)
      else (0, s)
    | none => (0, s)

/-- As many boundaries as may lie between the open interval's end and `now`, one minute apart at least. -/
def State.boundFuel (s : State) (now : Nat) : Nat :=
  let t := s.boundNext.getD now
  2 * ((now - t) / 60000000000) + 4096

/-- Process every boundary at or before `now` (R439). -/
def State.billAdvance (s : State) (now : Nat) : State := (State.boundaries {} now (s.boundFuel now) s).2

/-- Billing at a wake: the boundaries that passed in sleep are processed, no block being booked before them, and every demand
interval that the sleep touches carries its flag, from the one open at its entry to the one open at the wake (R422, R439,
R477). Where restart handling is due, it does so. -/
def State.billThroughSleep (s : State) : State :=
  if s.metroStopped || s.bill.restartDue then s
  else
    let s := s.modB (fun b => { b with demand := b.demand.map (fun d => { d with flags := d.flags ||| 64 }) })
    (State.boundaries { ivl := 64 } s.st (s.boundFuel s.st) s).2

/-! ### Credit (R463 to R466) -/

/-- Import and export price of a class and tariff in the table in force (R464, R483). -/
def State.prices (s : State) (cls tariff : Nat) : Nat × Nat :=
  match s.bill.b.prices with
  | none => (0, 0)
  | some p =>
    let c := if cls < u8 p 4 then cls else 0
    let o := 16 + 128 * c + 8 * tariff
    (u32 p o, u32 p (o + 4))

/-- The account bound to a port's session (R323, R464). -/
def State.boundAccount (s : State) (p : Fin 8) : Option (Fin 256) :=
  match s.ports[p].session with
  | none => none
  | some e => if e.authSt.isNone then none else if h : e.account < 256 then some ⟨e.account, h⟩ else none

/-- The account to which port `p`'s blocks are charged: that of its session, or, in the tick in which it ended, of the session that
ended (R464, R476; DEDUCED, entry 306). -/
def State.chargedAccount (s : State) (p : Fin 8) : Option (Fin 256) :=
  match s.boundAccount p, s.ports[p].ended with
  | some a, _ => some a
  | none, some (a, t) => if h : a < 256 then (if t = s.el then some ⟨a, h⟩ else none) else none
  | none, none => none

/-- A balance changes: exhaustion and low credit are raised once for each crossing (R465, R466). -/
def State.balance (s : State) (a : Fin 256) (bal : Int) (port : Nat) : State :=
  let x := s.bill.b.accounts[a]
  let lim : Int := x.low * 1000000
  let s := s.modB (fun b => { b with accounts := b.accounts.set a { x with bal } })
  let s := if 0 < x.bal && bal ≤ 0 then (s.mrec 0x4B a port).raise .creditExhausted else s
  if lim ≤ x.bal && bal < lim then s.raise .creditLow else s

/-- A rise of `k` in the integer part of a register of port `p` is charged to the bound account (R464). -/
def State.charge (s : State) (p : Fin 8) (tariff k : Nat) (isImport : Bool) : State :=
  match s.chargedAccount p with
  | none => s
  | some a =>
    let x := s.bill.b.accounts[a]
    if k = 0 || !x.loaded then s
    else
      let pr := s.prices x.cls tariff
      if isImport then
        (s.balance a (x.bal - k * pr.1) p).modB (fun b => { b with
          accounts := b.accounts.set a { b.accounts[a] with charged := b.accounts[a].charged + k } })
      else s.balance a (x.bal + k * pr.2) p

/-! ### Journal (R456 to R458) -/

/-- Total registers of every meter, as a commit holds them. -/
def State.totals (s : State) : Vector (Vector Acc 16) 12 := s.metro.meters.map (·.tot)

/-- Write a commit to the other slot (R456, R457). The slot is under write until the tick ends; only a token's commit is complete at once,
since its result is told in that tick (R471; DESIGN CHOICE, entry 303). -/
def State.billCommit (s : State) (kind : Nat) : State :=
  let b := s.bill.b
  let sec := s.st / 1000000000
  let last : Vector Rat 24 := if b.secNo + 1 = sec then b.thisSec else if b.secNo = sec then b.lastSec else Vector.replicate 24 0
  let seq := s.bill.jseq + 1
  let c : Commit := { seq, st := s.st, kind, data := { b with lastSec := last, totals := s.totals } }
  let k : Fin 2 := Fin.ofNat 2 seq
  { s with bill := { s.bill with
    slots := s.bill.slots.set k (some c), jseq := seq, commitSt := s.st
    writing := if kind = 1 then s.bill.writing else some (k, s.el) } }

/-- A reset or the loss of supply in the tick of a commit: the slot being written fails its CRC (R456, R757). -/
def State.commitCut (s : State) : State :=
  match s.bill.writing with
  | some (k, t) =>
    let s := if t = s.el then { s with bill := { s.bill with slots := s.bill.slots.set k none } } else s
    { s with bill := { s.bill with writing := none } }
  | none => s

/-- Have all meters booked the blocks that start before `x`? -/
def State.bookedBefore (s : State) (x : Nat) : Bool :=
  s.metersOn.all (fun m => match s.metro.meters[m].block with | some b => decide (x ≤ b * 100000000) | none => true) &&
  s.metro.meters.toList.all (fun y => match y.tail with | some (b, _) => decide (x ≤ b * 100000000) | none => true)

/-- The regular commit at each whole second, after the boundaries at that ST (R439, R457). -/
def State.commitRegular (s : State) : State :=
  let n := s.st / 1000000000
  if s.metroStopped || s.bill.restartDue || s.sys.brownout || s.bill.regSec = some n ||
      !s.bookedBefore (n * 1000000000) then s
  else
    let s := (s.billAdvance (n * 1000000000)).billCommit 0
    { s with bill := { s.bill with regSec := some n } }

def execJournalCommitRegular (s : State) : Host.Outcome State Fault Refusal := live s (·.commitRegular)

/-! ### Booking (R436 to R438, R447) -/

/-- Add a block of meter `m` to its registers, demand, last-second energy and account (R436, R438, R464). -/
def State.bookEnergy (s : State) (m : Fin 12) (start : Nat) (imp exp : Acc) : State :=
  let t := s.tariffAt start
  let q := s.qualAt start
  let f := 8 * b01 q.1.isSome + 16 * b01 q.2
  let i : Fin 24 := ⟨2 * m.val, by omega⟩
  let e : Fin 24 := ⟨2 * m.val + 1, by omega⟩
  let b := s.bill.b
  let sec := start / 1000000000
  let this := if b.secNo = sec then b.thisSec else Vector.replicate 24 0
  let last := if b.secNo = sec then b.lastSec else if b.secNo + 1 = sec then b.thisSec else Vector.replicate 24 0
  let this := (this.set i (this[i] + (imp : Rat) / (2 ^ 32 : Nat))).set e (this[e] + (exp : Rat) / (2 ^ 32 : Nat))
  let s := s.modB (fun b => { b with
    acc := (b.acc.set i (b.acc[i] + imp)).set e (b.acc[e] + exp)
    demand := b.demand.map (fun d => { d with flags := d.flags ||| f })
    pflags := b.pflags ||| (b01 q.1.isSome + 2 * b01 q.2)
    degraded := q.2, tariff := t, secNo := sec, thisSec := this, lastSec := last })
  if h : m.val < 8 then
    let k : Fin 256 := ⟨32 * m.val + 2 * t % 32, by omega⟩
    let k' : Fin 256 := ⟨32 * m.val + 2 * t % 32 + 1, by omega⟩
    let r := s.bill.b.port[k]
    let r' := s.bill.b.port[k']
    let s := s.modB (fun b => { b with port := (b.port.set k (r + imp)).set k' (r' + exp) })
    let s := s.charge ⟨m.val, h⟩ t ((r + imp) / 2 ^ 32 - r / 2 ^ 32) true
    s.charge ⟨m.val, h⟩ t ((r' + exp) / 2 ^ 32 - r' / 2 ^ 32) false
  else
    let k : Fin 128 := ⟨32 * (m.val - 8) + 2 * t % 32, by omega⟩
    let k' : Fin 128 := ⟨32 * (m.val - 8) + 2 * t % 32 + 1, by omega⟩
    s.modB (fun b => { b with feeder := (b.feeder.set k (b.feeder[k] + imp)).set k' (b.feeder[k'] + exp) })

/-! ### Restart (R460 to R462) -/

/-- The last VBAT heartbeat (R741). -/
def State.lastBeat (s : State) : Option Heartbeat :=
  if !s.vbat.valid then none
  else match s.vbat.hb0, s.vbat.hb1 with
    | some a, some b => if a.seq < b.seq then some b else some a
    | some a, none => some a
    | none, o => o

/-- The cut of a restart that begins now: ST of the last heartbeat, where the store is valid (R460). -/
def State.cutNow (s : State) : Option Nat := s.lastBeat.map (fun (h : Heartbeat) => h.st)

/-- The valid slot with the highest journal sequence (R460). -/
def Bill.newest (x : Bill) : Option Commit :=
  match x.slots[0], x.slots[1] with
  | some a, some b => if a.seq < b.seq then some b else some a
  | some a, none => some a
  | none, o => o

/-- What a restart loads from a commit: everything that R456 lists; a balance that was discarded since does not come back (R488;
DEDUCED, entry 305). -/
def BState.load (b d : BState) : BState :=
  { b with
    port := d.port, feeder := d.feeder, unreg := d.unreg, maxi := d.maxi, acc := d.acc, demand := d.demand
    period := d.period, opened := d.opened, pflags := d.pflags, mark := d.mark, tariff := d.tariff, dflt := d.dflt
    tokH := d.tokH, tokMarks := d.tokMarks, lastSec := d.lastSec, totals := d.totals
    accounts := Vector.ofFn (fun (i : Fin 256) =>
      let x := b.accounts[i]
      let y := d.accounts[i]
      if x.life = y.life then { x with bal := y.bal } else x) }

/-- The bytes of an unregistered record (R478). -/
def unregBytes (start cut now seq jseq cause : Nat) (noBeat : Bool) (period : Nat) (bounds : List Nat) : Bytes :=
  let b := le 8 start ++ le 8 cut ++ le 8 now ++ le 4 seq ++ le 4 jseq ++ le 1 cause ++ le 1 (b01 noBeat) ++ [0, 0] ++
    le 4 period ++ bounds.flatMap (le 8) ++ List.replicate 20 0
  b ++ le 4 (crc32c b)

/-- The energy between the last save and the cut, as an upper bound (R460, R462). -/
def State.unregister (s : State) (c : Commit) (cut : Nat) (noBeat : Bool) : State :=
  let bounds := c.data.lastSec.toList.map (fun (e : Rat) => (-(ratFloor (-(e * ((cut - c.st : Nat) : Rat) / 1000000000)))).toNat)
  let seq := s.bill.unregSeq + 1
  let r := unregBytes c.st cut s.st seq c.seq s.bill.restartCause noBeat s.bill.b.period bounds
  let s := s.modB (fun b => { b with unreg := Vector.ofFn (fun (i : Fin 24) => b.unreg[i] + bounds.getD i.val 0) })
  let s := { s with bill := { s.bill with unregs := (r :: s.bill.unregs).take 64, unregSeq := seq } }
  ((s.mrec 0x47 seq (min 0xFFFFFFFF ((cut - c.st) / 1000000))).raise .unregInterval).markOverlap c.st cut

/-- A period that closed after the loaded commit stays closed: its snapshot stands and its number is not used again (R451, R455;
DEDUCED, entry 304). -/
def State.keepClosures (s : State) : State :=
  let l := s.bill.snaps.filter (fun r => decide (s.bill.b.period ≤ u32 r 0))
  match l with
  | [] => s
  | r :: _ =>
    let sched := (l.filter (fun r => u8 r 4 != 1)).head?
    s.modB (fun b => { b with
      period := u32 r 0 + 1, opened := u64 r 16, pflags := 0, maxi := Vector.replicate 24 {}
      mark := match sched with | some q => some (u64 q 16) | none => b.mark })

/-- The interval that contains now. Where ST has come back before the loaded one's start, that one closes at the ST of its commit and
the one of now opens from now (R448, R460; DESIGN CHOICE, entry 302). -/
def State.demandNow (s : State) (at_ now : Nat) (mode : BoundMode) : State :=
  let s := match s.bill.b.demand with
    | some d => if now < d.start then s.demandClose (max d.start at_) 0 { mode with gap := none } else s
    | none => s
  match s.bill.b.demand with
  | some _ => s.modB (fun b => { b with demand := b.demand.map (fun d => { d with flags := d.flags ||| mode.ivl }) })
  | none => s.demandOpen now mode.ivl

/-- The procedure of R460. -/
def State.billRestart (s : State) : State :=
  let now := s.st
  let cut := s.bill.cut.getD now
  let s := { s with bill := { s.bill with restartDue := false, qual := [] } }
  match s.bill.newest with
  | none => ((s.dfltUpdate).demandOpen now 0).billCommit 3
  | some c =>
    let s := s.modB (fun b => b.load c.data)
    let s := { s with bill := { s.bill with jseq := c.seq }, metro := { s.metro with meters := Vector.ofFn (fun (m : Fin 12) =>
      { s.metro.meters[m] with tot := c.data.totals[m] }) } }
    let u := decide (c.kind ≤ 1)
    let s := s.keepClosures
    let s := if u then s.unregister c cut s.bill.cut.isNone else s
    let mode : BoundMode := { ivl := 1 + 32 * b01 u + 64 * b01 s.metro.sleepAt.isSome, per := 4 + 16 * b01 u, gap := some c.st }
    let s := s.dfltUpdate
    let (n, s) := State.boundaries mode now (s.boundFuel now) s
    let s := (s.demandNow c.st now mode).modB (fun b => { b with pflags := b.pflags ||| mode.per })
    ((s.mrec 0x48 (min 0xFFFFFFFF ((now - c.st) / 1000000)) n).raise .billOutage).billCommit 3

def execBillingRestart (s : State) : Host.Outcome State Fault Refusal :=
  live s (fun s => whenDo (s.bill.restartDue && !s.metroStopped) (·.billRestart) s)

/-- Metering passes a closed block of meter `m`: start ST, import and export, and where it ends (R415, R438). Restart
handling comes before the first one (R460). -/
def State.bookBlock (s : State) (m : Fin 12) (start : Nat) (imp exp : Acc) (stop : Nat) : State :=
  let s := if s.bill.restartDue then s.billRestart else s
  let s := s.billAdvance start
  let s := if s.bill.b.demand.isNone then s.demandOpen start 0 else s
  let s := s.bookEnergy m start imp exp
  { s with bill := { s.bill with bookedTo := max s.bill.bookedTo stop, shown := true } }

/-! ### Clock steps (R454, R455) -/

/-- A step from `old` to the present ST (R454): the tick before the step has been processed. -/
def State.billStep (s : State) (old : Nat) : State :=
  let new := s.st
  let s := (s.billAdvance old).demandClose old 2 {}
  let s := if old < new then
      (State.boundaries { ivl := 2, per := 8, opens := false } new (s.boundFuel new) s).2
    else s
  let s := s.modB (fun b => { b with pflags := b.pflags ||| 8 })
  let s := { s with bill := { s.bill with bookedTo := min s.bill.bookedTo new, regSec := none } }
  (s.mrec 0x40 (old % 2 ^ 32) (old / 2 ^ 32)).dfltUpdate.demandOpen new 4

/-! ### Tokens (R467 to R475) -/

/-- What a token check answers: result (R473), token id, amount in cu. -/
structure TokenResult where
  code : Nat
  id : Nat := 0xFFFFFFFF
  amount : Nat := 0
  /-- its commit gave way to a last gasp: no result (R476) -/
  abandoned : Bool := false

/-- The check field of a token (R468). -/
def tokenCheck (key : Bytes) (v account site : Nat) : Nat :=
  u32 (cmac key (le 8 (v / 2 ^ 20 * 2 ^ 20) ++ le 2 account ++ le 1 site ++ List.replicate 5 0)) 0 % 2 ^ 20

/-- The state of an entry path (R472). -/
def State.path (s : State) (a b : Nat) : Path :=
  match s.bill.paths.find? (fun x => x.1 == a && x.2.1 == b) with | some x => x.2.2 | none => {}

/-- Store the state of an entry path. -/
def State.setPath (s : State) (a b : Nat) (p : Path) : State :=
  { s with bill := { s.bill with paths := (a, b, p) :: s.bill.paths.filter (fun x => !(x.1 == a && x.2.1 == b)) } }

/-- Is a path locked out (R472)? -/
def State.pathLocked (s : State) (a b : Nat) : Bool :=
  match (s.path a b).lockedTo with | some t => decide (s.el < t) | none => false

/-- A BAD_MAC result on a path: the fifth within 60 s locks it for 300 s (R472). -/
def State.pathFail (s : State) (a b : Nat) : State :=
  let p := s.path a b
  let l := s.el :: p.fails.filter (fun t => decide (s.el < t + 60000000000))
  s.setPath a b (if 5 ≤ l.length then { fails := [], lockedTo := some (s.el + 300000000000) } else { p with fails := l })

/-- The procedure of R470 on a value; `good` is false when the digits are none. A token commit in the tick of a last gasp is abandoned
(R476; DESIGN CHOICE, entry 303). -/
def State.tokenRun (s : State) (good : Bool) (v account a b : Nat) : TokenResult × State :=
  let id := v / 2 ^ 32 % 2 ^ 24
  let amount : Nat := v / 2 ^ 20 % 1024 * 10 ^ (v / 2 ^ 30 % 4)
  let x := vget s.bill.b.accounts account {}
  if s.pathLocked a b then ({ code := 9 }, s)
  else if !good || 2 ^ 64 ≤ v || v / 2 ^ 60 ≠ 1 then ({ code := 1 }, s)
  else match s.nv.fw.siteKey with
  | none => ({ code := 8, id }, s)
  | some key =>
    if tokenCheck key v account s.strap.siteId ≠ v % 2 ^ 20 then ({ code := 2, id }, s.pathFail a b)
    else if 256 ≤ account || !x.loaded then ({ code := 6, id }, s)
    else if v / 2 ^ 56 % 16 ≠ x.cls then ({ code := 5, id }, s)
    else
      let h := s.bill.b.tokH
      let ahead := (id + 2 ^ 24 - h) % 2 ^ 24
      let behind := (h + 2 ^ 24 - id) % 2 ^ 24
      let newer := decide (0 < ahead) && decide (ahead < 2 ^ 23)
      let newH := if newer then id else h
      if !newer && 8192 ≤ behind then ({ code := 4, id }, s)
      else if !newer && s.bill.b.tokMarks.contains id then ({ code := 3, id }, s)
      else if (10 : Int) ^ 15 < x.bal + (amount : Int) * 1000000 then ({ code := 7, id }, s)
      else if s.bill.gaspAt = some s.el then ({ code := 0, id, amount, abandoned := true }, s)
      else
        let marks := id :: s.bill.b.tokMarks.filter (fun m => decide ((newH + 2 ^ 24 - m) % 2 ^ 24 < 8192))
        let x' := { x with bal := x.bal + (amount : Int) * 1000000, lastId := id, tokens := x.tokens + 1, lastSt := s.st }
        let s := s.modB (fun b => { b with
          tokH := newH, tokMarks := marks, tokOk := b.tokOk + 1, accounts := vset b.accounts account x' })
        ({ code := 0, id, amount }, s.billCommit 1)

/-- A token is checked; its result is logged and raised, unless it has none (R470, R473, R476). -/
def State.token (s : State) (good : Bool) (v account a b : Nat) : TokenResult × State :=
  let (r, s) := s.tokenRun good v account a b
  if r.abandoned then (r, s)
  else if r.code = 0 then (r, (s.mrec 0x49 r.id account).raise .tokenAccepted)
  else (r, ((s.modB (fun b => { b with tokBad := b.tokBad + 1 })).mrec 0x4A r.id (r.code * 65536 + account % 65536)).raise .tokenRejected)

/-- A lockout ends (R472). -/
def State.lockoutEnd (s : State) : State :=
  { s with bill := { s.bill with paths := s.bill.paths.map (fun (x : Nat × Nat × Path) =>
    match x.2.2.lockedTo with
    | some t => if t ≤ s.el then (x.1, x.2.1, { x.2.2 with lockedTo := none }) else x
    | none => x) } }

def execTokenLockoutEnd (s : State) : Host.Outcome State Fault Refusal := live s (·.lockoutEnd)

/-- The decimal value of digits. -/
def digitsVal (l : List Nat) : Nat := l.foldl (fun a d => a * 10 + d) 0

/-- A keypad frame on controller `n` with a mapped request identifier (R474, R475). -/
def State.keypad (s : State) (n : Fin 8) (ident : Nat) (b : Bytes) : State :=
  match s.bill.keypads.find? (fun k => k.1 == n.val && k.2.1 == ident) with
  | none => s
  | some k =>
    if b.length ≠ 16 || !s.sys.ready || s.metroStopped then s
    else
      let ds := (b.take 10).flatMap (fun x => [x.toNat / 16, x.toNat % 16])
      let acct := u16 b 10
      let (r, s) := s.token (ds.all (fun d => decide (d ≤ 9))) (digitsVal ds) acct n ident
      if !s.holdsTwin || r.abandoned then s
      else
        let bal := (vget s.bill.b.accounts acct {}).bal
        let cu := clampI (-(2 ^ 31)) (2 ^ 31 - 1) (rdiv bal 1000000)
        s.canQueue1 n { ident := k.2.2, fd := true, brs := s.canFd n, singleShot := false, echo := false, expiry := some (s.el + 100000000), key := 0
                        data := le 1 r.code ++ sub b 12 1 ++ sub b 13 1 ++ [0] ++ le 4 r.id ++ le 4 r.amount ++ lei 4 cu }

/-- Core 3 takes the frame's copy when it holds one; a frame stamped before ready is discarded (R475, R541). -/
def State.keypadCopy (s : State) (n : Fin 8) (ident : Nat) (b : Bytes) : State :=
  match s.canCopies.find? (fun c => c.1 == n.val && c.2.2.1 == ident && c.2.2.2 == b) with
  | some c =>
    let s := { s with canCopies := s.canCopies.erase c }
    if c.2.1 < s.sys.readySt then s else s.keypad n ident b
  | none => s.keypad n ident b

def execKeypadTokenFrame (n : Fin 8) (ident : Nat) (b : Bytes) (s : State) : Host.Outcome State Fault Refusal :=
  live s (·.keypadCopy n ident b)

end Sys2Proof.Machine
end

