-- ==== Sys2Proof/Machine/Metering.lean ====
section
/-! DEFINITION. The metrology core's work: samples, ranges, energy, blocks, zero crossings, the mirror, faults and the
last gasp, and the METER commands (R392 to R435, R458). -/

namespace Sys2Proof.Machine

/-! ### Metering filters (R392, R396) -/

/-- Round an exact value to an integer (entry 9). -/
def quant (x : Rat) : Int := rdiv x.num x.den

/-- The newest `n` bits of a bitstream. -/
def newestBits : Nat → List (Bool × Nat) → List (Bool × Nat)
  | _, [] => []
  | n, (b, k) :: l => if n = 0 then [] else (b, min k n) :: newestBits (n - k) l

/-- Does a bitstream hold 64 or more consecutive equal bits (R396)? -/
def stuckBits (l : List (Bool × Nat)) : Bool :=
  (l.foldl (fun (a : Option Bool × Nat × Bool) r =>
    let n := if a.1 = some r.1 then a.2.1 + r.2 else r.2
    (some r.1, n, a.2.2 || decide (64 ≤ n))) (none, 0, false)).2.2

/-- Sums of a sequence up to each of its elements. -/
def runningSums (l : List Int) : List Int := (l.foldl (fun (a : Int × List Int) x => (a.1 + x, (a.1 + x) :: a.2)) (0, [])).2.reverse

/-- Every `n`-th element of a sequence. -/
def everyNth (n : Nat) (l : List Int) : List Int := (l.zipIdx 1).filterMap (fun x => if x.2 % n = 0 then some x.1 else none)

/-- Differences of a sequence. -/
def differences (l : List Int) : List Int := List.zipWith (fun a b => a - b) l (0 :: l)

/-- A function five times over. -/
def fiveTimes (f : List Int → List Int) (l : List Int) : List Int := f (f (f (f (f l))))

/-- The sinc5 stage with decimation `osr`, over bits as +1 and -1, oldest first; its gain is osr^5 (R392). -/
def sinc5 (osr : Nat) (l : List Int) : List Int := fiveTimes differences (everyNth osr (fiveTimes runningSums l))

/-- The code of a metering filter at a sample index: the FIR over the last 63 outputs of the sinc5 stage; all ones and all zeros give the
two ends (R392). -/
def filterCode (osr : Nat) (l : List (Bool × Nat)) : Int :=
  let l := newestBits (67 * osr) l
  if l ≠ [] && l.all (·.1) then 8388607
  else if l ≠ [] && l.all (!·.1) then -8388608
  else
    let bits := l.reverse.flatMap (fun r => List.replicate r.2 (if r.1 then (1 : Int) else -1))
    let y := (sinc5 osr bits).reverse.take 63
    let x := (y.zipIdx.map (fun a => Config.firTap a.2 * (a.1 : Rat))).sum / (osr ^ 5 : Nat)
    clampI (-8388608) 8388607 (quant (x * 8388608))

/-- What the 176 filters deliver at a sample index: an octet's at its MCLK, a direct channel's paths at 20 MHz; 67 outputs of the sinc5 stage
at 20 kHz, overload over 3.4 ms of input (R392, R396). -/
def State.filterOut (s : State) (raw : List PathBits) : List RawSample :=
  (List.range 176).map (fun k =>
    let n := if k < 128 then s.mclkDiv (k / 8) else 20
    let p := raw.getD k {}
    { code := filterCode (20000 / n) p.runs, overload := stuckBits (newestBits (1360000 / n) p.runs), lost := p.lost })

/-! ### Lane samples (R393 to R401) -/

/-- A lane's sample at one index. -/
structure LaneSample where
  overload : Bool := false
  settling : Bool := false
  invalid : Bool := false
  /-- calibrated, V or A, after the delay correction (R401) -/
  value : Rat := 0
  deriving DecidableEq, Repr, Inhabited

/-- Does a path leave its range: overload or 80 % of its own full scale (R398)? -/
def pathUp (r : RawSample) : Bool := r.overload || decide (6710886 ≤ r.code.natAbs)

/-- The highest gain at or below `c` that does not leave its range (R398). -/
def rangeRise (p : Nat → RawSample) : Nat → Nat
  | 0 => 0
  | n + 1 => if pathUp (p (n + 1)) then rangeRise p n else n + 1

/-- The range selector (R398): range and down count from the three paths. -/
def selectRange (p : Nat → RawSample) (range down : Nat) : Nat × Nat :=
  if pathUp (p range) then (rangeRise p range, 0)
  else if range < 2 && !(p (range + 1)).overload && decide ((p (range + 1)).code.natAbs < 5033165) then
    (if down + 1 = 8 then (range + 1, 0) else (range, down + 1))
  else (range, 0)

/-- What the 176 filters delivered for a lane: paths x1, x8, x64; a modulator lane has one (R393). -/
def pathsOf (raw : List RawSample) (n : Nat) (k : Nat) : RawSample :=
  raw.getD (if n < 128 then n else 128 + 3 * (n - 128) + k) { code := 0, overload := false, lost := false }

/-- The calibrated value `x` of a lane's stream after its delay: every correction of R401 and 2.5 MCLK periods (R394). An interpolator passes
a constant unchanged, as the worked example has it; its coefficients are open (entry 60). -/
def delayed (x : Rat) (past : List Rat) (delay : Rat) : Rat :=
  if delay = 0 || past.all (· == x) then x else Config.fracDelay delay (x :: past)

/-- One lane at one sample index: range, flags, episode records, calibrated value (R394, R396 to R401, R405, R427). A lane that retires while
it is invalid for another cause has its own record (R423). -/
def State.laneStep (s : State) (n : Fin 144) (raw : List RawSample) : State × LaneSample :=
  let l := s.metro.lanes[n]
  let (range, down) := if n.val < 128 then (0, 0) else selectRange (pathsOf raw n) l.range l.down
  let r := pathsOf raw n range
  let cal := calOf s.calTable n
  let used := s.metersOf n != []
  let cause : Option Nat := if s.isRetired (tgt 5 n) then some 0 else if r.lost then some 1
    else if used && cal.isNone then some 2 else none
  let s := match cause with
    | some c => if l.invalid && (c != 0 || l.badCause == 0) then s else s.mrec 0x12 n c
    | none => if l.invalid then s.mrec 0x13 n l.badCount else s
  let x := match cal with
    | none => ((0 : Rat), (0 : Rat))
    | some b => calibrate b range l.temp r.code
  let mclk := if n.val < 128 then s.mclkDiv (n.val / 8) else 20
  let v := delayed x.1 l.stream (x.2 + (625 * mclk : Nat) / 10)
  let s := s.modLane n (fun l => { l with
    range, down, stream := (x.1 :: l.stream).take 32, settle := l.settle - 1, code := r.code, stamp := s.st, overload := r.overload
    invalid := cause.isSome, badCause := cause.getD l.badCause
    badCount := if cause.isNone then 0 else if l.invalid then l.badCount + 1 else 1
    invalids := if cause.isNone then l.invalids else min 0xFFFFFFFF (l.invalids + 1) })
  (s, { overload := r.overload, settling := decide (0 < l.settle), invalid := cause.isSome, value := v })

/-! ### Energy (R411 to R415) -/

/-- A non-negative energy as an accumulator increment (R415). -/
def toAcc (e : Rat) : Acc := let x := e * (2 ^ 32 : Nat); (rdiv x.num x.den).toNat

/-- The part above zero, and below, of an energy. -/
def posPart (e : Rat) : Rat := if 0 < e then e else 0

/-- Import and export of a block and what the total registers gain (R414). -/
def blockGains (dc : Bool) (v : Vector Rat 6) : Vector Acc 16 :=
  if dc then
    Vector.ofFn (fun (i : Fin 16) => if i.val = 0 then toAcc v[0] else if i.val = 1 then toAcc v[1] else 0)
  else
    let p := v[0] + v[1] + v[2]
    let q := v[3] + v[4] + v[5]
    Vector.ofFn (fun (i : Fin 16) =>
      let x := fun (a b : Rat) => if i.val % 4 = 0 then posPart a else if i.val % 4 = 1 then posPart (-a)
        else if i.val % 4 = 2 then posPart b else posPart (-b)
      toAcc (if i.val < 4 then x p q else if i.val < 8 then x v[0] v[3] else if i.val < 12 then x v[1] v[4] else x v[2] v[5]))

/-- Add the sums of a block to the total registers (R414, R415). -/
def State.addTotals (s : State) (m : Fin 12) (g : Vector Acc 16) : State :=
  s.modMeter m (fun x => { x with tot := Vector.ofFn (fun (i : Fin 16) => x.tot[i] + g[i]) })

/-- Close block `b` of meter `m` with its sums: restart handling where it is due, total registers, then billing; a meter that was not enabled
books nothing (R414, R415, R438, R460). -/
def State.closeBlock (s : State) (m : Fin 12) (b : Nat) (v : Vector Rat 6) (stop : Nat) (on : Bool) : State :=
  let s := if s.bill.restartDue then s.billRestart else s
  let g := blockGains (isDc m) v
  let s := (s.addTotals m g).modMeter m (fun x => { x with lastBlock := b })
  if on then s.bookBlock m (b * 100000000) g[0] g[1] stop else s

/-- Was the section under which a meter's tail was measured enabled (R423, R438)? -/
def State.tailOn (s : State) (m : Fin 12) : Bool :=
  mEnabled (match s.metro.meters[m].old with | some (_, c, _) => c | none => s.mCfg m)

/-- Close the block that awaits its last reactive products (R413). -/
def State.closeTail (s : State) (m : Fin 12) : State :=
  match s.metro.meters[m].tail with
  | some (b, v) => (s.closeBlock m b v ((b + 1) * 100000000) (s.tailOn m)).modMeter m (fun x => { x with tail := none })
  | none => s

/-- Close the open block at this tick; later samples of it form a further one (R423, R458). -/
def State.closeOpen (s : State) (m : Fin 12) : State :=
  let x := s.metro.meters[m]
  match x.block with
  | some b => (s.closeBlock m b x.sums s.st (mEnabled (s.mCfg m))).modMeter m (fun x => { x with sums := Vector.replicate 6 0 })
  | none => s

/-- The further block of a start whose own block closed early: its reactive sums join the totals; it holds nothing that billing books (R413,
R458). -/
def State.closeLate (s : State) (m : Fin 12) : State :=
  match s.metro.meters[m].late with
  | some (_, v) => (s.addTotals m (blockGains false v)).modMeter m (fun x => { x with late := none })
  | none => s

/-- A pending section of a meter takes effect with the block that starts (R423). An AC meter's old block awaits its last reactive products
under the old section (R413); crossings and their loss go on. -/
def State.meterApply (s : State) (m : Fin 12) : State :=
  match s.metro.meters[m].next with
  | none => s
  | some b =>
    let x := s.metro.meters[m]
    let s := match x.block with
      | some c =>
        if isDc m then s.closeBlock m c x.sums ((c + 1) * 100000000) (mEnabled (s.mCfg m))
        else ((s.closeTail m).modMeter m (fun x => { x with tail := some (c, x.sums), old := some (c, s.mCfg m, x.hist) }))
      | none => s
    let s := s.modMeter m (fun x => { x with
      next := none, block := none, sums := Vector.replicate 6 0, hist := [], armed := false })
    { s with metro := { s.metro with cfg := s.metro.cfg.set m (some b) } }

/-- Has the RMS of a current over the last 80 samples fallen below the creep threshold (R412)? -/
def creepOff (h : List MSample) (ph thr : Nat) : Bool :=
  let l := (h.take 80).map (fun x => x.i.getD ph 0)
  let t : Rat := (thr : Rat) / 1000
  decide ((l.map (fun i => i * i)).sum < t * t * (l.length : Nat))

/-- A product of volts, amperes and ns in mWh (R411). -/
def mWh (v i dt : Rat) : Rat := v * i * dt / 3600000000

/-- Add to sum `k` of the block that contains stamp `t`: the tail, the open one, or where that block has closed early a further one of its
start (R413, R458). -/
def Meter.book (x : Meter) (t : Nat) (k : Fin 6) (e : Rat) : Meter :=
  let b := t / 100000000
  let put (o : Option (Nat × Vector Rat 6)) : Option (Nat × Vector Rat 6) :=
    let v := match o with | some (_, v) => v | none => Vector.replicate 6 0
    some (b, v.set k (v[k] + e))
  if x.tail.any (·.1 == b) then { x with tail := put x.tail }
  else if x.block = some b then { x with sums := x.sums.set k (x.sums[k] + e) }
  else { x with late := put x.late }

/-- The block of a new sample: a DC block that ends closes; an AC block waits for its last reactive products
(R413). -/
def State.turnBlock (s : State) (m : Fin 12) : State :=
  let x := s.metro.meters[m]
  let b := s.st / 100000000
  match x.block with
  | none => s.modMeter m (fun x => { x with block := some b })
  | some c =>
    if b = c then s
    else if isDc m then
      (s.closeBlock m c x.sums ((c + 1) * 100000000) (mEnabled (s.mCfg m))).modMeter m (fun x => { x with
        block := some b, sums := Vector.replicate 6 0 })
    else (s.closeTail m).modMeter m (fun x => { x with block := some b, tail := some (c, x.sums), sums := Vector.replicate 6 0 })

/-- A DC meter's sample (R408, R411, R412, R414). -/
def State.dcSample (s : State) (m : Fin 12) (ls : List LaneSample) (dt : Rat) : State :=
  let c := s.mCfg m
  let lv := ls.getD (u16 c 2) {}
  let li := ls.getD (u16 c 4) {}
  let i := if bit (u8 c 1) 1 then -li.value else li.value
  let v := lv.value - i * (u32 c 8 : Nat) / 1000000
  let bad := lv.settling || li.settling || lv.invalid || li.invalid
  let x0 : MSample := { stamp := s.st, taken := s.st, dt, v := [v], i := [i], bad := [bad], vbad := [], e := 0, q := 0 }
  let off := creepOff (x0 :: s.metro.meters[m].hist) 0 (mCreep m c)
  let e := if bad || off then 0 else mWh v i dt
  s.modMeter m (fun x => { (x.book s.st (if 0 < e then 0 else 1) (if 0 < e then e else -e)) with
    hist := ({ x0 with e } :: x.hist).take 800, creep := off })

/-- A sample of an AC meter under a section: its own, and the reactive products of the sample 63 indices earlier with that sample's stamp
(R411, R412). -/
def State.acReads (s : State) (m : Fin 12) (c : Bytes) (hist : List MSample) (ls : List LaneSample) (dt : Rat) :
    MSample × List Rat × List Rat × Nat × Bool :=
  let lv := (mVolts m c).map (fun n => ls.getD n {})
  let li := (mAmps m c).map (fun n => ls.getD n {})
  let ln := (mNeutral m c).toList.map (fun n => (ls.getD n {}).value)
  let vbads := lv.map (fun a => a.settling || a.invalid)
  let bads := List.zipWith (fun a b => a || b.settling || b.invalid) vbads li
  let x0 : MSample := { stamp := s.st, taken := s.st, dt, v := lv.map (·.value), i := li.map (·.value) ++ ln, bad := bads, vbad := vbads, e := 0, q := 0 }
  let h := x0 :: hist
  let offs := (List.range 3).map (fun k => creepOff h k (mCreep m c))
  let old := h.getD 63 x0
  let es := (List.range 3).map (fun k =>
    if bads.getD k true || offs.getD k true then 0 else mWh (x0.v.getD k 0) (x0.i.getD k 0) dt)
  let qs := (List.range 3).map (fun k =>
    if h.length < 127 || old.bad.getD k true || (h.take 127).any (fun x => x.vbad.getD k true) || offs.getD k true then 0
    else mWh (Config.hilbert ((h.take 127).map (fun x => x.v.getD k 0))) (old.i.getD k 0) old.dt)
  ({ x0 with e := es.sum, q := qs.sum }, es, qs, if 64 ≤ h.length then old.taken else s.st, offs.all id)

/-- Book the reactive products of a sample with stamp `t`; blocks that have all of theirs close (R413). -/
def State.bookReactive (s : State) (m : Fin 12) (t : Nat) (qs : List Rat) : State :=
  let past (o : Option (Nat × Vector Rat 6)) : Bool := o.any (fun x => x.1 != t / 100000000)
  let s := if past s.metro.meters[m].late then s.closeLate m else s
  let s := if past s.metro.meters[m].tail then s.closeTail m else s
  s.modMeter m (fun x =>
    (List.finRange 3).foldl (fun (x : Meter) (k : Fin 3) => x.book t ⟨3 + k.val, by omega⟩ (qs.getD k.val 0)) x)

/-- The last reactive products of the block at whose end a new section took effect (R413, R423). -/
def State.oldReads (s : State) (m : Fin 12) (ls : List LaneSample) (dt : Rat) : State :=
  match s.metro.meters[m].old with
  | none => s
  | some (b, c, hist) =>
    let (x0, _, qs, t, _) := s.acReads m c hist ls dt
    if t / 100000000 = b then
      (s.bookReactive m t qs).modMeter m (fun x => { x with old := some (b, c, (x0 :: hist).take 800) })
    else ((s.closeLate m).closeTail m).modMeter m (fun x => { x with old := none })

/-- An AC meter's sample (R409, R411, R412, R414). While a section's last reactive products are formed its successor's own begin only with its
first block, so that they never fall into one another. -/
def State.acSample (s : State) (m : Fin 12) (ls : List LaneSample) (dt : Rat) : State :=
  let hist := s.metro.meters[m].hist
  let (x0, es, qs, t, off) := s.acReads m (s.mCfg m) hist ls dt
  let s := s.modMeter m (fun x =>
    { ((List.finRange 3).foldl (fun (x : Meter) (k : Fin 3) => x.book s.st ⟨k.val, by omega⟩ (es.getD k.val 0)) x) with
      hist := (x0 :: hist).take 800, creep := off })
  if s.metro.meters[m].old.isSome then s else s.bookReactive m t qs

/-! ### Zero crossings (R417 to R420) -/

/-- A crossing of AC meter `m` at stamp `t` at the sensor (R418 to R420). -/
def State.crossing (s : State) (m : Fin 12) (t : Nat) : State :=
  let x := s.metro.meters[m]
  let gap := match x.zc with | p :: _ => t - p | [] => 0
  let first := x.zcFirst || x.zc = []
  let good := first || (decide (14300000 ≤ gap) && decide (gap < 25000000))
  if !good then s.modMeter m (fun x => { x with zcBack := 0 })
  else
    let s := s.modMeter m (fun x => { x with
      zc := if first then [t] else (t :: x.zc).take 16, zcFirst := false, zcBack := if x.zcLost.isSome then x.zcBack + 1 else 0 })
    let s := { s with flink := { s.flink with zc := ((m.val - 8, t, gap) :: s.flink.zc).take 32 } }
    match x.zcLost with
    | some l =>
      if 3 ≤ x.zcBack + 1 then
        ((s.modMeter m (fun x => { x with zcLost := none, zcBack := 0 })).mrec 0x11 m ((s.st - l) / 1000000)).raise (.zcRestored (m.val - 8))
      else s
    | none => s

/-- The zero-crossing detector at one sample, and the loss of crossings (R417, R419). The group delay of 1675 us holds the addition of R394, so d
is the lane's correction d_r + d_T (R401). A loss that has not ended is raised again 40 ms after a further valid crossing (R418, R419; DEDUCED,
entry 300). -/
def State.zcSample (s : State) (m : Fin 12) : State :=
  let c := s.mCfg m
  let ph := u8 c 2 - 1
  let lane := (mVolts m c).getD ph 0
  let x := s.metro.meters[m]
  let s := match x.hist, calOf s.calTable lane with
    | a :: b :: _, some rc =>
      let va := a.v.getD ph 0
      let vb := b.v.getD ph 0
      let fs : Rat := ((calRange rc 0).2.1 : Nat) / 1000000
      if va < -(fs / 50) then s.modMeter m (fun x => { x with armed := true })
      else if x.armed && 0 ≤ va then
        let ln := vget s.metro.lanes lane {}
        let d := (calibrate rc ln.range ln.temp 0).2 / 10
        let t : Rat := (b.stamp : Nat) + ((a.stamp : Int) - b.stamp : Int) * (-vb) / (va - vb) - 1675000 - d
        (s.modMeter m (fun x => { x with armed := false })).crossing m (rdiv t.num t.den).toNat
      else s
    | _, _ => s
  let x := s.metro.meters[m]
  match x.zc with
  | t :: _ =>
    if !x.zcFirst && decide (t + 40000000 ≤ s.st) then
      ((s.modMeter m (fun x => { x with zcLost := some (x.zcLost.getD s.st), zcFirst := true, zcBack := 0 })).mrec 0x10 m).raise
        (.lossOfZc (m.val - 8))
    else s
  | [] => s

/-! ### One sample index -/

/-- Flags of a meter at a sample, over all its lanes (R430), and the counts of the samples that enter its products, the neutral
lane's not among them (R409, R412). -/
def State.meterFlags (s : State) (m : Fin 12) (ls : List LaneSample) : State :=
  let lanes := mLanes m (s.mCfg m)
  let l := lanes.map (fun n => ls.getD n {})
  let used := mVolts m (s.mCfg m) ++ mAmps m (s.mCfg m)
  let above := l.any (·.overload)
  let inv := l.any (·.invalid)
  let clipped := used.any (fun n => (ls.getD n {}).overload)
  let lame := used.any (fun n => (ls.getD n {}).invalid)
  let x := s.metro.meters[m]
  let s := if clipped && !x.excursion then
      (used.filter (fun n => (ls.getD n {}).overload)).foldl (fun s n => s.mrec 0x14 n) (s.raise (overrangeEv m))
    else s
  s.modMeter m (fun x => { x with
    above, inv, excursion := clipped, settling := l.any (·.settling)
    overs := if clipped then min 0xFFFFFFFF (x.overs + 1) else x.overs
    invalids := if lame then min 0xFFFFFFFF (x.invalids + 1) else x.invalids })

/-- Is this tick a sample index: the first after a filter start, or a whole number of 100 000 fabric ticks after the last (R393)? -/
def State.sampleDue (s : State) : Bool :=
  match s.metro.lastTick with
  | none => true
  | some t =>
    let d := (s.clk.fix : Int) - s.clk.dev - t
    decide (0 < d) && decide (d % (250000 * 2 ^ 32) = 0)

/-- The fabric notes a sample index, whether or not the core runs (R393, R395). -/
def State.sampleNoted (s : State) : State :=
  { s with metro := { s.metro with lastFix := s.clk.fix, lastMoved := s.clk.moved, lastTick := some ((s.clk.fix : Int) - s.clk.dev) } }

/-- One sample index: what the 176 metering filters make of their bitstreams at this tick (R392 to R420). -/
def State.meterSample (s : State) (bits : List PathBits) : State :=
  if !s.sampleDue then s
  else if s.metroStopped then s.sampleNoted
  else
    let dt : Rat := match s.metro.lastTick with
      | none => 0
      | some _ => (((s.clk.fix : Int) - s.metro.lastFix : Int) : Rat) / (2 ^ 32 : Nat) - ((s.clk.moved - s.metro.lastMoved : Int) : Rat)
    let raw := s.filterOut bits
    let turned := match s.metro.lastSt with | none => true | some t => t / 100000000 != s.st / 100000000
    let s := match s.metro.calNext with
      | some t => { s with metro := { s.metro with cal := some t, calNext := none } }
      | none => s
    let s := if turned then forFin 12 s (fun s m => s.meterApply m) else s
    let s := { s.sampleNoted with metro := { s.sampleNoted.metro with lastSt := some s.st, index := s.metro.index + 1 } }
    let (s, ls) := (List.finRange 144).foldl (fun (a : State × List LaneSample) n =>
      let (s, l) := a.1.laneStep n raw
      (s, a.2 ++ [l])) (s, [])
    let s := forFin 12 s (fun s m => s.oldReads m ls dt)
    s.metersOn.foldl (fun s m =>
      let s := (s.turnBlock m).meterFlags m ls
      if isDc m then s.dcSample m ls dt else (s.acSample m ls dt).zcSample m) s

def execMeterSample (raw : List PathBits) (s : State) : Host.Outcome State Fault Refusal := live s (·.meterSample raw)

/-! ### Mirror (R62, R421, R429, R430) -/

/-- A square root in Q16.16 of a mean square. -/
def sqrtQ16 (x : Rat) : Int :=
  let y := ratFloor (x * (2 ^ 32 : Nat))
  let r : Nat := Nat.sqrt y.toNat
  rdiv ((2 * r + (if r * r < y.toNat then 1 else 0) : Nat)) 2

/-- The samples over which a meter's RMS values run (R421, R419): whole cycles between valid crossings within the last
200 ms, or the fixed window. -/
def rmsWindow (x : Meter) (now : Nat) : List MSample :=
  let recent := x.zc.filter (fun t => decide (now ≤ t + 200000000))
  match recent, recent.getLast? with
  | a :: _ :: _, some b =>
    if x.zcLost.isSome then x.hist
    else x.hist.filter (fun h => decide (b ≤ h.stamp - 1675000) && decide (h.stamp - 1675000 < a))
  | _, _ => x.hist

/-- Mean interval of the last valid crossings in ns as sum and number (R418). -/
def zcSpan (x : Meter) : Nat × Nat :=
  let l := x.zc.take 11
  match l, l.getLast? with
  | a :: _, some b => (a - b, l.length - 1)
  | _, _ => (0, 0)

/-- What the mirror shows of meter `m` (R421, R430). -/
def State.meterMirror (s : State) (m : Fin 12) : MMirror :=
  let x := s.metro.meters[m]
  let c := s.mCfg m
  let on := mEnabled c
  let dt := (x.hist.map (·.dt)).sum
  let mean := fun (f : MSample → Rat) => if dt = 0 then 0 else (x.hist.map f).sum * 3600000000 / dt
  let w := rmsWindow x s.st
  let n : Rat := (w.length : Nat)
  let val := fun (f : MSample → Rat) =>
    if w = [] then 0
    else if isDc m then quant ((x.hist.map f).sum / (x.hist.length : Nat) * 65536)
    else sqrtQ16 ((w.map (fun h => f h * f h)).sum / n)
  let z := zcSpan x
  { tot := x.tot.map (· / 2 ^ 32)
    stat := b01 on + 2 * b01 x.zcLost.isSome + 4 * b01 (on && x.inv) + 8 * b01 (on && x.above) +
      16 * b01 (on && (mLanes m c).any (fun l => (vget s.metro.lanes l {}).tempRange)) + 32 * b01 (on && x.settling) +
      64 * b01 (on && x.creep)
    p := quant (mean (·.e)), q := if isDc m then 0 else quant (mean (·.q))
    v := Vector.ofFn (fun (k : Fin 3) => if isDc m && k.val ≠ 0 then 0 else val (fun h => h.v.getD k 0))
    i := Vector.ofFn (fun (k : Fin 3) => if isDc m && k.val ≠ 0 then 0 else val (fun h => h.i.getD k 0))
    neutral := if isDc m then 0 else val (fun h => h.i.getD 3 0)
    freq := if isDc m || x.zcLost.isSome || z.1 = 0 then 0 else (rdiv ((z.2 * 1000000000 * 65536 : Nat)) z.1).toNat
    zc := x.zc.headD 0, invalids := x.invalids, overs := x.overs, crc := crc32c c, block := x.lastBlock }

/-- What the mirror shows of lane `n` (R62, R434). -/
def State.laneMirror (s : State) (n : Nat) : LaneMirror :=
  let l := vget s.metro.lanes n {}
  let x : Int × Int := match calOf s.calTable n with
    | some c =>
      let (_, _, g, d) := calRange c l.range
      let (gt, dt) := calTemp c l.temp
      (quant ((g : Rat) + gt), quant ((d : Rat) + dt))
    | none => (0, 0)
  { used := s.metersOf n != [], invalid := l.invalid, overload := l.overload, settling := decide (0 < l.settle)
    tempRange := l.tempRange, tempBad := l.tempBad, range := l.range, code := l.code, stamp := l.stamp, temp := l.temp
    g := x.1, d := x.2, invalids := l.invalids }

/-- METER.MSTAT (R429). -/
def State.mstat (s : State) : Nat :=
  s.keyway + 4 * b01 s.vbat.sealLevel + 8 * b01 s.vbat.tamperHeld + 16 * b01 s.metroStopped +
  32 * b01 s.calTable.isSome + 64 * b01 s.strap.partCM

/-- The billing state that the mirror shows: TARIFF, DEFAULT and DEGRADED only from the first block booked (R480). -/
def State.billShown (s : State) : BState :=
  if s.bill.shown then s.bill.b else { s.bill.b with tariff := 0, dflt := none, degraded := false }

/-- Refresh the mirror (R62). -/
def State.mirrorRefresh (s : State) : State :=
  let m := s.metro
  { s with
    metro := { m with
      mirrorSt := s.st, mirror := Vector.ofFn (fun k => s.meterMirror k)
      mirLanes := Vector.ofFn (fun (k : Fin 144) => s.laneMirror k), mirStat := s.mstat, mirCalCrc := s.calCrc
      mirCnt := m.kwCount, mirLog := m.logSeq, mirLost := m.kwLost }
    bill := { s.bill with mir := s.billShown, mirCommit := s.bill.commitSt, mirJseq := s.bill.jseq, mirKey := s.nv.fw.siteKey.isSome
                          mirUnregSeq := s.bill.unregSeq, mirBooked := s.bill.bookedTo, mirProfiles := s.bill.profiles
                          mirUnregs := s.bill.unregs, mirSnaps := s.bill.snaps
                          mirWin := some (s.st / 100000000) } }

/-- The metrology core refreshes the mirror every 100 ms of ST (R62; DEDUCED, entry 62); a credit cap in it takes effect at
once (R144). -/
def execMirrorRefresh (s : State) : Host.Outcome State Fault Refusal :=
  live s (fun s => whenDo (!s.metroStopped && s.bill.mirWin != some (s.st / 100000000)) (·.mirrorRefresh.refreshAll) s)

/-! ### Faults and power (R385, R422, R458) -/

/-- Billing's energy registers as a commit holds them (R456). -/
def BState.frozen (b d : BState) : BState :=
  { b with port := d.port, feeder := d.feeder, unreg := d.unreg, maxi := d.maxi, acc := d.acc, lastSec := d.lastSec, totals := d.totals }

/-- The partition stops: its energy registers, the mirror's among them, are frozen at the last committed journal (R39). -/
def State.metroStop (s : State) (forGood : Bool) : State :=
  let s := { s with metro := { s.metro with stopped := some (s.el, forGood), mirStat := s.mstat ||| 16 } }
  let s := match s.bill.newest with
    | none => s
    | some c => { s with
        metro := { s.metro with
          meters := Vector.ofFn (fun (m : Fin 12) => { s.metro.meters[m] with tot := c.data.totals[m] })
          mirror := Vector.ofFn (fun (m : Fin 12) => { s.metro.mirror[m] with tot := c.data.totals[m].map (· / 2 ^ 32) }) }
        bill := { s.bill with b := s.bill.b.frozen c.data, mir := s.bill.mir.frozen c.data } }
  s.markSessions 2

/-- The metrology core faults (R39, R385): a second fault within 10 s of a restart leaves the partition stopped. -/
def State.metroFault (s : State) : State :=
  if s.metroStopped then s
  else
    let forGood := match s.metro.restartAt with | some t => decide (s.el < t + 10000000000) | none => false
    ((s.mrec 0x20 s.metro.restarts (b01 forGood)).raise .meterRestart).metroStop forGood

/-- The metering clock is lost: the partition stops as in R39, with record METER_CLOCK_LOSS (R45, R427). -/
def State.metroClockLoss (s : State) : State :=
  let s := (s.mrec 0x21).raise .meterClockLoss
  if s.metroStopped then s else s.metroStop false

def execMetrologyCoreFault (s : State) : Host.Outcome State Fault Refusal := live s (·.metroFault)

/-- What a restart of the core forgets: open blocks, filter history, crossings. -/
def State.metersFresh (s : State) : State :=
  { s with metro := { s.metro with lastSt := none, meters := s.metro.meters.map (fun (x : Meter) => { x with
    block := none, sums := Vector.replicate 6 0, tail := none, late := none, old := none, hist := [], armed := false, zc := []
    zcFirst := true, zcLost := none, zcBack := 0 }) } }

/-- The core restarts 100 ms after its fault and resumes from its journal (R385). -/
def State.metroRestart (s : State) : State :=
  match s.metro.stopped with
  | some (t, false) =>
    if t + 100000000 ≤ s.el && !bit s.fabric.clkLost 3 then
      let s := s.metersFresh
      let s := { s with
        metro := { s.metro with stopped := none, restartAt := some s.el, restarts := s.metro.restarts + 1 }
        bill := { s.bill with restartDue := true, restartCause := 1, cut := s.cutNow } }
      (s.mrec 0x20 s.metro.restarts 0).raise .meterRestart
    else s
  | _ => s

def execMetrologyRestart (s : State) : Host.Outcome State Fault Refusal := live s (·.metroRestart)

/-- Close and book every open block, whatever its meter in the order of their starts, so that a boundary follows every block that starts
before it (R422, R439, R458). -/
def State.closeAll (s : State) : State :=
  let l := (List.finRange 12).flatMap (fun m =>
    let x := s.metro.meters[m]
    (x.tail.map (fun t => (t.1, m, true))).toList ++
    (if mEnabled (s.mCfg m) then (x.block.map (fun b => (b, m, false))).toList else []))
  let s := (sortBy (fun (a b : Nat × Fin 12 × Bool) => decide (a.1 ≤ b.1)) l).foldl (fun s x =>
    if x.2.2 then s.closeTail x.2.1 else s.closeOpen x.2.1) s
  forFin 12 s (fun s m => s.closeLate m)

/-- The open blocks close before a clock step; the next sample opens another (R438, R454). -/
def State.closeForStep (s : State) : State :=
  let s := s.closeAll
  { s with metro := { s.metro with meters := s.metro.meters.map (fun (x : Meter) => { x with block := none }) } }

/-- Close every open block, and process the boundaries up to this tick: blocks that start before a boundary are booked before it,
the others after it (R423, R439, R458). -/
def State.closeBooks (s : State) : State := s.closeAll.billAdvance s.st

/-- A last-gasp commit (R439, R458): the blocks and the boundaries of the tick first. -/
def State.lastGasp (s : State) : State :=
  if s.metroStopped || s.bill.restartDue then s
  else
    let s := s.closeBooks.billCommit 2
    { s with bill := { s.bill with gaspAt := some s.el } }

/-- While the flag stays asserted the last gasp repeats every 1 ms (R458). -/
def execLastGaspRepeat (s : State) : Host.Outcome State Fault Refusal :=
  live s (fun s => whenDo (s.sys.brownout && (match s.bill.gaspAt with
    | some t => decide (t + 1000000 ≤ s.el)
    | none => true)) (·.lastGasp) s)

/-- An orderly commit: before sleep, before SYS_RESET or a firmware restart, which wait for its end (R457). -/
def State.orderly (s : State) : State :=
  if s.metroStopped || s.bill.restartDue then s
  else
    let s := s.closeBooks.billCommit 3
    { s with bill := { s.bill with writing := none } }

/-! ### Commands -/

/-- The rows of R389 for the keyway commands; `area` for METER_CONFIG and METER_CAL_TABLE. -/
def State.keyRows (s : State) (r : Req) (area : Bool) : List (Bool × Nat × Nat) :=
  [ row (s.keyway == 2) stSealed, row (!r.isLocal) stDenied, row (s.keyway == 1) stDenied, row (!s.sys.ready) stBusy
  , row s.metroStopped stFaulted, row (area && s.keywayFull) stDenied ]

/-- Divisors that a metering lane's octet may use (R49). -/
def meterDivisor (n : Nat) : Bool := [16, 20, 25, 32, 40, 50, 80].contains n

/-- The section of a meter that is in force or waits (R423). -/
def State.mNext (s : State) (m : Fin 12) : Bytes := (s.metro.meters[m].next).getD (s.mCfg m)

/-- Lanes of groups that are not OFF, of which an octet's divisor may not change (R432). -/
def State.busyLanes (s : State) : List Nat :=
  (List.finRange 8).flatMap (fun g =>
    if s.gState g = .off then [] else (cfgLanes (s.gCfg g)).map (·.1))

/-- The field checks of a METER_CONFIG section; the neutral lane is unused, 0xFFFF, without its flag (R13, R431). -/
def meterFields (b : Bytes) : List (Bool × Nat) :=
  match u8 b 0 with
  | 0 => [rz b 1 3] ++ (List.range 16).map (fun k => outside (u8 b (4 + k)) 16 80 (4 + k)) ++ [rz b 20 4]
  | 1 => [outside (u8 b 1) 0 3 1, outside (u16 b 2) 0 143 2, outside (u16 b 4) 0 143 4, rz b 6 2,
      outside (u32 b 8) 0 100000 8, outside (u32 b 12) 0 100000 12, rz b 16 8]
  | 2 => [outside (u8 b 1) 0 3 1, outside (u8 b 2) 1 3 2, rz b 3 1] ++
      (List.range 6).map (fun k => outside (u16 b (4 + 2 * k)) 0 143 (4 + 2 * k)) ++
      [(u16 b 16 != 0xFFFF && (decide (143 < u16 b 16) || !bit (u8 b 1) 1), 16), rz b 18 2, outside (u32 b 20) 0 100000 20, rz b 24 8]
  | _ => [(true, 0)]

/-- The fields of a section that name current lanes, and all that name lanes (R431). -/
def meterAmpFields (b : Bytes) : List Nat :=
  if u8 b 0 = 1 then [4] else [10, 12, 14] ++ (if bit (u8 b 1) 1 && decide (u16 b 16 < 144) then [16] else [])
def meterLaneFields (b : Bytes) : List Nat := (if u8 b 0 = 1 then [2] else [4, 6, 8]) ++ meterAmpFields b

/-- The meter that a section 1 or 2 targets: DC meter of a port, AC meter of a feeder. -/
def meterOfTarget (t : Nat) : Option (Fin 12) :=
  let i := tIndex t
  if tType t = 3 then (if h : i < 8 then some ⟨i, by omega⟩ else none)
  else if tType t = 9 then (if h : i < 4 then some ⟨8 + i, by omega⟩ else none)
  else none

/-- METER_CONFIG (R431, R432; a RETIRED port as target, R22). -/
def bodyMeterConfig (r : Req) (s : State) : Ans :=
  let b := r.body
  let sec := u8 b 0
  let want := if sec = 0 then 0 else if sec = 1 then 3 else 9
  let m := meterOfTarget r.target
  let amps := fun (k : Fin 12) (c : Bytes) => if mEnabled c then mAmps k c ++ (mNeutral k c).toList else []
  let mine := match m with | some k => amps k b | none => []
  let others := (List.finRange 12).flatMap (fun k => if m = some k then [] else amps k (s.mNext k))
  let twice := if sec = 0 || mine = [] then [] else (meterAmpFields b).filter (fun o => others.contains (u16 b o))
  let lanes := match m with | some k => mLanes k b | none => []
  let octetBad : Bool :=
    if sec = 0 then
      (List.finRange 12).any (fun k => [s.mCfg k, s.mNext k].any (fun c => mEnabled c &&
        (mLanes k c).any (fun l => decide (l < 128) && !meterDivisor (u8 b (4 + l / 8)))))
    else mEnabled b && lanes.any (fun l => decide (l < 128) && !meterDivisor (s.mclkDiv (l / 8)))
  let busy := sec == 0 && s.busyLanes.any (fun l => decide (l < 128) && u8 b (4 + l / 8) != s.mclkDiv (l / 8))
  .table s
    (s.keyRows r true ++
    [ row (decide (2 < sec)) stParam 0, row (tType r.target != want) stTarget, paramRow (meterFields b)
    , paramRow (twice.map (fun o => (true, o))), row octetBad stParam (if sec = 0 then 4 else if sec = 1 then 2 else 4)
    , retRow s r.target
    , retiredRow s (if sec = 0 then [] else (meterLaneFields b).map (fun o => (tgt 5 (u16 b o), o)))
    , row busy stConflict ])
    (fun s =>
      let s := s.mrec 3 r.target (crc32c b)
      match m with
      | some k => .ok (s.modMeter k (fun x => { x with next := some b }))
      | none =>
        let s := s.filterRestart (fun l => decide (l < 128) && u8 b (4 + l / 8) != s.mclkDiv (l / 8))
        .ok { s with metro := { s.metro with divs := Vector.ofFn (fun (k : Fin 16) => u8 b (4 + k.val)) } })

/-- METER_CAL_TABLE (R433). A reserved bit or byte that is set is refused without an effect (R13); only the causes of R433 abandon
the transfer. -/
def bodyMeterCalTable (r : Req) (s : State) : Ans :=
  let b := r.body
  let gen := u32 b 0
  let off := u32 b 4
  let n := u16 b 8
  let last := bit (u8 b 10) 0
  let chunk := sub b 16 n
  let seqOk := off == 0 || (match s.metro.xfer with | some (g, t) => g == gen && t.length == off | none => false)
  let newGen := off != 0 && (match s.metro.xfer with | some (g, _) => g != gen | none => false)
  let t := if off = 0 then chunk else (match s.metro.xfer with | some (_, t) => t | none => []) ++ chunk
  let beyond := decide (20 ≤ t.length) && decide (u32 t 16 < t.length)
  let bad := decide (n = 0) || decide (4064 < n) || !seqOk || beyond
  match firstRow (s.keyRows r true) with
  | some (st, o) => .err s st o
  | none =>
    let drop : State := { s with metro := { s.metro with xfer := none } }
    if 1 < u8 b 10 || !zeros b 11 5 then .err s stParam (if 1 < u8 b 10 then 10 else (rz b 11 5).2)
    else if bad then .err drop stParam (if newGen then 0 else if (off != 0 && !seqOk) || beyond then 4 else 8)
    else if last then
      if calTableOk t then
        let s : State := { drop with metro := { drop.metro with calNext := some t } }
        .ok (s.mrec 4 gen (u32 t (t.length - 4))) ([1, 0] ++ le 4 t.length ++ le 4 (u32 t (t.length - 4)))
      else .err drop stParam
    else .ok { s with metro := { s.metro with xfer := some (gen, t) } } ([0, 0] ++ le 4 t.length ++ le 4 0)

/-- Totals of four registers of the mirror from `k` (R434). -/
def MMirror.four (x : MMirror) (k : Nat) : Bytes := (List.range 4).flatMap (fun j => le 8 (vget x.tot (k + j) 0))

/-- METER_READ (R434). -/
def bodyMeterRead (r : Req) (s : State) : Ans :=
  let b := r.body
  let kind := u8 b 0
  let lane := tType r.target == 5
  let m := meterOfTarget r.target
  let on := match m with | some k => bit s.metro.mirror[k].stat 0 | none => true
  .table s
    [ paramRow [outside kind 0 (if lane then 0 else 1) 0, rz b 1 7], row (!on) stConflict, row s.metroStopped stFaulted ]
    (fun s =>
      match m with
      | none =>
        let n := tIndex r.target
        let l := vget s.metro.mirLanes n {}
        .ok s (le 1 (b01 l.used + 2 * b01 l.invalid + 4 * b01 l.overload + 8 * b01 l.settling +
          16 * b01 l.tempRange + 32 * b01 l.tempBad + 64 * b01 (s.isRetired r.target)) ++ le 1 l.range ++ lei 4 l.code ++
          le 8 l.stamp ++ lei 2 l.temp ++ [0, 0] ++ lei 4 l.g ++ lei 4 l.d ++ le 4 l.invalids)
      | some k =>
        let x := s.metro.mirror[k]
        let head := le 1 (b01 (s.metro.mirStat % 4 != 2) + 2 * b01 (bit x.stat 2) + 4 * b01 (bit x.stat 3) + 8 * b01 (bit x.stat 1) +
          16 * b01 (bit x.stat 4)) ++ le 1 (b01 (!isDc k)) ++ le 4 x.block ++ le 8 s.metro.mirrorSt
        let tail := le 4 x.invalids ++ le 4 x.overs ++ le 4 s.metro.mirCalCrc ++ le 4 x.crc
        .ok s (head ++ (if kind = 0 then
            (if isDc k then (x.four 0).take 16 ++ tail else x.four 0 ++ x.four 4 ++ x.four 8 ++ x.four 12 ++ tail)
          else x.v.toList.flatMap (lei 4) ++ x.i.toList.flatMap (lei 4) ++ lei 4 x.p ++ lei 4 x.q ++ le 4 x.freq ++
            lei 4 x.neutral ++ le 8 x.zc)))

/-- METER_SEAL (R435, R390). -/
def bodyMeterSeal (r : Req) (s : State) : Ans :=
  let b := r.body
  .table s
    (s.keyRows r false ++
    [ row (!zeros b 4 4) stParam 4
    , row (s.calTable.isNone || s.metersOn.any (fun m => (mLanes m (s.mCfg m)).any (fun l => (calOf s.calTable l).isNone))) stConflict
    , row (u32 b 0 != s.calCrc) stParam 0 ])
    (fun s =>
      let s := { s with metro := { s.metro with sealed := true, fwCrc := s.nv.fw.metroCrc } }
      .ok ((s.mrec 5 s.calCrc s.metro.fwCrc).raise .meterSealed))

end Sys2Proof.Machine
end

