-- ==== Sys2Proof/Machine/BillCmds.lean ====
section
/-! DEFINITION. The BILL commands (R482 to R488). The metrology core runs those that change its state; what they read comes from the mirror
(R62, R383; DEDUCED, entry 61). -/

namespace Sys2Proof.Machine

/-- Before ready BUSY, while the partition is stopped RESOURCE_FAULTED (R482). -/
def State.billRows (s : State) : List (Bool × Nat × Nat) := [row (!s.sys.ready) stBusy, row s.metroStopped stFaulted]

/-- The ST at which a table or calendar activates: the given one, or the first whole second after now (R444, R483). -/
def State.activation (s : State) (t : Nat) : Nat := if t = 0 then (s.st / 1000000000 + 1) * 1000000000 else t

/-- Generation of what is in force and pending. -/
def genOf (o : Option Bytes) (off : Nat) : Nat := match o with | some b => u32 b off | none => 0

/-- BILL_TARIFF_LOAD (R483). -/
def bodyBillTariffLoad (r : Req) (s : State) : Ans :=
  let b := r.body
  let held := max (genOf s.bill.b.prices 0) (genOf (s.bill.b.pricesNext.map (·.2)) 0)
  .table s
    (s.billRows ++
    [ paramRow ([(u32 b 0 == 0, 0), outside (u8 b 4) 1 16 4, rz b 5 3, (decide (u64 b 8 % 1000000000 ≠ 0), 8)] ++
        (List.range (32 * u8 b 4)).map (fun k => outside (u32 b (16 + 4 * k)) 0 1000000 (16 + 4 * k)))
    , row (decide (u32 b 0 ≤ held)) stStale 0
    , row (u64 b 8 != 0 && decide (u64 b 8 ≤ s.st)) stPast 8 ])
    (fun s => .ok ((s.modB (fun x => { x with pricesNext := some (s.activation (u64 b 8), b) })).mrec 0x41 (u32 b 0) (crc32c b)))

/-- BILL_CALENDAR_LOAD (R484). -/
def bodyBillCalendarLoad (r : Req) (s : State) : Ans :=
  let c := r.body
  let held := max (genOf s.bill.b.cal 4) (genOf (s.bill.b.calNext.map (·.2)) 4)
  .table s
    (s.billRows ++
    [ row (!calendarOk c) stParam, row (decide (u32 c 4 ≤ held)) stStale 4
    , row (u64 c 8 != 0 && decide (u64 c 8 ≤ s.st)) stPast 8 ])
    (fun s => .ok ((s.modB (fun x => { x with calNext := some (s.activation (u64 c 8), c) })).mrec 0x42 (u32 c 4) (crc32c c)))

/-- Up to `n` records from sequence `sel` on, 0 for the oldest held: the records, more follow, some overwritten. `l` holds
them newest first, with the sequence at byte `o`. -/
def pickRecords (l : List Bytes) (o sel n : Nat) : List Bytes × Bool × Bool :=
  let old := l.reverse
  let from_ := old.filter (fun r => decide (sel ≤ u32 r o))
  let first := match old with | r :: _ => u32 r o | [] => 0
  (from_.take n, decide (n < from_.length), sel != 0 && decide (sel < first))

/-- The registers of 16 tariffs from index `k` (R485). -/
def regs32 {n : Nat} (v : Vector Acc n) (k : Nat) : Bytes := (List.range 32).flatMap (fun j => le 8 (vget v (k + j) 0 / 2 ^ 32))

/-- BILL_READ (R485), from the mirror (R383). -/
def bodyBillRead (r : Req) (s : State) : Ans :=
  let b := r.body
  let kind := u8 b 0
  let n := u8 b 1
  let sel := u32 b 4
  let x := s.bill.mir
  let want := if kind = 0 then 3 else if kind = 1 then 9 else 0
  let snap := if sel = 0 then s.bill.mirSnaps.head? else s.bill.mirSnaps.find? (fun q => u32 q 0 == sel)
  let i := tIndex r.target
  let unreg := fun (m : Nat) => le 8 (vget x.unreg (2 * m) 0) ++ le 8 (vget x.unreg (2 * m + 1) 0)
  let (data, more, lost) : Bytes × Bool × Bool := match kind with
    | 0 => (regs32 x.port (32 * i) ++ unreg i, false, false)
    | 1 => (regs32 x.feeder (32 * i) ++ unreg (8 + i), false, false)
    | 2 => (x.maxi.toList.flatMap Maxi.bytes, false, false)
    | 3 => (snap.getD [], false, false)
    | 4 => let p := pickRecords s.bill.mirProfiles 16 sel n; (p.1.flatten, p.2.1, p.2.2)
    | _ => let p := pickRecords s.bill.mirUnregs 24 sel n; (p.1.flatten, p.2.1, p.2.2)
  let counts : Int × Int := if kind = 4 ∨ kind = 5 then (1, 15) else (0, 0)
  .table s
    (s.billRows ++
    [ row (decide (kind ≤ 5) && tType r.target != want) stTarget
    , paramRow [outside kind 0 5 0, outside n counts.1 counts.2 1, rz b 2 2, (decide (kind ≤ 2) && sel != 0, 4), rz b 8 8,
        (kind == 3 && snap.isNone, 4)] ])
    (fun s => .ok s (le 1 kind ++ le 1 (b01 x.dflt.isSome + 2 * b01 (s.time.quality != .locked) + 4 * b01 more + 8 * b01 lost) ++
      le 4 x.period ++ le 8 s.bill.mirBooked ++ data))

/-- The entry path of a transport (R472). -/
def Via.path : Via → Nat
  | .hostio => 256
  | .site0 => 257
  | .site1 => 258

/-- BILL_TOKEN_ENTER (R486). -/
def bodyBillTokenEnter (r : Req) (s : State) : Ans :=
  let b := r.body
  let ds := (b.take 20).map (fun x => x.toNat)
  let acct := tIndex r.target
  .table s
    (s.billRows ++
    [ paramRow ((List.range 20).map (fun k => outside (u8 b k) 48 57 k) ++ [rz b 20 4]) ])
    (fun s =>
      let (t, s) := s.token true (digitsVal (ds.map (· - 48))) acct r.via.path 0
      { Ans.ok s (le 1 t.code ++ [0] ++ le 4 t.id ++ le 4 t.amount ++ lei 8 (vget s.bill.b.accounts acct {}).bal ++ le 4 0) with silent := t.abandoned })

/-- BILL_CLOSE_PERIOD (R453, R487). A closure that has already been made at that ST satisfies it. -/
def bodyBillClosePeriod (r : Req) (s : State) : Ans :=
  .table s s.billRows (fun s =>
    let x := (s.st + 99999999) / 100000000 * 100000000
    let made := s.bill.b.opened == x && decide (1 < s.bill.b.period)
    let n := if made then s.bill.b.period - 1 else (s.billAdvance (x - 1)).bill.b.period
    let s := if made then s else s.modB (fun b => { b with closeAt := b.closeAt ++ [x] })
    .ok s ([0, 0] ++ le 4 n ++ le 4 (n + 1) ++ le 8 (if r.launch = 0 then x else 0) ++ le 4 0))

/-- Is a session bound to account `a` (R323)? -/
def State.accountBound (s : State) (a : Nat) : Bool :=
  (List.finRange 8).any (fun p => (s.boundAccount p).any (fun (x : Fin 256) => x.val == a))

/-- Bits [3:0] of BILL.ACCT (R481). -/
def acctFlags (x : Account) (bound : Bool) : Nat :=
  if x.loaded then 1 + 2 * b01 (decide (x.bal ≤ 0)) + 4 * b01 (decide (x.bal < (x.low : Int) * 1000000)) + 8 * b01 bound else 0

/-- BILL_ACCOUNT (R488). -/
def bodyBillAccount (r : Req) (s : State) : Ans :=
  let b := r.body
  let op := u8 b 0
  let a := tIndex r.target
  let x := vget s.bill.b.accounts a {}
  let bound := s.accountBound a
  let entry := fun (k : Nat) => 4 + 12 * k
  let fields : List (Bool × Nat) := match op with
    | 0 => [outside (u8 b 1) 0 15 1, rz b 2 2, outside (u32 b 4) 0 3750000 4, rz b 12 4]
    | 3 => [outside (u8 b 1) 0 8 1, rz b 2 2] ++ (List.range (u8 b 1)).flatMap (fun k =>
        [outside (u8 b (entry k)) 0 7 (entry k), rz b (entry k + 1) 3, (identBad (u32 b (entry k + 4)), entry k + 4),
         (identBad (u32 b (entry k + 8)), entry k + 8)])
    | _ => [rz b 1 15]
  let put := fun (s : State) (y : Account) => s.modB (fun z => { z with accounts := vset z.accounts a y })
  .table s
    (s.billRows ++
    [ row (decide (3 < op)) stParam 0, row (tType r.target != (if op = 3 then 0 else 10)) stTarget, paramRow fields
    , row ((op == 1 || op == 2) && !x.loaded) stTarget
    , row (bound && (op == 2 || (op == 0 && x.loaded && x.cls != u8 b 1))) stConflict ])
    (fun s =>
      match op with
      | 0 =>
        let y : Account := { x with loaded := true, cls := u8 b 1, ceil := u32 b 4, low := u32 b 8 }
        .ok ((put s y).mrec 0x4C a 0)
      | 1 =>
        let x := vget s.bill.mir.accounts a {}
        .ok s (le 1 x.cls ++ le 1 (acctFlags x bound) ++ le 4 x.ceil ++ lei 8 x.bal ++ le 4 x.low ++ le 4 x.lastId ++
          le 4 x.tokens ++ le 8 x.charged ++ le 8 x.lastSt ++ le 4 0)
      | 2 => .ok ((put s { life := x.life + 1 }).mrec 0x4C a 2)
      | _ =>
        let m := (List.range (u8 b 1)).map (fun k => (u8 b (entry k), u32 b (entry k + 4), u32 b (entry k + 8)))
        .ok ({ s with bill := { s.bill with keypads := m } } |>.mrec 0x4C a 3))

end Sys2Proof.Machine
end

