-- ==== Sys2Proof/Machine/SiteTime.lean ====
section
/-! DEFINITION. Site time: the servo, sources, steps and slews, quality, holdover, RTC copy, captures and the TIME
commands (R72 to R121). -/

namespace Sys2Proof.Machine

/-! ### Settings (R118) -/

/-- The settings of TIME_SOURCE in force: the stored ones or the defaults of R118. -/
def State.timeCfg (s : State) : Bytes :=
  s.nv.cfg.timeSource.getD ([6, 0, 1, 2, 3, 4, 5, 0] ++ List.replicate 4 0 ++ le 4 1000000 ++ le 4 1000000 ++ le 4 9600 ++
    List.replicate 16 0)

/-- Step threshold in ns (R88). -/
def State.stepThreshold (s : State) : Int := u32 s.timeCfg 12

/-- Holdover limit in ns (R99). -/
def State.holdLimit (s : State) : Rat := (u32 s.timeCfg 16 : Nat)

/-- Listed sources in priority order, source 5 apart (R81); source 3 comes first while the device is a twin that does not
hold the lease and its hinge link is up (R83). -/
def State.timeList (s : State) : List Nat :=
  let b := s.timeCfg
  let l := ((List.range (u8 b 0)).map (fun k => u8 b (1 + k))).filter (fun c => decide (c < 5))
  if s.paired && s.twin.state != .active && s.twin.hinge then 3 :: l.filter (· != 3) else l

/-- The highest-priority listed source that is locked (R82). -/
def State.bestSource (s : State) : Option Nat :=
  s.timeList.find? (fun k => (vget s.time.srcs k {}).state == .locked)

/-- The selected source that status reports (R81). -/
def State.selCode (s : State) : Option Nat :=
  match s.time.quality with
  | .locked => s.time.sel
  | .invalid => none
  | _ => some 5

/-- Run a change of time state and raise TIME_SOURCE_CHANGE when the selected source changed (R82). -/
def withSel (f : State → State) (s : State) : State :=
  let t := f s
  if t.selCode = s.selCode then t else t.raise .timeSourceChange

/-- Update a source. -/
def State.modSrc (s : State) (k : Nat) (f : TimeSource → TimeSource) : State :=
  { s with time := { s.time with srcs := vset s.time.srcs k (f (vget s.time.srcs k {})) } }

/-- Update the time state. -/
def State.modTime (s : State) (f : TimeS → TimeS) : State := { s with time := f s.time }

/-! ### Holdover (R97 to R99) -/

/-- Centre of bin `i` in 0.1 degC (R97). -/
def binCentre (i : Nat) : Int := -375 + 50 * i

/-- Learned bins in ascending order: centre, value (R97). -/
def State.learned (s : State) : List (Int × Rat) :=
  ((List.finRange 34).filter (fun (i : Fin 34) => decide (3000 ≤ s.nv.bins[i].count))).map
    (fun (i : Fin 34) => (binCentre i, s.nv.bins[i].value))

/-- The nearest learned bins at or below, and at or above, a temperature. -/
def State.around (s : State) (t : Int) : Option (Int × Rat) × Option (Int × Rat) :=
  let l := s.learned
  ((l.filter (fun x => decide (x.1 ≤ t))).getLast?, (l.filter (fun x => decide (t ≤ x.1))).head?)

/-- Growth of the estimated error, ns per s of elapsed time (R99). -/
def State.errRate (s : State) (t : Int) : Rat :=
  match s.around t with
  | (some a, some b) => if b.1 - a.1 ≤ 100 then 200 else 2000
  | _ => 2000

/-- The estimated error now, ns (R99). -/
def State.errNow (s : State) : Rat :=
  match s.time.quality with
  | .locked => s.time.err
  | _ => s.time.err + s.errRate s.time.dieTemp * (((s.el - s.time.errAt : Int) : Rat) / 1000000000)

/-- The frequency correction that the table gives (R98). -/
def State.tableFreq (s : State) (t : Int) : Int :=
  if s.learned.length < 2 then s.clk.freq
  else
    let v : Rat := match s.around t with
      | (some a, some b) => if a.1 = b.1 then a.2 else a.2 + (b.2 - a.2) * ((t - a.1 : Int) : Rat) / ((b.1 - a.1 : Int) : Rat)
      | (some a, none) => a.2
      | (none, some b) => b.2
      | (none, none) => s.clk.freq
    rdiv v.num v.den

/-- One sample of the servo's correction into the bin of the present temperature (R97). -/
def TempBin.sample (x : TempBin) (v : Rat) : TempBin :=
  if x.count < 3000 then { count := x.count + 1, value := (x.value * (x.count : Nat) + v) / ((x.count + 1 : Nat) : Rat) }
  else { x with value := x.value + (v - x.value) / 3000 }

/-- What a housekeeping round does to site time: a bin sample while LOCKED, the table's correction and the error's growth
otherwise (R97 to R99). That the table corrects in INVALID too, which R98 does not name, is DESIGN CHOICE (entry 231). -/
def State.holdoverRound (s : State) : State :=
  let t := s.therm.dies[3].temp
  if s.time.quality = .locked then
    let i := (t + 400).fdiv 50
    let s := s.modTime (fun x => { x with dieTemp := t })
    if i < 0 || 33 < i then s
    else { s with nv := { s.nv with bins := vset s.nv.bins i.toNat ((vget s.nv.bins i.toNat {}).sample s.clk.freq) } }
  else
    let e := s.errNow
    { s with
      clk := { s.clk with freq := s.tableFreq t }
      time := { s.time with err := e, errAt := s.el, dieTemp := t } }

/-! ### Quality and steps (R88 to R95) -/

/-- Billing sees a change of quality, unless its core is stopped or has a restart to handle. -/
def State.tellBilling (s : State) (f : State → State) : State :=
  whenDo (!s.metroStopped && !s.bill.restartDue) f s

/-- A transition of time quality (R93, R95): leaving LOCKED ends the slew and starts the error's growth; on entry to
LOCKED the estimated error is a free value (no rule gives it; entry 6). TIME_SET mode 0 in FREE changes no level, so the ST
of the last change stays (R95, R117; DESIGN CHOICE, entry 232). -/
def State.setQuality (s : State) (q : Quality) : State :=
  let old := s.time.quality
  let (n, s) := if q = .locked && old != .locked then s.free else (0, s)
  let s := if q = .locked then s.modTime (fun x => { x with quality := q, err := if old = .locked then x.err else (n % 2 ^ 32 : Nat) })
    else if old = .locked then
      { s with clk := { s.clk with resid := 0 }, time := { s.time with quality := q, sel := none, errAt := s.el, slewRef := none } }
    else s.modTime (fun x => { x with quality := q })
  let s := { s with vbat := { s.vbat with quality := q, levelKept := true, qualitySt := if q = old then s.vbat.qualitySt else s.st } }
  let s := whenDo (q != .locked) (·.markSessions 0) s
  (s.raise .timeQuality old.code q.code).tellBilling (·.dfltUpdate)

/-- The trailing time T + D that a launch still has: of a TARGETS packet (kind 0), unless it alone was cancelled (R113, R146). -/
def Launch.trailAt (l : Launch) : Option Nat :=
  if l.req.code ≠ 0x0305 || u8 l.req.body 8 ≠ 0 || l.cut then none
  else some (if l.trailing then l.at_ else l.at_ + u32 l.req.body 12)

/-- One launch after a backward step: each of its times that the step leaves more than 10 s ahead is cancelled, with an event of
its own; with the trailing time go the epoch's trailing entries, and the slot unless T still pends (R113, R146; DESIGN CHOICE,
entry 242). -/
def State.cancelOne (s : State) (l : Launch) : State :=
  let far := fun (t : Nat) => decide (s.st + 10000000000 < t)
  let lead := !l.trailing && far l.at_
  let trail := l.trailAt.any far
  let s := if lead || (trail && l.trailing) then { s with launches := s.launches.filter (· != l) }
    else if trail then { s with launches := s.launches.map (fun x => if x = l then { x with cut := true } else x) } else s
  let s := whenDo lead (·.raise .launchCancelled l.req.seq) s
  whenDo trail (fun s =>
    { s with alloc := { s.alloc with trailing := s.alloc.trailing.filter (fun t => t.fallback || t.epoch != u64 l.req.body 0) } }.raise
      .launchCancelled l.req.seq) s

/-- Cancel the launches and trailing times that a backward step leaves more than 10 s ahead (R113). -/
def State.cancelAhead (s : State) : State := s.launches.foldl (fun s l => s.cancelOne l) s

/-- After a backward step epochs begin again at the new ST; the limits in hand hold for each of them (DEDUCED, entry 140). -/
def State.epochsBack (s : State) : State :=
  { s with alloc := { s.alloc with
    ran := none, checked := none, reported := none, doubledTo := min s.alloc.doubledTo (s.st / 1000000 + 100)
    limits := (s.alloc.limits.take 1).map (fun (l : Limits) => { l with since := 0 }) } }

/-- Step ST to `new` at this tick: the open blocks close with the tick before it (R89, R92, R113, R438, R454; DEDUCED, entry 301). Crossings,
the samples at hand and the coordinator's Z keep their instants, which the new ST numbers anew (R395, R418, R562; DEDUCED, entry 307). -/
def State.stepClock (s : State) (new : Nat) : State :=
  let old := s.st
  let d : Int := (new : Int) - old
  let move := fun (t : Nat) => ((t : Int) + d).toNat
  let s := s.tellBilling (·.closeForStep)
  let s := { s with
    clk := { s.clk with fix := new * 2 ^ 32 + s.clk.fix % 2 ^ 32, moved := s.clk.moved + d, dev := s.clk.dev + d * 2 ^ 32, resid := 0 }
    time := { s.time with lastStepSt := new, lastStepSize := d }
    metro := { s.metro with meters := s.metro.meters.map (fun (x : Meter) => { x with
      zc := x.zc.map move, zcLost := x.zcLost.map move, hist := x.hist.map (fun (h : MSample) => { h with stamp := move h.stamp }) }) }
    flink := { s.flink with
      mute := true, own := s.flink.own.map (fun (o : Nat × Nat × Nat) => (move o.1, o.2))
      zc := s.flink.zc.map (fun (z : Nat × Nat × Nat) => (z.1, move z.2.1, z.2.2)) }
    alloc := { s.alloc with trailing := s.alloc.trailing.map (fun (t : Trailing) =>
      if t.fallback then { t with at_ := ((t.at_ : Int) + d).toNat } else t) } }
  let s := s.raise .clockStep (old % 2 ^ 32) (old / 2 ^ 32 % 2 ^ 32)
  let s := if d < 0 then s.cancelAhead.epochsBack else s
  s.tellBilling (·.billStep old)

/-- Does an offset of source `k` go on from the change of source made by slew at a take, without a jump as large as the step
threshold (R83; DESIGN CHOICE, entry 284)? -/
def State.slewing (s : State) (k : Nat) (off : Int) : Bool :=
  match s.time.slewRef with
  | some (j, r) => j == k && decide ((off * 2 ^ 32 + s.clk.dev - r).natAbs < s.stepThreshold * 2 ^ 32)
  | none => false

/-- Remove the selected source's offset: by slew below the step threshold, else by a step (R88, R89); by slew at any size
while the change to the source at a take of the twin lease lasts (R83). -/
def State.follow (s : State) (off : Int) : State :=
  let small := decide (off.natAbs < s.stepThreshold)
  let slew := match s.time.sel with | some k => s.slewing k off | none => false
  let s := s.modTime (fun x => { x with
    lastOffset := off
    slewRef := if small || !slew then none else x.slewRef.map (fun y => (y.1, off * 2 ^ 32 + s.clk.dev)) })
  if small || slew then
    { s with clk := { s.clk with resid := off * 2 ^ 32, freq := Config.servoIntegral s.clk.freq off } }
  else s.stepClock ((s.st : Int) + off).toNat

/-- Source `k` steers ST from now on, its offset being `off` (R82, R93). -/
def State.lockOn (s : State) (k : Nat) (off : Int) : State :=
  let s := (s.modTime (fun x => { x with sel := some k, pend := none })).follow off
  if s.time.quality = .locked then s else s.setQuality .locked

/-- Hold a large step pending for 30 s (R90). -/
def State.holdStep (s : State) (k : Nat) (off : Int) : State :=
  if s.time.pend.isSome then s
  else
    let s := s.modTime (fun x => { x with lastOffset := off, pend := some { src := k, offset := off, endAt := s.el + 30000000000 } })
    let s := if s.time.quality = .locked then s.setQuality .holdover else s
    s.raise .stepPending

/-- Mark a source failed until TIME_SOURCE (R91). -/
def State.failSource (s : State) (k : Nat) : State :=
  s.modSrc k (fun x => { x with state := .failed, failed := true, offs := [] })

/-- Is an offset one that a source other than the hinge link may not step (R90)? -/
def farOffset (k : Nat) (off : Int) : Bool := decide (60000000000 < off.natAbs) && k != 3

/-- What a locked source's offset does (R88 to R93); `fresh` when it has just locked. While a step is held pending only a
source that newly locks below the step threshold ends that (R91; entry 100). -/
def State.sourceUse (s : State) (k : Nat) (off : Int) (fresh : Bool) : State :=
  match s.time.quality with
  | .locked => if s.time.sel ≠ some k then s else if farOffset k off && !s.slewing k off then s.holdStep k off else s.follow off
  | .holdover =>
    match s.time.pend with
    | some p =>
      if fresh && k != p.src && decide (s.el < p.endAt) && decide (off.natAbs < s.stepThreshold) then (s.failSource p.src).lockOn k off
      else s
    | none => if s.bestSource ≠ some k then s else if farOffset k off && !s.slewing k off then s.holdStep k off else s.lockOn k off
  | .free => if s.bestSource = some k then s.lockOn k off else s
  | .invalid => if !s.time.attack && s.bestSource = some k then s.lockOn k off else s

/-! ### Sources (R80 to R87) -/

/-- Offsets a source needs to lock, and the tolerance about their mean in ns (R80); the hinge link has none. -/
def lockNeed : Nat → Nat × Option Rat
  | 0 => (16, some 50) | 1 => (16, some 50) | 2 => (8, some 100) | 3 => (4, none) | _ => (8, some 1000)

/-- Is the lock criterion met by offsets kept newest first, each with the servo's change to ST at it (R80)? -/
def lockMet (k : Nat) (offs : List (Int × Int)) : Bool :=
  let (n, tol) := lockNeed k
  let l := offs.take n
  if l.length < n then false
  else match tol, l.getLast? with
    | some d, some first =>
      let xs : List Rat := l.map (fun x => (x.1 : Rat) + (((x.2 - first.2 : Int) : Rat) / (2 ^ 32 : Nat)))
      let mean : Rat := xs.foldl (· + ·) (0 : Rat) / ((n : Nat) : Rat)
      xs.all (fun x => decide (x - mean ≤ d) && decide (mean - x ≤ d))
    | _, _ => true

/-- A valid message of source `k` that gives an offset (R80, R88 to R93). -/
def State.sourceOffset (s : State) (k : Nat) (off : Int) : State :=
  let x := vget s.time.srcs k {}
  if x.failed || !s.timeList.contains k then s
  else
    let offs := ((off, s.clk.dev) :: x.offs).take 16
    let was := x.state == .locked
    let now := was || lockMet k offs
    let s := s.modSrc k (fun x => { x with
      offs := offs, lastMsg := s.el, bad := 0, state := if now then .locked else .locking, lockedAt := if now && !was then s.el else x.lockedAt })
    if now then withSel (·.sourceUse k off (!was)) s else s

/-- A message of source `k` without an offset: it is there (R120). -/
def State.sourceSeen (s : State) (k : Nat) : State :=
  let x := vget s.time.srcs k {}
  if x.failed || !s.timeList.contains k then s
  else s.modSrc k (fun x => { x with lastMsg := s.el, state := if x.state = .absent then .seen else x.state })

/-- The latest offset of a source, less the change that servo and steps have made to ST since it. -/
def State.lastOff (s : State) (k : Nat) : Int :=
  match (vget s.time.srcs k {}).offs.head? with
  | some x => x.1 - rdiv (s.clk.dev - x.2) (2 ^ 32)
  | none => 0

/-- Source `k` becomes the selected one (R82). The servo takes its last offset up at once, less the change made to ST since, and
does not wait for its next one: DESIGN CHOICE (entry 283). -/
def State.selectSource (s : State) (k : Nat) : State :=
  (s.modTime (fun x => { x with sel := some k })).sourceUse k (s.lastOff k) true

/-- Select the best locked source at once; HOLDOVER when none is left (R82, R93). The source's last offset acts at once: DESIGN
CHOICE (entry 283). -/
def State.reselect (s : State) : State :=
  match s.bestSource with
  | none => if s.time.quality = .locked then s.setQuality .holdover else s
  | some j =>
    if s.time.quality = .locked then
      if s.time.sel = some j then s else s.selectSource j
    else s.sourceUse j (s.lastOff j) false

/-- Source `k` is lost (R80, R93). -/
def State.sourceLost (s : State) (k : Nat) : State :=
  let x := vget s.time.srcs k {}
  if x.state = .disabled || x.state = .failed then s
  else
    let s := s.modSrc k (fun x => { x with state := .absent, offs := [], bad := 0, master := none })
    if s.time.quality = .locked && s.time.sel = some k then withSel (·.reselect) s else s

/-- Does a source meet its loss criterion (R80)? A missing pulse or an invalid message counts in a run that the next pulse,
or the next valid message, ends (DEDUCED, entry 233). -/
def State.lossMet (s : State) (k : Nat) : Bool :=
  let x := vget s.time.srcs k {}
  match k with
  | 2 => decide (3 ≤ x.bad) || (match s.time.ppsEdge with | some e => decide (e + 3000000000 ≤ s.el) | none => false)
  | 3 => !s.twin.hinge
  | 4 => decide (x.lastMsg + 16 * ((s.flink.beacon.map (·.p)).getD 0 : Nat) ≤ s.el)
  | _ => decide (x.lastMsg + 3 * (x.interval : Nat) ≤ s.el)

/-- The row of R80's loss criteria. -/
def execTimeSourceLoss (k : Fin 5) (s : State) : Host.Outcome State Fault Refusal :=
  live s (fun s => whenDo (s.lossMet k) (·.sourceLost k) s)

/-- Is the first data set better: smaller at the first figure in which they differ (R85; entry 230)? -/
def setBetter : List Nat → List Nat → Bool
  | a :: as, b :: bs => decide (a < b) || (a == b && setBetter as bs)
  | [], _ :: _ => true
  | _, [] => false

/-- Is the port master-capable and free to act as master: enabled by TIME_SOURCE, and not of a twin without the lease
(R85, R118, R508)? -/
def State.ptpCapable (s : State) (net : Nat) : Bool := bit (u8 s.timeCfg 9) (2 + net) && s.holdsTwin

/-- Does the port act as master: no better clock is known (R85)? -/
def State.ptpMaster (s : State) (net : Nat) : Bool :=
  s.ptpCapable net &&
  (match (vget s.time.srcs net {}).master with
    | none => true
    | some m => setBetter (Config.ptpOwn net s.time.quality.code) m.2)

/-- An Announce (R80, R85): the best master clock algorithm keeps the better of the sender and the master chosen before; a
port that is itself the better clock has no master. A new master's offsets begin anew. -/
def State.ptpAnnounce (s : State) (net src interval : Nat) (set : List Nat) : State :=
  let x := vget s.time.srcs net {}
  let same := match x.master with | some m => m.1 == src | none => false
  let better := match x.master with | some m => setBetter set m.2 | none => true
  if s.ptpCapable net && setBetter (Config.ptpOwn net s.time.quality.code) set then
    if same then (s.sourceLost net).modSrc net (fun x => { x with master := none }) else s
  else if same then (s.modSrc net (fun x => { x with master := some (src, set), interval := interval })).sourceSeen net
  else if better then
    ((if x.master.isSome then s.sourceLost net else s).modSrc net (fun x => { x with
      master := some (src, set), interval := interval, offs := [] })).sourceSeen net
  else s

/-- Offset of the master's clock from ST by a Sync and its delay measurement, local stamps corrected by the port's ingress
and egress latencies (R86). -/
def State.ptpOffset (s : State) (net : Nat) (t1 t2 : Int) (d : PtpDelay) : Int :=
  let c := s.timeCfg
  let inp : Int := u16 c (28 + 4 * net)
  let out : Int := u16 c (30 + 4 * net)
  match d with
  | .e2e t3 t4 => rdiv ((t1 - (t2 - inp)) + (t4 - (t3 + out))) 2
  | .p2p p1 p2 p3 p4 => t1 + rdiv (((p4 - inp) - (p1 + out)) - (p3 - p2)) 2 - (t2 - inp)

/-- Is it the delay measurement chosen for the port (R85, R118)? -/
def State.ptpChosen (s : State) (net : Nat) (d : PtpDelay) : Bool :=
  match d with
  | .e2e .. => !bit (u8 s.timeCfg 9) net
  | .p2p .. => bit (u8 s.timeCfg 9) net

/-- A PTP message at a SITE port (R85, R86): of another domain or over the transport not chosen it is ignored; one that
carries the own SITE_ID from outside the pair is R6's conflict; a Sync counts from the chosen master with the chosen delay
measurement; a Delay_Req is answered by a master that measures E2E, a Pdelay_Req by every port that measures P2P, with the stamps
of its receipt and of the answer at this tick. -/
def State.ptp (s : State) (net : Fin 2) (m : PtpMsg) : State :=
  let c := s.timeCfg
  if m.domain ≠ u8 c 8 || m.ieee8023 != bit (u8 c 9) (4 + net) then s
  else if m.site = some s.strap.siteId && !m.partner then s.siteConflict
  else match m.what with
    | .announce i set => s.ptpAnnounce net m.src i set
    | .sync t1 t2 d =>
      if (match (vget s.time.srcs net {}).master with | some x => x.1 == m.src | none => false) && s.ptpChosen net d then
        s.sourceOffset net (s.ptpOffset net t1 t2 d)
      else s
    | .delayReq t =>
      if s.ptpMaster net && !bit (u8 c 9) net then s.emit (.ptp net m.src (.delayResp (t - u16 c (28 + 4 * net)))) else s
    | .pdelayReq t =>
      if bit (u8 c 9) net then
        s.emit (.ptp net m.src (.pdelayResp (t - u16 c (28 + 4 * net)) ((s.st : Int) + u16 c (30 + 4 * net))))
      else s

/-- What the ports that act as master send between elapsed times `t` and now: a Sync with its Follow_Up in every second, an
Announce in every two (R85); these intervals are those of the default profile: PRESUMED (entry 285). -/
def State.ptpSend (t : Int) (s : State) : State :=
  let passed := fun (d : Int) => decide (t / d < s.el / d)
  if !passed 1000000000 || !s.sys.ready || s.sys.fault.isSome then s
  else forFin 2 s (fun s net =>
    if !s.ptpMaster net then s
    else
      let s := whenDo (passed 2000000000) (·.emit (.ptp net 0 (.announce (Config.ptpOwn net s.time.quality.code)))) s
      s.emit (.ptp net 0 (.sync ((s.st : Int) + u16 s.timeCfg (30 + 4 * net)))))

def execPtpMessageReceive (net : Fin 2) (m : PtpMsg) (s : State) : Host.Outcome State Fault Refusal :=
  live s (·.ptp net m)

/-- A rising PPS_IN edge is stamped at this tick less the cable delay (R87, R100). Three missing pulses before it are a loss;
a pulse missing before it, or a pulse before it that no valid sentence named, ends a run of consecutive pulses (R80). -/
def State.pps (s : State) : State :=
  let stamp := s.el - i32 s.timeCfg 24
  let miss := match s.time.ppsEdge with | some e => ((stamp - e) + 500000000).toNat / 1000000000 - 1 | none => 0
  let s := if 3 ≤ miss then s.sourceLost 2 else s
  let s := s.sourceSeen 2
  (s.modSrc 2 (fun x => { x with offs := if miss = 0 && (s.time.ppsNamed || s.time.ppsEdge.isNone) then x.offs else [] })).modTime
    (fun x => { x with ppsEdge := some stamp, ppsNamed := false })

def execPpsEdge (s : State) : Host.Outcome State Fault Refusal := live s (·.pps)

/-- The ST of a UTC second since 2000-01-01: by the zone table's TAI - UTC, else 37 s (R87). -/
def State.stOfUtc (s : State) (utc : Nat) : Nat :=
  match s.bill.b.cal with
  | none => (utc + 37) * 1000000000
  | some c =>
    let z := calZone c
    let cands : List Int := (taiUtc z 0 :: (leaps z).map (·.2)).map (fun v => ((utc : Int) + v) * 1000000000)
    ((cands.find? (fun t => decide (((utc : Int) + taiUtc z t) * 1000000000 = t))).getD (cands.headD 0)).toNat

/-- A ZDA sentence naming a UTC second, its checksum being `ok` (R87): the first valid one within 900 ms of the edge names
its second, a further one there changes nothing; one outside, or with a bad checksum, is invalid and counts toward a loss. -/
def State.gnss (s : State) (utc : Nat) (ok : Bool) : State :=
  let bad := s.modSrc 2 (fun x => { x with bad := x.bad + 1 })
  match s.time.ppsEdge with
  | some e =>
    if ok && decide (s.el < e + 900000000) then
      if s.time.ppsNamed then s
      else (s.modTime (fun x => { x with ppsNamed := true })).sourceOffset 2 ((s.stOfUtc utc : Int) - (e + s.clk.moved))
    else bad
  | none => bad

def execGnssSentence (utc : Nat) (ok : Bool) (s : State) : Host.Outcome State Fault Refusal :=
  live s (·.gnss utc ok)

/-- A higher-priority source has stayed locked for 10 s: the device changes to the highest such one, a still higher one being
within its own dwell (R82). -/
def State.dwellEnd (s : State) : State :=
  let stood := fun (k : Nat) => let x := vget s.time.srcs k {}; x.state == .locked && decide (x.lockedAt + 10000000000 ≤ s.el)
  match s.time.sel with
  | some j =>
    match (s.timeList.takeWhile (· != j)).find? stood with
    | some k => if s.time.quality = .locked then withSel (·.selectSource k) s else s
    | none => s
  | none => s

def execSourceDwellExpiry (s : State) : Host.Outcome State Fault Refusal := live s (·.dwellEnd)

/-- The pending-step window ends unconfirmed (R91). -/
def State.pendEnd (s : State) : State :=
  match s.time.pend with
  | some p =>
    if p.endAt ≤ s.el then
      withSel (fun s =>
        let s := (s.failSource p.src).modTime (fun x => { x with pend := none, attack := true })
        (s.setQuality .invalid).raise .timeAttack) s
    else s
  | none => s

def execPendingStepExpiry (s : State) : Host.Outcome State Fault Refusal := live s (·.pendEnd)

/-- The estimated error reaches the holdover limit with no step pending (R93, R99). -/
def execHoldoverLimitReached (s : State) : Host.Outcome State Fault Refusal :=
  live s (fun s => whenDo (s.time.quality == .holdover && s.time.pend.isNone && decide (s.holdLimit ≤ s.errNow))
    (withSel (·.setQuality .free)) s)

/-- The RTC copies ST once per second while quality is not INVALID (R94). -/
def State.rtcCopy (s : State) : State :=
  let v := s.vbat
  if s.time.quality = .invalid || !v.powered || !v.xtal || (v.rtcValid && decide (v.rtc / 1000000000 = s.st / 1000000000)) then s
  else { s with vbat := { v with rtc := s.st, rtcValid := true } }

def execRtcCopy (s : State) : Host.Outcome State Fault Refusal := live s (·.rtcCopy)

/-- Is ST within 365 days of the zone table's last transition (R104)? -/
def State.zoneExpiring (s : State) : Bool :=
  match s.bill.b.cal with
  | none => false
  | some c => match (transitions (calZone c)).getLast? with
    | some t => decide (((s.st : Int) - t.1).natAbs ≤ 365 * 86400000000000)
    | none => false

/-- The daily warning (R104). -/
def State.zoneWarn (s : State) : State :=
  let d := s.st / 86400000000000
  if s.zoneExpiring && s.time.zoneWarnDay != some d then
    (s.modTime (fun x => { x with zoneWarnDay := some d })).raise .zoneTableExpiring
  else s

def execZoneTableExpiring (s : State) : Host.Outcome State Fault Refusal := live s (·.zoneWarn)

/-- Sources as the priority list has them: disabled when not listed; a mark of failure is cleared by TIME_SOURCE (R91,
R120). -/
def State.srcInit (s : State) (clear : Bool) : State :=
  let l := s.timeList
  s.modTime (fun x => { x with srcs := Vector.ofFn (fun (k : Fin 6) =>
    let y := x.srcs[k]
    let y : TimeSource := if clear && y.failed then { y with failed := false, state := .absent, offs := [] } else y
    if k.val = 5 then { y with state := .locked }
    else if !l.contains k.val then { y with state := .disabled, offs := [] }
    else if y.state = .disabled then { y with state := .absent } else y) })

/-! ### TIME commands (R117 to R121) -/

/-- TIME_SET (R117, R90). A pending-step window whose end has come is over (R77, R91). -/
def bodyTimeSet (r : Req) (s : State) : Ans :=
  let s := s.pendEnd
  let b := r.body
  let mode := u8 b 8
  .table s
    [ row (mode == 0 && s.time.quality == .locked) stConflict
    , row (mode == 0 && s.time.pend.isSome) stConflict
    , row (mode == 0 && s.paired && s.twin.state == .standby && s.twin.hinge) stConflict
    , row (mode == 1 && !r.override) stDenied
    , row (mode == 1 && s.time.pend.isNone) stConflict
    , paramRow [outside mode 0 1 8, rz b 9 7, (mode == 1 && u64 b 0 != 0, 0)] ]
    (fun s =>
      match s.time.pend with
      | some p =>
        .ok (withSel (fun s =>
          let s := (s.modTime (fun x => { x with sel := some p.src, pend := none })).stepClock ((s.st : Int) + p.offset).toNat
          s.setQuality .locked) s)
      | none =>
        .ok (withSel (fun s => ((s.stepClock (u64 b 0)).modTime (fun x => { x with attack := false })).setQuality .free) s))

/-- The field checks of TIME_SOURCE (R118, R119). -/
def timeSourceFields (b : Bytes) : List (Bool × Nat) :=
  let n := u8 b 0
  let l := (List.range n).map (fun k => u8 b (1 + k))
  [ outside n 1 6 0 ] ++ (List.range n).map (fun k =>
      let c := l.getD k 0
      (decide (5 < c) || (l.take k).contains c || (c == 5 && k + 1 != n), 1 + k)) ++ (List.range (6 - n)).map (fun k => (u8 b (1 + n + k) != 0xFF, 1 + n + k)) ++ [
    rz b 7 1, outside (u8 b 8) 0 127 8, outside (u8 b 9) 0 63 9, rz b 10 2
  , outside (u32 b 12) 10000 1000000000 12, outside (u32 b 16) 10000 10000000 16, outside (u32 b 20) 9600 115200 20
  , outside (i32 b 24) (-10000) 10000 24, outside (u16 b 28) 0 2000 28, outside (u16 b 30) 0 2000 30
  , outside (u16 b 32) 0 2000 32, outside (u16 b 34) 0 2000 34, rz b 36 4 ]

/-- A new list or new options come into force (R82, R91, R118): a source that the list has made the highest locked one is
selected at once; one that was so before goes on with its dwell. -/
def State.timeSourceTake (s : State) (b : Bytes) : State :=
  let best := s.bestSource
  let s := (s.store (fun c => { c with timeSource := some b })).srcInit true
  let stays := match s.time.sel with | some j => (vget s.time.srcs j {}).state == .locked | none => false
  if s.time.quality = .locked && stays && s.bestSource == best then s else s.reselect

/-- TIME_SOURCE (R118, R119, R82, R91). -/
def bodyTimeSource (r : Req) (s : State) : Ans :=
  .table s [ paramRow (timeSourceFields r.body) ] (fun s => .ok (withSel (·.timeSourceTake r.body) s))

/-- A signed value kept within `n` bits. -/
def satI (n : Nat) (x : Int) : Int := clampI (-(2 ^ (n - 1) : Nat)) ((2 ^ (n - 1) : Nat) - 1) x

/-- Time flags (R120). -/
def State.timeFlags (s : State) : Nat :=
  b01 s.time.pend.isSome + 2 * b01 s.bill.b.cal.isSome + 4 * b01 s.zoneExpiring + 8 * b01 s.vbat.rtcValid + 16 * b01 s.time.attack

/-- TIME_STATUS (R120). A last offset that does not fit its 4 bytes is shown saturated, and the estimated error is rounded up
and shown at most as 0xFFFFFFFF: DESIGN CHOICE (entry 234). -/
def bodyTimeStatus (_ : Req) (s : State) : Ans :=
  let t := s.time
  let ppb := rdiv (s.clk.freq * 1000000000) 10737418240
  .ok s (le 1 t.quality.code ++ le 1 (s.selCode.getD 255) ++ le 8 s.st ++ lei 4 (satI 32 t.lastOffset) ++ lei 4 ppb ++
    lei 4 (min 0xFFFFFFFF (-(ratFloor (-s.errNow)))) ++ le 8 s.vbat.qualitySt ++ le 8 t.lastStepSt ++ lei 8 t.lastStepSize ++
    le 2 s.launches.length ++
    le 2 s.timeFlags ++
    (t.srcs.toList.flatMap (fun x => le 1 (match x.state with
      | .disabled => 0 | .absent => 1 | .seen => 2 | .locking => 3 | .locked => 4 | .failed => 5))) ++ List.replicate 6 0)

/-! ### Captures (R115, R116, R121, R624) -/

/-- Captures pending or in progress (R116). -/
def State.capturesBusy (s : State) : Nat :=
  (s.launches.filter (fun l => l.req.code == 0x0204)).length + (s.captures.filter (fun c => decide (c.state < 2))).length

/-- TIME_CAPTURE (R115, R116, R121): offsets are less the launch ST. A completed capture gives way to a fifth (R624). -/
def bodyTimeCapture (r : Req) (s : State) : Ans :=
  let b := r.body
  .table s
    [ row (!r.timed && r.launch == 0) stParam
    , paramRow [outside (u8 b 5) 0 15 5, rz b 6 2, outside (u32 b 8) 0 50000 8, outside (u32 b 12) 1 100000 12,
        (decide (100000 < u32 b 8 + u32 b 12), 12)]
    , row (decide (4 ≤ s.capturesBusy)) stBusy ]
    (fun s =>
      let c : Capture := { id := u32 b 0, state := 1, contents := u8 b 5, mask := u8 b 4, launch := r.launch
                           pre := u32 b 8 * 1000, post := u32 b 12 * 1000, bytes := [], truncated := false }
      let old := if s.captures.length < 4 then s.captures
        else match s.captures.find? (·.state == 2) with
          | some x => s.captures.erase x
          | none => s.captures
      .ok { s with captures := old ++ [c] })

/-- Record size of a capture section (R243, R244, R624). -/
def capSize (kind : Nat) : Nat := if kind ≤ 1 then 32 else 16

/-- Is a section selected by the contents byte (R121, R624)? -/
def capWanted (contents kind : Nat) : Bool := bit contents (if kind ≤ 1 then 0 else kind - 1)

/-- The bytes of a capture (R624); `first` is the ST shown when it holds no record. -/
def captureBytes (c : Capture) (log : List CapRec) (first : Nat) : Bytes × Bool :=
  let mine := log.filter (fun r => decide (c.launch - c.pre ≤ r.stamp) && decide (r.stamp < c.launch + c.post) &&
    bit c.mask r.group && capWanted c.contents r.kind)
  let sections := (List.range 5).map (fun k => mine.filter (·.kind == k))
  let room := fun (done : Nat) (k : Nat) (l : List CapRec) => l.take ((25165824 - 80 - done) / capSize k)
  let kept := (sections.zipIdx.foldl (fun (a : Nat × List (List CapRec)) x =>
    let l := room a.1 x.2 x.1
    (a.1 + l.length * capSize x.2, a.2 ++ [l])) (0, [])).2
  let cut := decide ((kept.map (·.length)).sum < mine.length)
  let start := match minBy (·.stamp) mine with | some r => r.stamp | none => first
  (le 4 c.id ++ le 1 2 ++ le 1 (b01 cut) ++ le 1 c.contents ++ le 1 c.mask ++ le 8 c.launch ++ le 8 start ++
    le 8 (c.launch + c.post) ++ (kept.zipIdx.flatMap (fun x => le 1 x.2 ++ [0] ++ le 2 (capSize x.2) ++ le 4 x.1.length)) ++
    List.replicate 8 0 ++ kept.flatten.flatMap (·.bytes), cut)

/-- Captures whose post-launch length is over complete (R115). Their end is anchored to the launch's ST, so a clock step does
not move it: DESIGN CHOICE (entry 235). -/
def State.captureDone (s : State) : State :=
  if s.paused || s.captures.all (fun c => c.state != 1 || decide (s.st < c.launch + c.post)) then s
  else
  let due := fun (c : Capture) => c.state == 1 && decide (c.launch + c.post ≤ s.st)
  let (n, s) := s.free
  let ids := (s.captures.filter due).map (·.id)
  let s := { s with captures := s.captures.map (fun (c : Capture) =>
    if due c then
      let (b, cut) := captureBytes c s.capLog (n % 2 ^ 64)
      { c with state := 2, bytes := b, truncated := cut }
    else c) }
  ids.foldl (fun s i => s.raise .captureDone i) s

def execCaptureDone (s : State) : Host.Outcome State Fault Refusal := live s (·.captureDone)

/-! ### The tick (R72, R88) -/

/-- The next tick: the servo's phase part removes the offset at 1/2 s, held at 100 us per s; the whole trim stays within
500 ppm (R72, R88). -/
def State.tick (s : State) : State :=
  let c := s.clk
  let p : Int := clampI (-1073741) 1073741 (c.resid.tdiv 800000000)
  let p := if s.time.quality = .locked then p else 0
  let t := clampI (-5368709) 5368709 (c.freq + p)
  let i := (10737418240 + t).toNat
  { s with clk := { c with fix := c.fix + i, incr := i, resid := c.resid - p, dev := c.dev + t } }

end Sys2Proof.Machine
end

