-- ==== Sys2Proof/Machine/Twin.lean ====
section
/-! DEFINITION. Twin redundancy: image, lease, states, self-diagnosis, handover, drills, cross-compare, and the site-master
lease (R489 to R528). -/

namespace Sys2Proof.Machine

/-- Update the twin state. -/
def State.modTwin (s : State) (f : Twin → Twin) : State := { s with twin := f s.twin }

/-- Is this device of a pair without the twin lease? -/
def State.isOther (s : State) : Bool := s.paired && s.twin.state != .active

/-- The ST of an elapsed time (R79). -/
def State.stOf (s : State) (t : Int) : Nat := (t + s.clk.moved).toNat

/-- The elapsed time of an ST (R79). -/
def State.elOf (s : State) (t : Nat) : Int := (t : Int) - s.clk.moved

/-! ### Renewals (R501 to R503, R520, R527) -/

/-- The 32-byte payload of TWIN_STATUS kinds 1 and 2 (R527). -/
def State.renewalBytes (s : State) (kind gen : Nat) (end_ : Int) : Bytes :=
  le 8 s.st ++ le 1 kind ++ le 1 s.strap.siteId ++ le 1 (if s.paired then b01 s.strap.twinB else 2) ++
  le 1 (b01 s.twin.leaseOut + 2 * b01 (!s.twin.diagFail) + 4 * b01 (s.twin.partner == .standby) + 8 * b01 s.posHolds) ++
  le 4 gen ++ le 8 (s.stOf end_) ++ le 8 0

/-- Send a frame on the hinge link when it is up (R494, R495). -/
def State.hingeSend (s : State) (k : HingeKind) (figs : List Int) (data : Bytes := []) : State :=
  if s.twin.hinge then s.emit (.hinge k figs data) else s

/-- Renew the site-master lease: 2 ms from now, to every device of the site table (R520). -/
def State.masterRenew (s : State) : State :=
  let e := s.el + 2000000
  let s := { s with master := { s.master with leaseEnd := e, renewedAt := some s.el } }
  (s.originate 0x0B02 false false (s.renewalBytes 2 s.master.gen e) (fun _ => true)).2

/-- Renew the twin lease on every path; a holding pair renews the site-master lease with it (R501, R520). -/
def State.twinRenew (s : State) : State :=
  let e := s.el + 2000000
  let s := s.modTwin (fun t => { t with leaseEnd := some e, renewedAt := s.el })
  let b := s.renewalBytes 1 s.twin.gen e
  let s := s.hingeSend .renewal [] b
  let s := (s.originate 0x0B02 false false b (fun p => p.site == s.strap.siteId)).2
  if s.mastering && s.contends then s.masterRenew else s

/-- The holder renews every 500 us (R501), but not in the device-fault state (R36). -/
def execLeaseRenewal (s : State) : Host.Outcome State Fault Refusal :=
  live s (fun s => whenDo (s.isActive && s.holdsTwin && s.sys.fault.isNone && decide (s.twin.renewedAt + 500000 ≤ s.el) &&
    (match s.twin.leaseEnd with | some e => decide (s.el < e) | none => true)) (·.twinRenew) s)

/-- A twin renewal of the partner arrives on any path (R503, R505, R507). -/
def State.twinRenewal (s : State) (b : Bytes) : State :=
  if !s.paired || u8 b 9 != s.strap.siteId || u8 b 10 == b01 s.strap.twinB || u8 b 8 != 1 then s
  else
    let e := s.elOf (u64 b 16)
    let s := s.modTwin (fun t => { t with
      seenEnd := some (match t.seenEnd with | some x => max x e | none => e)
      partnerGen := u32 b 12, partner := .active, partition := false, posMaster := bit (u8 b 11) 3
      gen := if t.state = .active then t.gen else u32 b 12
      renewedInCarry := t.renewedInCarry || t.state == .carry })
    if s.twin.state = .waiting then s.twinEnter .syncing else s

def execLeaseRenewalReceive (b : Bytes) (s : State) : Host.Outcome State Fault Refusal :=
  live s (fun s => whenDo (b.length == 32) (·.twinRenewal b) s)

/-- A holder whose ST reaches its lease end without a renewal releases (R502). -/
def execLeaseExpiry (s : State) : Host.Outcome State Fault Refusal :=
  live s (fun s => whenDo (s.isActive && (match s.twin.leaseEnd with | some e => decide (e ≤ s.el) | none => false)) (·.release) s)

/-! ### Site-master lease (R520 to R523) -/

/-- This device takes the site-master lease (R521, R522). -/
def State.masterTake (s : State) (from_ : State → State) : State :=
  let s := { s with master := { s.master with held := true, gen := (s.master.gen + 1) % 2 ^ 32, conflict := false } }
  from_ ((s.raise .siteMasterTaken).masterRenew)

/-- A holder renews every 500 us from its take (R520), but not in the device-fault state (R36), nor once it no longer contends
(R6, R66; DEDUCED, entry 237). -/
def execSiteMasterRenewal (s : State) : Host.Outcome State Fault Refusal :=
  live s (fun s => whenDo (s.mastering && s.contends && s.holdsTwin && s.sys.fault.isNone && (match s.master.renewedAt with | some t => decide (t + 500000 ≤ s.el) | none => true))
    (·.masterRenew) s)

/-- A site-master renewal arrives (R520, R523); the latest lease end received counts (R521). -/
def State.masterRenewal (s : State) (b : Bytes) : State :=
  let site := u8 b 9
  let e := s.elOf (u64 b 16)
  let last := match s.master.holderEnd with | some x => decide (x ≤ e) | none => true
  if u8 b 8 != 2 then s
  else if s.mastering then
    if site < s.strap.siteId && s.el < e then
      ({ s with master := { s.master with held := false, conflict := true, holder := some site, holderEnd := some e
                                          gen := max s.master.gen (u32 b 12) } }).raise .siteMasterConflict
    else s
  else
    let s := if site = s.strap.siteId then s.modTwin (fun t => { t with posMaster := true }) else s.modTwin (fun t => { t with posMaster := false })
    { s with master := { s.master with
      held := false, holder := if last then some site else s.master.holder, holderEnd := if last then some e else s.master.holderEnd
      gen := max s.master.gen (u32 b 12) } }

/-- A renewal comes as TWIN_STATUS kind 2, a CCP packet that does more than read: in the device-fault state it is lost, or
refused without effect (R520, R793). -/
def execSiteMasterRenewalReceive (b : Bytes) (s : State) : Host.Outcome State Fault Refusal :=
  live s (fun s => whenDo (b.length == 32 && s.sys.fault.isNone) (·.masterRenewal b) s)

/-- A candidate that knows no current holder takes the lease after its wait (R6, R66, R521). Of a pair only the holder of
the twin lease does (entry 111). -/
def State.masterWait (s : State) : State :=
  let l : Int := match s.master.holderEnd with | some e => e | none => s.elOf s.sys.readySt
  if s.sys.ready && s.contends && s.holdsTwin && s.sys.fault.isNone && !s.mastering && s.masterSite.isNone &&
      decide (l + 1200000 + s.strap.siteId * 1000000 ≤ s.el) then
    s.masterTake (·.allocTake)
  else s

def execSiteMasterTaken (s : State) : Host.Outcome State Fault Refusal := live s (·.masterWait)

/-! ### Taking the lease (R503 to R505, R507) -/

/-- At a take the device selects from its own list and keeps its ST: a locked source that it changes to is followed by slew,
whatever its offset (R83). -/
def State.ownSources (s : State) : State :=
  match s.bestSource with
  | some j => if s.selCode = some j then s.reselect
    else (s.modTime (fun x => { x with slewRef := some (j, s.lastOff j * 2 ^ 32 + s.clk.dev) })).reselect
  | none => s.reselect

/-- A take (R504, R508): LEASE_OUT, generation, first renewal, own time sources by slew, site-master lease of the position,
ACTIVE, storage set-points, LEASE_TAKEN. -/
def State.twinTake (s : State) : State :=
  let was := s.twin.state
  let s := s.modTwin (fun t => { t with
    leaseOut := true, gen := (t.gen + 1) % 2 ^ 32, takeSt := s.st, handover := none, drillHold := none, released := false, waitFrom := none
    carryLow := false, selfTest := none, goodImages := 0, lateRun := 0, mismatchRun := 0, mismatchAt := [], partnerRun := 0
    timeMsgAt := none })
  let s := (s.twinEnter .active).twinRenew
  let s := withSel (·.ownSources) s
  let s := if s.twin.posMaster && !s.mastering && s.contends then s.masterTake id else s
  let s := if was = .carry then s else s.swApplyAll false
  let s := forFin 4 s (fun s f => if s.feederKind f = 2 then s.sendStore f else s)
  s.raise .leaseTaken

/-- The latest lease end that a non-holder counts from: received, or the wait after ready of a WAITING device (R503,
R505). -/
def State.waitEnd (s : State) : Option Int :=
  match s.twin.state with
  | .carry | .syncing => s.twin.seenEnd
  | .waiting => s.twin.waitFrom
  | _ => none

/-- Do the twins' role sets differ, as far as known (R68)? -/
def State.rolesDiffer (s : State) : Bool := match s.twin.partnerSet with | some x => x.2 != s.roles | none => false

/-- The taker's step 5 of a planned handover (R513): it takes the lease without R503; of a drill it then holds it for the
drill hold, or ends the drill (R515). -/
def State.handoverTake (s : State) (drill : Nat) : State :=
  let hold := s.twin.drillHold
  let s := s.twinTake
  match drill with
  | 1 => s.modTwin (fun t => { t with drillHold := some (s.el + 1000000 * u16 ((s.nv.cfg.twin).getD []) 8, true) })
  | 2 => s.drillEnd (match hold with | some x => x.2 | none => true)
  | _ => s

/-- Has a taker of a planned handover, past Q + 1 us, its step 5 to do (R513)? The drill's number is told. -/
def State.handoverDue (s : State) : Option Nat :=
  match s.twin.handover with
  | some h => if !h.giver && h.accepted && s.twin.state == .standby && !s.twin.leaseIn && decide (h.q0 + 33000 ≤ s.st) then some h.drill else none
  | none => none

/-- A non-holder takes the lease once the lease end plus guard passes; with LEASE_IN asserted it raises TWIN_PARTITION once
(R503, R68). A taker takes it at step 5 of a planned handover (R513). -/
def State.leaseWait (s : State) : State :=
  match s.handoverDue, s.waitEnd with
  | some d, _ => if !s.paired || s.rolesDiffer || s.sys.fault.isSome || !s.sys.ready then s else s.handoverTake d
  | none, none => s
  | none, some l =>
    if !s.paired || s.el < l + 200000 || s.rolesDiffer || s.sys.fault.isSome || !s.sys.ready then s
    else if s.twin.leaseIn then
      if s.twin.partition then s else (s.modTwin (fun t => { t with partition := true })).raise .twinPartition
    else s.twinTake

def execLeaseTaken (s : State) : Host.Outcome State Fault Refusal := live s (·.leaseWait)

/-- Is a taker's accepted handover at its Q, from 5 ns before it on its own ST (R80) to the giver's check (R513; entry
268)? -/
def State.handoverNow (s : State) : Bool :=
  match s.twin.handover with
  | some h => !h.giver && h.accepted && decide (h.q0 + 32000 ≤ s.st + 5) && decide (s.st < h.q0 + 34000)
  | none => false

/-- LEASE_IN rises or falls (R507, R524). The fall at Q of a planned handover is the taker's, who acts at Q + 1 us (R513). -/
def State.leaseInMoves (s : State) (level : Bool) : State :=
  let was := s.twin.leaseIn
  let s := s.modTwin (fun t => { t with leaseIn := level })
  if !s.paired || was == level then s
  else if level then
    if s.twin.leaseOut then
      let s := s.raise .twinDualAssert
      if s.twin.gen < s.twin.partnerGen || (s.twin.gen = s.twin.partnerGen && s.strap.twinB) then s.release else s
    else if s.twin.state = .carry then
      let s := if s.twin.renewedInCarry then s.raise .twinWireFault else s
      ((s.modTwin (fun t => { t with partition := false, carryLow := false })).swAllOff).twinEnter .standby
    else s
  else
    let s := s.modTwin (fun t => { t with partition := false })
    if s.twin.state == .standby && s.handoverNow then s
    else match s.twin.state with
    | .standby =>
      (((s.modTwin (fun t => { t with renewedInCarry := false, carryLow := false })).drillBroken).twinEnter .carry).swApplyAll false
    | .syncing =>
      (((s.modTwin (fun t => { t with renewedInCarry := false, carryLow := true })).drillBroken).twinEnter .carry).swApplyAll false
    | _ => s

/-- Compare what the partner last told with the own configuration and role set (R68, R526): a difference is raised when it
begins; a STANDBY falls back to SYNCING (R507). -/
def State.twinRecheck (s : State) : State :=
  if !s.paired then s
  else
  let c := match s.twin.partnerSet with | some x => x.1 != s.cfgCrc | none => false
  let r := match s.twin.partnerSet with | some x => x.2 != s.roles | none => false
  let s := if c && !s.twin.cfgMismatch then s.raise .twinConfigMismatch else s
  let s := if r && !s.twin.roleMismatch then s.raise .twinRoleMismatch else s
  let s := s.modTwin (fun t => { t with cfgMismatch := c, roleMismatch := r })
  if (c || r) && s.twin.state == .standby then (s.modTwin (fun t => { t with goodImages := 0 })).twinEnter .syncing else s

/-- LEASE_IN rises or falls; a device that so becomes STANDBY with differing role sets or configurations falls back to SYNCING
(R68, R507). -/
def State.leaseInChange (s : State) (level : Bool) : State :=
  let t := s.leaseInMoves level
  if s.twin.state = .carry && t.twin.state = .standby then t.twinRecheck else t

def execLeaseInChange (level : Bool) (s : State) : Host.Outcome State Fault Refusal := live s (·.leaseInChange level)

/-! ### Hinge link (R494, R495) -/

/-- The partner's configuration CRC and role set arrive, in a report or an image (R68, R497). -/
def State.twinCompare (s : State) (crc roles : Nat) : State :=
  (s.modTwin (fun t => { t with partnerSet := some (crc, roles) })).twinRecheck

/-- A handover is abandoned at the giver (R513, R514); of a drill that ends the drill (R515). -/
def State.handoverFail (s : State) : State := (s.raise .twinHandoverFail).drillBroken

/-- The active marks its partner UNFIT, which enters it on this report (R514). -/
def State.markUnfit (s : State) : State :=
  (s.modTwin (fun t => { t with partner := .unfit })).hingeSend .report [(s.twin.state.code : Int), s.cfgCrc, s.roles, 1]

/-- A taker refused or stayed silent (R513): in a drill it is the device that failed, and is left UNFIT (R507, R515; entry
266). -/
def State.handoverRefused (s : State) : State :=
  match s.twin.handover with
  | some h => if h.drill = 0 then s.handoverFail else s.markUnfit.handoverFail
  | none => s

/-- Lanes in service (R525). -/
def State.hingeLanes (s : State) : Nat := s.twin.lanes.toList.countP (·.up)

/-- The hinge link comes up with a mask of trained lanes, 100 valid frames having arrived (R494). -/
def State.hingeUp (s : State) (mask : Nat) : State :=
  if popcount 4 mask < 2 || !s.paired then s
  else
    let s := s.modTwin (fun t => { t with
      lanes := Vector.ofFn (fun (i : Fin 4) => ({ up := bit mask i.val, trainedAt := s.el } : HingeLane)), hingeAt := some s.el })
    if s.twin.hinge then s else ((s.modTwin (fun t => { t with hinge := true, heard := false, knownOrder := 0, partnerRun := 0 })).raise .hingeUp).srcInit false

def execHingeUp (mask : Nat) (s : State) : Host.Outcome State Fault Refusal := live s (·.hingeUp mask)

/-- The hinge link goes down with fewer than 2 lanes in service, or 50 us after the last valid frame; `mask` gives the lanes still in
service (R494, R507, R514). -/
def State.hingeDown (s : State) (mask : Nat) : State :=
  let s := s.modTwin (fun t => { t with
    lanes := Vector.ofFn (fun (i : Fin 4) => ({ t.lanes[i] with up := t.lanes[i].up && bit mask i.val } : HingeLane)) })
  let quiet := match s.twin.hingeAt with | some t => decide (t + 50000 ≤ s.el) | none => true
  if !s.twin.hinge || (!quiet && 2 ≤ s.hingeLanes) then s
  else
    let s := (s.modTwin (fun t => { t with hinge := false })).raise .hingeDown
    let s := (s.sourceLost 3).srcInit false
    let s := match s.twin.handover with
      | some h => if h.giver && h.switched then s else if h.giver then s.handoverFail else s.drillBroken
      | none => if s.isActive then s else s.drillBroken
    if s.twin.state = .standby then (s.modTwin (fun t => { t with goodImages := 0 })).twinEnter .syncing else s

def execHingeDown (mask : Nat) (s : State) : Host.Outcome State Fault Refusal := live s (·.hingeDown mask)

/-- A lane out of service retrains every 10 ms (R494). -/
def State.laneRetrain (s : State) (n : Fin 4) (ok : Bool) : State :=
  let x := s.twin.lanes[n]
  if x.up || s.el < x.trainedAt + 10000000 then s
  else s.modTwin (fun t => { t with lanes := t.lanes.set n { up := ok, trainedAt := s.el } })

def execHingeLaneRetrain (n : Fin 4) (ok : Bool) (s : State) : Host.Outcome State Fault Refusal := live s (·.laneRetrain n ok)

/-- The holder sends a time message every 100 us; the partner takes its offset as source 3 (R80, R495). -/
def State.timeMessage (s : State) (off : Int) : State :=
  if !s.paired || !s.twin.hinge then s
  else if s.twin.state = .active then
    if s.holdsTwin && (match s.twin.timeMsgAt with | some t => decide (t + 100000 ≤ s.el) | none => true) then
      (s.modTwin (fun t => { t with timeMsgAt := some s.el })).hingeSend .time [s.st]
    else s
  else (s.modTwin (fun t => { t with hingeAt := some s.el })).sourceOffset 3 off

def execHingeTimeMessage (off : Int) (s : State) : Host.Outcome State Fault Refusal := live s (·.timeMessage off)

/-- The shared counter is stored once per second (R500). -/
def execSharedSeqStore (s : State) : Host.Outcome State Fault Refusal :=
  live s (fun s => { s with nv := { s.nv with seqStored := s.seqCtr } })

/-! ### State image (R496 to R499, R517) -/

/-- Count and CRC-32C of the pending launch sequences (R497). -/
def State.launchDigest (s : State) : Nat × Nat :=
  (s.launches.length, crc32c (s.launches.flatMap (fun l => le 4 l.req.seq)))

/-- A commanded switch state as a number. -/
def SwCmd.num : SwCmd → Int
  | .off => 0 | .on => 1 | .pwm d => 2 + d

/-- The compare set (R498): what the hash is taken over. -/
def State.compareSet (s : State) : List Int :=
  (List.finRange 8).flatMap (fun (g : Fin 8) =>
    let l := s.groups[g].loop
    ((s.gState g).code : Int) :: (if s.groups[g].pwm.running then
      [l.iref, l.xv, l.xc, l.pos, l.vel, l.acc, l.target] ++ (s.gSlots g).map (fun n => (vget s.slots n {}).trim) else [])) ++
  (List.finRange 8).flatMap (fun (p : Fin 8) => [(s.ports[p].state.code : Int), s.ports[p].itgt, s.ports[p].alloc]) ++
  (List.finRange 4).map (fun (f : Fin 4) => s.alloc.feeders[f].target) ++
  [(s.launchDigest.1 : Int), s.launchDigest.2] ++ s.sws.toList.map (fun c => c.cmd.num)

/-- The hash of the compare set (R517): its CRC-32C over an encoding that no chapter gives (entry 70). -/
def State.ownHashNow (s : State) : Nat := Config.compareHash s.compareSet % 2 ^ 32

/-- A whole packet of a launch, as the launch section carries it (R497, R593). -/
def Launch.packet (l : Launch) : Bytes :=
  withCrc (ccpHeader l.req.flags l.req.code l.req.seq (8 + l.req.body.length) l.req.target ++ le 8 l.req.launch ++ l.req.body)

/-- The launch section: as many launches as 2048 bytes hold (R497, R499). -/
def launchSection : Nat → List Launch → List Launch
  | _, [] => []
  | room, l :: ls => if l.packet.length ≤ room then l :: launchSection (room - l.packet.length) ls else []

/-- The launches that the standby may lack: none while its last report shows a hash, and with it a launch digest, that agrees with
the own; else those accepted after the last agreement (R497, R499; DEDUCED, entry 184). -/
def State.launchesLacking (s : State) : List Launch :=
  if 0 < s.twin.partnerRun then [] else s.launches.filter (fun l => !l.trailing && decide (s.twin.knownOrder ≤ l.order))

/-- The launch section of this cycle: those that had no place in the cycles before come first (R499). -/
def State.launchesSent (s : State) : List Launch :=
  launchSection 2048 (match s.launchesLacking.filter (fun l => decide (s.twin.sentOrder ≤ l.order)) with
    | [] => s.launchesLacking
    | l => l)

/-- The frames of the image that the holder sends (R495 to R497): header, groups, ports, cooling loops, allocation, launch section, other,
and the image end with the hash. Elapsed times in it are in the sender's count (entry 110). -/
def State.imageFrames (s : State) (c h : Nat) (sec : List Launch) : List ImageMsg :=
  let d := s.launchDigest
  [ .segment (.header c s.st s.twin.gen s.seqCtr s.cfgCrc s.roles s.time.quality h d.1 d.2)
  , .segment (.groups s.groups s.slots s.nv.cfg.pwm), .segment (.ports s.ports), .segment (.cools s.cools), .segment (.alloc s.alloc)
  , .segment (.launches (sec.map (·.req))), .segment (.other (s.sws.map (·.cmd)) s.twin.clsfNew s.twin.flNew), .fin c h ]

/-- At 2 us into an outer cycle the pair forms its hash, and the holder captures and sends the image (R496, R497). -/
def State.imageCapture (s : State) : State :=
  let c := s.st / 50000
  if s.st % 50000 < 2000 || s.twin.captured = some c then s
  else
    let recs := ((List.finRange 8).filter (fun g => s.gState g != .off)).map (fun g => (g.val, s.faultRec g 0 0 0 0 0xFF 0xFF 3))
    let s := s.modTwin (fun t => { t with captured := some c, imgRecs := recs })
    if !s.paired then s
    else
    let h := s.ownHashNow
    let s := s.modTwin (fun t => { t with ownHash := some (c, h), hashOrder := s.launchCount, seqAt := s.seqCtr })
    if s.twin.state = .active then
      let sec := s.launchesSent
      let s := s.modTwin (fun t => { t with sentOrder := match sec.getLast? with | some l => l.order + 1 | none => t.sentOrder })
      let t := if s.twin.hinge then (s.imageFrames c h sec).foldl (fun s m => s.emit (.image m)) s else s
      t.modTwin (fun t => { t with clsfNew := [], flNew := [] })
    else s

def execImageCapture (s : State) : Host.Outcome State Fault Refusal := live s (·.imageCapture)

/-- One segment of an image: a header begins a new one (R496, R497). -/
def Image.take (i : Image) : ImagePart → Image
  | .header cycle _ gen seq crc roles _ _ _ _ => { cycle := cycle, gen := gen, seq := seq, cfgCrc := crc, roles := roles }
  | .groups g x sh => { i with groups := some (g, x), groupSh := some sh }
  | .ports p => { i with ports := some p }
  | .cools c => { i with cools := some c }
  | .alloc a => { i with alloc := some a }
  | .launches l => { i with launches := i.launches ++ l }
  | .other w c f => { i with sw := some w, clsf := c, flSent := f }

/-- A frame of an image arrives; the image end says which hash (R496). -/
def State.imageFrame (s : State) (m : ImageMsg) : State :=
  if !s.isOther || !s.twin.hinge then s
  else
    let s := s.modTwin (fun t => { t with hingeAt := some s.el })
    match m with
    | .segment p => { s with image := s.image.take p }
    | .fin c h => if s.st < c * 50000 + 30000 then s.modTwin (fun t => { t with gotEnd := some (c, h) }) else s

def execImageFrameReceive (m : ImageMsg) (s : State) : Host.Outcome State Fault Refusal := live s (·.imageFrame m)

/-- The holder has sent or dropped the feeder-link frame of a CCP sequence, under a frame sequence (R497, R583). -/
def State.flRemoteSent (s : State) (ccp seq : Nat) : State :=
  match s.flink.queue.find? (fun f => f.ccp == ccp) with
  | none => s
  | some f => { s with flink := { s.flink with
      queue := s.flink.queue.erase f
      peers := s.flink.peers.map (fun (p : Peer) => if p.addr = f.dest then { p with nextSeq := (seq + 1) % 2 ^ 32 } else p) } }

/-- Do two packets come from the same origin: either twin of a position counts as the position (R500, R518)? -/
def Sender.same : Sender → Sender → Bool
  | .position a _, .position b _ => a == b
  | x, y => x == y

/-- Does the device hold, or has it carried out, the launch of a packet (R499)? -/
def State.hasLaunch (s : State) (r : Req) : Bool :=
  s.launches.any (fun l => l.req.seq == r.seq && l.req.sender.same r.sender) ||
  s.ccp.executed.any (fun x => x.2 == r.seq && x.1.same r.sender)

/-- The port part of an image: its compare set, state, allocated and current target, stays the standby's own while the hashes
match (R498), as do the peak and mean values of the own lanes. -/
def Port.adopt (own img : Port) : Port :=
  { img with
    state := own.state, itgt := own.itgt, alloc := own.alloc, vcable := own.vcable
    pSum := own.pSum, pCount := own.pCount, pMean := own.pMean, vSum := own.vSum, vMean := own.vMean }

/-- An epoch issued, as the pair knows it: acknowledgements and decisions of either device (R159). -/
def Issued.merge (a b : Issued) : Issued :=
  { a with
    acked := (a.acked ++ b.acked).eraseDups, released := a.released || b.released, withheld := a.withheld || b.withheld }

/-- The allocation part of an image captured before `now` (R498): what packets and own readings have given the standby since
stands, so that every move is carried out exactly once (R159, R162); targets in force are of the compare set. -/
def Alloc.adopt (own img : Alloc) (now : Nat) : Alloc :=
  let newer := fun (e : Nat) => match img.lastEpoch with | some k => decide (k < e) | none => true
  { img with
    lastEpoch := match own.lastEpoch, img.lastEpoch with | some a, some b => some (max a b) | some a, none => some a | none, o => o
    received := (img.received ++ own.received.filter newer).eraseDups
    trailing :=
      (img.trailing.filter (fun t => decide (now < t.at_) || own.trailing.any (fun o => o.epoch == t.epoch))).map (fun t =>
        { t with released := t.released || own.trailing.any (fun o => o.epoch == t.epoch && o.fallback == t.fallback && o.released) }) ++
      own.trailing.filter (fun t => newer t.epoch && !img.trailing.any (fun o => o.epoch == t.epoch))
    issued :=
      own.issued.filter (fun x => !img.issued.any (fun y => y.epoch == x.epoch) && decide (img.ran.getD 0 < x.epoch)) ++
      img.issued.map (fun y => match own.issued.find? (fun x => x.epoch == y.epoch) with | some x => y.merge x | none => y)
    ran := match own.ran, img.ran with | some a, some b => some (max a b) | some a, none => some a | none, o => o
    limits := own.limits, policyWas := own.policyWas, feedersWas := own.feedersWas, tableBad := own.tableBad
    policyBad := own.policyBad, reports := own.reports, reported := own.reported, sumEpoch := own.sumEpoch
    feeders := Vector.ofFn (fun (k : Fin 4) =>
      { own.feeders[k] with seq := img.feeders[k].seq, sentAt := img.feeders[k].sentAt }) }

/-- What the standby writes at every deadline: ports, allocation and other parts, the cooling models, retry stamps and stop
data, the shared counter with what the pair has sent since the capture, launches that it lacks (R378, R498 to R500). Commanded switch-channel states are of the compare set. -/
def State.imageAdopt (s : State) : State :=
  let i := s.image
  let s := match i.ports with
    | some p => { s with ports := Vector.ofFn (fun (k : Fin 8) => s.ports[k].adopt p[k]) }
    | none => s
  let s := match i.alloc with | some a => { s with alloc := s.alloc.adopt a s.st } | none => s
  let s := match i.cools with
    | some cs => { s with cools := Vector.ofFn (fun (k : Fin 8) => s.cools[k].adopt cs[k]) }
    | none => s
  let s := match i.groups with
    | some (g, _) => { s with groups := Vector.ofFn (fun (k : Fin 8) =>
        { s.groups[k] with prot := { s.groups[k].prot with retries := g[k].prot.retries, stop := g[k].prot.stop } }) }
    | none => s
  let s := i.clsf.foldl (fun s x => s.classify x.1 x.2.1 x.2.2 (x.2.1 == 0x01 || x.2.1 == 0x02)) s
  let s := i.flSent.foldl (fun s x => s.flRemoteSent x.1 x.2) s
  let s := { s with seqCtr := (i.seq + (s.seqCtr + 2 ^ 32 - s.twin.seqAt) % 2 ^ 32) % 2 ^ 32 }
  let s := i.launches.foldl (fun s r =>
    if s.hasLaunch r || decide (256 ≤ s.launches.length) then s
    else s.pushLaunch r) s
  { s with image := { i with launches := [], clsf := [], flSent := [] } }

/-- The compare set of ports, allocation and switch channels takes the image's values (R498). -/
def State.imageCompared (s : State) : State :=
  let i := s.image
  let s := match i.ports with
    | some p => { s with ports := Vector.ofFn (fun (k : Fin 8) =>
        { s.ports[k] with state := p[k].state, itgt := p[k].itgt, alloc := p[k].alloc }) }
    | none => s
  let s := match i.alloc with
    | some a => { s with alloc := { s.alloc with
        feeders := Vector.ofFn (fun (k : Fin 4) => { s.alloc.feeders[k] with target := a.feeders[k].target, epoch := a.feeders[k].epoch }) } }
    | none => s
  match i.sw with
  | some w => { s with sws := Vector.ofFn (fun (k : Fin 24) => { s.sws[k] with cmd := w[k] }) }
  | none => s

/-- What it replaces beside when the hash does not match: the compare set, timebases with their slots in the interleave, and
inner integrators (R498); a group that the image shows stopped has its outputs low (R172). Records of groups whose state the active does not share are not written (R263). -/
def State.imageReplace (s : State) : State :=
  let s := s.imageCompared
  match s.image.groups with
  | none => s
  | some (g, x) =>
    let s := s.recordFlush (fun k => s.gState k == g[k].prot.state)
    let s : State := { s with
      nv := { s.nv with cfg := { s.nv.cfg with pwm := s.image.groupSh.getD s.nv.cfg.pwm } }
      groups := Vector.ofFn (fun (k : Fin 8) =>
        let a := s.groups[k]
        let b := g[k]
        { pwm := { b.pwm with test := a.pwm.test, loadCnt := a.pwm.loadCnt, heldCnt := a.pwm.heldCnt, tripCnt := a.pwm.tripCnt
                              dtCnt := a.pwm.dtCnt, refHi := a.pwm.refHi }
          loop := { a.loop with
            current := b.loop.current, target := b.loop.target, limit := b.loop.limit, pos := b.loop.pos, vel := b.loop.vel
            acc := b.loop.acc, atTarget := b.loop.atTarget, xv := b.loop.xv, xc := b.loop.xc, iref := b.loop.iref
            vsel := b.loop.vsel, n := b.loop.n, sat := b.loop.sat }
          prot := { b.prot with permit := a.prot.permit, history := a.prot.history, lag := a.prot.lag } })
      slots := Vector.ofFn (fun (k : Fin 48) =>
        { s.slots[k] with
          suspended := x[k].suspended, burst := x[k].burst, burstAt := x[k].burstAt
          shadow := x[k].shadow, force := x[k].force, vals := x[k].vals, armed := x[k].armed, start := x[k].start
          len := x[k].len, trans := x[k].trans, trim := x[k].trim, integ := x[k].integ }) }
    forFin 8 s (fun s g => if s.groups[g].pwm.running then s
      else forNums (s.gSlots g) s (fun s n => s.modSlot n (fun y => y.bothLow s.fine)))

/-- Mismatched cycles of the standby: compare fault with its self-test, and UNFIT at 50 within 1 s (R517). -/
def State.mismatched (s : State) : State :=
  let at_ := s.el :: s.twin.mismatchAt.filter (fun t => decide (s.el < t + 1000000000))
  let s := s.modTwin (fun t => { t with
    mismatches := t.mismatches + 1, mismatchRun := t.mismatchRun + 1, mismatchAt := at_.take 50, goodImages := 0
    drillHold := t.drillHold.map (fun x => (x.1, false)) })
  if s.twin.state ≠ .standby then s
  else
    let s := if s.twin.mismatchRun % 3 = 0 then
        (s.modTwin (fun t => { t with selfTest := some s.el })).raise .twinCompareFault
      else s
    if 50 ≤ at_.length then s.twinEnter .unfit else s

/-- A late image is counted; three in a row take a STANDBY back to SYNCING (R507). -/
def State.imageLate (s : State) : State :=
  let s := s.modTwin (fun t => { t with lates := t.lates + 1, lateRun := t.lateRun + 1, goodImages := 0 })
  if s.twin.state = .standby && 3 ≤ s.twin.lateRun then s.twinEnter .syncing else s

/-- The image deadline of the running cycle at a non-holder (R496, R498, R507, R517), which in the device-fault state takes nothing from
an image, its groups being FAULTED (R36); it then sends its partner report. That a
WAITING device, which R506 lets transmit nothing, sends no report, though R495 has a non-holder send one each outer cycle, is
DESIGN CHOICE (entry 238). -/
def State.imageDeadline (s : State) : State :=
  let c := s.st / 50000
  if !s.isOther || s.st % 50000 < 30000 || s.twin.deadline = some c then s
  else
    let s := s.modTwin (fun t => { t with deadline := some c })
    let s := match s.twin.handover with | some h => if h.q0 + 34000 ≤ s.st then s.drillBroken else s | none => s
    let onTime := match s.twin.gotEnd with | some x => x.1 == c | none => false
    let s := if onTime && s.image.cycle == c then s.twinCompare s.image.cfgCrc s.image.roles else s
    let s :=
      if !(s.twin.state == .syncing || s.twin.state == .standby) || s.sys.fault.isSome then s
      else match s.twin.gotEnd with
      | some (k, h) =>
        if k ≠ c then s.imageLate
        else
          let s := s.modTwin (fun t => { t with lateRun := 0 })
          if s.twin.ownHash = some (c, h) then
            let s := (s.modTwin (fun t => { t with goodImages := t.goodImages + 1, mismatchRun := 0 })).imageAdopt.recordFlush (fun _ => true)
            if s.twin.state = .syncing && 200 ≤ s.twin.goodImages && !s.twin.cfgMismatch && !s.rolesDiffer then s.twinEnter .standby
            else s
          else s.mismatched.imageAdopt.imageReplace
      | none => s.imageLate
    if s.twin.state = .waiting then s
    else
      let h := match s.twin.ownHash with | some x => [(x.1 : Int), x.2] | none => []
      s.hingeSend .report ([(s.twin.state.code : Int), s.cfgCrc, s.roles, 0] ++ h)

def execImageDeadline (s : State) : Host.Outcome State Fault Refusal := live s (·.imageDeadline)

/-- The standby's self-test finishes (R517). -/
def State.twinSelfTest (s : State) (ok : Bool) : State :=
  if s.twin.selfTest.isNone then s
  else
    let s := s.modTwin (fun t => { t with selfTest := none })
    if !ok && (s.twin.state == .standby || s.twin.state == .syncing) then s.twinEnter .unfit else s

def execTwinSelfTestDone (ok : Bool) (s : State) : Host.Outcome State Fault Refusal := live s (·.twinSelfTest ok)

/-- A partner report arrives (R495, R514, R517). -/
def State.partnerReport (s : State) (r : PartnerReport) : State :=
  if !s.paired || !s.twin.hinge then s
  else
    let s := s.modTwin (fun t => { t with partner := r.state, heard := true, hingeAt := some s.el })
    let s := s.twinCompare r.cfgCrc r.roles
    let s := match r.hash, s.twin.ownHash with
      | some (c, h), some (k, o) =>
        if s.twin.state ≠ .active || c ≠ k then s
        else if h = o then s.modTwin (fun t => { t with partnerRun := min 3 (t.partnerRun + 1), knownOrder := t.hashOrder })
        else s.modTwin (fun t => { t with
          partnerRun := 0, mismatches := t.mismatches + 1, drillHold := t.drillHold.map (fun x => (x.1, false)) })
      | _, _ => s
    if r.unfit && (s.twin.state == .standby || s.twin.state == .syncing) then
      s.drillBroken.twinEnter .unfit
    else s

def execPartnerReportReceive (r : PartnerReport) (s : State) : Host.Outcome State Fault Refusal := live s (·.partnerReport r)

/-! ### Self-diagnosis (R510 to R512) -/

/-- A self-diagnosis check of the active fails or does not report (R511). -/
def State.diagFails (s : State) : State :=
  if !s.isActive then s
  else if s.twin.partner = .standby then s.release
  else
    let s := s.modTwin (fun t => { t with diagFail := true })
    (forFin 8 s (fun s g => s.modProt g (fun p => { p with permit := false }))).raise .selfDiagFail

def execSelfDiagFail (s : State) : Host.Outcome State Fault Refusal := live s (·.diagFails)

/-! ### Planned handover and drills (R513 to R516) -/

/-- The giver offers a handover at Q0 (R513). -/
def State.offerHandover (s : State) (q0 drill : Nat) : State :=
  (s.modTwin (fun t => { t with handover := some { giver := true, q0, accepted := false, switched := false, drill, at_ := s.el } })).hingeSend
    .offer [(q0 : Int), drill]

/-- The first outer cycle start at least 100 us from now (R513). -/
def State.nextQ0 (s : State) : Nat := (s.st + 100000 + 49999) / 50000 * 50000

/-- The taker receives an offer (R513): `drill` as the giver marks it (R515). -/
def State.handoverOffer (s : State) (q0 : Nat) (drill : Fin 3) : State :=
  let s := s.modTwin (fun t => { t with hingeAt := if t.hinge then some s.el else t.hingeAt })
  if !s.isOther || !s.twin.hinge then s
  else if s.twin.state = .standby && 3 ≤ s.twin.goodImages then
    (s.modTwin (fun t => { t with handover := some { giver := false, q0, accepted := true, switched := false, drill := drill } })).hingeSend .answer [1]
  else (if drill.val = 2 then s.drillBroken else s).hingeSend .answer [0]

def execHandoverOffer (q0 : Nat) (drill : Fin 3) (s : State) : Host.Outcome State Fault Refusal := live s (·.handoverOffer q0 drill)

/-- The giver receives the answer, within 10 us of its offer; a later one is silence (R77, R513). -/
def State.handoverAnswer (s : State) (yes : Bool) : State :=
  match s.twin.handover with
  | some h => if !h.giver || h.accepted then s
    else if yes && decide (s.el < h.at_ + 10000) then s.modTwin (fun t => { t with handover := some { h with accepted := true } })
    else s.handoverRefused
  | none => s

def execHandoverAnswerReceive (yes : Bool) (s : State) : Host.Outcome State Fault Refusal := live s (·.handoverAnswer yes)

/-- At Q the giver deasserts LEASE_OUT, once every launch due has executed; without an acceptance it abandons the handover
(R513, R524). -/
def State.handoverSwitch (s : State) : State :=
  match s.twin.handover with
  | some h =>
    if !h.giver || h.switched || !s.isActive || s.sys.fault.isSome || s.st < h.q0 + 32000 ||
        !s.dues.isEmpty then s
    else if h.accepted then (s.modTwin (fun t => { t with handover := some { h with switched := true } })).setLeaseOut false
    else s.handoverRefused
  | none => s

def execHandoverSwitch (s : State) : Host.Outcome State Fault Refusal := live s (·.handoverSwitch)

/-- The giver's step 6 (R513, R514). -/
def State.handoverCheck (s : State) : State :=
  match s.twin.handover with
  | some h =>
    if !h.giver || !h.switched || s.st < h.q0 + 34000 || s.sys.fault.isSome then s
    else if s.twin.leaseIn then
      let s := s.modTwin (fun t => { t with
        handover := none, drillDue := none, leaseEnd := none, seenEnd := t.leaseEnd, partner := .active, partnerRun := 0, goodImages := 0, lateRun := 0
        posMaster := s.mastering
        drillHold := if h.drill = 1 then some (s.el + 1000000 * u16 ((s.nv.cfg.twin).getD []) 8, true) else none })
      let s := { s with master := { s.master with
        held := false, holder := if s.mastering then some s.strap.siteId else s.master.holder
        holderEnd := if s.mastering then some s.master.leaseEnd else s.master.holderEnd } }
      ((s.swAllOff).twinEnter .standby).srcInit false
    else
      (s.setLeaseOut true).markUnfit.handoverFail
  | none => s

def execHandoverCheck (s : State) : Host.Outcome State Fault Refusal := live s (·.handoverCheck)

/-- Is a handover or a drill in progress (R525)? -/
def State.handingOver (s : State) : Bool := s.twin.handover.isSome || s.twin.drillHold.isSome

/-- Start a drill: a planned handover to the partner (R515). -/
def State.drillStart (s : State) : State :=
  (s.modTwin (fun t => { t with drillSt := s.st, drillDue := none })).offerHandover s.nextQ0 1

/-- Does a drill fall due in this tick: ST a whole multiple of the interval plus SITE_ID x interval / 16 (R515)? -/
def State.drillFalls (s : State) : Bool :=
  let i := u32 ((s.nv.cfg.twin).getD []) 4 * 1000000000
  let off := s.strap.siteId * i / 16
  i != 0 && decide (off ≤ s.st) && decide ((s.clk.fix - off * 2 ^ 32) % (i * 2 ^ 32) < 10742786949)

/-- A scheduled drill falls due, or is retried every 1 s for 60 s (R515, R516). -/
def State.drillTry (s : State) : State :=
  let t := s.twin
  let late := match t.drillDue with | some t0 => decide (t0 + 60000000000 ≤ s.el) | none => false
  if late then s.modTwin (fun t => { t with drillDue := none, failed := min 65535 (t.failed + 1) })
  else if !s.isActive || t.partner != .standby || t.drillsOff then s
  else
    let blocked := s.handingOver || (List.finRange 8).any (fun g => s.gState g == .precheck || s.gState g == .softstart)
    match t.drillDue with
    | none => if !s.drillFalls then s
        else if blocked then s.modTwin (fun t => { t with drillDue := some s.el }) else s.drillStart
    | some t0 =>
      if (s.el - t0) % 1000000000 < 3 && !blocked then s.drillStart
      else s

def execLeaseDrillStart (s : State) : Host.Outcome State Fault Refusal := live s (·.drillTry)

/-- The hold ends: the device that took the lease for the drill hands it back (R515). -/
def State.drillHoldEnd (s : State) : State :=
  match s.twin.drillHold with
  | some (t, _) =>
    if s.isActive && s.twin.handover.isNone && decide (t ≤ s.el) then (s.modTwin (fun x => { x with drillHold := none })).offerHandover s.nextQ0 2
    else s
  | none => s

def execLeaseDrillHoldEnd (s : State) : Host.Outcome State Fault Refusal := live s (·.drillHoldEnd)

/-! ### TWIN commands (R526 to R528) -/

/-- Has a group with slots a shadow dead time below 512 fine steps (R493)? -/
def State.deadTimesLow (s : State) : Bool :=
  (List.finRange 8).any (fun g => s.gMask g != 0 && (decide (s.shDtHL g < 512) || decide (s.shDtLH g < 512)))

/-- The field checks of TWIN_CONFIG (R526). -/
def State.twinFields (s : State) (b : Bytes) : List (Bool × Nat) :=
  let n := u8 b 1
  let o := fun (k : Nat) => 8 + 24 * k
  let clash : Nat → Bool := fun k => (List.range k).any (fun j =>
    (sub b (o j) 3 == sub b (o k) 3) ||
    (u8 b (o j + 2) == u8 b (o k + 2) && u16 b (o j + 4) == u16 b (o k + 4) && sub b (o j + 8) 16 == sub b (o k + 8) 16))
  match u8 b 0 with
  | 0 =>
    let i := u32 b 4
    [ outside n 0 1 1, outside (u8 b 2) 0 1 2, rz b 3 1, (i != 0 && (decide (i < 60) || decide (86400 < i)), 4)
    , outside (u16 b 8) 10 10000 8, (decide (identNum (u32 b 10) < 1) || bit (u32 b 10) 29 || bit (u32 b 10) 30, 10), rz b 14 18
    , (n == 1 && s.deadTimesLow, 1) ]
  | 1 =>
    [outside n 1 64 1, rz b 2 6] ++ (List.range n).flatMap (fun k =>
      [outside (u8 b (o k)) 0 15 (o k), outside (u8 b (o k + 1)) 0 2 (o k + 1), outside (u8 b (o k + 2)) 0 1 (o k + 2),
       rz b (o k + 3) 1, rz b (o k + 6) 2, (clash k, o k)])
  | _ => [(true, 0)]

/-- Pairing is switched on or off (R489, R505): a newly paired device waits from now on. -/
def State.pairingChange (s : State) (on : Bool) : State :=
  if on then
    (s.modTwin (fun t => { t with
      state := .waiting, partner := .waiting, leaseOut := false, waitFrom := some (s.el + (if s.strap.twinB then 1000000 else 0)), seenEnd := none
      leaseEnd := none, cfgMismatch := false, roleMismatch := false, partnerSet := none })).swAllOff
  else
    (s.modTwin (fun t => { t with
      state := .waiting, partner := .waiting, leaseOut := false, waitFrom := none, seenEnd := none, leaseEnd := none, handover := none
      cfgMismatch := false, roleMismatch := false, partnerSet := none
      drillHold := none, hinge := false })).swApplyAll false

/-- TWIN_CONFIG (R526). -/
def bodyTwinConfig (r : Req) (s : State) : Ans :=
  let b := r.body
  let on := u8 b 1 == 1
  let change := u8 b 0 == 0 && on != s.paired
  .table s
    [ paramRow (s.twinFields b)
    , row (change && ((List.finRange 8).any (fun g => s.gState g != .off) || (List.finRange 8).any (fun p => s.ports[p].state != .idle))) stConflict ]
    (fun s =>
      if u8 b 0 = 0 then
        let s := s.store (fun c => { c with twin := some b })
        .ok (if change then s.pairingChange on else s)
      else .ok (s.store (fun c => { c with sites := some b })))

/-- Lease end in force, as ST (R525, R527). -/
def State.leaseEndSt (s : State) : Nat :=
  match s.twin.leaseEnd, s.twin.seenEnd with
  | some e, _ => s.stOf e
  | none, some e => s.stOf e
  | none, none => 0

/-- TWIN_STATUS (R527). -/
def bodyTwinStatus (r : Req) (s : State) : Ans :=
  let b := r.body
  let k := u8 b 8
  let t := s.twin
  let fromSite := match r.sender with | .position .. => r.via != .hostio | _ => false
  .table s
    [ row (decide (2 < k)) stParam 8
    , row (k != 0 && !fromSite) stDenied
    , paramRow (if k = 0 then [rz b 0 8, rz b 9 7]
        else [outside (u8 b 9) 0 15 9, outside (u8 b 10) 0 2 10, outside (u8 b 11) 0 15 11, rz b 24 8]) ]
    (fun s =>
      match k with
      | 0 => .ok s (le 1 t.state.code ++ le 1 t.partner.code ++
          le 1 (b01 s.paired + 2 * b01 t.leaseOut + 4 * b01 t.leaseIn + 8 * b01 t.hinge + 16 * b01 s.posHolds + 32 * b01 t.partition +
            64 * b01 t.cfgMismatch + 128 * b01 t.drillsOff) ++ le 1 s.hingeLanes ++ [0, 0] ++ le 4 t.gen ++ le 4 s.master.gen ++
          le 8 s.leaseEndSt ++ le 8 t.takeSt ++ le 8 t.drillSt ++ le 2 t.passed ++ le 2 t.failed ++ le 4 t.mismatches.toNat ++
          le 4 t.lates.toNat ++ le 4 t.dups.toNat ++ le 1 (s.masterSite.getD 255) ++ List.replicate 7 0)
      | 1 => .ok (s.twinRenewal b)
      | _ => .ok (s.masterRenewal b))

/-- The rows of R528; `planned` for a drill now or a yield. -/
def State.yieldRows (s : State) (planned : Bool) : List (Bool × Nat × Nat) :=
  [ row (s.isOther) stNotHolder, row (!s.paired || (planned && s.twin.partner != .standby)) stConflict, row s.handingOver stBusy ]

/-- TWIN_DRILL (R528). -/
def bodyTwinDrill (r : Req) (s : State) : Ans :=
  let b := r.body
  let a := u8 b 0
  .table s (paramRow [outside a 0 2 0, rz b 1 7] :: s.yieldRows (a == 0))
    (fun s =>
      if a = 0 then .ok s.drillStart (List.replicate 6 0 ++ le 8 s.nextQ0)
      else .ok (s.modTwin (fun t => { t with drillsOff := a == 1 })) (List.replicate 6 0 ++ le 8 0))

/-- TWIN_YIELD (R513, R528): timed, Q0 is the launch ST rounded up to an outer cycle start. -/
def bodyTwinYield (r : Req) (s : State) : Ans :=
  .table s (paramRow [rz r.body 0 8] :: s.yieldRows true)
    (fun s =>
      let q := if r.launch = 0 then s.nextQ0 else (r.launch + 49999) / 50000 * 50000
      .ok (s.offerHandover q 0) (List.replicate 6 0 ++ le 8 q))

end Sys2Proof.Machine
end

