-- ==== Sys2Proof/Machine/CanBus.lean ====
section
/-! DEFINITION. What happens on the CAN buses and the CAN commands (R529 to R556). -/

namespace Sys2Proof.Machine

/-- Does core 3 act on an identifier of controller `n`: storage status or keypad request (R541)? -/
def State.canMapped (s : State) (n ident : Nat) : Bool :=
  s.bill.keypads.any (fun k => k.1 == n && k.2.1 == ident) ||
  (List.finRange 4).any (fun f => s.feederKind f == 2 && (let e := s.feederCfg f; u8 e 2 == 0 && u8 e 3 == n && u32 e 8 == ident))

/-- A frame record, with its copy to core 3 (R538, R541): a copy that is not mapped core 3 reads and drops at once (DEDUCED,
entry 269). -/
def State.canFrame (s : State) (n : Fin 8) (f : CanRx) (own : Bool) : State :=
  let s := s.canRecord n f.sof f.ident f.dlc 0 own f.data
  if s.canMapped n f.ident then
    let c := (n.val, f.sof, f.ident, f.data)
    if 256 ≤ s.canCopies.length then ({ s with canCopies := s.canCopies.drop 1 ++ [c] }).raise .canFwDrop
    else { s with canCopies := s.canCopies ++ [c] }
  else s

/-- The frame that the controller was sending since `sof` is taken away when it was single-shot (R543). -/
def State.canSpoiled (s : State) (n : Fin 8) (sof : Nat) : State :=
  match s.canOffered n sof with
  | some (k, f) => if f.singleShot then s.modCan n (·.popClass k) else s
  | none => s

/-- A frame received without error (R534, R538); REC falls by one, and from above 127 to a free value of 119 to 127, as
ISO 11898-1 has it (R548, entry 120). -/
def State.canReceive (s : State) (n : Fin 8) (f : CanRx) : State :=
  let c := s.cans[n]
  if c.mode = .off || c.state = .busOff then s
  else
    let s := s.modCan n (fun c => { c with rx := c.rx + 1, leeRx := if s.sys.lee then c.leeRx + 1 else c.leeRx })
    let s := s.canFrame n f false
    let s := if f.lost then s.canSpoiled n f.sof else s
    let (v, s) := if 127 < c.rxErr then s.free else (0, s)
    s.canCounters n c.txErr (if 127 < c.rxErr then 119 + v % 9 else c.rxErr - 1)

def execCanFrameReceive (n : Fin 8) (f : CanRx) (s : State) : Host.Outcome State Fault Refusal := live s (·.canReceive n f)

/-- A bus error (R530, R539, R548): with protocol exceptions on, a recessive res bit gives bus integration without an error
frame. The error of a frame that the device-fault state cut off writes no record (R551). -/
def State.canError (s : State) (n : Fin 8) (e : CanErr) : State :=
  let c := s.cans[n]
  if c.mode = .off || c.state = .busOff || (e.own && s.sys.fault.isSome) then s
  else if e.type = 0 && bit (u8 (s.canCfg n) 1) 1 then s.modCan n (fun c => { c with pexc := true })
  else
    let ty := if e.type = 0 then 3 else e.type % 8
    let s := s.modCan n (fun c => { c with errType := ty, errField := e.field % 8 })
    let counts := c.mode == .normal
    let s := if counts then s.canCounters n e.tec e.rxe else s
    let s := if bit (u8 (s.canCfg n) 1) 3 then
        s.canRecord n s.st 0 0 1 false (le 1 ty ++ le 1 e.field ++ le 1 e.phase ++ [0] ++ le 2 s.cans[n].txErr ++ le 2 s.cans[n].rxErr)
      else s
    if e.own then s.canSpoiled n (e.sof.getD s.st) else s

def execCanError (n : Fin 8) (e : CanErr) (s : State) : Host.Outcome State Fault Refusal := live s (·.canError n e)

/-- 128 idle sequences have been counted (R549, R550). -/
def State.canRecover (s : State) (n : Fin 8) : State :=
  let c := s.cans[n]
  if c.state ≠ .busOff || !c.recovering || s.isRetired (tgt 6 n) || bit s.fabric.clkLost 5 then s
  else
    let s := s.modCan n (fun c => { c with state := .active, recovering := false, txErr := 0, rxErr := 0, warn := false })
    (s.canStateRec n c.mode .busOff 1).raise (.canRecovered n)

def execCanRecovered (n : Fin 8) (s : State) : Host.Outcome State Fault Refusal := live s (·.canRecover n)

/-- The bus is idle: a requested mode takes effect (R535). -/
def State.canIdle (s : State) (n : Fin 8) : State :=
  match s.cans[n].next with
  | some (m, cause) => s.canSetMode n m cause
  | none => s

def execCanModeApply (n : Fin 8) (s : State) : Host.Outcome State Fault Refusal := live s (·.canIdle n)

/-- Does a frame end in a bit error, its loop delay, not below TDCF, plus TDCO exceeding 127 mtq (R532)? -/
def State.canLate (s : State) (n : Fin 8) (v : Nat) : Bool :=
  decide (127 < max v (u8 (s.canCfg n) 13) + u8 (s.canCfg n) 12)

/-- Delay compensation is enabled (R532, R553). -/
def State.canTdc (s : State) (n : Fin 8) : Bool := s.canFd n && bit (u8 (s.canCfg n) 1) 6

/-- The frame offered at `sof` is sent: start of frame, and the loop delay in mtq that the controller measures on each FD frame
with bit rate switch under delay compensation; beyond its limit the frame ends in a bit error of the data phase, in a field
that stays free, with TEC 8 higher as ISO 11898-1 has it (R532, R543, R547). Otherwise TEC falls by one. -/
def State.canSent (s : State) (n : Fin 8) (sof : Nat) (tdcv : Option Nat) : State :=
  let c := s.cans[n]
  match s.canOffered n sof with
  | none => s
  | some (k, f) =>
    if c.mode ≠ .normal || c.state = .busOff || s.sys.fault.isSome then s
    else
      let tdcv := if f.fd && f.brs && s.canTdc n then tdcv else none
      let s := s.modCan n (fun c => { c with tdcv := match tdcv with | some v => v % 256 | none => c.tdcv })
      if (match tdcv with | some v => s.canLate n v | none => false) then
        let (v, s) := s.free
        s.canError n { type := 1, field := 1 + v % 3, phase := 1, tec := c.txErr + 8, rxe := c.rxErr, own := true, sof := some sof }
      else
      let s := s.modCan n (fun c => { (c.popClass k) with tx := c.tx + 1 })
      let s := s.emit (.can n f.ident f.fd f.brs f.data)
      let dlc := dlcOf (if bit f.ident 30 then f.rlen else f.data.length) + 16 * b01 f.fd + 32 * b01 f.brs + 64 * b01 (f.fd && c.state == .passive)
      let s := if f.echo || bit (u8 (s.canCfg n) 1) 4 then s.canFrame n { sof, ident := f.ident, dlc, data := f.data } true else s
      s.canCounters n (c.txErr - 1) s.cans[n].rxErr

def execCanTxComplete (n : Fin 8) (sof : Nat) (tdcv : Option Nat) (s : State) : Host.Outcome State Fault Refusal :=
  live s (·.canSent n sof tdcv)

/-- Queued frames that reach their expiry are withdrawn (R544). -/
def State.canExpire (s : State) (n : Fin 8) : State :=
  let c := s.cans[n]
  let due := fun (f : TxFrame) => match f.expiry with | some t => decide (t ≤ s.el) | none => false
  let gone := (c.tx0 ++ c.tx1 ++ c.tx2).filter due
  let keep := fun (l : List TxFrame) => l.filter (fun f => !due f)
  let s := s.modCan n (fun c => { c with tx0 := keep c.tx0, tx1 := keep c.tx1, tx2 := keep c.tx2 })
  gone.foldl (fun s f => s.canExpired n f.ident) s

def execCanTxExpired (n : Fin 8) (s : State) : Host.Outcome State Fault Refusal := live s (·.canExpire n)

/-- The streams in force: a new section 1 holds from its outer cycle on (R553). -/
def State.canStreams (s : State) (n : Fin 8) : Bytes :=
  let c := s.cans[n]
  match c.next1 with
  | some (k, b) => if k ≤ s.st / 50000 then b else c.cfg1.getD []
  | none => c.cfg1.getD []

/-- The identifier that this device uses for a stream: the holder's, a copy's with the twin offset, or none (R506, R508). -/
def State.streamIdent (s : State) (ident : Nat) : Option Nat :=
  if s.holdsTwin then some ident else if s.canCopying then some (s.copyIdent ident) else none

/-- Data of a stream frame less its twin tag: FD (R545) or classical (R546). -/
def State.streamData (s : State) (g : Fin 8) (fd : Bool) : Bytes :=
  let l := s.groups[g].loop
  let st := (s.gState g).code
  let stop := b01 s.groups[g].prot.stop.isSome
  let at_ := b01 l.atTarget
  let cur := b01 l.current
  let n := (s.inService g).length
  if fd then le 1 g ++ le 1 st ++ le 1 (stop + 2 * at_ + 4 * cur) ++ le 1 n ++ lei 4 l.iref ++ lei 4 l.posQ16
  else le 1 (g.val + 8 * st + 64 * stop + 128 * at_) ++ le 1 (n + 16 * cur) ++ lei 2 (clampI (-32767) 32767 (rdiv (l.iref * 5) 65536))

/-- Stream `k` of controller `n` forms its frame at its offset into an outer cycle that its divider names (R545). -/
def State.streamFrame (s : State) (n k : Fin 8) : State :=
  let b := s.canStreams n
  let o := 8 + 8 * k.val
  let c := s.st / 50000
  if u8 b 1 ≤ k.val || u8 b (o + 1) = 0 then s
  else if c % u8 b (o + 1) ≠ 0 || s.st % 50000 < u8 b (o + 2) * 1000 || s.cans[n].sent.contains (k.val, c) then s
  else
    let s := s.modCan n (fun x => { x with sent := (k.val, c) :: x.sent.filter (fun y => y.1 != k.val) })
    match s.streamIdent (u32 b (o + 4)) with
    | none => s
    | some ident =>
      let fd := s.canFabricFd n
      let d := s.streamData (Fin.ofNat 8 (u8 b o)) fd
      let (tag, s) := s.twinTag
      s.canQueue0 n { ident, fd, brs := fd, data := d ++ tag, singleShot := false, echo := false, expiry := none, key := k } true

def execSetpointStreamFrame (n k : Fin 8) (s : State) : Host.Outcome State Fault Refusal := live s (·.streamFrame n k)

/-! ### Commands (R553 to R556) -/

/-- Data lengths of a frame (R554). -/
def canLenOk (fd : Bool) (n : Nat) : Bool := decide (n ≤ 8) || (fd && [12, 16, 20, 24, 32, 48, 64].contains n)

/-- Controller of a request. -/
def Req.can (r : Req) : Fin 8 := r.fin 8

/-- The field checks of CAN_CONFIG (R531, R553). -/
def canFields (b : Bytes) : List (Bool × Nat) :=
  match u8 b 0 with
  | 0 =>
    let fd := bit (u8 b 1) 0
    let nom := u16 b 2 * (1 + u16 b 4 + u8 b 6)
    let dat := u8 b 8 * (1 + u8 b 9 + u8 b 10)
    [ outside (u8 b 1) 0 127 1, outside (u16 b 2) 1 256 2, outside (u16 b 4) 2 256 4, outside (u8 b 6) 2 128 6
    , outside (u8 b 7) 1 (u8 b 6) 7, outside (u8 b 8) 1 32 8, outside (u8 b 9) 1 32 9, outside (u8 b 10) 1 16 10
    , outside (u8 b 11) 1 (u8 b 10) 11, outside (u8 b 12) 0 127 12, outside (u8 b 13) 0 127 13, outside (u8 b 14) 0 127 14
    , rz b 15 9, outside nom 80 1600 2, (fd && (decide (dat < 10) || decide (nom < dat)), 8)
    , (fd && decide (dat < 40) && !bit (u8 b 1) 6, 8) ]
  | 1 =>
    let n := u8 b 1
    let ids := (List.range n).map (fun k => u32 b (12 + 8 * k))
    [outside n 0 8 1, rz b 2 6] ++ (List.range n).flatMap (fun k =>
      let o := 8 + 8 * k
      [outside (u8 b o) 0 7 o, outside (u8 b (o + 1)) 1 20 (o + 1), outside (u8 b (o + 2)) 4 45 (o + 2), rz b (o + 3) 1,
       (identBad (u32 b (o + 4)) || (ids.take k).contains (u32 b (o + 4)), o + 4)])
  | _ => [(true, 0)]

/-- CAN_CONFIG (R553). -/
def bodyCanConfig (r : Req) (s : State) : Ans :=
  let b := r.body
  let n := r.can
  .table s
    [ paramRow (canFields b)
    , retiredRow s (if u8 b 0 = 0 then [(tgt 7 (u8 b 14), 14)] else []), retRow s r.target
    , row (u8 b 0 == 0 && s.cans[n].mode != .off) stConflict ]
    (fun s =>
      if u8 b 0 = 0 then .ok ((s.store (fun c => { c with can0 := c.can0.set n (some b) })).modCan n (fun c => { c with cfg0 := some b }))
      else
        let old := s.canStreams n
        .ok ((s.store (fun c => { c with can1 := c.can1.set n (some b) })).modCan n (fun c => { c with
          cfg1 := some old, next1 := some (s.st / 50000 + 1, b) })))

/-- CAN_SEND (R554). A frame with a twin tag that a twin without the lease queues is a copy, on the identifier plus the twin
offset (R508). -/
def bodyCanSend (r : Req) (s : State) : Ans :=
  let b := r.body
  let n := r.can
  let fl := u8 b 4
  let len := u8 b 5
  let fd := bit fl 0
  let c := s.cans[n]
  .table s
    [ paramRow [(identBad (u32 b 0), 0), outside fl 0 63 4, (!canLenOk fd len, 5), outside (u16 b 6) 0 60000 6, rz b 8 8,
        ((fd || bit fl 1) && !s.canFd n, 4), (bit fl 2 && fd, 4), (bit fl 4 && decide (len < 4), 5)]
    , retRow s r.target, row (c.mode != .normal || c.state == .busOff) stConflict, row (decide (32 ≤ c.tx2.length)) stBusy ]
    (fun s =>
      let d := if bit fl 2 then [] else sub b 16 len
      let (d, s) := if bit fl 4 && !bit fl 2 then (let (t, s) := s.twinTag; (d.take (len - 4) ++ t, s)) else (d, s)
      let copy := bit fl 4 && !bit fl 2 && !s.holdsTwin
      let id := if copy then s.copyIdent (u32 b 0) else u32 b 0
      let f : TxFrame := { at_ := s.st, copy, ident := id + 2 ^ 30 * b01 (bit fl 2), fd, brs := fd && bit fl 1, data := d, singleShot := bit fl 3
                           echo := bit fl 5, key := 0, rlen := len, expiry := if u16 b 6 = 0 then none else some (s.el + 1000000 * u16 b 6) }
      let s := s.modCan n (fun c => { c with tx2 := c.tx2 ++ [f] })
      .ok s ([0, 0] ++ le 4 s.cans[n].tx2.length))

/-- CAN_MODE (R555). -/
def bodyCanMode (r : Req) (s : State) : Ans :=
  let b := r.body
  let n := r.can
  let a := u8 b 0
  let c := s.cans[n]
  .table s
    [ paramRow [outside a 0 4 0, outside (u8 b 1) 0 (if a = 4 then 0 else 1) 1, rz b 2 6]
    , retRow s r.target, row (a == 4 && (c.state != .busOff || s.canAuto n)) stConflict, row c.released stConflict ]
    (fun s =>
      if a = 4 then .ok (s.modCan n (fun c => { c with recovering := true }))
      else
        let s := if bit (u8 b 1) 0 then s.store (fun x => { x with canMode := x.canMode.set n (some a) }) else s
        .ok (s.canAskMode n (canModeOf a) 4))

/-- CAN_STATUS (R556). -/
def bodyCanStatus (r : Req) (s : State) : Ans :=
  let n := r.can
  let c := s.cans[n]
  .ok s (le 1 c.mode.code ++ le 1 c.state.code ++ le 2 c.txErr ++ le 2 c.rxErr ++ le 1 c.errType ++ le 1 c.errField ++ le 1 c.tdcv ++
    le 1 (b01 (s.isRetired r.target) + 2 * b01 (s.canFd n) + 4 * b01 c.recovering + 8 * b01 c.warn + 16 * b01 c.pexc) ++ le 4 0 ++
    le 4 c.rx.toNat ++ le 4 c.tx.toNat ++ le 4 c.drops.toNat ++ le 4 c.boffs.toNat ++ le 2 c.tx2.length ++
    le 2 (min 65535 c.exps.toNat) ++ le 4 c.leeRx ++ le 8 c.changedSt)

end Sys2Proof.Machine
end

