-- ==== Sys2Proof/Machine/VehiclePorts.lean ====
section
/-! DEFINITION. Vehicle ports and sessions: pilot, vehicle link, vehicle requests, timeouts and the PORT commands
(R302 to R354). -/

namespace Sys2Proof.Machine

/-! ### Pilot (R305 to R311) -/

/-- Insert into a sorted list. -/
def insSorted (a : Int) : List Int → List Int
  | [] => [a]
  | b :: l => if a ≤ b then a :: b :: l else b :: insSorted a l

/-- Median; of an even number, the mean of the middle two (its rounding is open, entry 9). -/
def medianOf (l : List Int) : Option Int :=
  let t := l.foldl (fun acc a => insSorted a acc) []
  let n := t.length
  if n = 0 then none
  else if n % 2 = 1 then some (t.getD (n / 2) 0)
  else some (rdiv (t.getD (n / 2 - 1) 0 + t.getD (n / 2) 0) 2)

/-- High and low plateau in mV of the period or window that begins at ST `w`, from samples (stamp, mV at the ball)
(R307). The low one is formed under READY only. -/
def State.plateaus (s : State) (p : Fin 8) (w : Nat) (l : List (Nat × Int)) : Option Int × Option Int :=
  let b := s.pCfg p
  let ratio : Int := u8 b 7
  let inW := l.filter (fun x => decide (w ≤ x.1) && decide (x.1 < w + 1000000))
  if s.ports[p].drive = 1 then
    let fall := w + pilotWidth (u8 b 0 == 1)
    let hi := inW.filter (fun x => decide (w + 15000 ≤ x.1) && decide (x.1 + 5000 ≤ fall))
    let lo := inW.filter (fun x => decide (fall + 15000 ≤ x.1) && decide (x.1 + 5000 ≤ w + 1000000))
    (medianOf (hi.map (fun x => x.2 * ratio)), medianOf (lo.map (fun x => x.2 * ratio)))
  else (medianOf (inW.map (fun x => x.2 * ratio)), none)

/-- The level of a high plateau: number of thresholds of the list T1 to T4, low limit, that lie above it (R308). -/
def levelOf (t : List Int) (v : Int) : Nat := ((t.take 5).filter (fun x => decide (v < x))).length

/-- The level that a plateau classifies to: the present level is left only beyond its band by more than the hysteresis
(R309). -/
def classifyLevel (t : List Int) (present : Nat) (v : Int) : Nat :=
  let h := t.getD 5 0
  let k := levelOf t v
  if 5 < present || k = present then k
  else if k < present then (if t.getD (present - 1) 0 + h < v then k else present)
  else (if v < t.getD present 0 - h then k else present)

/-- May an IDLE port become CONNECTED (R303, R325)? -/
def State.portOpens (s : State) (p : Fin 8) : Bool := s.sys.ready && s.portServed p && !s.isRetired (tgt 3 p)

/-- CONNECTED: READY drive, and matching starts on a Green PHY link (R315). -/
def State.portConnect (s : State) (p : Fin 8) : State :=
  let s := s.portSet p .connected
  if u8 (s.pCfg p) 1 = 0 then s.modPort p (fun x => { x with matching := !x.link }) else s

/-- With READY drive and level L1 or L2 accepted, a Green PHY link that is not matched is being matched: from the acceptance, and on
after a loss or a failed attempt (R315; DEDUCED, entry 224). -/
def State.rematch (s : State) (p : Fin 8) : State :=
  let x := s.ports[p]
  if u8 (s.pCfg p) 1 = 0 && x.state != .idle && x.drive == 1 && s.levelPlugged p x.level then
    s.modPort p (fun y => { y with matching := !y.phys })
  else s

/-- What an accepted level, new or standing for three periods, means to the port (R308, R325, R339). -/
def State.levelActs (s : State) (p : Fin 8) (lv : Nat) : State :=
  let x := s.ports[p]
  let mcs := u8 (s.pCfg p) 0 == 1
  if x.state = .idle then
    (if s.levelPlugged p lv && s.portOpens p then s.portConnect p else s)
  else if lv = 0 then
    match x.state with
    | .connected => (s.portStop p 1 2 3).portSet p .idle
    | .negotiating =>
      let s := s.portStop p 1 2 3
      if s.ports[p].state = .connected then s.portSet p .idle else s
    | .discharge => (s.portStop p 1 2 3).modPort p (fun y => { y with drive := 0 })
    | _ => s.portStop p 1 2 3
  else if lv = 4 || lv = 5 || (lv = 3 && mcs) then s.portStop p 1 3 4
  else s.rematch p

/-- The diode check of a period with low plateau `lo` (R310). A fault stands only with READY drive, a level L1 to L3 and a low
plateau above the limit; any other period counts towards its absence (DEDUCED, entry 255). -/
def State.diodeCheck (s : State) (p : Fin 8) (lo : Option Int) : State :=
  let y := s.ports[p]
  let bad := y.drive == 1 && (y.level == 1 || y.level == 2 || y.level == 3) &&
    (match lo with | some d => decide ((portThrs (s.pCfg p)).getD 4 0 < d) | none => false)
  let s := s.modPort p (fun y => { y with
    diodeRun := if bad then y.diodeRun + 1 else 0, diodeOk := if bad then 0 else y.diodeOk + 1
    diode := (bad && decide (2 ≤ y.diodeRun)) || (y.diode && (bad || decide (y.diodeOk < 2))) })
  if s.ports[p].diode && !y.diode && y.state != .idle then s.portStop p 1 3 4 else s

/-- One more of a run of periods or windows of the same level. -/
def runOn (o : Option (Nat × Nat)) (lv : Nat) : Nat :=
  match o with
  | some (a, n) => if a = lv then n + 1 else 1
  | none => 1

/-- In sleep D2 classifies the windows itself, with NOT_READY drive, from the level that was accepted; it raises nothing, and a level
accepted in place of L0 is what wakes the device (R344, R755; DEDUCED, entry 296). -/
def State.dozePeriod (s : State) (p : Fin 8) (l : List (Nat × Int)) : State :=
  let x := s.ports[p]
  let d := x.doze.getD { level := x.level }
  match s.nv.cfg.port[p], medianOf (l.map (fun y => y.2 * u8 (s.pCfg p) 7)) with
  | some b, some v =>
    let lv := classifyLevel (portThrs b) d.level v
    let run := runOn d.run lv
    let isNew := decide (3 ≤ run) && lv != d.level
    s.modPort p (fun y => { y with doze := some {
      level := if isNew then lv else d.level, run := some (lv, run), woke := d.woke || (isNew && d.level == 0) } })
  | _, _ => s.modPort p (fun y => { y with doze := some { d with run := none } })

/-- A pilot period or window ends at a whole ms of ST: plateaus, classification, acceptance with the start of the third period,
diode check (R307 to R310; DEDUCED, entry 44). A period left out or without a high plateau ends the run of consecutive ones. A
port without PORT_CONFIG has no divider ratio and classifies nothing. -/
def State.pilotPeriod (s : State) (p : Fin 8) (l : List (Nat × Int)) : State :=
  let k := s.st / 1000000
  if (s.nv.cfg.port[p]).isNone || !(s.atMultiple 1000000) || s.ports[p].pilotWin == some k || k = 0 then s
  else
    let w := (k - 1) * 1000000
    let (hi, lo) := s.plateaus p w l
    let s := if s.ports[p].pilotWin == some (k - 1) then s
      else s.modPort p (fun x => { x with levelRun := none, diodeRun := 0, diodeOk := 0 })
    let s := s.modPort p (fun x => { x with pilotWin := some k, high := hi.getD x.high, low := lo.getD x.low })
    let s := match s.portGroup p with
      | none => s
      | some g => l.foldl (fun s (x : Nat × Int) => s.capNote 4 g x.1 (le 8 x.1 ++ le 1 p ++ [0] ++ lei 2 (x.2 * u8 (s.pCfg p) 7) ++ le 4 0)) s
    match hi with
    | none => (s.modPort p (fun x => { x with levelRun := none })).diodeCheck p lo
    | some v =>
      let t := portThrs (s.pCfg p)
      let x := s.ports[p]
      let lv := classifyLevel t x.level v
      let run := runOn x.levelRun lv
      let s := s.modPort p (fun y => { y with levelRun := some (lv, run) })
      let isNew := decide (3 ≤ run) && lv != x.level
      let s := if isNew then
          (s.raise (.pilotChange p) (x.level + 256 * lv) w).modPort p (fun y => { y with level := lv })
        else s
      let s := if isNew || (decide (3 ≤ run) && x.state == .idle) then s.levelActs p lv else s
      s.diodeCheck p lo

def execPilotPeriodClassify (p : Fin 8) (l : List (Nat × Int)) (s : State) : Host.Outcome State Fault Refusal :=
  .next (match s.sys.mode with
    | .run => s.pilotPeriod p l
    | .sleep => s.dozePeriod p l
    | .inReset => s)

/-! ### Vehicle link (R312 to R317) -/

/-- The vehicle link goes down, or its matching fails: a link that was up raises VL_LINK_DOWN, and the session ends with
LINK_LOSS (R315, R316, R339). A TCP connection that closes leaves the modem answering: the link is up again with the next
connection (DEDUCED, entry 257). -/
def State.linkDown (s : State) (p : Fin 8) (c : VlLoss) : State :=
  let x := s.ports[p]
  if x.link || x.phys || x.matching then
    let s := s.modPort p (fun y =>
      if c = .tcp then { y with link := false, tcp := false, tls := false } else y.unlinked)
    let s := if x.link then s.raise (.vlLinkDown p) else s
    let s := if s.ports[p].state = .idle then s else s.portStop p 1 4 5
    if c = .tcp then s else s.rematch p
  else s

/-- Has the cause of a link loss come about: no answer for 100 ms, matching that there was or was under way, a connection that
was open (R316)? -/
def State.linkLost (s : State) (p : Fin 8) : VlLoss → Bool
  | .silence => s.ports[p].linkOn && decide (s.ports[p].heardAt + 100000000 ≤ s.el)
  | .matching => u8 (s.pCfg p) 1 == 0 && s.ports[p].phys
  | .tcp => s.ports[p].tcp

def execVlLinkDown (l : LinkLoss) (s : State) : Host.Outcome State Fault Refusal :=
  live s (whenDo (s.linkLost l.port l.cause) (·.linkDown l.port l.cause))

/-- Measured voltage and current in the answers of R340: Q16.16. -/
def State.measured (s : State) (p : Fin 8) : List Int :=
  [s.ports[p].vcable, match s.portGroup p with | some g => s.groups[g].loop.iout.getD 0 | none => 0]

/-- The answer to a request of the charge loop: stopping is told once, then measured values go on (R340). -/
def State.loopAnswer (s : State) (p : Fin 8) : State :=
  if s.ports[p].telling then
    (s.tell p .stopping (s.measured p)).modPort p (fun y => { y with telling := false })
  else s.tell p .measured (s.measured p)

/-- Note a request of the vehicle for the sequence timeout. -/
def State.heard (s : State) (p : Fin 8) : State := s.modSession p (fun e => { e with seqAt := s.el })

/-- What arrives over a link that is up is an answer of its modem or MAC-PHY (R316). -/
def State.overLink (s : State) (p : Fin 8) : State :=
  whenDo (s.ports[p].linkOn && s.ports[p].phys) (·.modPort p (fun x => { x with heardAt := s.el })) s

/-- Does a request of the session only get the answer of R340: in RAMPDOWN, and in DISCHARGE while the stop is still to be told? -/
def State.stopTold (s : State) (p : Fin 8) : Bool :=
  let x := s.ports[p]
  x.session.isSome && x.tcp && (x.state == .rampdown || (x.state == .discharge && x.telling))

/-- A request of the vehicle arrives: answered as in a stop under way, or by its own rule. -/
def State.request (s : State) (p : Fin 8) (f : State → State) : State :=
  let s := s.overLink p
  if s.stopTold p then (s.heard p).loopAnswer p else f s

/-- The matching threshold of a port, dB (R315, R348). -/
def State.attenMax (s : State) (p : Fin 8) : Nat := if u8 (s.pCfg p) 36 = 0 then 30 else u8 (s.pCfg p) 36

/-- Matching ends: an attenuation up to the threshold matches (R315; the threshold itself passes, DESIGN CHOICE, entry 258). -/
def State.matchEnd (s : State) (p : Fin 8) (a : Option Nat) : State :=
  match a with
  | some d =>
    if d ≤ s.attenMax p then s.modPort p (fun x => { x with matching := false, phys := true, link := true }) else s.linkDown p .matching
  | none => s.linkDown p .matching

/-- The vehicle opens a TCP connection: one per port, and with TLS only within what the device offers and with its credential
(R317). -/
def State.connect (s : State) (p : Fin 8) (h : Option TlsHello) : State :=
  let x := s.ports[p]
  let ok := match h with | none => true | some h => h.offered && s.nv.fw.secc.isSome
  if x.phys && !x.tcp && ok then s.modPort p (fun y => { y with tcp := true, tls := h.isSome, link := true }) else s

/-- A transfer is an answer of the modem or MAC-PHY; a MAC-PHY that answers is a link that is up (R313, R314, R316). -/
def State.vlHeard (s : State) (p : Fin 8) (f : VlFrame) : State :=
  if u8 (s.pCfg p) 1 = 0 then
    s.modPort p (fun x => { x with
      heardAt := s.el, modemReady := bit f.flags 0, modemMore := bit f.flags 1, modemOverflow := bit f.flags 2
      linkSeq := f.seq % 256 })
  else s.modPort p (fun x => { x with heardAt := s.el, phys := true, link := x.link || !x.phys })

/-- A transfer on the vehicle link: a framed one with the header of R314, a TC6 one of 64-byte chunks (R313); and what it
carries. -/
def State.vlFrame (s : State) (p : Fin 8) (f : VlFrame) : State :=
  if !s.ports[p].linkOn || !s.sys.ready then s
  else
    let framed := u8 (s.pCfg p) 1 == 0
    let okLen := if framed then f.len == 0 || (decide (60 ≤ f.len) && decide (f.len ≤ 1514)) else f.chunk == 64
    if !okLen then s
    else
      let s := s.vlHeard p f
      match f.what with
      | .other => s
      | .matched a => whenDo (framed && s.ports[p].matching) (·.matchEnd p a) s
      | .connect h => s.connect p h
      | .request =>
        s.request p (fun s =>
          if s.ports[p].session.isSome && s.ports[p].tcp then
            match s.ports[p].state with
            | .precharge | .charging | .discharging => (s.heard p).loopAnswer p
            | .negotiating => s.heard p
            | _ => s
          else s)

def execVlFrameReceive (p : Fin 8) (f : VlFrame) (s : State) : Host.Outcome State Fault Refusal := live s (·.vlFrame p f)

/-- SDP is answered wherever the modem or MAC-PHY answers, before any TCP connection (R317). -/
def execSdpRequest (p : Fin 8) (s : State) : Host.Outcome State Fault Refusal :=
  live s (whenDo (s.ports[p].phys && s.sys.ready) (fun s => (s.overLink p).tell p .sdp [15118]))

/-! ### Requests of the vehicle -/

/-- Does PORT_CONFIG enable a protocol code, on a connection as the protocol has it: DIN SPEC 70121 and ISO 15118-2 without TLS,
ISO 15118-20 under TLS 1.3 (R318, R319, R348)? -/
def State.protoOn (s : State) (p : Fin 8) (c : Nat) : Bool :=
  decide (1 ≤ c) && decide (c ≤ 4) && bit (u8 (s.pCfg p) 2) (c - 1) && decide (3 ≤ c) == s.ports[p].tls

/-- Session setup: a session id, the first offered protocol that is enabled, NEGOTIATING; none enabled ends the session
with NO_PROTOCOL (R319, R325, R345); none starts while the port is not configured and served (R303). A choice of BPT begins as ISO 15118-20 DC: BPT is offered only when the authorization
permits discharge (R323; DEDUCED, entry 259). -/
def State.sessionSetup (s : State) (p : Fin 8) (u : Setup) : State :=
  let x := s.ports[p]
  if !(x.state == .connected && x.tcp && x.session.isNone && s.portServed p) then s
  else
    let id := s.sessionSeq + 1
    let proto := (u.offers.find? (s.protoOn p)).getD 0
    let bpt := decide (proto = 4)
    let proto := min proto 3
    let e : Session := { id, proto, bpt, setupSt := s.st, e0 := s.portEnergy p, flags := b01 (s.time.quality != .locked) + 4 * b01 s.metro.stopped.isSome,
                         evccid := u.evccid.take 6, vmax := u.vmax, imax := u.imax, seqAt := s.el }
    let s := ({ s with sessionSeq := id }).modPort p (fun y => { y with session := some e, lastId := id, ending := none })
    if proto = 0 then (s.tell p .failed []).portEndSession p 15 true
    else (s.tell p .ok [proto]).portSet p .negotiating

def execVehicleSessionSetup (p : Fin 8) (u : Setup) (s : State) : Host.Outcome State Fault Refusal :=
  live s (fun s => (s.overLink p).sessionSetup p u)

/-- Do the signatures of a contract chain pass, and does ST lie within its validity dates (R321)? -/
def contractOk (chain : Bytes) (st : Nat) : Bool :=
  Config.contractSigned chain && decide ((Config.contractDates chain).1 ≤ st) && decide (st ≤ (Config.contractDates chain).2)

/-- An authorization request: identification completes at the first one and the host is asked; processing is ongoing
until PORT_AUTHORIZE (R321, R322). A contract chain that fails its check completes no identification: the request is refused
(DESIGN CHOICE, entry 260). -/
def State.authorizationReq (s : State) (p : Fin 8) (u : Ident) : State :=
  let x := s.ports[p]
  match x.session with
  | none => s
  | some e =>
    if x.state ≠ .negotiating || !x.tcp then s
    else
      let s := s.heard p
      if e.authSt.isSome then s.tell p .finished [b01 e.dischOk]
      else if e.authAsked.isSome then s.tell p .ongoing []
      else
        let pnc := u.plugAndCharge && bit (u8 (s.pCfg p) 2) 4 && decide (3 ≤ e.proto)
        if pnc && !contractOk (u.chain.take 3800) s.st then s.tell p .failed []
        else
        let s := s.modSession p (fun e => { e with
          authAsked := some s.el, ident := b01 pnc, emaid := if pnc then u.emaid.take 32 else []
          chain := if pnc then some (u.chain.take 3800) else none })
        (s.raise (.authRequest p) e.id (b01 pnc)).tell p .ongoing []

def execVehicleAuthorizationReq (p : Fin 8) (u : Ident) (s : State) : Host.Outcome State Fault Refusal :=
  live s (fun s => s.request p (·.authorizationReq p u))

/-- A cable-check request starts the check or waits for its end (R327, R328). A refused start is answered as ongoing and
does not hold off the sequence timeout (R342). -/
def State.cableCheckReq (s : State) (p : Fin 8) : State :=
  let x := s.ports[p]
  match x.session with
  | none => s
  | some e =>
    if x.state ≠ .negotiating || !x.tcp || e.authSt.isNone then s
    else match e.check with
      | .passed => (s.heard p).tell p .finished [1]
      | .none =>
        let v := s.checkVolts p
        let (s, ok) := s.portVolts p v
        let s := if ok then (s.heard p).modSession p (fun e => { e with check := .rising, checkVolts := v, checkWaits := true }) else s
        s.tell p .ongoing []
      | _ => (s.heard p).tell p .ongoing []

def execVehicleCableCheckReq (p : Fin 8) (s : State) : Host.Outcome State Fault Refusal :=
  live s (fun s => s.request p (·.cableCheckReq p))

/-- The cable-check time passes with no insulation fault (R327). -/
def State.cableCheckEnd (s : State) (p : Fin 8) : State :=
  match s.ports[p].session with
  | some e => match e.check with
    | .holding t => whenDo (decide (t + 1000000 * s.pField p 24 2000 ≤ s.el)) (·.checkEnds p true) s
    | _ => s
  | none => s

def execCableCheckEnd (p : Fin 8) (s : State) : Host.Outcome State Fault Refusal := live s (·.cableCheckEnd p)

/-- A precharge request: PRECHARGE at the first, the set-point, and the group's start; one refused for a thermal latch is noted
(R325, R329, R342). -/
def State.prechargeReq (s : State) (p : Fin 8) (v : Int) : State :=
  let x := s.ports[p]
  match x.session with
  | none => s
  | some e =>
    if !x.tcp then s
    else if (x.state == .negotiating && e.check == .passed && e.authSt.isSome) || x.state == .precharge then
      let s := s.modSession p (fun e => { e with vTarget := v })
      let s := if x.state = .negotiating then s.portSet p .precharge else s
      if x.ending.isSome then (s.heard p).loopAnswer p
      else
        let (s, ok) := s.portVolts p v
        let s := s.modSession p (fun e => { e with refused := !ok && (e.refused || s.latched) })
        if ok then (s.heard p).tell p .measured (s.measured p) else s.tell p .ongoing []
    else s

def execVehiclePrechargeReq (p : Fin 8) (v : Int) (s : State) : Host.Outcome State Fault Refusal :=
  live s (fun s => s.request p (·.prechargeReq p v))

/-- The vehicle's power-delivery start is received, and acts once the contactor is confirmed closed (R325); until then
processing is ongoing. -/
def State.powerStart (s : State) (p : Fin 8) (iReq iDreq vTarget vMin : Int) : State :=
  let x := s.ports[p]
  if !(x.state == .precharge && x.tcp && x.session.isSome) then s
  else if x.ending.isSome then (s.heard p).loopAnswer p
  else
    let s := ((s.heard p).modSession p (fun e => { e with iReq, iDreq, vTarget, vMin, demandAt := s.el, started := true })).powerGo p
    s.tell p (if s.ports[p].state.live then .ok else .ongoing) []

def execVehiclePowerDeliveryStart (p : Fin 8) (iReq iDreq vTarget vMin : Int) (s : State) :
    Host.Outcome State Fault Refusal := live s (fun s => s.request p (·.powerStart p iReq iDreq vTarget vMin))

/-- A current demand request (R334 to R336). -/
def State.currentDemand (s : State) (p : Fin 8) (iReq iDreq vTarget vMin : Int) : State :=
  let x := s.ports[p]
  if !x.tcp || x.session.isNone then s
  else match x.state with
    | .charging | .discharging =>
      let s := (s.heard p).modSession p (fun e => { e with iReq, iDreq, vTarget, vMin, demandAt := s.el })
      ((s.modPort p (fun y => { y with dirty := true })).refreshEff p).loopAnswer p
    | _ => s

def execVehicleCurrentDemand (p : Fin 8) (iReq iDreq vTarget vMin : Int) (s : State) : Host.Outcome State Fault Refusal :=
  live s (fun s => s.request p (·.currentDemand p iReq iDreq vTarget vMin))

/-- The vehicle's power-delivery stop or session stop (R339); from PRECHARGE on its answer tells that the EVSE is stopping (R340). -/
def State.vehicleStop (s : State) (p : Fin 8) : State :=
  let s := s.overLink p
  let x := s.ports[p]
  if x.session.isNone || !x.tcp then s
  else
    let s := (s.heard p).portStop p 0 0 0
    match x.state with
    | .precharge | .charging | .discharging =>
      (s.tell p .stopping (s.measured p)).modPort p (fun y => { y with telling := false })
    | .rampdown => s.loopAnswer p
    | _ => s

def execVehicleStop (p : Fin 8) (s : State) : Host.Outcome State Fault Refusal := live s (·.vehicleStop p)

/-! ### Timeouts and contactor (R322, R331, R333, R339) -/

/-- No authorization in time. -/
def State.authTimeout (s : State) (p : Fin 8) : State :=
  match s.ports[p].session with
  | some e => match e.authAsked with
    | some t => whenDo (s.ports[p].state == .negotiating && e.authSt.isNone &&
        decide (t + 1000000000 * s.pField p 28 55 ≤ s.el)) (·.portBack p 7) s
    | none => s
  | none => s

def execAuthTimeout (p : Fin 8) (s : State) : Host.Outcome State Fault Refusal := live s (·.authTimeout p)

/-- No current demand for the demand gap. -/
def State.demandGap (s : State) (p : Fin 8) : State :=
  match s.ports[p].session with
  | some e => whenDo (s.ports[p].state.live && decide (e.demandAt + 1000000 * s.pField p 30 1000 ≤ s.el)) (·.portStop p 1 14 6) s
  | none => s

def execDemandGap (p : Fin 8) (s : State) : Host.Outcome State Fault Refusal := live s (·.demandGap p)

/-- No request for the sequence timeout outside CHARGING and DISCHARGING; DEVICE when a thermal latch has refused the start that a
precharge request asked for and still holds (R342). -/
def State.seqTimeout (s : State) (p : Fin 8) : State :=
  let x := s.ports[p]
  match x.session with
  | some e => whenDo ((x.state == .negotiating || x.state == .precharge) && x.ending.isNone &&
      decide (e.seqAt + 1000000000 * s.pField p 32 60 ≤ s.el)) (·.portStop p 0 (if s.latched && e.refused then 13 else 5) 7) s
  | none => s

def execSeqTimeout (p : Fin 8) (s : State) : Host.Outcome State Fault Refusal := live s (·.seqTimeout p)

/-- The contactor is not confirmed within 100 ms of its drive change. -/
def State.contactorFails (s : State) (p : Fin 8) : State :=
  let x := s.ports[p]
  if x.cFailed || !decide (x.cAt + 100000000 ≤ s.el) then s
  else if x.cdrive && !x.closed then
    ((s.modPort p (fun y => { y with cFailed := true })).raise (.contactorFail p) 0).portStop p 0 11 7
  else if !x.cdrive && x.reported then
    (s.modPort p (fun y => { y with cFailed := true })).raise (.contactorFail p) 1
  else s

def execContactorFail (p : Fin 8) (s : State) : Host.Outcome State Fault Refusal := live s (·.contactorFails p)

/-- The contactor is not confirmed open within 1 s of its drive turning off: FAULTED (R333). -/
def State.contactorWelds (s : State) (p : Fin 8) : State :=
  let x := s.ports[p]
  whenDo (!x.cWeld && !x.cdrive && x.reported && decide (x.cAt + 1000000000 ≤ s.el))
    (fun s => ((s.modPort p (fun y => { y with cWeld := true })).raise (.contactorWeld p)).portFault p 11) s

def execContactorWeld (p : Fin 8) (s : State) : Host.Outcome State Fault Refusal := live s (·.contactorWelds p)

/-! ### Commands -/

/-- A field that takes its default when 0. -/
def outsideOr0 (v : Nat) (lo hi : Int) (o : Nat) : Bool × Nat := if v = 0 then (false, o) else outside v lo hi o

/-- PORT_CONFIG (0x0701, R348). -/
def bodyPortConfig (r : Req) (s : State) : Ans :=
  let b := r.body
  let p := r.g
  let t := portThrs b
  let pr := u8 b 2
  let laneUsed := (List.finRange 8).any (fun q => q != p && (match s.nv.cfg.port[q] with
    | none => false | some c => u16 c 8 == u16 b 8))
  .table s
    [paramRow [outside (u8 b 0) 0 1 0, outside (u8 b 1) 0 1 1,
       (decide (pr % 8 = 0) || decide (32 ≤ pr) || (u8 b 0 == 1 && decide (pr % 4 ≠ 0)) ||
         (bit pr 4 && !bit pr 2) || (bit pr 3 && !bit pr 2), 2),
       outsideOr0 (u8 b 3) 5 25 3, outside (u8 b 4) 0 15 4, (s.swNamed (u8 b 4) 1 p, 4), outside (u8 b 5) 0 63 5,
       outside (u8 b 6) 0 63 6, outside (u8 b 7) 1 20 7, outside (u16 b 8) 0 143 8, (laneUsed, 8), outsideOr0 (u16 b 10) 1 2000 10,
       (!(decide (t.getD 1 0 < t.getD 0 0) && decide (t.getD 2 0 < t.getD 1 0) && decide (t.getD 3 0 < t.getD 2 0)), 12),
       (!decide (t.getD 4 0 < t.getD 3 0), 20), outsideOr0 (u16 b 22) 0 1000 22, outsideOr0 (u16 b 24) 500 10000 24,
       outsideOr0 (u16 b 26) 1 50 26, outsideOr0 (u16 b 28) 5 300 28, outsideOr0 (u16 b 30) 100 60000 30,
       outsideOr0 (u16 b 32) 1 60 32, outsideOr0 (u16 b 34) 1 200 34, outsideOr0 (u8 b 36) 10 60 36, rz b 37 27],
     retiredRow s [(tgt 4 (u8 b 4), 4), (tgt 5 (u16 b 8), 8)], retRow s r.target,
     row (s.ports[p].state != .idle) stConflict]
    (fun s =>
      let s := s.store (fun c => { c with port := c.port.set p (some b) })
      .ok (if s.sys.ready then s.linkRelease p else s))

/-- PORT_AUTHORIZE (0x0702, R323, R349). -/
def bodyPortAuthorize (r : Req) (s : State) : Ans :=
  let b := r.body
  let p := r.g
  let acc := u16 b 6
  let x := s.ports[p]
  let waits := match x.session with
    | none => false
    | some e => e.id == u32 b 0 && e.authAsked.isSome && e.authSt.isNone && x.state == .negotiating
  .table s
    [paramRow [outside (u8 b 4) 0 1 4, outside (u8 b 5) 0 1 5, (decide (255 < acc) && acc != 0xFFFF, 6),
       outside (u32 b 8) 0 3750000 8, outside (u32 b 12) 0 3750000 12, rz b 16 8],
     row (acc != 0xFFFF && !(vget s.bill.mir.accounts acc {}).loaded) stTarget 6,
     retRow s r.target, row (!waits) stConflict]
    (fun s =>
      if u8 b 4 = 0 then .ok (s.portBack p 6)
      else .ok (s.modSession p (fun e => { e with
        authSt := some s.st, dischOk := bit (u8 b 5) 0, proto := if e.bpt && bit (u8 b 5) 0 then 4 else e.proto, account := acc, chargeCeil := u32 b 8, dischCeil := u32 b 12 })))

/-- The limits that a PORT_LIMIT payload gives. -/
def limitsOfPort (b : Bytes) : Nat × Nat × Nat × Nat := (u32 b 0, u32 b 4, u16 b 8, u16 b 10)

/-- PORT_LIMIT (0x0703, R350). -/
def bodyPortLimit (r : Req) (s : State) : Ans :=
  let b := r.body
  let p := r.g
  .table s
    [paramRow [outside (u32 b 0) 0 3750000 0, outside (u32 b 4) 0 3750000 4, outside (u16 b 8) 0 3000 8,
       outside (u16 b 10) 0 1250 10, rz b 12 4],
     retRow s r.target]
    (fun s => .ok (((s.store (fun c => { c with portLimit := c.portLimit.set p (some b) })).modPort p
      (fun x => { x with limits := limitsOfPort b, dirty := true })).refreshEff p))

/-- PORT_STOP (0x0704, R351). A RETIRED port answers OK with no effect, as R351 says of this command, where R22 has a command to
a retired resource answered RESOURCE_RETIRED: DESIGN CHOICE (entry 261). -/
def bodyPortStop (r : Req) (s : State) : Ans :=
  let b := r.body
  .table s [paramRow [outside (u8 b 0) 0 1 0, rz b 1 7]] (fun s => .ok (s.portStop r.g (u8 b 0) 1 (1 + u8 b 0)))

/-- PORT.PSTAT (R347). -/
def State.pstat (s : State) (p : Fin 8) : Nat :=
  let x := s.ports[p]
  let e := x.session.getD {}
  x.state.code + 16 * x.level + 128 * x.drive + 512 * b01 x.closed + 1024 * b01 x.cdrive + 2048 * b01 x.link +
  4096 * b01 x.tls + 8192 * b01 e.authSt.isSome + 16384 * b01 (e.proto == 4) + 32768 * b01 x.diode + 65536 * e.proto

/-- The vehicle's current request, negative for discharge (R347). -/
def State.portIreq (s : State) (p : Fin 8) : Int :=
  let x := s.ports[p]
  match x.session with
  | none => 0
  | some e => if x.state = .discharging then -e.iDreq else e.iReq

/-- Retries of a port in window (R276, R277). -/
def State.portRetries (s : State) (p : Fin 8) : Nat :=
  retriesIn (if s.latched then s.nv.tlatch.at_ else s.el) s.ports[p].retries

/-- PORT_STATUS (0x0705, R352). -/
def bodyPortStatus (r : Req) (s : State) : Ans :=
  let p := r.g
  let x := s.ports[p]
  let (a, d) := s.portEnergy p
  let en : Int := match x.session with
    | none => 0
    | some e => ((a : Int) - e.e0.1) - ((d : Int) - e.e0.2)
  .ok s (le 1 x.state.code ++ le 1 x.level ++ le 4 (s.pstat p) ++ le 4 x.lastId ++ lei 4 x.alloc ++ lei 4 x.eff ++
    lei 4 x.itgt ++ lei 4 x.vcable ++ lei 4 (s.portIreq p) ++ lei 4 (x.session.getD {}).vTarget ++ lei 4 en ++
    le 8 x.changedSt ++ le 2 (x.session.getD {}).account ++ le 1 (s.portRetries p) ++ le 1 x.caps ++ List.replicate 12 0)

/-- PORT_SESSION_READ (0x0706, R353). The end reason of a session that has not ended is a free value (entry 3). -/
def bodyPortSessionRead (r : Req) (s : State) : Ans :=
  let b := r.body
  let p := r.g
  let x := s.ports[p]
  let all := (vget s.portRecs p {}).recs.reverse
  .table s [paramRow [outside (u8 b 4) 1 7 4, rz b 5 3]]
    (fun s =>
      let (old, s) := match all with
        | y :: _ => (u32 y 0, s)
        | [] => s.free
      match x.session.filter (fun e => u8 b 4 == 1 && e.id == u32 b 0) with
      | some e =>
        let (why, s) := match x.ending with
          | some n => (n.reason, s)
          | none => s.free
        let chain := match e.chain with
          | none => []
          | some c => le 2 c.length ++ c
        .ok s (le 1 1 ++ [0] ++ le 4 old ++ le 8 0 ++ sessionRec s p e why 0 ++ chain)
      | none =>
        let want := all.filter (fun y => decide (u32 b 0 ≤ u32 y 0))
        let got := want.take (u8 b 4)
        .ok s (le 1 got.length ++ le 1 (b01 (decide (got.length < want.length))) ++ le 4 old ++ le 8 0 ++ got.flatten))

/-- PORT_CLEAR (0x0707, R354). -/
def bodyPortClear (r : Req) (s : State) : Ans :=
  let p := r.g
  .table s [retRow s r.target, row (s.ports[p].state != .faulted || s.ports[p].reported) stConflict]
    (fun s => .ok ((s.portSet p .idle).modPort p (fun x => { x with retries := [] })))

end Sys2Proof.Machine
end

