-- ==== Sys2Proof/Machine/Cooling.lean ====
section
/-! DEFINITION. Cable cooling and thermal capping: the cable model, prediction and current cap, draught loss, pump, valve
and fan, and the COOL commands (R355 to R381). Temperatures are exact rationals (entry 50). -/

namespace Sys2Proof.Machine

/-- COOL_CONFIG in force, none before one is accepted: the loop then keeps its reset values and a cap of 0 (entry 51). -/
def State.coolCfg (s : State) (p : Fin 8) : Option Bytes := s.nv.cfg.cool[p]

/-- Update loop `p`. -/
def State.modCool (s : State) (p : Fin 8) (f : Cool → Cool) : State := { s with cools := s.cools.set p (f s.cools[p]) }

/-- A field in 0.1 degC as a temperature. -/
def tdeg (v : Int) : Rat := (v : Rat) / 10

/-- Flow sensor fitted (R380). -/
def flowFitted (b : Bytes) : Bool := bit (u8 b 3) 0

/-- The switch channel of a COOL_CONFIG byte. -/
def coolChan (b : Bytes) (o : Nat) : Option (Fin 24) := let c := u8 b o; if h : c < 24 then some ⟨c, h⟩ else none

/-- Drive a cooling channel at a duty in 0.1 % (R357 to R359, R677). -/
def State.coolDrive (s : State) (c : Option (Fin 24)) (duty : Nat) : State :=
  match c with
  | none => s
  | some c => s.swDrive c duty

/-- The housekeeping channels of the sensors in the order of `Cool.sens`: inlet, outlet, ambient, pins. -/
def coolSensors (b : Bytes) : List (Fin 7 × Nat) :=
  [(0, u8 b 4), (1, u8 b 5)] ++ (if u8 b 6 = 0xFF then [] else [((2 : Fin 7), u8 b 6)]) ++
  (([3, 4, 5, 6] : List (Fin 7)).filter (fun i => decide (i.val < 3 + u8 b 7))).map (fun i => (i, u8 b (5 + i.val)))

/-- One sensor at a round completion (R370). A model sensor that is invalid before it ever read valid has no last value: a free
one (entry 3). -/
def State.coolSensor (s : State) (p : Fin 8) (i : Fin 7) (ch : Nat) : State :=
  let h := vget s.hk.pts ch {}
  let ok := h.valid && decide (-500 ≤ h.value) && decide (h.value ≤ 2000)
  let x := s.cools[p].sens[i]
  if ok then
    let f := match x.fault with
      | none => none
      | some n => if 49 ≤ n then none else some (n + 1)
    s.modCool p (fun c => { c with sens := c.sens.set i { value := h.value, seen := true, valid := true, fault := f } })
  else
    let s := if x.fault.isNone || x.valid then s.raise (.coolSensorFault p) ch else s
    let (v, s) : Int × State :=
      if x.seen || x.fault.isSome || 2 < i.val then (x.value, s) else let (n, s) := s.free; ((n : Int), s)
    s.modCool p (fun c => { c with sens := c.sens.set i { x with value := v, valid := false, fault := some 0 } })

/-- Ambient in use, 0.1 degC. -/
def State.coolAmbient (s : State) (p : Fin 8) (b : Bytes) : Int :=
  if u8 b 6 = 0xFF then i16 b 44 else s.cools[p].sens[2].value

/-- Flow and draught at a round completion (R371, R373 to R376). Of the 3 completions below the threshold, those inside the start
window do not count (DEDUCED, entry 264). -/
def State.coolFlow (s : State) (p : Fin 8) (b : Bytes) : State :=
  let c := s.cools[p]
  let t := s.el
  let n := (c.pulses.filter (fun x => decide (t - 200000000 ≤ x) && decide (x < t))).length
  let recent := c.pulses.any (fun x => decide (t - 100000000 ≤ x) && decide (x < t))
  let flow : Rat := (n * 300 : Nat) / (u16 b 12 : Nat)
  let past := c.pump && !c.startWin && flowFitted b
  let low := decide (flow < tdeg (u16 b 14))
  let ok := decide (tdeg (u16 b 16) ≤ flow)
  let s := s.modCool p (fun c => { c with
    flow := flow, lowRun := if past && low then c.lowRun + 1 else 0, okRun := if c.draught && ok then c.okRun + 1 else 0 })
  let c := s.cools[p]
  if c.draught then
    (if 50 ≤ c.okRun then
      (s.raise (.draughtRestored p)).modCool p (fun c => { c with draught := false, okRun := 0, lossSt := s.st }) else s)
  else if past && (!recent || decide (3 ≤ c.lowRun)) then
    (s.raise (.draughtLoss p)).modCool p (fun c => { c with
      draught := true, okRun := 0, losses := c.losses + 1, lossSt := s.st })
  else s

/-- R(T) in ohm (R360). -/
def cableR (b : Bytes) (t : Rat) : Rat := (u16 b 18 : Rat) / 1000000 * (1 + (u16 b 20 : Rat) / 1000000 * (t - 20))

/-- G_ck and G_ca in W/K at a model flow (R360). -/
def cableG (b : Bytes) (f : Rat) : Rat × Rat := (((u16 b 26 : Rat) + u16 b 28 * f) / 100, (u16 b 30 : Rat) / 100)

/-- Model flow (R362). -/
def Cool.modelFlow (c : Cool) (b : Bytes) : Rat := if c.draught || !flowFitted b then 0 else min c.flow 60

/-- I^2 of the coming step in A^2: 0 without a confirmed contactor (R360, R361). -/
def State.coolI2 (s : State) (p : Fin 8) : Rat :=
  let c := s.cools[p]
  if s.ports[p].closed && 0 < c.sqN then c.sq / c.sqN else 0

/-- One model step (R360), or the initial temperatures (R363). -/
def State.coolStep (s : State) (p : Fin 8) (b : Bytes) (i2 : Rat) : State :=
  let c := s.cools[p]
  if !c.init then
    let l := (([1, 0, 3, 4, 5, 6] : List (Fin 7)).filter (fun i => c.sens[i].valid)).map (fun i => c.sens[i].value)
    let (t, s) := match l with
      | x :: xs => (xs.foldl max x, s)
      | [] => let (v, s) := s.free; ((v : Int), s)
    s.modCool p (fun c => { c with init := true, tc := tdeg t, tk := tdeg t, early := 51, sq := 0, sqN := 0 })
  else
    let (gck, gca) := cableG b (c.modelFlow b)
    let amb := tdeg (s.coolAmbient p b)
    let dt : Rat := 1 / 50
    let tc := c.tc + dt / u16 b 22 * (i2 * cableR b c.tc - gck * (c.tc - c.tk) - gca * (c.tc - amb))
    let tk := c.tk + dt / u16 b 24 * (gck * (tc - c.tk) - u16 b 32 * c.modelFlow b * (c.tk - tdeg c.sens[0].value)) +
      (u16 b 46 : Rat) / 65536 * (tdeg c.sens[1].value - c.tk)
    s.modCool p (fun c => { c with tc := tc, tk := tk, early := c.early - 1, sq := 0, sqN := 0 })

/-- Whole square root of a rational, rounded down. -/
def ratSqrtFloor (q : Rat) : Nat := if q ≤ 0 then 0 else isqrt 64 0 (ratFloor q).toNat

/-- The series of e^x in units of 2^-96: `n` terms after the present one. -/
def expTerms (x : Int) : Nat → Nat → Int → Int
  | 0, _, t => t
  | n + 1, k, t => t + expTerms x n (k + 1) ((t * x) / (2 ^ 96 * ((k : Int) + 1)))

/-- e^(-x), with x in units of 2^-90 and the result in units of 2^-96: 40 terms of the series at x / 64, squared six times. -/
def expFix (x : Int) : Int := (List.range 6).foldl (fun (y : Int) _ => y * y / 2 ^ 96) (expTerms (-x) 40 0 (2 ^ 96))

/-- e^(-x) for x from 0, to far more than 64 bits (R365; no precision is given: DESIGN CHOICE, entry 50). -/
def expNeg (x : Rat) : Rat := (expFix (ratFloor (x * 2 ^ 90)) : Rat) / (2 ^ 96 : Nat)

/-- The prediction of R365, kept, and the square of the model cap (R366). Where G is 0 the equations give no value: both are free
values (entry 3). -/
def State.coolPredict (s : State) (p : Fin 8) (b : Bytes) (i2 : Rat) : Rat × State :=
  let c := s.cools[p]
  let (gck, gca) := cableG b (c.modelFlow b)
  let g := gck + gca
  let amb := tdeg (s.coolAmbient p b)
  let tgtT := tdeg ((u16 b 34 : Int) - u16 b 36)
  let rlim := cableR b (tdeg (u16 b 34))
  let (pred, im2, s) : Rat × Rat × State :=
    if g = 0 then
      let (a, s) := s.free
      let (m, s) := s.free
      ((a : Rat) / 10, (m : Rat), s)
    else
      let k := 1 - expNeg (g / u16 b 22)
      let teq := (gck * c.tk + gca * amb) / g
      (c.tc + k * (teq + i2 * rlim / g - c.tc), g / rlim * ((tgtT - c.tc) / k + c.tc - teq), s)
  (im2, s.modCool p (fun c => { c with pred := pred }))

/-- Pin factor and current cap (R367, R368) from the square of the model cap; `lost` when draught loss stood at the round's start, so
that the cap returns a round after its end (R375). -/
def State.coolCap (s : State) (p : Fin 8) (b : Bytes) (im2 : Rat) (lost : Bool) : State :=
  let c := s.cools[p]
  -- pins (R367)
  let pf : Rat := match c.hotPin with
    | none => 1
    | some t => max 0 (min 1 ((tdeg (i16 b 40) - tdeg t) / (tdeg (i16 b 40) - tdeg (i16 b 38))))
  let here := s.ports[p].session.map (·.id)
  let was := c.pf
  let first := decide (pf < 1) && here.isSome && c.derated != here
  let s := if first then s.raise (.pinDerate p) else s
  let s := if pf = 0 && was ≠ 0 then s.raise (.pinLimit p) else s
  let m := min 3000 (ratSqrtFloor (im2 * pf * pf))
  let limited := lost || c.draught || c.sens.toList.any (·.fault.isSome) || c.startWin || !flowFitted b || decide (0 < c.early)
  let cap := if limited then min m (u16 b 42) else m
  let s := if cap = 0 && 0 < c.icap && s.ports[p].state != .idle then s.raise (.cableCapZero p) else s
  s.modCool p (fun c => { c with
    pf := pf, derated := if first then here else c.derated, icap := cap, freshAt := s.el, stale := false })

/-- A percentage rising linearly from `lo` at `t0` to `hi` at `t1`, rounded up (R357, R358). -/
def rampPct (t t0 t1 : Rat) (lo hi : Nat) : Nat :=
  if t ≤ t0 then lo else if t1 ≤ t then hi
  else (-(ratFloor (-((lo : Rat) + ((hi : Rat) - lo) * (t - t0) / (t1 - t0))))).toNat

/-- Is the loop active (R357)? -/
def State.coolActive (s : State) (p : Fin 8) (b : Bytes) : Bool :=
  let c := s.cools[p]
  s.ports[p].state != .idle || decide (tdeg (i16 b 50) ≤ c.tc) ||
  (match c.leftAt with | none => false | some t => decide (s.el < t + 1000000000 * u16 b 58))

/-- Drive the loop's channels from ready on (R357 to R359); a pump that turns on opens its start window and clears a
declared loss (R374). -/
def State.coolChannels (s : State) (p : Fin 8) (b : Bytes) : State :=
  let act := s.coolActive p b
  let c := s.cools[p]
  let run := act && (coolChan b 0).isSome && s.sys.ready
  let duty := if run then rampPct c.pred (tdeg (i16 b 50)) (tdeg (i16 b 52)) (u8 b 48) (u8 b 49) else 0
  let fan := if s.sys.ready then rampPct (tdeg c.sens[1].value) (tdeg (i16 b 54)) (tdeg (i16 b 56)) 0 100 else 0
  let turnsOn := run && !c.pump
  let s := s.modCool p (fun c => { c with
    active := act, pump := run, pumpDuty := duty, fanDuty := if (coolChan b 2).isSome then fan else 0
    valve := act && (coolChan b 1).isSome && s.sys.ready
    pumpAt := if turnsOn then some s.el else c.pumpAt, startWin := run && (turnsOn || c.startWin)
    draught := c.draught && !turnsOn, lowRun := if turnsOn then 0 else c.lowRun })
  if !s.sys.ready then s
  else
    let s := s.coolDrive (coolChan b 0) (10 * duty)
    let s := s.coolDrive (coolChan b 1) (if act then 1000 else 0)
    s.coolDrive (coolChan b 2) (10 * fan)

/-- One round of a cooling loop (R360 to R376): the channels follow the prediction, and the cap sees a start window that opens in
the round (R368). -/
def State.coolRound (s : State) (p : Fin 8) : State :=
  match s.coolCfg p with
  | none => s
  | some b =>
    let s := (coolSensors b).foldl (fun s x => s.coolSensor p x.1 x.2) s
    let lost := s.cools[p].draught
    let s := s.coolFlow p b
    let i2 := s.coolI2 p
    let (im2, s) := (s.coolStep p b i2).coolPredict p b i2
    (s.coolChannels p b).coolCap p b im2 lost

/-- A cap in A times a voltage in Q16.16, in W, rounded down (R369). -/
def capWatts (cap : Nat) (v : Int) : Nat := cap * v.toNat / 65536

/-- The loop's part of an outer cycle, once the cycle's cable voltage is known: squares of the mean I_out (R360), the cable cap (R369,
R372). -/
def State.coolCycle (s : State) (p : Fin 8) : State :=
  let i : Rat := match s.portGroup p with
    | some g => ((s.groups[g].loop.iout.getD 0 : Int) : Rat) / 65536
    | none => 0
  let c := s.cools[p]
  let cap : Nat := if c.stale then (match s.coolCfg p with | some b => u16 b 42 | none => 0) else c.icap
  s.modCool p (fun c => { c with
    sq := c.sq + i * i, sqN := c.sqN + 1, pcap := capWatts cap s.ports[p].vcable })

/-! ### Events -/

/-- A pulse of FLOWn is counted and stamped (R371). -/
def execFlowPulse (p : Fin 8) (s : State) : Host.Outcome State Fault Refusal :=
  live s (fun s => s.modCool p (fun c => { c with pulses := s.el :: c.pulses.filter (fun t => decide (s.el - 250000000 ≤ t)) }))

/-- The fabric puts the uncooled rating into the cable cap at once (R372). -/
def State.coolUncooled (s : State) (p : Fin 8) : State :=
  let cap : Nat := match s.coolCfg p with | some b => u16 b 42 | none => 0
  (s.modCool p (fun c => { c with pcap := capWatts cap s.ports[p].vcable })).refreshEff p

/-- I_cap has not been refreshed for 3 rounds (R372). -/
def execCoolCapStale (p : Fin 8) (s : State) : Host.Outcome State Fault Refusal :=
  live s (whenDo ((s.coolCfg p).isSome && !s.cools[p].stale && decide (s.cools[p].freshAt + 60000000 ≤ s.el))
    (fun s => ((s.modCool p (fun c => { c with stale := true })).raise (.coolCapStale p)).coolUncooled p))
/-- The pump's start window of 2 s ends: draught loss is evaluated from here on (R374). -/
def execPumpStartWindowEnd (p : Fin 8) (s : State) : Host.Outcome State Fault Refusal :=
  live s (whenDo (s.cools[p].startWin && (match s.cools[p].pumpAt with | none => false | some t => decide (t + 2000000000 ≤ s.el)))
    (·.modCool p (fun c => { c with startWin := false, lowRun := 0 })))

/-- The run-on time ends and the loop may go inactive (R357). -/
def State.coolRunOnEnd (s : State) (p : Fin 8) : State :=
  match s.coolCfg p, s.cools[p].leftAt with
  | some b, some t => whenDo (s.cools[p].active && decide (t + 1000000000 * u16 b 58 ≤ s.el) && !s.coolActive p b)
      (·.coolChannels p b) s
  | _, _ => s

def execCoolRunOnEnd (p : Fin 8) (s : State) : Host.Outcome State Fault Refusal := live s (·.coolRunOnEnd p)

/-! ### Commands -/

/-- COOL_CONFIG (0x0801, R380). The sensors of the new configuration have yet to be read, and a pump on another channel has yet to
turn on. -/
def bodyCoolConfig (r : Req) (s : State) : Ans :=
  let b := r.body
  let p := r.g
  let k := u8 b 7
  let named (o : Nat) : Bool × Nat := (s.swNamed (u8 b o) 3 p, o)
  let g0 := u16 b 26 + 60 * u16 b 28
  .table s
    [paramRow ([orNone (u8 b 0) 23 0, named 0, orNone (u8 b 1) 23 1, named 1, orNone (u8 b 2) 23 2, named 2, (u8 b 1 != 0xFF && u8 b 1 == u8 b 0, 1),
        (u8 b 2 != 0xFF && (u8 b 2 == u8 b 0 || u8 b 2 == u8 b 1), 2),
        outside (u8 b 3) 0 1 3, (flowFitted b && u8 b 0 == 0xFF, 3), outside (u8 b 4) 0 63 4, outside (u8 b 5) 0 63 5,
        orNone (u8 b 6) 63 6, outside k 0 4 7] ++
      (List.range 4).map (fun i => (if i < k then decide (63 < u8 b (8 + i)) else u8 b (8 + i) != 0xFF, 8 + i)) ++
      [outside (u16 b 12) 1 10000 12, outside (u16 b 14) 1 1000 14, outside (u16 b 16) (u16 b 14 + 1) 1000 16,
       outside (u16 b 18) 1 65535 18, outside (u16 b 20) 0 10000 20, outside (u16 b 22) 1 65535 22,
       (decide (10000 * u16 b 22 ≤ 4 * (g0 + u16 b 30)), 22), outside (u16 b 24) 1 65535 24,
       (decide (10000 * u16 b 24 ≤ 4 * (g0 + 6000 * u16 b 32)), 24), outside (u16 b 32) 1 1000 32,
       outside (i16 b 34) 400 1500 34, outside (i16 b 36) 0 200 36, outside (i16 b 38) 0 (i16 b 40 - 1) 38,
       outside (i16 b 40) 0 1500 40, outside (u16 b 42) 0 3000 42, outside (i16 b 44) (-400) 800 44,
       outside (u8 b 48) 0 100 48, outside (u8 b 49) (u8 b 48) 100 49, (decide (i16 b 52 ≤ i16 b 50), 50),
       outside (i16 b 52) (-32768) 1500 52, (decide (i16 b 56 ≤ i16 b 54), 54), outside (i16 b 56) (-32768) 1500 56,
       outside (u16 b 58) 0 3600 58, rz b 60 4]),
     retiredRow s (([0, 1, 2].filter (fun o => u8 b o != 0xFF)).map (fun o => (tgt 4 (u8 b o), o))), retRow s (tgt 3 p),
     row (s.ports[p].state != .idle) stConflict]
    (fun s => .ok ((s.store (fun c => { c with cool := c.cool.set p (some b) })).modCool p
      (fun c => (if (s.coolCfg p).any (fun o => u8 o 0 == u8 b 0) then id else Cool.stop)
        { c.afresh with sens := Vector.replicate 7 {}, freshAt := s.el, stale := false })))

/-- COOL.CSTAT (R379). -/
def State.cstat (s : State) (p : Fin 8) : Nat :=
  let c := s.cools[p]
  b01 c.active + 2 * b01 c.pump + 4 * b01 c.draught + 8 * b01 c.startWin +
  16 * b01 (c.sens.toList.any (·.fault.isSome)) + 32 * b01 (decide (c.pf < 1)) + 64 * b01 c.binding + 128 * b01 c.stale

/-- Measured flow, 0.1 L/min, rounded down. -/
def Cool.flowTenths (c : Cool) : Nat := (ratFloor (c.flow * 10)).toNat

/-- COOL_STATUS (0x0802, R381). Before a COOL_CONFIG no temperature is present. -/
def bodyCoolStatus (r : Req) (s : State) : Ans :=
  let p := r.g
  let c := s.cools[p]
  let cfg := s.coolCfg p
  let model (t : Rat) : Option Int := if c.init then some (tenths t) else none
  let amb := match cfg with
    | none => none
    | some b => if u8 b 6 = 0xFF then some (i16 b 44) else c.sens[2].shown
  let pin (i : Fin 7) : Bytes := tempWord (if c.sens[i].valid then some c.sens[i].value else none)
  .ok s (le 1 (s.cstat p) ++ le 1 c.pumpDuty ++ le 1 c.fanDuty ++ le 1 (b01 c.valve) ++ le 2 c.flowTenths ++
    tempWord (model c.tc) ++ tempWord (model c.pred) ++ tempWord (model c.tk) ++ tempWord c.sens[0].shown ++
    tempWord c.sens[1].shown ++ tempWord amb ++ pin 3 ++ pin 4 ++ pin 5 ++ pin 6 ++ le 2 c.icap ++ [0, 0] ++
    le 4 c.pcap ++ le 4 c.losses.toNat ++ le 8 c.lossSt)

end Sys2Proof.Machine
end

