-- ==== Sys2Proof/Machine/QueuePorts.lean ====
section
/-! DEFINITION. The host's queue ports, spill and layout steps, and the QUEUE commands (R632 to R654, R667 to R669). -/

namespace Sys2Proof.Machine

/-! ### Ports (R637 to R643). `bad` records the misuse of the transaction at hand, cause 4 of R613. -/

/-- The open packet of the host is discarded and counted; what was behind it follows (R638, R642). -/
def State.dropOpen (s : State) (q : Fin 128) : State :=
  let x := s.queues[q].closeOpen []
  s.putQueue q { x with drops := x.drops + 1, lastDrop := s.st }

/-- Bytes of one item of a queue (R667). -/
def QCfg.itemBytes (c : QCfg) : Nat := 2 ^ c.width

/-- QDATA: 32/width items, lowest bits first; in packet mode they join the open packet, which is discarded whole when it no
longer fits (R641, R642, R647); with no packet open they are dropped, which QDROP counts (R642, R666; DEDUCED, entry 308). -/
def State.qdata (s : State) (q : Fin 128) (w : Nat) (bad : State → State) : State :=
  let x := s.queues[q]
  if !x.cfg.hostWrites then bad s
  else match x.cfg.mode with
  | .stream => State.offerItems x.cfg.itemBytes (4 / x.cfg.itemBytes) s q (le 4 w)
  | .event => bad s
  | .packet =>
    match x.open_ with
    | none => bad (s.setQueue q { x with drops := x.drops + BitVec.ofNat 32 (4 / x.cfg.itemBytes), lastDrop := s.st })
    | some o =>
      let y := { x with open_ := some { o with bytes := o.bytes ++ le 4 w, words := o.words + 1 } }
      if y.sramFill ≤ y.room (s.isRetired (tgt 7 q)) then s.putQueue q y
      else (s.setQueue q (x.closeOpen [])).queueDrop q 1 |>.watermark q

/-- QOPEN: opens a packet and reserves its length word; an open packet is discarded, and none is opened (R641, R642). -/
def State.qopen (s : State) (q : Fin 128) (v : Nat) (bad : State → State) : State :=
  let x := s.queues[q]
  if v % 2 = 0 then s
  else if !x.cfg.hostWrites then bad s
  else if x.cfg.mode != .packet then s
  else match x.open_ with
  | some _ => bad (s.dropOpen q)
  | none =>
    if s.queueFits q 1 then s.putQueue q { x with open_ := some { bytes := [], words := 0, since := s.el } }
    else s.queueDrop q 1

/-- QCLOSE: closes the open packet with its length in bytes (R641, R642). -/
def State.qclose (s : State) (q : Fin 128) (v : Nat) (bad : State → State) : State :=
  let x := s.queues[q]
  let l := v % 65536
  if !x.cfg.hostWrites then bad s
  else match x.open_ with
  | none => bad s
  | some o =>
    if l = 0 && o.words = 0 || decide (4 * o.words < l + 4) && decide (l ≤ 4 * o.words) && l != 0 then
      s.putQueue q (x.closeOpen (packetWords (o.bytes.take l)))
    else bad (s.dropOpen q)

/-- QRLO: pops the next word and latches its high half and tag (R639, R641); the word's low half. -/
def State.qrlo (s : State) (q : Fin 128) : Nat × State :=
  let (w, x) := s.queues[q].pop
  let d := match w with | some w => w.data | none => 0
  (d % 2 ^ 32, s.putQueue q { x with rhi := d / 2 ^ 32 % 2 ^ 32, tag := qtag w })

/-- QCTL.DROP (R642, R643). -/
def State.qctl (s : State) (q : Fin 128) (v : Nat) (bad : State → State) : State :=
  let x := s.queues[q]
  if v % 2 = 0 then s
  else if x.cfg.firmware || x.cfg.mode != .packet then bad s
  else s.putQueue q x.dropCurrent.1

/-- Address of a port of queue `q` (R641). -/
def qaddr (q : Fin 128) (off : Nat) : Nat := 0x100000 + 0x2000 * q.val + off

/-- A write of one word by the host through a port: nothing before HOSTIO serves; a violation is logged (R608, R610,
R613). -/
def State.portWrite (s : State) (q : Fin 128) (off v : Nat) (f : State → (State → State) → State) : State :=
  if !s.hio.serving then s
  else f { s with hio := { s.hio with lastWriteBad := false } } (fun s => s.violate (qaddr q off) true 4 1 (v % 2 ^ 32))

def execQueueQdataWrite (q : Fin 128) (w : Word) (s : State) : Host.Outcome State Fault Refusal :=
  live s (fun s => s.portWrite q 0 w.toNat (fun s bad => s.qdata q w.toNat bad))

def execQueueQopenWrite (q : Fin 128) (v : Word) (s : State) : Host.Outcome State Fault Refusal :=
  live s (fun s => s.portWrite q 4 v.toNat (fun s bad => s.qopen q v.toNat bad))

def execQueueQcloseWrite (q : Fin 128) (v : Word) (s : State) : Host.Outcome State Fault Refusal :=
  live s (fun s => s.portWrite q 8 v.toNat (fun s bad => s.qclose q v.toNat bad))

def execQueueQctlDrop (q : Fin 128) (v : Word) (s : State) : Host.Outcome State Fault Refusal :=
  live s (fun s => s.portWrite q 0x1010 v.toNat (fun s bad => s.qctl q v.toNat bad))

/-- A read of QRLO by the host, with its answer: 0x02 before HOSTIO serves, 0x01 on a queue whose consumer is not the host
(R608, R642). -/
def State.qrloRead (s : State) (q : Fin 128) : State :=
  if !s.hio.serving then s.emit (.window 2 [0])
  else if s.queues[q].cfg.firmware then (s.violate (qaddr q 0x1000) false 4 1 0).emit (.window 1 [0])
  else
    let (v, s) := s.qrlo q
    s.emit (.window 0 [v])

def execQueueQrloRead (q : Fin 128) (s : State) : Host.Outcome State Fault Refusal := live s (·.qrloRead q)

/-- A packet that the host opened has not been closed within 100 ms: discarded, counted and logged with cause 4 (R638); the
address and words of that entry are free (entry 137). -/
def State.packetTimeout (s : State) (q : Fin 128) : State :=
  match s.queues[q].open_ with
  | none => s
  | some o =>
    if o.since + 100000000 ≤ s.el then
      let s := s.dropOpen q
      let (a, s) := s.free
      let (n, s) := s.free
      let (d, s) := s.free
      s.violate (a % 2 ^ 32) true 4 (n % 2 ^ 16) (d % 2 ^ 32)
    else s

def execHostPacketTimeout (q : Fin 128) (s : State) : Host.Outcome State Fault Refusal := live s (·.packetTimeout q)

/-- Core 3 moves a page to or from the spill, unless throttling has it wait (R648, R649). -/
def State.spillMove (s : State) (q : Fin 128) : State :=
  if s.paused || s.queues[q].cfg.mode == .packet || s.isRetired (tgt 7 q) then s
  else s.putQueue q s.queues[q].spillPage

def execSpillMove (q : Fin 128) (s : State) : Host.Outcome State Fault Refusal := live s (·.spillMove q)

/-- Does a queue hold nothing? -/
def Queue.isEmpty (x : Queue) : Bool := x.sramFill = 0 && x.spilled.isEmpty

/-- After ready a queue of the boot layout takes its stored settings once it is empty (R634). -/
def State.layoutSwitch (s : State) (q : Fin 128) : State :=
  let x := s.queues[q]
  if !s.sys.ready || !x.boot || decide (q.val < 2) || !x.isEmpty then s
  else match s.nv.cfg.queue[q] with
  | none => s
  | some b => s.putQueue q { x with cfg := qcfgOf b, boot := false, inCur := false }

def execQueueLayoutSwitch (q : Fin 128) (s : State) : Host.Outcome State Fault Refusal := live s (·.layoutSwitch q)

/-! ### Commands (R667 to R669) -/

/-- The queue that a request targets. -/
def Req.q (r : Req) : Fin 128 := r.fin 128

/-- The most that a setting of a queue is: in force, stored and, at the next reset release, in the boot layout (R632, R633;
DEDUCED, entry 308). -/
def State.qMost (s : State) (q : Fin 128) (f : QCfg → Nat) : Nat :=
  max (max (f s.queues[q].cfg) (if q.val < 14 then f (bootLayout q) else 0))
    (match s.nv.cfg.queue[q] with | some b => f (qcfgOf b) | none => 0)

/-- Sum of that over the other queues (R667). -/
def State.qSum (s : State) (q : Fin 128) (f : QCfg → Nat) : Nat :=
  (((List.finRange 128).filter (· != q)).map (fun k => s.qMost k f)).sum

/-- Does another queue use an FC pin, in force or stored (R645)? -/
def State.fcTaken (s : State) (q : Fin 128) (pin : Nat) : Bool :=
  (List.finRange 128).any (fun k => k != q && (s.queues[k].cfg.fc == some pin ||
    (match s.nv.cfg.queue[k] with | some b => (qcfgOf b).fc == some pin | none => false)))

/-- Does a route, in force or stored, name a queue (R667)? -/
def State.routed (s : State) (q : Fin 128) : Bool :=
  s.evt.routeQ.toList.contains q.val ||
  s.nv.cfg.route.toList.any (fun r => match r with | some r => r.1 == q.val | none => false)

/-- Accepted settings take effect at once, except on a queue that keeps the boot layout until it is empty (R634,
R667). -/
def State.queueApply (s : State) (q : Fin 128) (b : Bytes) : State :=
  let s := if bit (u8 b 3) 2 then s.queueEmpty q else s
  let x := s.queues[q]
  if x.boot && !x.isEmpty then s else s.putQueue q { x with cfg := qcfgOf b, boot := false }

/-- QUEUE_CONFIG (R667). -/
def bodyQueueConfig (r : Req) (s : State) : Ans :=
  let b := r.body
  let q := r.q
  let c := qcfgOf b
  let f := u8 b 3
  let x := s.queues[q]
  .table s
    [ row (decide (q.val < 2)) stDenied
    , paramRow [outside (u8 b 0) 0 2 0, (decide (2 < u8 b 1) || (u8 b 0 == 2 && u8 b 1 != 2), 1), outside (u8 b 2) 0 1 2,
        (decide (7 < f) || (bit f 1 && u8 b 0 == 1) || (bit f 0 && u8 b 0 == 2), 3),
        (decide (1024 < u16 b 4) || decide (1024 < max (u16 b 4) (if q.val < 14 then (bootLayout q).pages else 0) + s.qSum q (·.pages)), 4), outside (u8 b 6) 1 255 6,
        (decide (u8 b 6 ≤ u8 b 7), 7), (decide (7 < u8 b 8) && u8 b 8 != 0xFF || s.fcTaken q (u8 b 8), 8), rz b 9 1,
        (decide (256 < u16 b 10) || decide (256 < u16 b 10 + s.qSum q (·.spillMB)), 10), rz b 12 4]
    , retRow s r.target
    , row ((c.mode != x.cfg.mode || c.width != x.cfg.width || c.pages != x.cfg.pages) && !x.isEmpty && !bit f 2) stConflict
    , row (x.cfg.mode == .event && c.mode != .event && s.routed q) stConflict ]
    (fun s => .ok ((s.store (fun k => { k with queue := k.queue.set q (some b) })).queueApply q b))

/-- QUEUE_DROP_PACKET (R668). -/
def bodyQueueDropPacket (r : Req) (s : State) : Ans :=
  let x := s.queues[r.q]
  .table s
    [ retRow s r.target, row (x.cfg.mode != .packet) stConflict, row x.cfg.firmware stDenied ]
    (fun s =>
      let (y, n) := x.dropCurrent
      .ok (s.putQueue r.q y) ([0, 0] ++ le 4 n))

/-- QUEUE_STATUS (R669). -/
def bodyQueueStatus (r : Req) (s : State) : Ans :=
  if r.target = 0 then
    let all := s.queues.toList
    .ok s (le 2 (all.map (·.cfg.pages)).sum ++ le 1 (all.filter (·.chain.isSome)).length ++ [0, 0, 0] ++
      le 4 (all.map (·.cfg.spillMB)).sum ++ le 4 (all.map (·.spilled.length)).sum ++
      (s.fabric.gust.toList.map (le 4 ·)).flatten ++ le 4 0)
  else
    let x := s.queues[r.q]
    .ok s (le 2 (s.qstat r.q) ++ le 4 x.sramFill ++ le 4 x.spilled.length ++ le 4 x.drops.toNat ++ le 2 x.cfg.pages ++
      le 1 (x.cfg.fc.getD 0xFF) ++ le 1 (x.chain.getD 0xFF) ++ le 8 x.lastDrop ++ le 4 0)

end Sys2Proof.Machine
end

