-- ==== Sys2Proof/Machine/EventRouter.lean ====
section
/-! DEFINITION. The event router: release in stamp order, flood limit, routes, pending bits and the event log (R655 to
R663, R670). -/

namespace Sys2Proof.Machine

/-- The 24 bytes of an event record (R655). -/
def EvRec.bytes (r : EvRec) : Bytes :=
  le 8 r.stamp ++ le 4 r.seq ++ le 1 r.src ++ le 1 r.code ++ le 1 r.flags ++ [0] ++ le 4 r.p1 ++ le 4 r.p2

/-- The order of release: stamp, then source, then code (R660). -/
def EvRec.before (a b : EvRec) : Bool :=
  decide (a.stamp < b.stamp) || (a.stamp == b.stamp && (decide (a.src < b.src) || (a.src == b.src && decide (a.code ≤ b.code))))

/-- Write a record to the event log, or to its SRAM buffer while throttled work stands; a full buffer gives up its oldest
record (R657, R716). -/
def State.logEvent (s : State) (r : EvRec) : State :=
  if s.paused then
    if s.evt.buffered.length < 4096 then { s with evt := { s.evt with buffered := s.evt.buffered ++ [r] } }
    else
      { s with
        nv := { s.nv with evLog := ((s.evt.buffered.take 1) ++ s.nv.evLog).take 65536 }
        evt := { s.evt with buffered := s.evt.buffered.drop 1 ++ [r] } }
  else { s with nv := { s.nv with evLog := (r :: s.nv.evLog).take 65536 } }

/-- Update the flood accounting of a source. -/
def State.modFlood (s : State) (src : Nat) (f : Flood → Flood) : State :=
  { s with evt := { s.evt with flood := vset s.evt.flood src (f (vget s.evt.flood src {})) } }

/-- A 1 ms window of a source is over: events not routed in it are reported (R659). -/
def State.floodEnd (s : State) (src : Nat) : State :=
  let f := vget s.evt.flood src {}
  if f.held = 0 || f.win = s.st / 1000000 then s
  else (s.modFlood src (fun f => { f with held := 0, flag := true })).raise .eventFlood src f.held

def execEventFlood (src : Fin 256) (s : State) : Host.Outcome State Fault Refusal := live s (·.floodEnd src)

/-- Set the pending bit of a source at each pin of a mask, and keep which bits were set in this fabric tick (R25, R662). -/
def State.pendSet (s : State) (src mask : Nat) : State :=
  let now := fun (p : Fin 4) => if s.evt.pendTick = s.el then s.evt.pendNew[p] else 0
  { s with evt := { s.evt with
    pendTick := s.el
    pendNew := Vector.ofFn (fun (p : Fin 4) => if bit mask p then now p ||| 2 ^ src else now p)
    pend := Vector.ofFn (fun (p : Fin 4) => if bit mask p then s.evt.pend[p] ||| 2 ^ src else s.evt.pend[p]) } }

/-- Release one record: sequence, flood limit, queue, pending bits and log (R657 to R662). -/
def State.releaseOne (s : State) (r : EvRec) : State :=
  let s := s.floodEnd r.src
  let win := s.st / 1000000
  let f := vget s.evt.flood r.src {}
  let f : Flood := if f.win = win then f else { win := win, flag := f.flag }
  let seq := (s.nv.evSeq + 1) % 2 ^ 32
  let s := { s with nv := { s.nv with evSeq := seq } }
  if f.routed < 32 then
    let r := { r with seq := seq, flags := r.flags + 2 * b01 f.flag }
    let s := s.modFlood r.src (fun _ => { f with routed := f.routed + 1, flag := false })
    let q := vget s.evt.routeQ r.src 0xFF
    let s := if h : q < 128 then (s.offer ⟨q, h⟩ (recordWords r.bytes)).1 else s
    (s.pendSet r.src (vget s.evt.routeIrq r.src 0)).logEvent r
  else
    (s.modFlood r.src (fun _ => { f with held := f.held + 1 })).logEvent { r with seq := seq }

/-- Release every record held for 200 ns, a time that a clock step does not change (R79, R660). -/
def State.release' (s : State) : State :=
  let due := s.evt.held.filter (fun r => decide (r.from_ + 200 ≤ s.el))
  let s := { s with evt := { s.evt with held := s.evt.held.filter (fun r => decide (s.el < r.from_ + 200)) } }
  (sortBy EvRec.before due).foldl (fun s r => s.releaseOne r) s

def execEventRelease (s : State) : Host.Outcome State Fault Refusal := live s (·.release')

/-- Is a queue number one of a queue in event mode, or none (R661)? -/
def State.eventQueue (s : State) (q : Nat) : Bool :=
  q = 0xFF || (if h : q < 128 then s.queues[q].cfg.mode == .event else false)

/-- A write to EVT.ROUTE of source `src`: the route in force only; reserved sources ignore it (R23, R661, R663). -/
def State.routeWrite (s : State) (src v : Nat) (bad : State → State) : State :=
  if !isSource src then s
  else if !s.eventQueue (v % 256) then bad s
  else { s with evt := { s.evt with
    routeQ := vset s.evt.routeQ src (v % 256), routeIrq := vset s.evt.routeIrq src (v / 256 % 16) } }

/-- A write to EVT.PEND: ones clear pending bits but those set in the same fabric tick (R25, R663). -/
def State.pendWrite (s : State) (p : Fin 4) (w v : Nat) : State :=
  let ones := v % 2 ^ 32 * 2 ^ (32 * w)
  let m := if s.evt.pendTick = s.el then ones - (ones &&& s.evt.pendNew[p]) else ones
  { s with evt := { s.evt with pend := s.evt.pend.set p (s.evt.pend[p] - (s.evt.pend[p] &&& m)) } }

/-- A write of the host to an event router register: nothing before HOSTIO serves (R608). -/
def State.evtWrite (s : State) (f : State → State) : State :=
  if s.hio.serving then f { s with hio := { s.hio with lastWriteBad := false } } else s

def execEvtRouteWrite (src : Fin 256) (v : Word) (s : State) : Host.Outcome State Fault Refusal :=
  live s (·.evtWrite (fun s => s.routeWrite src v.toNat (fun s => s.violate (0x200000 + 4 * src.val) true 4 1 v.toNat)))

def execEvtPendWrite (p : Fin 4) (w : Fin 8) (v : Word) (s : State) : Host.Outcome State Fault Refusal :=
  live s (·.evtWrite (fun s => s.pendWrite p w v.toNat))

/-- Level of IRQp_N is low: the pin is enabled and has a pending bit (R662). -/
def State.irqLow (s : State) (p : Fin 4) : Bool := bit s.evt.enable p && s.evt.pend[p] != 0

/-- EVENT_ROUTE (R670). -/
def bodyEventRoute (r : Req) (s : State) : Ans :=
  let b := r.body
  let n := u16 b 0
  let offs := (List.range n).map (fun j => 4 + 4 * j)
  let srcs := offs.map (u8 b ·)
  .table s
    [ paramRow ([outside n 1 256 0, rz b 2 2] ++ (offs.zipIdx.map (fun (x : Nat × Nat) =>
        let o := x.1
        [(!isSource (u8 b o) || (srcs.take x.2).contains (u8 b o), o), (!s.eventQueue (u8 b (o + 1)), o + 1),
          outside (u8 b (o + 2)) 0 15 (o + 2), rz b (o + 3) 1])).flatten)
    , retiredRow s ((offs.filter (fun o => u8 b (o + 1) != 0xFF)).map (fun o => (tgt 7 (u8 b (o + 1)), o + 1))) ]
    (fun s => .ok (offs.foldl (fun (s : State) (o : Nat) =>
      let s := s.store (fun c => { c with route := vset c.route (u8 b o) (some (u8 b (o + 1), u8 b (o + 2))) })
      { s with evt := { s.evt with
        routeQ := vset s.evt.routeQ (u8 b o) (u8 b (o + 1)), routeIrq := vset s.evt.routeIrq (u8 b o) (u8 b (o + 2)) } }) s))

end Sys2Proof.Machine
end

