-- ==== Sys2Proof/Machine/FlCode.lean ====
section
/-! DEFINITION. What a feeder-link frame carries on its symbols: CRC-24, convolutional code, interleaving, carriers (R557,
R558, R564, R565). -/

namespace Sys2Proof.Machine

/-- CRC-24 of a payload: polynomial 0x864CFB, initial 0xB704CE, no final inversion (R565). That bytes enter most significant
bit first is DESIGN CHOICE (entry 273). -/
def crc24 (bs : Bytes) : Nat := bs.foldl (crcByteM 24 0x864CFB) 0xB704CE

/-- The bits of bytes in the order in which they enter the encoder: most significant first (DESIGN CHOICE, entry 273). -/
def bitsMsb (bs : Bytes) : List Bool := bs.flatMap (fun b => (List.range 8).map (fun k => b.toNat.testBit (7 - k)))

/-- The rate-1/2 convolutional code of constraint length 7, generators 0o171 and 0o133 (R557): the register holds the newest bit
on top, and the first generator's output comes first (DESIGN CHOICE, entry 273). -/
def convolve : Nat → List Bool → List Bool
  | _, [] => []
  | r, b :: bs =>
    let w := r / 2 + 64 * b01 b
    (popcount 7 (w &&& 0o171) % 2 == 1) :: (popcount 7 (w &&& 0o133) % 2 == 1) :: convolve w bs

/-- The 288 coded bits of a header: its 16 bytes and 6 tail bits coded, 20 zero pad bits (R564). -/
def headerCoded (h : Bytes) : List Bool := convolve 0 (bitsMsb h ++ List.replicate 6 false) ++ List.replicate 20 false

/-- Interleaving of N coded bits: bit i is carried at position (i x s) mod N, s the first of 37, 41, 43 coprime to N
(R565). -/
def interleave (l : List Bool) : List Bool :=
  let n := l.length
  let s := ([37, 41, 43].find? (fun s => Nat.gcd s n == 1)).getD 37
  (l.zipIdx.foldl (fun (a : Array Bool) x => a.setIfInBounds (x.2 * s % n) x.1) (Array.replicate n false)).toList

/-- The coded and interleaved bits of a data field: payload, CRC-24 stored least significant byte first (R9), 6 tail bits
(R565). -/
def dataCoded (payload : Bytes) : List Bool :=
  interleave (convolve 0 (bitsMsb (payload ++ le 3 (crc24 payload)) ++ List.replicate 6 false))

/-- One symbol: the bits that each of its 36 carriers takes, low bit first, from those left; a masked carrier, and every
carrier of a segment that is off, carries none and has a phase difference of zero (R558, R565). -/
def symbolOf (m mask : Nat) (l : List Bool) : List Nat × List Bool :=
  (List.range 36).foldl (fun x c =>
    if mask.testBit c && decide (0 < m) then
      (x.1 ++ [maskOf ((List.range m).filter (fun k => x.2.getD k false))], x.2.drop m)
    else (x.1 ++ [0], x.2)) ([], l)

/-- Data symbols from number `k` on, filled in order, the last padded with zero bits (R565); `look` gives the modulation and
mask of a data symbol. -/
def symbolsOf (look : Nat → Nat × Nat) : Nat → Nat → List Bool → List (List Nat)
  | 0, _, _ => []
  | _, _, [] => []
  | fuel + 1, k, l =>
    let x := symbolOf (look k).1 (look k).2 l
    x.1 :: symbolsOf look fuel (k + 1) x.2

/-- The symbols of a frame after its preamble: 8 of its header, DBPSK on all carriers, and those of its data field (R564,
R565). -/
def frameSymbols (look : Nat → Nat × Nat) (room : Nat) (h payload : Bytes) : List (List Nat) :=
  symbolsOf (fun _ => (1, 2 ^ 36 - 1)) 8 0 (headerCoded h) ++ symbolsOf look room 0 (dataCoded payload)

end Sys2Proof.Machine
end

