-- ==== Sys2Proof/Machine/FeederLink.lean ====
section
/-! DEFINITION. The feeder link: beacons, slots, frames, tone maps, reports, repeats, and the FLINK commands (R557 to
R589). Signal processing below frames is what the received-frame operand tells. -/

namespace Sys2Proof.Machine

/-- Update the link. -/
def State.modFl (s : State) (f : Flink → Flink) : State := { s with flink := f s.flink }

/-- Section 0 of FLINK_CONFIG, with the defaults of R587 before one is stored. -/
def State.flCfg (s : State) : Bytes :=
  (s.nv.cfg.flink0).getD ([0, 0, 0, 0, 1, 0xFF, 50, 0, 0, 0, 12, 40, 12, 36, 60] ++ List.replicate 9 0)

/-- Enabled (R586). -/
def State.flOn (s : State) : Bool := bit (u8 s.flCfg 1) 0

/-- Own network id and address (R568). -/
def State.flNet (s : State) : Nat := u16 s.flCfg 2
def State.flAddr (s : State) : Nat := s.strap.siteId

/-- Does this device coordinate (R576)? -/
def State.flCoord (s : State) : Bool :=
  s.flOn && !s.flink.yielded && (u8 s.flCfg 4 == 2 || (u8 s.flCfg 4 == 1 && s.posHolds))

/-- Length of a beacon cycle in ns by the last valid beacon (R561); none before one. -/
def State.flCycle (s : State) : Option Nat := s.flink.beacon.map (fun b => 4 * b.p)

/-- A peer's entry. -/
def State.flPeer (s : State) (a : Nat) : Peer := (s.flink.peers.find? (fun p => p.addr == a)).getD { addr := a }

/-- Store a peer's entry. -/
def State.setPeer (s : State) (p : Peer) : State :=
  s.modFl (fun x => { x with peers := p :: x.peers.filter (fun q => q.addr != p.addr) })

/-- Boundary `j` counted from a beacon's own start (R561). -/
def Beacon.boundary (b : Beacon) (j : Nat) : Nat := b.z + j * b.p / 6

/-- The cycle segment of an ST: of the last boundary at or before it (R561). -/
def Beacon.segment (b : Beacon) (t : Nat) : Nat :=
  if b.p = 0 then 0 else ((6 * ((t : Int) - b.z + 1) - 1).fdiv b.p % 6).toNat

/-- The frame header of R564. -/
def State.flHeader (s : State) (type flags dest len seq gen degraded : Nat) : Bytes :=
  let h := le 1 type ++ le 1 flags ++ le 2 s.flNet ++ le 1 s.flAddr ++ le 1 dest ++ le 2 len ++ le 4 seq ++ le 1 gen ++ le 1 degraded
  h ++ le 2 (crc16 h)

/-- May the link transmit: enabled, ready, driven by the holder, no device fault, not awake from a step (R506, R579, R583,
R584)? -/
def State.flMay (s : State) : Bool :=
  s.flOn && s.sys.ready && s.holdsTwin && s.sys.fault.isNone && !bit s.fabric.clkLost 4

/-! ### Tone maps (R569, R570, R575) -/

/-- A map from the SNR measured over a beacon cycle: thresholds of FLINK_CONFIG (R570). A segment not measured keeps its
old one. -/
def State.estimate (s : State) (old : ToneMap) (snr : List (List Int)) : Vector (Nat × Nat) 6 :=
  let c := s.flCfg
  Vector.ofFn (fun (i : Fin 6) =>
    let l := snr.getD i.val []
    if l = [] then old.segs[i]
    else
      let used := (List.range 36).filter (fun k => decide ((u8 c 12 : Int) ≤ l.getD k 0))
      let mean := Config.meanSnr (used.map (fun k => l.getD k 0))
      let m := if used.length < 12 then 0 else if (u8 c 14 : Int) ≤ mean then 3 else if (u8 c 13 : Int) ≤ mean then 2 else 1
      (m, maskOf used))

/-- The SNR per cycle segment and carrier over several frames: the mean of those in which it was measured (R570; entry 80). -/
def meanSnrs (l : List (List (List Int))) : List (List Int) :=
  (List.range 6).map (fun i =>
    let rows := (l.map (fun m => m.getD i [])).filter (· != [])
    if rows = [] then [] else (List.range 36).map (fun c => Config.meanSnr (rows.map (fun r => r.getD c 0))))

/-- Re-estimation of every peer's map at a valid beacon; robust is cleared and the fresh map goes with it (R570, R575). -/
def State.reestimate (s : State) : State :=
  s.modFl (fun x => { x with peers := x.peers.map (fun (p : Peer) =>
    let was := p.robust
    let p := { p with robust := false, mapDue := p.mapDue || was }
    match p.snr with
    | [] => p
    | l =>
      let old : ToneMap := (p.maps.head?).getD {}
      let segs := s.estimate old (meanSnrs l)
      if segs = old.segs then { p with snr := [] }
      else { p with snr := [], mapDue := true, maps := ({ gen := (old.gen + 1) % 256, segs := segs } :: p.maps).take 2 }) })

/-! ### Beacons (R561 to R563, R576 to R580) -/

/-- Intervals of the meter that gives Z, newest first (R418, R562). -/
def State.zcGaps (s : State) (f : Nat) : List Nat :=
  (((s.flink.zc.filter (fun z => z.1 == f)).map (fun z => z.2.2)).filter (fun g => decide (14300000 ≤ g) && decide (g < 25000000))).take 10

/-- The nominal period (R562). -/
def State.nominalP (s : State) : Nat := if u8 s.flCfg 6 = 60 then 16666667 else 20000000

/-- Z, P and number of the beacon that the coordinator sent last: its own, or, at a new holder of the twin lease, its partner's, whose
cycles it goes on with (R585). -/
def State.flOwn (s : State) : Option (Nat × Nat × Nat) :=
  match s.flink.own, s.flink.beacon with
  | some o, _ => some o
  | none, some b => if b.coord = s.flAddr then some (b.z, b.p, b.m) else none
  | none, none => none

/-- The next beacon: Z_m, P, cycle number and whether Z runs free (R562). The first one without a crossing starts at once
(entry 82). -/
def State.nextBeacon (s : State) : Nat × Nat × Nat × Bool :=
  let f := u8 s.flCfg 5
  let gaps := s.zcGaps f
  let live := f < 4 && (vget s.metro.meters (8 + f) {}).zcLost.isNone && gaps != []
  let m := match s.flOwn with | some o => (o.2.2 + 1) % 65536 | none => 0
  match live, s.flink.zc.find? (fun z => z.1 == f) with
  | true, some z =>
    let p := (rdiv (gaps.sum : Nat) gaps.length).toNat
    let want := match s.flOwn with | some o => o.1 + 4 * o.2.1 | none => s.st + p
    let k := if p = 0 then 0 else (want - z.2.1 + p / 2) / p
    (z.2.1 + k * p, p, m, false)
  | _, _ =>
    match s.flOwn with
    | some o => (o.1 + 4 * o.2.1, o.2.1, m, true)
    | none => (s.st, s.nominalP, m, true)

/-- The slot plan of section 1: 8 grants as R577 lays them out (R587). -/
def State.flPlan (s : State) : Bytes := (s.nv.cfg.flink1).getD (List.replicate 40 0)

/-- Grants of a beacon: address, first segment, count, divider, phase. -/
def grantsOf (b : Bytes) (o n : Nat) : List (Nat × Nat × Nat × Nat × Nat) :=
  (List.range n).map (fun k =>
    let e := o + 4 * k
    (u8 b e, u8 b (e + 1), u8 b (e + 2), u8 b (e + 3) % 16, u8 b (e + 3) / 16))

/-- A beacon's contents from its payload. -/
def beaconOf (src : Nat) (b : Bytes) : Beacon :=
  { z := u64 b 0, p := u32 b 8, m := u16 b 12, zcFree := bit (u8 b 14) 0, quality := u8 b 15, wake := u16 b 16
    grants := grantsOf b 24 (u8 b 18), coord := src }

/-- A valid beacon is in force: segments, slots, re-estimation (R561, R570, R578, R579). -/
def State.takeBeacon (s : State) (b : Beacon) (stamp : Nat) : State :=
  (s.modFl (fun x => { x with
    beacon := some b, beaconAt := some s.el, beaconSt := stamp, lostRaised := false, mute := false })).reestimate

/-- The symbols of a beacon: DQPSK on all carriers (R577). -/
def beaconSymbols (h d : Bytes) : List (List Nat) := frameSymbols (fun _ => (2, 2 ^ 36 - 1)) 14 h d

/-- The coordinator's beacon at Z_m (R577); a coordinator that yields stops at the end of its cycle (R576). A Z_m that has
passed is not made up for: the next one comes by the same count. -/
def State.sendBeacon (s : State) : State :=
  if !s.flCoord || !s.flMay then s
  else
    let (z, p, m, free) := s.nextBeacon
    if z + 3 ≤ s.st && 0 < p then
      let k := (s.st - z) / (4 * p)
      s.modFl (fun x => { x with own := some (z + 4 * p * k, p, (m + k) % 65536) })
    else if s.st < z then (if s.flink.own.isNone then s.modFl (fun x => { x with own := some (z - 4 * p, p, (m + 65535) % 65536) }) else s)
    else if s.flink.yielding then s.modFl (fun x => { x with yielded := true, yielding := false, own := none })
    else
      let plan := s.flPlan
      let d := le 8 z ++ le 4 p ++ le 2 m ++ le 1 (b01 free) ++ le 1 s.time.quality.code ++ sub plan 2 2 ++ sub plan 1 1 ++
        List.replicate 5 0 ++ sub plan 8 32
      let x := s.flPeer 255
      let h := s.flHeader 0 0 255 56 x.nextSeq 0 0
      let s := s.emit (.flink (h ++ d) (beaconSymbols h d))
      let s := s.setPeer { x with nextSeq := (x.nextSeq + 1) % 2 ^ 32 }
      (s.modFl (fun y => { y with own := some (z, p, m), tx := y.tx + 1 })).takeBeacon (beaconOf s.flAddr d) z

def execBeaconTransmit (s : State) : Host.Outcome State Fault Refusal := live s (·.sendBeacon)

/-- Does a received header pass (R564, R568)? A modem without its clock receives nothing (R45). -/
def State.flHdrOk (s : State) (f : FlRx) : Bool :=
  s.flOn && !bit s.fabric.clkLost 4 && f.hdr.length == 16 && u16 f.hdr 14 == crc16 (f.hdr.take 14) && u16 f.hdr 2 == s.flNet

/-- A beacon arrives (R576, R579, R580, R84, R85). The SNR measured in it counts for the next re-estimation (R570). -/
def State.recvBeacon (s : State) (f : FlRx) : State :=
  if !s.flHdrOk f || u8 f.hdr 0 ≠ 0 || !f.crcOk then s
  else
    let src := u8 f.hdr 4
    let b := beaconOf src f.payload
    let stamp := f.start - u16 s.flCfg 8
    let above := match s.flink.own with | some o => decide (o.1 + 4 * o.2.1 ≤ s.st) | none => true
    let s := if s.flink.yielding && above then s.modFl (fun x => { x with yielded := true, yielding := false, own := none }) else s
    if s.flCoord && s.holdsTwin then
      if src < s.flAddr && !s.flink.yielding then (s.modFl (fun x => { x with yielding := true })).raise .flinkCoordConflict
      else if src = s.flAddr && !f.partner then s.siteConflict
      else s
    else
      let s := s.takeBeacon b stamp
      let s := s.setPeer { s.flPeer src with snr := f.snr :: (s.flPeer src).snr }
      let off : Int := (b.z : Int) - stamp
      let s := s.modFl (fun x => { x with offset := off })
      if src = s.flAddr && !f.partner then s.siteConflict
      else if b.quality = 3 then s else s.sourceOffset 4 off

/-- In sleep the modem looks for a beacon that has this device in its wake mask (R583, R755). -/
def State.dozeBeacon (s : State) (f : FlRx) : State :=
  if s.flHdrOk f && u8 f.hdr 0 = 0 && f.crcOk && bit (u16 f.payload 16) s.strap.siteId then s.modFl (fun x => { x with woke := true }) else s

def execBeaconReceive (f : FlRx) (s : State) : Host.Outcome State Fault Refusal :=
  .next (match s.sys.mode with
    | .run => s.recvBeacon f
    | .sleep => s.dozeBeacon f
    | .inReset => s)

/-- No valid beacon for 4 beacon cycles (R579); before the first one, cycles are nominal and count from ready or from enabling
(DEDUCED, entry 274). -/
def State.beaconLost (s : State) : State :=
  let c := (s.flCycle).getD (4 * s.nominalP)
  let base := match s.flink.beaconAt, s.flink.since with | some a, some b => some (max a b) | a, b => a.or b
  match base with
  | some t =>
    if s.flOn && !s.flink.lostRaised && decide (t + 4 * c ≤ s.el) then
      (s.modFl (fun x => { x with lostRaised := true, mute := true })).raise .flinkBeaconLost
    else s
  | none => s

def execFlinkBeaconLost (s : State) : Host.Outcome State Fault Refusal := live s (·.beaconLost)

/-! ### Receiving (R571 to R575, R581, R582) -/

/-- Write a traffic record (R581, R582); in the lee period to the boot-default queue. -/
def State.flRecord (s : State) (f : FlRx) (erased : Nat) : State :=
  let h := f.hdr
  let x := s.flink
  let fl := b01 s.sys.lee + 2 * b01 (bit (u8 h 1) 1) + 4 * b01 (bit (u8 h 1) 2) + 8 * b01 x.lost
  let pkt := le 8 f.start ++ sub h 4 2 ++ le 1 fl ++ le 1 erased ++ sub h 8 4 ++ f.payload
  let q : Fin 128 := if s.sys.lee then 12 else Fin.ofNat 128 (u8 s.flCfg 10)
  if s.sys.lee then
    let (t, ok) := s.offerRx q pkt
    if ok then t.modFl (fun x => { x with rx := x.rx + 1 }) else t
  else
    let (t, ok) := s.offerPacket q pkt
    if ok then t.modFl (fun x => { x with lost := false, dropRaised := false, rx := x.rx + 1 })
    else
      let t := if x.dropRaised then t else t.raise .flinkRxDrop
      t.modFl (fun x => { x with lost := true, dropRaised := true, drops := x.drops + 1 })

/-- Is sequence `a` later than `b` on the 32-bit circle? -/
def seqAfter (a b : Nat) : Bool := decide (0 < (a + 2 ^ 32 - b) % 2 ^ 32) && decide ((a + 2 ^ 32 - b) % 2 ^ 32 < 2 ^ 31)

/-- A sequence has been received of a peer: H and the lists within 16 behind it (R571). -/
def Peer.note (p : Peer) (q : Nat) (good : Bool) : Peer :=
  let h := match p.high with | some h => if seqAfter q h then q else h | none => q
  let near := fun (k : Nat) => decide ((h + 2 ^ 32 - k) % 2 ^ 32 ≤ 16)
  { p with
    high := some h
    got := (if good then q :: p.got.filter (· != q) else p.got).filter near
    want := (if good then p.want.filter (· != q) else q :: p.want.filter (· != q)).filter near }

/-- Degrade a cycle segment of a peer until 16 P after the failed frame's end; a running window steps down once more
(R574). -/
def Peer.degrade (p : Peer) (seg : Nat) (now end_ : Int) : Peer :=
  let steps := match p.degraded.find? (fun d => d.1 == seg && decide (now < d.2.2)) with | some d => d.2.1 + 1 | none => 1
  { p with degraded := (seg, steps, end_) :: p.degraded.filter (fun d => d.1 != seg) }

/-- The data symbols with impulsive energy: theirs exceeds the median of the 32 symbols before by the threshold (R573; entry
272). -/
def State.impulses (s : State) (f : FlRx) : List Nat :=
  (List.range f.symbols).filter (fun k => f.energy != [] &&
    decide (Config.energyMedian ((f.energy.drop k).take 32) + (u8 s.flCfg 11 : Int) < f.energy.getD (k + 32) 0))

/-- A data frame whose header passes (R573 to R575, R581). Broadcasts of a source have their own sequences, kept under its
address + 256; its failures, degraded segments and SNR are one for all its frames. -/
def State.recvData (s : State) (f : FlRx) : State :=
  let h := f.hdr
  let dest := u8 h 5
  if !s.flHdrOk f || u8 h 0 ≠ 1 || !(dest == s.flAddr || dest == 255) then s
  else
    let a := u8 h 4 + (if dest = 255 then 256 else 0)
    let q := u32 h 8
    let imp := s.impulses f
    let hit := (List.range f.symbols).filter (fun k => imp.contains k || (k != 0 && imp.contains (k - 1)))
    let s := s.modFl (fun x => { x with erase := x.erase + BitVec.ofNat 32 imp.length })
    let s := s.setPeer { s.flPeer (u8 h 4) with snr := f.snr :: (s.flPeer (u8 h 4)).snr }
    let p := s.flPeer a
    if f.crcOk then
      let seen := p.got.contains q || (match p.high with | some hi => decide (16 < (hi + 2 ^ 32 - q) % 2 ^ 32) && !seqAfter q hi | none => false)
      let s := s.setPeer { p.note q true with ackDue := true }
      let s := s.setPeer { s.flPeer (u8 h 4) with fails := 0 }
      if seen then s else s.flRecord f hit.length
    else
      let s := s.modFl (fun x => { x with crcFail := x.crcFail + 1 })
      let s := s.setPeer (p.note q false)
      let p := s.flPeer (u8 h 4)
      let n := p.fails + 1
      match s.flink.beacon with
      | none => s.setPeer { p with fails := n, robust := p.robust || decide (3 ≤ n) }
      | some b =>
        let seg := fun (k : Nat) => b.segment (f.start + (16 + k) * 800000)
        let worst := minBy (fun i => (Config.meanSnr (f.snr.getD i []) + 1000000).toNat) ((List.range 6).filter (fun i => f.snr.getD i [] != []))
        let segs := if imp = [] then worst.toList else (imp.map seg).eraseDups
        let stop : Int := s.elOf (f.start + (16 + f.symbols) * 800000) + (16 * b.p : Nat)
        let p := if p.robust then p else segs.foldl (fun (p : Peer) i => p.degrade i s.el stop) p
        s.setPeer { p with fails := n, robust := p.robust || decide (3 ≤ n) }

def execFlinkFrameReceive (f : FlRx) (s : State) : Host.Outcome State Fault Refusal := live s (·.recvData f)

/-- The next image tells the standby that a frame of its queue has been sent or dropped (R497). -/
def State.flNote (s : State) (f : FlTx) (seq : Nat) : State :=
  if s.isActive then { s with twin := { s.twin with flNew := s.twin.flNew ++ [(f.ccp, seq)] } } else s

/-- A frame leaves the queue undelivered: FLINK_SEND_FAIL with its cause, whose code no rule gives (R567, R572; a free
value, entry 83). -/
def State.flFail (s : State) (f : FlTx) : State :=
  let s := if f.seq.isNone then s.flNote f (((s.flPeer f.dest).nextSeq + 2 ^ 32 - 1) % 2 ^ 32) else s
  let (n, s) := s.free
  (s.modFl (fun x => { x with queue := x.queue.erase f, gone := x.gone + 1 })).raise .flinkSendFail (n % 2 ^ 32)

/-- A map from the 48 bytes of a report (R571). -/
def mapOf (gen : Nat) (b : Bytes) (o : Nat) : ToneMap :=
  { gen := gen, segs := Vector.ofFn (fun (i : Fin 6) => (u8 b (o + 8 * i.val) % 4, uN 6 b (o + 8 * i.val + 2) % 2 ^ 36)) }

/-- A link report arrives (R570 to R572, R574, R575). -/
def State.recvReport (s : State) (f : FlRx) : State :=
  let h := f.hdr
  if !s.flHdrOk f || u8 h 0 ≠ 2 || u8 h 5 ≠ s.flAddr || !f.crcOk then s
  else
    let a := u8 h 4
    let b := f.payload
    let p := s.flPeer a
    let s := s.setPeer { p with
      snr := f.snr :: p.snr
      txRobust := bit (u8 b 0) 0, txDegraded := u8 b 2 % 64, txMap := if bit (u8 b 0) 1 then some (mapOf (u8 b 1) b 16) else p.txMap }
    let hi := u32 b 4
    let acked := (if u8 b 12 = 1 then [hi] else []) ++ (bitsOf 16 (u16 b 8)).map (fun k => (hi + 2 ^ 32 - k - 1) % 2 ^ 32)
    let asked := (if u8 b 12 = 2 then [hi] else []) ++ (bitsOf 16 (u16 b 10)).map (fun k => (hi + 2 ^ 32 - k - 1) % 2 ^ 32)
    let mine := fun (l : List Nat) (x : FlTx) => x.dest == a && (match x.seq with | some q => l.contains q | none => false)
    let s := s.modFl (fun x => { x with queue := x.queue.filter (fun y => !mine acked y) })
    let s := (s.flink.queue.filter (fun y => mine asked y && decide (3 ≤ y.sends))).foldl (fun s y => s.flFail y) s
    s.modFl (fun x => { x with queue := x.queue.map (fun (y : FlTx) => if mine asked y then { y with again := true } else y) })

def execLinkReportReceive (f : FlRx) (s : State) : Host.Outcome State Fault Refusal := live s (·.recvReport f)

/-! ### Sending (R566, R567, R572) -/

/-- Modulation and mask of a cycle segment towards a peer: map, degraded segments, robust (R569, R574, R575). -/
def Peer.carriers (p : Peer) (seg : Nat) : Nat × Nat :=
  let (m, mask) := match p.txMap with | some t => vget t.segs seg (1, 2 ^ 36 - 1) | none => (1, 2 ^ 36 - 1)
  let m := if m = 0 then 0 else if p.txRobust then 1 else if bit p.txDegraded seg then max 1 (m - 1) else m
  (m, mask)

/-- Coded bits that a symbol of a cycle segment carries to a peer. -/
def Peer.bitsIn (p : Peer) (seg : Nat) : Nat := (p.carriers seg).1 * popcount 36 (p.carriers seg).2

/-- Data symbols that `n` coded bits need from symbol `k` of a frame that starts at `t`; none when more than `fuel`. -/
def symbolsFor (b : Beacon) (p : Peer) (t : Nat) : Nat → Nat → Nat → Option Nat
  | _, _, 0 => some 0
  | 0, _, _ + 1 => none
  | fuel + 1, k, n + 1 =>
    (symbolsFor b p t fuel (k + 1) (n + 1 - p.bitsIn (b.segment (t + (16 + k) * 800000)))).map (· + 1)

/-- Does a frame with a payload of `len` bytes fit a slot [t, e) (R557, R565, R567)? -/
def frameFits (b : Beacon) (p : Peer) (t e len : Nat) : Bool :=
  match symbolsFor b p t ((e - t) / 800000) 0 (2 * (8 * len + 30)) with
  | some n => decide (t + (16 + n) * 800000 ≤ e)
  | none => false

/-- The granted slot that starts at this tick: its window (R578). -/
def State.slotNow (s : State) : Option (Nat × Nat) :=
  match s.flink.beacon with
  | none => none
  | some b =>
    let l := (b.grants.filter (fun g => g.1 == s.flAddr && g.2.2.1 != 0 && g.2.2.2.1 != 0 && decide (b.m % g.2.2.2.1 = g.2.2.2.2))).map
      (fun g => (b.boundary g.2.1, b.boundary (g.2.1 + g.2.2.1)))
    l.find? (fun w => decide (w.1 ≤ s.st) && decide (s.st < w.1 + 3))

/-- A report is due to a peer (R572). -/
def Peer.reportDue (p : Peer) : Bool := decide (p.addr < 254) && (p.ackDue || p.want != [] || p.mapDue)

/-- The payload of a link report (R571). -/
def State.reportBytes (s : State) (p : Peer) : Bytes :=
  let h := p.high.getD 0
  let m : ToneMap := (p.maps.head?).getD {}
  let at_ := fun (k : Nat) => (h + 2 ^ 32 - k - 1) % 2 ^ 32
  let bitsFor := fun (l : List Nat) => maskOf ((List.range 16).filter (fun k => l.contains (at_ k)))
  let deg := maskOf ((p.degraded.filter (fun d => decide (s.el < d.2.2))).map (·.1))
  le 1 (b01 p.robust + 2 * b01 p.mapDue) ++ le 1 m.gen ++ le 1 deg ++ [0] ++ le 4 h ++ le 2 (bitsFor p.got) ++ le 2 (bitsFor p.want) ++
    le 1 (if p.got.contains h then 1 else if p.want.contains h then 2 else 0) ++ [0, 0, 0] ++
    (if p.mapDue then m.segs.toList.flatMap (fun x => le 1 x.1 ++ [0] ++ le 6 x.2) else [])

/-- Put a frame on the line: its header and its symbols take the map, degraded mask and robust state at this tick, the start of
its slot (R565, R566). -/
def State.flSend (s : State) (type flags dest seq : Nat) (payload : Bytes) : State :=
  let p := s.flPeer dest
  let gen := match p.txMap with | some t => t.gen | none => 0
  let h := s.flHeader type (flags + 4 * b01 p.txRobust) dest payload.length seq gen p.txDegraded
  let b : Beacon := (s.flink.beacon).getD default
  let look := fun (k : Nat) => p.carriers (b.segment ((s.flink.slotAt).getD s.st + (16 + k) * 800000))
  (s.emit (.flink (h ++ payload) (frameSymbols look (b.p / 200000) h payload))).modFl
    (fun x => { x with tx := x.tx + 1 })

/-- Send a queued frame; one that wants no acknowledgement leaves the queue when a report or 2 cycles pass (entry 84). -/
def State.flSendData (s : State) (f : FlTx) : State :=
  let p := s.flPeer f.dest
  let q := f.seq.getD p.nextSeq
  let s := if f.seq.isNone then (s.setPeer { p with nextSeq := (q + 1) % 2 ^ 32 }).flNote f q else s
  let s := s.flSend 1 (b01 f.ack + 2 * b01 (decide (0 < f.sends))) f.dest q f.data
  let m := match s.flink.beacon with | some b => b.m | none => 0
  s.modFl (fun x => { x with
    repeats := if 0 < f.sends then x.repeats + 1 else x.repeats
    queue := x.queue.map (fun (y : FlTx) => if y = f then
      { y with seq := some q, sends := y.sends + 1, sentIn := some m, sentAt := some s.el, again := false } else y) })

/-- A granted slot starts: one frame, repeats first, then reports, then new frames, the first that fits (R567, R572, R585);
throttling defers them (R583). -/
def State.slotSend (s : State) : State :=
  match s.slotNow, s.flink.beacon with
  | some (t, e), some b =>
    if !s.flMay || s.flink.mute || s.flink.slotAt = some t || t ≤ s.sys.readySt then s
    else
      let s := s.modFl (fun x => { x with slotAt := some t })
      let q := s.flink.queue
      let repeats := q.filter (fun f => f.again && frameFits b (s.flPeer f.dest) t e f.data.length)
      let reports := s.flink.peers.filter (fun p => p.reportDue && frameFits b p t e (s.reportBytes p).length)
      let fresh := q.filter (fun f => f.seq.isNone && frameFits b (s.flPeer f.dest) t e f.data.length)
      if s.paused then
        s.modFl (fun x => { x with defer := decide (repeats ≠ [] ∨ reports ≠ [] ∨ fresh ≠ []) })
      else
        let s := s.modFl (fun x => { x with defer := false })
        match repeats, reports, fresh with
        | f :: _, _, _ => s.flSendData f
        | [], p :: _, _ =>
          let s := s.flSend 2 0 p.addr p.nextSeq (s.reportBytes p)
          s.setPeer { p with nextSeq := (p.nextSeq + 1) % 2 ^ 32, ackDue := false, mapDue := false, want := [] }
        | [], [], f :: _ => s.flSendData f
        | [], [], [] => s
  | _, _ => s

def execFlinkSlotTransmit (s : State) : Host.Outcome State Fault Refusal := live s (·.slotSend)

/-- Sent frames not acknowledged within 2 beacon cycles: repeated, dropped after 3 sends, or forgotten when no
acknowledgement was asked for (R572). -/
def State.ackTimeout (s : State) : State :=
  match s.flCycle with
  | none => s
  | some c =>
    if !s.holdsTwin then s else
    let late := fun (f : FlTx) => !f.again && (match f.sentAt with | some t => decide (t + 2 * c ≤ s.el) | none => false)
    let s := s.modFl (fun x => { x with queue := x.queue.filter (fun f => f.ack || !late f) })
    let s := (s.flink.queue.filter (fun f => late f && decide (3 ≤ f.sends))).foldl (fun s f => s.flFail f) s
    s.modFl (fun x => { x with queue := x.queue.map (fun (f : FlTx) => if late f then { f with again := true } else f) })

def execFlinkAckTimeout (s : State) : Host.Outcome State Fault Refusal := live s (·.ackTimeout)

/-- Frames not sent within 4 beacon cycles of entering the queue, nominal ones before a beacon (R567; entry 274); a twin without the lease keeps them (R583). -/
def State.sendTimeout (s : State) : State :=
  let c := (s.flCycle).getD (4 * s.nominalP)
  if !s.holdsTwin then s
  else (s.flink.queue.filter (fun f => f.seq.isNone && decide (f.at_ + 4 * c ≤ s.el))).foldl (fun s f => s.flFail f) s

def execFlinkSendTimeout (s : State) : Host.Outcome State Fault Refusal := live s (·.sendTimeout)

/-- Degraded windows end (R574). -/
def State.degradeEnd (s : State) : State :=
  s.modFl (fun x => { x with peers := x.peers.map (fun (p : Peer) => { p with degraded := p.degraded.filter (fun d => decide (s.el < d.2.2)) }) })

def execDegradedWindowEnd (s : State) : Host.Outcome State Fault Refusal := live s (·.degradeEnd)

/-! ### Status and commands (R586 to R589) -/

/-- FLINK.FSTAT (R586). -/
def State.flStat (s : State) : Nat :=
  let heard := match s.flink.beaconAt, s.flCycle with | some t, some c => decide (s.el < t + 4 * c) | _, _ => false
  b01 s.flOn + 2 * b01 (s.flCoord && s.holdsTwin) + 4 * b01 heard +
  8 * b01 (match s.flink.beacon with | some b => b.zcFree | none => false) +
  16 * b01 (s.flink.peers.any (fun p => p.robust || p.txRobust)) + 32 * b01 (!s.sys.ready) + 64 * b01 s.flink.defer

/-- Coordinator address, 0xFF none (R586). -/
def State.flCoordAddr (s : State) : Nat := match s.flink.beacon with | some b => b.coord | none => 255

/-- Do two grants overlap in some cycle (R578)? -/
def grantsClash (a b : Nat × Nat × Nat × Nat × Nat) : Bool :=
  decide (a.2.1 < b.2.1 + b.2.2.1) && decide (b.2.1 < a.2.1 + a.2.2.1) &&
  decide (a.2.2.2.2 < a.2.2.2.1) && decide (b.2.2.2.2 < b.2.2.2.1) &&
  a.2.2.2.2 % Nat.gcd a.2.2.2.1 b.2.2.2.1 == b.2.2.2.2 % Nat.gcd a.2.2.2.1 b.2.2.2.1

/-- The field checks of FLINK_CONFIG (R578, R587). -/
def flinkFields (b : Bytes) : List (Bool × Nat) :=
  match u8 b 0 with
  | 0 => [ outside (u8 b 1) 0 1 1, outside (u8 b 4) 0 2 4, (decide (3 < u8 b 5) && u8 b 5 != 0xFF, 5), (u8 b 6 != 50 && u8 b 6 != 60, 6)
         , outside (u8 b 7) 0 60 7, outside (u16 b 8) 0 50000 8, outside (u8 b 10) 0 127 10, outside (u8 b 11) 20 120 11
         , outside (u8 b 12) 0 80 12, outside (u8 b 13) (u8 b 12 + 1) 255 13, outside (u8 b 14) (u8 b 13 + 1) 120 14, rz b 15 9 ]
  | 1 =>
    let n := u8 b 1
    let g := grantsOf b 8 n
    [outside n 0 8 1, rz b 4 4] ++ g.zipIdx.flatMap (fun x =>
      let o := 8 + 4 * x.2
      [outside x.1.1 0 253 o, outside x.1.2.1 9 23 (o + 1), outside x.1.2.2.1 1 15 (o + 2), outside x.1.2.2.2.1 1 8 (o + 3),
       (decide (24 < x.1.2.1 + x.1.2.2.1), o + 2)]) ++
    g.zipIdx.map (fun y => ((g.take y.2).any (fun x => grantsClash x y.1), 8 + 4 * y.2)) ++ [rz b (8 + 4 * n) (32 - 4 * n)]
  | _ => [(true, 0)]

/-- FLINK_CONFIG (R587). -/
def bodyFlinkConfig (r : Req) (s : State) : Ans :=
  let b := r.body
  .table s
    [ paramRow (flinkFields b), retiredRow s (if u8 b 0 = 0 then [(tgt 7 (u8 b 10), 10)] else [])
    , row (u8 b 0 == 0 && s.flOn && (u16 b 2 != s.flNet || u8 b 6 != u8 s.flCfg 6)) stConflict ]
    (fun s =>
      if u8 b 0 = 0 then
        let s := if bit (u8 b 1) 0 && !s.flOn then s.modFl (fun x => { x with since := some s.el }) else s
        .stored s (fun c => { c with flink0 := some b })
      else .stored s (fun c => { c with flink1 := some b }))

/-- FLINK_SEND (R588). -/
def bodyFlinkSend (r : Req) (s : State) : Ans :=
  let b := r.body
  .table s
    [ paramRow [(u8 b 0 == 254, 0), outside (u8 b 1) 0 1 1, outside (u16 b 2) 0 248 2, rz b 4 4], row (!s.flOn) stConflict
    , row (s.sys.lee || decide (32 ≤ s.flink.queue.length)) stBusy ]
    (fun s =>
      let m := match s.flink.beacon with | some x => x.m | none => 0
      let f : FlTx := { dest := u8 b 0, ack := bit (u8 b 1) 0, data := b.drop 8, seq := none, sends := 0, since := m, sentIn := none
                        at_ := s.el, sentAt := none, again := false, ccp := r.seq }
      let s := s.modFl (fun x => { x with queue := x.queue ++ [f] })
      .ok s (le 2 s.flink.queue.length ++ le 4 0))

/-- FLINK_STATUS (R589). -/
def bodyFlinkStatus (_ : Req) (s : State) : Ans :=
  let x := s.flink
  let (m, p) := match x.beacon with | some b => (b.m, b.p) | none => (0, 0)
  .ok s (le 1 s.flStat ++ le 1 s.flCoordAddr ++ le 2 m ++ le 2 (x.peers.countP (fun q => q.robust || q.txRobust)) ++ le 4 p ++
    lei 4 (satI 32 x.offset) ++ le 8 x.beaconSt ++ le 4 x.rx.toNat ++ le 4 x.crcFail.toNat ++ le 4 x.repeats.toNat ++
    le 4 x.gone.toNat ++ le 4 x.erase.toNat ++ le 4 x.drops.toNat)

end Sys2Proof.Machine
end

