-- ==== Sys2Proof/Machine/OuterCycle.lean ====
section
/-! DEFINITION. The outer cycle of the device, every 50 us of ST (R221): power groups, cooling, ports, feeder sums and the
turn of an allocation epoch. -/

namespace Sys2Proof.Machine

/-- One outer cycle over what the control filters delivered in the cycle that ended (R221, R227, R131): feeder powers join
the epoch they belong to before its turn. -/
def State.outerCycle (s : State) (lanes : List LaneCycle) : State :=
  let n := s.st / 50000
  if !s.atMultiple 50000 || s.fabric.outer = some n then s
  else
    let s := { s with fabric := { s.fabric with outer := some n } }
    let s := s.feederCycle lanes
    let s := forFin 8 s (fun s g => s.groupCycle g lanes)
    let s := forFin 8 s (fun s p => ((s.portVoltage p lanes).coolCycle p).portCycle p)
    let s := s.epochRoll
    (forFin 8 s (fun s p => whenDo (s.ports[p].state.live && s.ports[p].dirty) (·.portTarget p) s)).latchWhenDone

def execOuterCycle (lanes : List LaneCycle) (s : State) : Host.Outcome State Fault Refusal := live s (·.outerCycle lanes)

end Sys2Proof.Machine
end

