-- ==== Sys2Proof/Machine/Switches.lean ====
section
/-! DEFINITION. Protected switch channels: current limit, overtemperature and retries, clamps, open load, conduction
budget, dips, keep defaults and the SW commands (R671 to R706). -/

namespace Sys2Proof.Machine

/-- D3 acts on its own whenever VS is at or above 3.0 V, also in reset and sleep (R690): a step of D3, with `raise` left
to a running D1. -/
def onD3 (s : State) (f : State → State) : Host.Outcome State Fault Refusal :=
  .next (if s.seqr.vsLow then s else f s)

/-- D1 learns of a happening on D3: events and charges only while it runs (R33, R754). -/
def State.told (s : State) (f : State → State) : State := if s.sys.mode = .run then f s else s

/-- The limit in force, 10 mA: the inrush limit inside a timed inrush window, else the current limit (R679, R680,
R682). -/
def State.swLimit (s : State) (n : Fin 24) : Nat :=
  let c := s.sws[n]
  if c.windowEnd.isSome && !c.slew then u16 (s.swCfg n) 6 else u16 (s.swCfg n) 4

/-- Charge a channel with a fault; R289 lists no cause code for it, so the code is free (entry 133). -/
def State.swCharge (s : State) (n : Fin 24) : State :=
  let (c, s) := s.free
  s.classify (tgt 4 n) (c % 2 ^ 16) s.st false

/-- The load's current reaches the limit in force and is held there (R682). -/
def State.swLimiting (s : State) (n : Fin 24) : State :=
  let c := s.sws[n]
  if c.state = .on || c.state = .inrush then (s.modSw n (fun c => { c with current := s.swLimit n })).swState n .limiting
  else s

def execSwLimiting (n : Fin 24) (s : State) : Host.Outcome State Fault Refusal := onD3 s (·.swLimiting n)

/-- The load draws `cur` (10 mA), less than the limit: the channel reads on, or in its inrush window (R680, R682). -/
def State.swLimitingEnd (s : State) (n : Fin 24) (cur : Nat) : State :=
  let c := s.sws[n]
  if c.state = .limiting && decide (cur < s.swLimit n) then
    (s.modSw n (fun c => { c with current := cur })).swState n (if c.windowEnd.isSome then .inrush else .on)
  else s

def execSwLimitingEnd (n : Fin 24) (cur : Nat) (s : State) : Host.Outcome State Fault Refusal := onD3 s (·.swLimitingEnd n cur)

/-- 170 degC: the channel turns off; its turn-off is counted and charged, and past the maximum of retries it latches
(R683 to R685). -/
def State.swOvertemp (s : State) (n : Fin 24) : State :=
  let c := s.sws[n]
  if !c.conducts then s
  else
    let count := if s.latched then s.swRetries n else s.swRetries n + 1
    let above := decide (u8 (s.swCfg n) 2 < count)
    let cur := c.current
    let s := s.swTurnOff n (if above then .latched else .awaitRetry)
    let s := s.modSw n (fun c => { c with retries := count, offAt := s.el, protSt := s.st, faults := c.faults + 1 })
    s.told (fun s =>
      let s := s.raise (.swOvertemp n) count cur
      let s := s.swCharge n
      if above then s.raise (.swRetryExhausted n) count else s)

def execSwOvertemp (n : Fin 24) (s : State) : Host.Outcome State Fault Refusal := onD3 s (·.swOvertemp n)

/-- A channel at `temp` (0.1 degC) retries once it has cooled to 150 degC and its delay has passed; commanded off
meanwhile it stays off; above the budget the retry waits as a restore, but for a sleeping D1, which enforces none (R683, R685,
R695, R701). None is made in the device-fault state (R694). -/
def State.swRetry (s : State) (n : Fin 24) (temp : Int) : State :=
  let c := s.sws[n]
  if c.state != .awaitRetry || s.latched || s.sys.fault.isSome || decide (1500 < temp) || decide (s.el < c.offAt + 1000000 * u16 (s.swCfg n) 12) then s
  else
    let s := s.modSw n (fun c => { c with temp := temp })
    if c.cmd = .off || !s.driving then s.swState n .off
    else if s.sys.mode = .run ∧ s.budget.limit < s.budgetFigure then
      (s.modSw n (fun c => { c with shedMean := c.mean1s })).swState n .shed
    else ((s.modSw n (fun c => { c with onAt := s.el })).swTurnOn n true).told (fun s => s.raise (.swRetry n) c.retries)

def execSwRetry (n : Fin 24) (temp : Int) (s : State) : Host.Outcome State Fault Refusal := onD3 s (·.swRetry n temp)

/-- Single-pulse clamp energy of the class, 0.1 mJ, and its mean power over 1 s in the same unit (R671). -/
def clampRating (n : Fin 24) : Nat × Nat := if swLight n then (600, 2000) else (2500, 5000)

/-- A clamp ends with energy `e` (0.1 mJ): checked, and a turn-on that waited follows (R686, R687, R701). -/
def State.clampComplete (s : State) (n : Fin 24) (e : Nat) : State :=
  let c := s.sws[n]
  if !c.clamping && !c.clampDue then s
  else
    let s := s.modSw n (fun c => { c with clamping := false, clampDue := false, onAfterClamp := false, clampE := e, clampSum := c.clampSum + e })
    let s := s.told (fun s => if (clampRating n).1 < e then (s.raise (.swClampOverload n) e 0).swCharge n else s)
    if c.onAfterClamp && s.driving && c.state == .off && c.cmd != .off && !s.latched && s.sys.fault.isNone then s.swTurnOn n c.slewAsk else s

def execClampComplete (n : Fin 24) (e : Nat) (s : State) : Host.Outcome State Fault Refusal := onD3 s (·.clampComplete n e)

/-- A 1 s window ends: the mean clamp power of each channel is checked (R687). -/
def State.clampWindow (s : State) : State :=
  let k := s.st / 1000000000
  if s.budget.lastClamp = some k then s
  else
    let s := forFin 24 s (fun s n =>
      let e := s.sws[n].clampSum
      let s := s.modSw n (fun c => { c with clampSum := 0 })
      if (clampRating n).2 < e then (s.raise (.swClampOverload n) e 1).swCharge n else s)
    { s with budget := { s.budget with lastClamp := some k } }

def execClampPowerWindow (s : State) : Host.Outcome State Fault Refusal := live s (·.clampWindow)

/-- Is open-load detection at work on a channel: enabled, in state 0, VS at or above 6 V, the device driving (R688,
R689)? -/
def State.openLoadOn (s : State) (n : Fin 24) : Bool :=
  s.sws[n].state == .off && bit (u8 (s.swCfg n) 0) 4 && s.driving &&
  !(s.hk.pts[72].valid && decide (s.hk.pts[72].value < 6000))

/-- The output of an off channel stays above the threshold for the filter time, at `mv` (R688). -/
def State.swOpenLoad (s : State) (n : Fin 24) (mv : Int) : State :=
  if s.openLoadOn n && !s.sws[n].openLoad && decide ((u16 (s.swCfg n) 16 : Int) < mv) then
    (s.modSw n (fun c => { c with openLoad := true, vout := mv / 10 })).raise (.swOpenLoad n) (par mv)
  else s

def execSwOpenLoad (n : Fin 24) (mv : Int) (s : State) : Host.Outcome State Fault Refusal := live s (·.swOpenLoad n mv)

/-- The output stays below the threshold for the filter time (R688). -/
def execSwOpenLoadCleared (n : Fin 24) (s : State) : Host.Outcome State Fault Refusal :=
  live s (fun s => whenDo s.sws[n].openLoad
    (fun s => (s.modSw n (fun c => { c with openLoad := false })).raise (.swOpenLoadCleared n)) s)

/-- The inrush window ends and the current limit applies (R679). -/
def State.inrushEnd (s : State) (n : Fin 24) : State :=
  let c := s.sws[n]
  match c.windowEnd with
  | some e =>
    if c.slew || decide (s.el < e) then s
    else
      let s := s.modSw n (fun c => { c with windowEnd := none, current := if c.state = .limiting then min c.current (u16 (s.swCfg n) 4) else c.current })
      if c.state = .inrush then s.swState n .on else s
  | none => s

def execInrushWindowEnd (n : Fin 24) (s : State) : Host.Outcome State Fault Refusal := onD3 s (·.inrushEnd n)

/-- A slew-controlled turn-on is complete: the output within 1 V of VS, or 1 s after it began (R680). -/
def State.slewEnd (s : State) (n : Fin 24) (reached : Bool) : State :=
  let c := s.sws[n]
  let above := match c.windowEnd with | some e => decide (e ≤ s.el) | none => true
  if c.slew && (reached || above) then
    let s := s.modSw n (fun c => { c with slew := false, windowEnd := none })
    if c.state = .inrush then s.swState n .on else s
  else s

def execSlewTurnOnComplete (n : Fin 24) (reached : Bool) (s : State) : Host.Outcome State Fault Refusal :=
  onD3 s (·.slewEnd n reached)

/-! ### Conduction budget (R696 to R700) -/

/-- Shed one channel: it turns off and reads 6 (R698). -/
def State.shedOne (s : State) (n : Fin 24) : State :=
  let rank := (s.swRank n).getD 0
  let m := s.sws[n].mean1s
  ((s.swTurnOff n .shed).modSw n (fun c => { c with shedMean := m })).raise (.swShed n) rank m

/-- Channels to shed, in shed order, until the figure less their 1 s means lies within the budget (R698); `fuel` bounds
them. -/
def State.shedList (s : State) : Nat → Nat → List (Fin 24) → List (Fin 24)
  | 0, _, _ => []
  | k + 1, fig, cands =>
    if fig ≤ s.budget.limit then []
    else match minBy s.swShedKey cands with
      | none => []
      | some n => n :: s.shedList k (fig - s.sws[n].mean1s) (cands.filter (· != n))

/-- A 100 ms window ends with its means (R696, R698). -/
def State.budgetWindow (s : State) (m : Vector SwMeas 24) : State :=
  let k := s.st / 100000000
  if s.budget.lastWin = some k then s
  else
    let sum := ((List.finRange 24).map (fun (n : Fin 24) => if s.sws[n].state = .limiting then 0 else m[n].mw)).sum
    let s := { s with
      sws := Vector.ofFn (fun (n : Fin 24) =>
        let c := s.sws[n]
        { c with means := (m[n].mw :: c.means).take 10, current := m[n].cur, vout := m[n].vout, temp := m[n].temp })
      budget := { s.budget with lastWin := some k, sums := (sum :: s.budget.sums).take 10 } }
    let fig := s.budgetFigure
    let l := s.shedList 24 fig ((List.finRange 24).filter (fun n => (s.swRank n).isSome))
    if l.isEmpty then s
    else
      let s := if s.budget.episode then s
        else ({ s with budget := { s.budget with episode := true } }).raise .budgetExceeded fig l.length
      l.foldl (fun s n => s.shedOne n) s

def execBudgetWindow (m : Vector SwMeas 24) (s : State) : Host.Outcome State Fault Refusal := live s (·.budgetWindow m)

/-- A 1 s window ends: at most one shed channel is restored (R699). -/
def State.budgetRestore (s : State) : State :=
  let k := s.st / 1000000000
  if s.budget.lastRestore = some k then s
  else
    let s := { s with budget := { s.budget with lastRestore := some k } }
    let shed := fun (s : State) => (List.finRange 24).filter (fun (n : Fin 24) => s.sws[n].state == .shed)
    let fig := s.budgetFigure
    let s := match minBy s.swRestoreKey (shed s) with
      | some n =>
        if !s.latched && s.driving && s.sys.fault.isNone && decide ((fig + s.sws[n].shedMean) * 100 ≤ s.budget.limit * 85) then
          ((s.swState n .off).swTurnOn n true).raise (.swRestored n)
        else s
      | none => s
    if s.budget.episode && shed s = [] then
      ({ s with budget := { s.budget with episode := false } }).raise .budgetCleared fig
    else s

def execBudgetRestore (s : State) : Host.Outcome State Fault Refusal := live s (·.budgetRestore)

/-! ### Dips and keep (R691 to R695) -/

/-- Every channel turns off and loses its state; the states lost are kept for the report; no clamp energy is recorded
(R691). -/
def State.swLose (s : State) : State :=
  let counts := Vector.ofFn (fun (n : Fin 24) => s.swRetries n)
  { s with sws := Vector.ofFn (fun (n : Fin 24) => let c := s.sws[n]; { c with
    retries := counts[n]
    dip := if c.state = .retired then 0 else c.state.code
    state := if c.state = .retired then .retired else .off
    changedSt := if c.state = .off || c.state = .retired then c.changedSt else s.st
    slew := false, windowEnd := none, clamping := false, clampDue := false, onAfterClamp := false, openLoad := false, held := false, current := 0 } ) }

/-- VS is back at 4.5 V: D3 reports the loss, and a D1 that runs is to restore the commanded states (R691). -/
def State.vsRestore (s : State) : State :=
  if !s.seqr.vsLow then s
  else
    let s := { s with seqr := { s.seqr with vsLow := false } }
    s.told (fun s => forFin 24 s (fun s n =>
      let c := s.sws[n]
      if c.dip = 0 then s
      else (s.modSw n (fun c => { c with lost := true, dip := 0, restore := c.cmd != .off })).raise (.swStateLost n) c.dip))

def execVsRestore (s : State) : Host.Outcome State Fault Refusal := .next s.vsRestore

/-- One channel each 1 ms takes its commanded state again, in the restore order, slew-controlled (R691, R695). -/
def State.dipRestore (s : State) : State :=
  let due := match s.budget.dipAt with | some t => decide (t + 1000000 ≤ s.el) | none => true
  match minBy s.swRestoreKey ((List.finRange 24).filter (fun (n : Fin 24) => s.sws[n].restore)) with
  | some n =>
    if due then
      let s := { s with budget := { s.budget with dipAt := some s.el } }
      let c := s.sws[n]
      let s := s.modSw n (fun c => { c with restore := false })
      if c.state == .off && c.cmd != .off && s.driving && !s.latched then s.swTurnOn n true else s
    else s
  | none => s

def execSwDipRestore (s : State) : Host.Outcome State Fault Refusal := live s (·.dipRestore)

/-- D3 retained no state: each keep channel takes its keep default, slew-controlled (R693). -/
def State.keepDefaults (s : State) : State :=
  if s.sys.keepDone then s
  else
    let s := { s with sys := { s.sys with keepDone := true } }
    forFin 24 s (fun s n =>
      if s.swKeep n && bit (u8 (s.swCfg n) 0) 1 && s.sws[n].state == .off && !s.latched then
        (s.modSw n (fun c => { c with cmd := .on })).swTurnOn n true
      else s)

def execKeepDefaultSet (s : State) : Host.Outcome State Fault Refusal := live s (·.keepDefaults)

/-- Every channel that is not strapped keep turns off (R693, R695). -/
def State.nonKeepOff (s : State) : State :=
  forFin 24 s (fun s n => if s.swKeep n then s else if s.sws[n].conducts then s.swTurnOff n
    else if s.sws[n].state = .retired then s else s.swState n .off)

/-- Entry to sleep: besides, every cooling channel turns off, keep or not, and the loops stop; those that are not keep wait for
their loop at ready (R359, R695; DEDUCED, entry 299). -/
def State.sleepOff (s : State) : State :=
  let s := forFin 24 s.nonKeepOff (fun s n =>
    if s.swOwner n < 3 then s
    else (if s.sws[n].conducts then s.swTurnOff n else s).modSw n (fun c => if s.swKeep n then c else { c with cmd := .off }))
  { s with cools := s.cools.map Cool.stop }

/-! ### Commands (R704 to R706) -/

/-- The switch channel that a request targets. -/
def Req.ch (r : Req) : Fin 24 := r.fin 24

/-- SW_CONFIG (R704). -/
def bodySwConfig (r : Req) (s : State) : Ans :=
  let b := r.body
  let n := r.ch
  let fl := u8 b 0
  let maxI := if swLight n then 360 else 1200
  let maxR := if swLight n then 800 else 3000
  let st := s.sws[n].state
  .table s
    [ paramRow [outside fl 0 63 0, ((bit fl 1 || bit fl 2) && !bit fl 0, 0), outside (u8 b 1) 0 3 1, outside (u8 b 2) 0 7 2,
        rz b 3 1, outside (u16 b 4) 10 maxI 4, outside (u16 b 6) (u16 b 4) maxR 6, outside (u16 b 8) 0 500 8,
        outside (u16 b 10) 1 1000 10, outside (u16 b 12) 10 60000 12,
        (u16 b 14 != 0 && (decide (u16 b 14 < 20) || decide (25000 < u16 b 14) || !bit fl 3), 14),
        outside (u16 b 16) 500 3000 16, outside (u16 b 18) 1 1000 18, rz b 20 12]
    , retRow s r.target
    , row (st == .on || st == .inrush || st == .limiting || st == .shed) stConflict ]
    (fun s => .stored s (fun c => { c with sw := c.sw.set n (some b) }))

/-- SW_SET (R705). -/
def bodySwSet (r : Req) (s : State) : Ans :=
  let b := r.body
  let n := r.ch
  let a := u8 b 0
  let turnOn := a == 1 || a == 2
  let isLatched := s.sws[n].state == .latched
  .table s
    [ paramRow [outside a 0 3 0, outside (u8 b 1) 0 1 1,
        (if a = 2 then decide (1000 < u16 b 2) else u16 b 2 != 0, 2), rz b 4 4, (a == 2 && u16 (s.swCfg n) 14 == 0, 0)]
    , retRow s r.target
    , row (s.swOwner n != 0) stConflict
    , row ((turnOn && isLatched) || (a == 3 && !isLatched)) stConflict
    , row (turnOn && s.latched) stThermal ]
    (fun s =>
      if a = 3 then
        .ok ((s.modSw n (fun c => { c with retries := 0, cmd := .off, lost := false })).swState n .off)
      else
        .ok (s.swCommand n (if a = 0 then .off else if a = 1 then .on else .pwm (u16 b 2)) (bit (u8 b 1) 0) false))

/-- SW_STATUS (R706). -/
def bodySwStatus (r : Req) (s : State) : Ans :=
  let n := r.ch
  let c := s.sws[n]
  let st := s.swStat n
  .ok s (le 1 c.state.code ++
    le 1 (b01 c.openLoad + 2 * b01 (s.swKeep n) + 4 * b01 (bit st 5) + 8 * b01 (s.swOwner n != 0) + 16 * b01 s.latched +
      32 * b01 c.lost + 64 * b01 c.slew + 128 * b01 (swLight n)) ++
    le 2 c.current ++ lei 2 c.vout ++ lei 2 c.temp ++ le 2 c.duty ++ le 4 c.mean1s ++ le 2 (min 65535 c.clampE) ++
    le 1 (min 255 (s.swRetries n)) ++ le 1 (s.swOwner n) ++ le 4 c.faults.toNat ++ le 4 s.budgetFigure ++ le 4 s.budget.limit ++
    le 8 c.changedSt ++ le 8 c.protSt)

end Sys2Proof.Machine
end

