-- ==== Sys2Proof/Machine/Thermal.lean ====
section
/-! DEFINITION. The housekeeping round, die temperatures, throttling, thermal shut-down and latch, and the HK and THERM
commands (R707 to R729). -/

namespace Sys2Proof.Machine

/-! ### The slow round (R707 to R713) -/

/-- The settings of a channel in round `r`: stored, or those before the last HK_CONFIG (R726). -/
def State.hkCfg (s : State) (ch : Fin 64) (r : Nat) : Option Bytes :=
  if s.hk.since[ch] ≤ r then s.nv.cfg.hk[ch] else s.hk.inForce[ch]

/-- Kind in an entry of HK_CONFIG; none is unused (R726). -/
def hkKindOf : Option Bytes → Nat
  | none => 0
  | some b => u8 b 1

/-- Update one point. -/
def State.modPt (s : State) (i : Fin 81) (f : HkPoint → HkPoint) : State :=
  { s with hk := { s.hk with pts := s.hk.pts.set i (f s.hk.pts[i]) } }

/-- Sum of the odd powers of z over their exponents, 48 of them, in units of 2^-128: the inverse hyperbolic tangent of a z of 1/3 at
most. -/
def atanhFix (z : Int) : Int :=
  ((List.range 48).foldl (fun (a : Int × Int) i => (a.1 + a.2 / (2 * i + 1 : Nat), a.2 * (z * z / 2 ^ 128) / 2 ^ 128)) (0, z)).1

/-- Natural logarithm of a positive ratio, to far more than 64 bits; that of 1 is exactly 0 (R726; DESIGN CHOICE, entry 30). -/
def lnRat (q : Rat) : Rat :=
  let k : Int := (Nat.log2 q.num.natAbs : Int) - Nat.log2 q.den
  let x := if 0 ≤ k then q / (2 ^ k.toNat : Nat) else q * (2 ^ (-k).toNat : Nat)
  let at_ (r : Rat) := atanhFix (ratFloor (r * 2 ^ 128))
  (2 * (at_ ((x - 1) / (x + 1)) + k * at_ (1 / 3)) : Int) / (2 ^ 128 : Nat)

/-- The beta equation from 25 degC, 298.15 K, in 0.1 degC: R25, B, pull-up to 3.3 V, input in mV (R726; entry 30). -/
def ntcTemp (r25 b pull : Nat) (raw : Int) : Int :=
  if r25 = 0 ∨ b = 0 ∨ pull = 0 ∨ raw ≤ 0 ∨ 3300 ≤ raw then Config.ntc r25 b pull raw
  else
    let r : Rat := (pull : Rat) * raw / (3300 - raw : Int)
    let y := lnRat (r / r25) / b + 20 / 5963
    if y ≤ 0 then Config.ntc r25 b pull raw
    else
      let t := 10 / y - 5463 / 2
      rdiv t.num t.den

/-- Resistance of the IEC 60751 curve at `t` 0.1 degC, as a ratio to R0 (R726; the standard's constants: PRESUMED, entry 30). -/
def ptRatio (t : Int) : Rat :=
  let t : Rat := t / 10
  1 + 39083 / 10000000 * t - 5775 / 10000000000 * t * t - (if t < 0 then 4183 / 1000000000000000 * (t - 100) * t * t * t else 0)

/-- The last place of the curve, in 0.1 degC from `lo` on and below `hi`, at which the ratio is `q` at most; `fuel` halvings. -/
def ptFloor (q : Rat) : Nat → Int → Int → Int
  | 0, lo, _ => lo
  | n + 1, lo, hi =>
    let m := (lo + hi) / 2
    if lo < m then (if ptRatio m ≤ q then ptFloor q n m hi else ptFloor q n lo m) else lo

/-- The IEC 60751 curve with the bias current of 250 µA, in 0.1 degC: R0 in mOhm, input in mV (R726; entry 30). -/
def ptTemp (r0 : Nat) (raw : Int) : Int :=
  let q : Rat := (4000 * raw : Int) / (r0 : Rat)
  if r0 = 0 ∨ q < ptRatio (-2000) ∨ ptRatio 8500 < q then Config.pt1000 r0 raw
  else
    let t := ptFloor q 15 (-2000) 8501
    t + (if ptRatio t ≠ q && Config.roundUp q.num q.den then 1 else 0)

/-- What a channel of temperature kind reports: invalid outside 50 mV to 3.25 V or -50 to +200 degC (R709). -/
def hkTemp (raw t : Int) : Int × Bool :=
  (t, decide (50 ≤ raw) && decide (raw ≤ 3250) && decide (-500 ≤ t) && decide (t ≤ 2000))

/-- Value, validity and logic level of an external channel from its input in mV (R709, R726). A logic channel reports 1
from its threshold and 0 below the threshold less the hysteresis (DESIGN CHOICE, entry 134). -/
def hkConvert (b : Option Bytes) (old : HkPoint) (raw : Int) : HkPoint :=
  match b with
  | none => { old with value := 0, valid := false, raw := raw }
  | some b =>
    match u8 b 1 with
    | 1 => { old with value := rdiv (raw * u32 b 4) 1000 + i32 b 8, valid := true, raw := raw }
    | 2 =>
      let (t, ok) := hkTemp raw (ntcTemp (u32 b 4) (u32 b 8) (u32 b 12) raw)
      { old with value := t, valid := ok, raw := raw }
    | 3 =>
      let (t, ok) := hkTemp raw (ptTemp (u32 b 4) raw)
      { old with value := t, valid := ok, raw := raw }
    | 4 =>
      let lv := if (u32 b 4 : Int) ≤ raw then true else if raw < (u32 b 4 : Int) - u32 b 8 then false else old.level
      { value := b01 lv, valid := true, raw := raw, level := lv }
    | _ => { old with value := 0, valid := false, raw := raw }

/-- One external channel of the round (R709). -/
def State.hkChannel (s : State) (ch : Fin 64) (r : Nat) (raw : Int) : State :=
  let i : Fin 81 := ⟨ch.val, by omega⟩
  let old := s.hk.pts[i]
  let new := hkConvert (s.hkCfg ch r) old raw
  let s := s.modPt i (fun _ => new)
  if new.valid == old.valid then s
  else if new.valid then s.raise (.hkChannelValid) ch
  else s.raise (.hkChannelInvalid) ch (par raw)

/-- Is a rail point out of range: 5 % off its nominal value, and for VS outside 4.5 V to 60 V (R710, R737)? -/
def railOut (j : Nat) (v : Int) : Bool :=
  let off (n : Int) := decide (n * 5 < (v - n).natAbs * 100)
  match j with
  | 8 => decide (v < 4500) || decide (60000 < v)
  | 10 => off 800 | 11 => off 800 | 12 => off 1100 | 13 => off 600 | 14 => off 1800 | 15 => off 3300
  | _ => false

/-- One internal point 0x80 + j from VS on, j from 8 (R708, R710). -/
def State.hkInternal (s : State) (j : Nat) (v : Int) : State :=
  let s := { s with hk := { s.hk with pts := vset s.hk.pts (64 + j) { value := v, valid := true, raw := v } } }
  let out := railOut j v
  let was := bit s.hk.railBad j
  let s := { s with hk := { s.hk with railBad := if out then s.hk.railBad ||| 2 ^ j else s.hk.railBad - (if was then 2 ^ j else 0) } }
  if out && !was then s.raise .railRange (0x80 + j) (par v) else s

/-- VBAT below 2200 mV, once per excursion (R710). -/
def State.hkVbat (s : State) (v : Int) : State :=
  let low := decide (v < 2200)
  let s' := { s with hk := { s.hk with vbatLow := low } }
  if low && !s.hk.vbatLow then s'.raise .vbatLow (par v) else s'

/-- The reference check, ppm (R710). -/
def State.hkRef (s : State) (v : Int) : State :=
  let h := s.hk
  let bad := if 2000 < v.natAbs then h.refBad + 1 else 0
  let good := if v.natAbs ≤ 1000 then h.refGood + 1 else 0
  let s := { s with hk := { h with refBad := min 3 bad, refGood := min 3 good } }
  if !h.refFail && 3 ≤ bad then ({ s with hk := { s.hk with refFail := true } }).raise .refCheckFail (par v)
  else if h.refFail && 3 ≤ good then ({ s with hk := { s.hk with refFail := false } }).raise .refCheckOk (par v)
  else s

/-- The compensations of R713: bias from its table, the AFE trim by 1 ppm at most and held while the check has failed. -/
def State.hkTrim (s : State) : State :=
  let want := Config.refTable s.hk.die[3].value
  let t := s.hk.refTrim
  { s with hk := { s.hk with
      bias := Config.biasTable s.hk.die[1].value
      refTrim := if s.hk.refFail then t else clampI (t - 1) (t + 1) want } }

/-- Completion of a round at its start + 19.6 ms: external inputs in mV, then VS, VBAT, the six rails in mV and the
reference check in ppm; the consumers act after the values (R707 to R713). -/
def State.hkRound (s : State) (raw : Vector Int 64) (int : Vector Int 9) : State :=
  let r := s.st / 20000000
  if s.st % 20000000 < 19600000 || s.hk.lastRound == some r then s
  else
    let s := forFin 64 s (fun s ch => s.hkChannel ch r raw[ch])
    let s := forFin 8 s (fun s k => { s with hk := { s.hk with pts := vset s.hk.pts (64 + k) s.hk.die[k] } })
    let s := forFin 9 s (fun s k => s.hkInternal (8 + k) int[k])
    let s := ((s.hkVbat int[1]).hkRef int[8]).hkTrim
    let s := { s with hk := { s.hk with lastRound := some r, rounds := s.hk.rounds + 1 } }
    let s := forFin 8 s (fun s p => s.coolRound p)
    let s := forFin 8 s (fun s p => s.portRound p)
    s.meterTemps.holdoverRound

def execHkRoundComplete (raw : Vector Int 64) (int : Vector Int 9) (s : State) : Host.Outcome State Fault Refusal :=
  live s (·.hkRound raw int)

/-! ### Die sensors and thresholds (R711 to R714) -/

/-- The middle of an odd number of values, in order of size (R712). -/
def median (l : List Int) : Int := (sortBy (fun a b => decide (a ≤ b)) l).getD (l.length / 2) 0

/-- One sensor's conversion in 0.1 degC: failed outside -55 to +175 degC or off the median of the others 3 times in a row
(R712); the comparator re-arms at 145 degC (R714). -/
def dieNext (temps : Vector Int 8) (i : Fin 8) (d : DieSensor) : DieSensor :=
  let t := temps[i]
  let others := ((List.finRange 8).filter (· != i)).map (fun j => temps[j])
  let off := if 250 < (t - median others).natAbs then min 3 (d.off + 1) else 0
  { temp := t, off, failed := decide (t < -550) || decide (1750 < t) || decide (3 ≤ off)
    cmpArmed := d.cmpArmed || decide (t ≤ 1450) }

/-- The highest of the sensors that have not failed, the lowest number at equal values (R712); none when all have. -/
def hottestOf (l : List (Nat × DieSensor)) : Option (Nat × Int) :=
  l.foldl (fun m e => if e.2.failed then m else match m with
    | none => some (e.1, e.2.temp)
    | some x => if x.2 < e.2.temp then some (e.1, e.2.temp) else m) none

/-- Crossed at or above `at_`, cleared at or below `at_` less 5 degC, else as it was (R714). -/
def crossed (was : Bool) (tj at_ : Int) : Bool := if at_ ≤ tj then true else if tj ≤ at_ - 50 then false else was

/-- Records that waited for the MRAM log are written (R716). -/
def State.flushLog (s : State) : State :=
  { s with nv := { s.nv with evLog := (s.evt.buffered.reverse ++ s.nv.evLog).take 65536 }, evt := { s.evt with buffered := [] } }

/-- Throttling begins or ends (R697, R712, R714, R723). -/
def State.setThrottle (s : State) : State :=
  let failed := decide (2 ≤ (s.therm.dies.toList.filter (·.failed)).length)
  let on := s.therm.hot || failed
  if on == s.therm.throttle then s
  else if on then
    (({ s with therm := { s.therm with throttle := true, workEnd := none, throttles := s.therm.throttles + 1 } }).raise
      .throttleOn (par s.therm.tj) (b01 (!s.therm.hot))).setBudget
  else
    (({ s with therm := { s.therm with throttle := false, workEnd := none } }).raise .throttleOff (par s.therm.tj)).setBudget

/-- The orderly shut-down: emergency stops, sessions end with DEVICE; the latch follows when every group is OFF or FAULTED
(R719, R723). -/
def State.orderlyStop (s : State) : State :=
  let s := forFin 8 s (fun s g => match s.gState g with
    | .off | .discharge | .faulted => s
    | _ => (s.stopGroup g 1 0x51).1)
  let s := forFin 8 s (fun s p => if s.ports[p].ending.isSome then s else s.portStop p 1 13 10)
  if s.latched then s else ({ s with therm := { s.therm with stopping := true } }).latchWhenDone

/-- The shut-down threshold is crossed: an active twin with partner STANDBY releases first, then the configured mode acts
(R512, R714, R719). -/
def State.thermShutdown (s : State) : State :=
  let s := s.raise .thermShutdown (par s.therm.tj) s.thermMode
  let s := if s.isActive && s.twin.partner == .standby then s.release else s
  if s.thermMode = 0 then (s.deviceFault 7 true false).setLatch false else s.orderlyStop

/-- The round's points 0x80 to 0x87, converted from its start + 16 ms on, 200 µs apart, take the monitor's latest values (R707,
R708). -/
def State.noteDies (s : State) : State :=
  let ms := s.st % 20000000 / 1000000
  { s with hk := { s.hk with die := Vector.ofFn (fun (i : Fin 8) =>
      let d := s.therm.dies[i]
      if ms ≤ 16 + i.val / 5 then { value := d.temp, valid := !d.failed, raw := d.temp } else s.hk.die[i]) } }

/-- A conversion of the eight die sensors, every 1 ms (R711 to R714). -/
def State.thermConvert (s : State) (temps : Vector Int 8) : State :=
  let k := s.st / 1000000
  if s.therm.lastConv = some k then s
  else
    let old := s.therm.dies
    let dies := Vector.ofFn (fun (i : Fin 8) => dieNext temps i old[i])
    let s := ({ s with therm := { s.therm with dies := dies } } : State).noteDies
    let s := forFin 8 s (fun s i =>
      if dies[i].failed && !old[i].failed then s.raise .tempSensorFault i (par dies[i].temp) else s)
    let (h, tj) := (hottestOf ((List.range 8).zip dies.toList)).getD (s.therm.hottest, s.therm.tj)
    let t := s.therm
    let s := { s with therm := { t with
      tj := tj, hottest := h, peak := if t.lastConv.isNone then tj else max t.peak tj, lastConv := some k
      warn := crossed t.warn tj 1100, hot := crossed t.hot tj 1200, shut := crossed t.shut tj 1350 } }
    let s := if s.therm.warn == t.warn then s
      else s.raise (if s.therm.warn then .thermWarning else .thermWarningClear) (par tj) (if s.therm.warn then h else 0)
    let s := s.setThrottle
    let s := if s.therm.shut && !t.shut then s.thermShutdown else s
    { s with therm := { s.therm with releasable := s.latched && !s.therm.shut } }

/-! ### Release of the latch (R277, R685, R722) -/

/-- Move every retry stamp and retry delay forward by the time the latch was held (R277, R685). -/
def State.shiftRetries (s : State) (held : Int) : State :=
  { s with
    groups := s.groups.map (fun (g : Group) => { g with prot := { g.prot with retries := g.prot.retries.map (· + held) } })
    ports := s.ports.map (fun (p : Port) => { p with retries := p.retries.map (· + held) })
    sws := s.sws.map (fun (c : SwCh) => { c with offAt := c.offAt + held, onAt := c.onAt + held }) }

/-- The latch is released; THERM_RELEASED with the time held in ms (R722). -/
def State.thermClear (s : State) (throughReset : Bool) : State :=
  let l := s.nv.tlatch
  let held : Int := (s.st : Int) - l.st
  (({ s with nv := { s.nv with tlatch := { l with set := false, hw := false } }
             therm := { s.therm with releasable := false } }).shiftRetries held).raise
    .thermReleased (min 0xFFFFFFFF (held / 1000000).toNat) (b01 throughReset)

/-- Release without a reset: channels take their commanded states again (DEDUCED, entry 135). -/
def State.thermRelease (s : State) : State :=
  let s := s.thermClear false
  let s := { s with sws := s.sws.map (fun (c : SwCh) => { c with held := false }) }
  if s.driving then s.swApplyAll false else s

/-! ### Commands (R726 to R729) -/

/-- Field checks of one entry of HK_CONFIG at offset `o` (R726). -/
def hkEntryBad (b : Bytes) (o : Nat) : List (Bool × Nat) :=
  let k := u8 b (o + 1)
  let f := u8 b (o + 2)
  [outside (u8 b o) 0 63 o, outside k 0 4 (o + 1), (decide (1 < f) || (f == 1) != (k == 3), o + 2), rz b (o + 3) 1,
    (k == 1 && (u32 b (o + 4) == 0 || decide (100000000 < u32 b (o + 4))), o + 4),
    (k == 3 && u32 b (o + 8) != 0, o + 8), (k != 2 && u32 b (o + 12) != 0, o + 12)]

/-- Does a port that is not IDLE name the channel in its PORT_CONFIG or COOL_CONFIG (R726)? -/
def State.hkInUse (s : State) (ch : Nat) : Bool :=
  (List.finRange 8).any (fun p => s.ports[p].state != .idle &&
    ((match s.nv.cfg.port[p] with | none => false | some b => u8 b 5 == ch || u8 b 6 == ch) ||
     (match s.nv.cfg.cool[p] with | none => false | some b => (coolSensors b).any (fun x => x.2 == ch))))

/-- HK_CONFIG (R726). -/
def bodyHkConfig (r : Req) (s : State) : Ans :=
  let b := r.body
  let n := u8 b 0
  let offs := (List.range n).map (fun j => 8 + 16 * j)
  let chans := offs.map (u8 b ·)
  .table s
    [ paramRow ([outside n 1 64 0, rz b 1 7] ++ (offs.map (hkEntryBad b)).flatten ++
        offs.zipIdx.map (fun x => ((chans.take x.2).contains (u8 b x.1), x.1)))
    , row (offs.any (fun o => s.hkKind (u8 b o) != u8 b (o + 1) && s.hkInUse (u8 b o))) stConflict ]
    (fun s =>
      let now := s.st / 20000000
      .ok (offs.foldl (fun (s : State) (o : Nat) =>
        let ch := u8 b o
        if h : ch < 64 then
          let c : Fin 64 := ⟨ch, h⟩
          let force := s.hkCfg c now
          let s := { s with hk := { s.hk with inForce := s.hk.inForce.set c force, since := s.hk.since.set c (now + 1) } }
          s.store (fun g => { g with hk := g.hk.set c (some (sub b o 16)) })
        else s) s))

/-- The place of a point in the order 0 to 63, 0x80 to 0x90 (R727). -/
def hkIndex (pt : Nat) : Option Nat :=
  if pt ≤ 63 then some pt else if 0x80 ≤ pt && pt ≤ 0x90 then some (pt - 64) else none

/-- The point at a place of that order. -/
def hkPoint (i : Nat) : Nat := if i ≤ 63 then i else i + 64

/-- Is a point an unused external channel now (R725)? -/
def State.hkUnused (s : State) (i : Nat) : Bool :=
  if h : i < 64 then hkKindOf (s.hkCfg ⟨i, h⟩ (s.st / 20000000)) == 0 else false

/-- HK_READ (R727). -/
def bodyHkRead (r : Req) (s : State) : Ans :=
  let b := r.body
  let i := hkIndex (u8 b 0)
  let n := u8 b 1
  .table s
    [ paramRow [(i.isNone, 0), outside n 1 81 1, rz b 2 6, (decide (81 < i.getD 0 + n), 1)] ]
    (fun s =>
      let rn := s.hk.lastRound.getD 0
      .ok s (le 1 n ++ [0] ++ le 4 rn ++ le 8 (rn * 20000000) ++
        ((List.range n).map (fun j =>
          let k := i.getD 0 + j
          let p := vget s.hk.pts k {}
          le 1 (hkPoint k) ++ le 1 (b01 p.valid + 2 * b01 (s.hkUnused k)) ++ [0, 0] ++ lei 4 p.value)).flatten))

/-- THERM_CONFIG (R728). -/
def bodyThermConfig (r : Req) (s : State) : Ans :=
  .table s
    [ paramRow [outside (u8 r.body 0) 0 1 0, rz r.body 1 7], row (s.latched || s.therm.stopping) stConflict ]
    (fun s => .stored s (fun c => { c with therm := some r.body }))

/-- THERM_RELEASE (R729); a latch set by the hardware limit is released by the reset that follows the reply (R722). -/
def bodyThermRelease (_ : Req) (s : State) : Ans :=
  .table s
    [ row (!s.latched) stConflict, row (s.nv.tlatch.mode == 0) stConflict, row (decide (1300 < s.therm.tj)) stThermal ]
    (fun s => .ok (if s.nv.tlatch.hw then s else s.thermRelease))

end Sys2Proof.Machine
end

