-- ==== Sys2Proof/Machine/PowerOps.lean ====
section
/-! DEFINITION. Entering reset and falling back to the previous firmware image (R629, R743 to R748). -/

namespace Sys2Proof.Machine

/-- Enter reset with a cause: PWM low, LEASE_OUT deasserted, pilot drives undriven; resets of causes 3, 6 and 7 count
until ready, and the third holds the device in reset (R743, R748). -/
def State.enterReset (s : State) (cause : Nat) : State :=
  let counts := cause = 3 || cause = 6 || cause = 7
  let n := if counts then s.vbat.failed + 1 else s.vbat.failed
  let s := (forFin 8 s (fun s g => s.groupLow g)).commitCut
  { s with
    twin := { s.twin with leaseOut := false }
    ports := s.ports.map (fun (p : Port) => { p.unlinked with drive := 2, linkOn := false })
    vbat := { s.vbat with failed := n }
    sys := { s.sys with mode := .inReset, nextCause := some cause, bootHold := s.sys.bootHold || decide (3 ≤ n) } }

/-- The running and the alternate image change places (R60, R628, R629). -/
def State.swapImages (s : State) : State :=
  let f := s.nv.fw
  match f.alt with
  | none => s
  | some a => { s with nv := { s.nv with fw := { f with version := a.1, metroCrc := a.2, alt := some (f.version, f.metroCrc) } } }

/-- A trial image is abandoned: the previous image runs again after an orderly commit and a reset with cause 7, which raises
FW_FALLBACK (R457, R629). -/
def State.fwFallback (s : State) : State :=
  let s := s.orderly.swapImages
  let s := { s with nv := { s.nv with fw := { s.nv.fw with trial := false, armed := false } } }
  s.enterReset 7

end Sys2Proof.Machine
end

