-- ==== Sys2Proof/Machine/Fabric.lean ====
section
/-! DEFINITION. Substrate links, clock supervision, core watchdogs, memories and self-tests (R31, R32, R34, R38, R45,
R46, R63, R283). -/

namespace Sys2Proof.Machine

/-- Is it the target of a resource that the classifier can retire (R35)? -/
def isRetirable (t : Nat) : Bool :=
  let i := tIndex t
  match tType t with
  | 1 => decide (i < 8) | 2 => decide (i < 48) | 3 => decide (i < 8) | 4 => decide (i < 24) | 5 => decide (i < 144)
  | 6 => decide (i < 8) | 7 => decide (i < 128) | _ => false

/-- Charge a fault whose cause R289 does not list: the cause code is free (entry 133). -/
def State.chargeFree (s : State) (t : Nat) (permanent : Bool) : State :=
  let (c, s) := s.free
  s.classify t (c % 2 ^ 16) s.st permanent

/-- Frames of a meter lane that fail beyond replay on the sample bus are charged to the lane (R283). -/
def State.laneLost (s : State) (l : Fin 3) (lane : Option (Fin 144)) : State :=
  match lane with
  | some n => if l.val = 0 then s.chargeFree (tgt 5 n) false else s
  | none => s

/-- A frame arrives on the sample bus, AFE control bus or power-die bus (0 to 2), on the first as a rule of some meter lane: a
bad one is discarded and replayed; after 16 failed replays the fault is charged to its lane and is one of the substrate assembly
(R31, R32, R283). -/
def State.linkFrame (s : State) (l : Fin 3) (x : BusFrame) : State :=
  let i : Fin 4 := ⟨l.val, by omega⟩
  let f := s.fabric
  if x.ok then { s with fabric := { f with streak := f.streak.set i 0 } }
  else if 16 ≤ f.streak[i] then (s.laneLost l x.lane).deviceFault 6 false false
  else
    ({ s with fabric := { f with
        streak := f.streak.set i (f.streak[i] + 1), replays := f.replays.set i (f.replays[i] + 1)
        linkReplays := f.linkReplays + 1 } }).raise .linkReplay

def execLinkFrameReceive (l : Fin 3) (x : BusFrame) (s : State) : Host.Outcome State Fault Refusal :=
  live s (·.linkFrame l x)

/-- A monitor declares the loss of a clock, in the order of R45. -/
def State.clockLoss (s : State) (c : Fin 8) : State :=
  if bit s.fabric.clkLost c then s
  else
    let s := { s with fabric := { s.fabric with clkLost := s.fabric.clkLost ||| 2 ^ c.val } }
    match c.val with
    | 3 => s.metroClockLoss
    | 4 => (s.raise .flinkClockLoss).sourceLost 4
    | 5 => forFin 8 (s.raise .canClockLoss) (fun s n => s.canBusOff n 2)
    | 6 => ((s.raise .ethClockLoss).sourceLost 0).sourceLost 1
    | 7 => ({ s with vbat := { s.vbat with rtcValid := false, xtal := false } }).raise .rtcClockLoss
    | _ => s.deviceFault 5 false false

def execClockLoss (c : Fin 8) (s : State) : Host.Outcome State Fault Refusal := live s (·.clockLoss c)

/-- A subsystem clock has been in range for 1 ms: its subsystem restarts and its event is raised with the restored flag
(R46). The metrology core restarts by its own step (R385), CAN controllers by counting recovery (R549). -/
def State.clockBack (s : State) (c : Fin 8) : State :=
  if !bit s.fabric.clkLost c || decide (c.val < 3) then s
  else
    let s := { s with fabric := { s.fabric with clkLost := s.fabric.clkLost - 2 ^ c.val } }
    match c.val with
    | 3 => s.raise .meterClockLoss 0 0 1
    | 4 => s.raise .flinkClockLoss 0 0 1
    | 5 => forFin 8 (s.raise .canClockLoss 0 0 1) (fun s n =>
        if s.isRetired (tgt 6 n) then s else s.modCan n (fun x => { x with recovering := x.state == .busOff }))
    | 6 => s.raise .ethClockLoss 0 0 1
    | _ => ({ s with vbat := { s.vbat with xtal := true } }).raise .rtcClockLoss 0 0 1

def execClockRestored (c : Fin 8) (s : State) : Host.Outcome State Fault Refusal := live s (·.clockBack c)

/-- Does a trial image run that has not yet passed its 60 s (R629)? -/
def State.onTrial (s : State) : Bool := s.nv.fw.trial && !(s.sys.ready && decide (s.sys.readyAt + 60000000000 ≤ s.el))

/-- An application core restarts from its image; with core 3 the cable models begin anew (R38, R363). -/
def State.coreRestart (s : State) (k : Fin 4) : State :=
  if k.val = 3 then { s with cools := s.cools.map Cool.afresh } else s

/-- A core's watchdog expires: the core restarts; a second expiry within 10 s is a fault of the die (R38). A trial image
is abandoned (R629); a restart of core 3 begins the cable models anew (R363). -/
def State.coreDog (s : State) (k : Fin 4) : State :=
  let again : Bool := match s.fabric.coreDog[k] with | some t => decide (s.el < t + 10000000000) | none => false
  let s := ({ s with fabric := { s.fabric with
    coreDog := s.fabric.coreDog.set k (some s.el), dogs := s.fabric.dogs + 1 } }).raise .coreWatchdog
  if s.onTrial then s.fwFallback
  else bif again then s.deviceFault 5 false false
  else s.coreRestart k

def execCoreWatchdog (k : Fin 4) (s : State) : Host.Outcome State Fault Refusal := live s (·.coreDog k)

/-- The word that a queue's consumer reads next carries the error flag (R34, R641). -/
def State.queueError (s : State) (t : Nat) : State :=
  let i := tIndex t
  if h : tType t = 7 ∧ i < 128 then
    let n : Fin 128 := ⟨i, h.2⟩
    let q := s.queues[n]
    match q.words with
    | w :: ws => s.setQueue n { q with words := { w with error := true } :: ws }
    | [] => s
  else s

/-- An uncorrectable word (R34): charged to its owner, or a metrology core fault (R63). -/
def State.eccBad (s : State) (o : EccOwner) : State :=
  match o with
  | .metrology => (s.raise .eccUncorrectable).metroFault
  | .resource t => if isRetirable t then ((s.raise .eccUncorrectable).queueError t).chargeFree t false else s

def execEccUncorrectable (o : EccOwner) (s : State) : Host.Outcome State Fault Refusal := live s (·.eccBad o)

/-- A corrected bit is counted for its memory: SRAM, MRAM, DRAM, register files (R34). -/
def State.eccFixed (s : State) (m : Fin 4) : State :=
  let f := s.fabric
  { s with fabric := { f with ecc := f.ecc.set m (f.ecc[m] + 1), eccCount := f.eccCount + 1 } }

def execEccCorrection (m : Fin 4) (s : State) : Host.Outcome State Fault Refusal := live s (·.eccFixed m)

/-- A background self-test fails (R34, R283, R284): charged to its resource, permanent when a second test confirms it; a
die-wide failure is a device fault. A subsystem whose self-test fails restarts: a core as after its watchdog, the metrology
partition as after a fault of its core; the loop-engine array begins its active loops anew; the communication complex loses
its links. R34 leaves open which subsystem restarts and which stops: DESIGN CHOICE (entry 240). -/
def State.selfTestFails (s : State) (u : TestUnit) : State :=
  match u with
  | .resource t confirmed => if isRetirable t && tType t != 4 && tType t != 7 then s.chargeFree t confirmed else s
  | .die => s.deviceFault 5 false false
  | .core k => s.coreRestart k
  | .metrology => s.metroFault
  | .loopArray => forFin 8 s (fun s g => whenDo (s.loopActive g) (·.loopStart g) s)
  | .comms => forFin 8 ((s.sourceLost 0).sourceLost 1) (fun s p => s.linkDown p .silence)

def execSelfTestFailure (u : TestUnit) (s : State) : Host.Outcome State Fault Refusal := live s (·.selfTestFails u)

end Sys2Proof.Machine
end

