-- ==== Sys2Proof/Machine/Power.lean ====
section
/-! DEFINITION. Supplies and sequencer, brownout, heartbeat, resets, boot, ready, sleep and wake (R730 to R757). -/

namespace Sys2Proof.Machine

/-! ### Sequencer and VS (R732 to R739) -/

/-- VS has qualified for 10 ms: the brownout threshold (mV) is measured and rail sequencing starts; the coming reset is a
power-on reset (R732, R738, R744). -/
def State.vsQualified (s : State) (threshold : Nat) : State :=
  if s.seqr.state != .off || s.seqr.vsLow then s
  else
    let own := decide (threshold < 9000) || decide (30000 < threshold)
    { s with
      seqr := { s.seqr with state := .step 1, tries := 0, en := 1 }
      sys := { s.sys with mode := .inReset, nextCause := some 1, bootHold := false
                          brownoutAt := (min 30000 (max 9000 threshold), !own) } }

def execVsQualified (threshold : Nat) (s : State) : Host.Outcome State Fault Refusal := .next (s.vsQualified threshold)

/-- The PG of the present step has been high for 1 ms: the next EN, or after the sixth the oscillator and the end
(R732). -/
def State.seqStep (s : State) : State :=
  match s.seqr.state with
  | .step n =>
    if n < 6 then { s with seqr := { s.seqr with state := .step (n + 1), en := s.seqr.en ||| 2 ^ n } }
    else { s with seqr := { s.seqr with state := .done } }
  | _ => s

def execSequencerStep (s : State) : Host.Outcome State Fault Refusal := .next s.seqStep

/-- A PG has not risen within 10 ms: every EN off, a wait of 100 ms, and after the third attempt no more (R733). -/
def State.pgTimeout (s : State) : State :=
  match s.seqr.state with
  | .step _ =>
    let n := s.seqr.tries + 1
    { s with seqr := { s.seqr with state := if 3 ≤ n then .stuck else .wait, tries := n, en := 0 } }
  | _ => s

def execPgTimeout (s : State) : Host.Outcome State Fault Refusal := .next s.pgTimeout

/-- The rails have been off for 100 ms: the sequencer starts again (R733, R734). -/
def State.seqRetry (s : State) : State :=
  if s.seqr.state == .wait && !s.seqr.vsLow then { s with seqr := { s.seqr with state := .step 1, en := 1 } } else s

def execSequencerRetry (s : State) : Host.Outcome State Fault Refusal := .next s.seqRetry

/-- A PG falls for 10 us after reset release, also in sleep: device-fault state with the channels held, every EN off; the
next reset has the cause rail fault (R734, R735, R757). -/
def State.pgFall (s : State) : State :=
  if s.seqr.state != .done || (s.sys.mode == .inReset && s.seqr.vsLost) then s
  else
    let s := (if s.sys.mode = .inReset then s else s.deviceFault 5 false true).enterReset 8
    { s with seqr := { s.seqr with state := .wait, tries := 0, en := 0 } }

def execPgFall (s : State) : Host.Outcome State Fault Refusal := .next s.pgFall

/-- VS falls below 3.0 V: device-fault state, channel states lost, every EN off; the next start is a power-on reset
(R691, R737). -/
def State.vsBelow3 (s : State) : State :=
  if s.seqr.vsLow then s
  else
    let s := if s.sys.mode = .inReset then s else (s.deviceFault 7 false true).commitCut
    let s := s.swLose
    { s with
      seqr := { s.seqr with state := .off, tries := 0, en := 0, vsLow := true, vsLost := true }
      sys := { s.sys with mode := if s.sys.mode = .run then .run else .inReset, nextCause := some 1 } }

def execVsBelow3v (s : State) : Host.Outcome State Fault Refusal := .next s.vsBelow3

/-- VS_SENSE stays below 1.200 V for 2 us: the flag, and with it the last gasp (R458, R739). -/
def execBrownoutAssert (s : State) : Host.Outcome State Fault Refusal :=
  .next (if s.sys.brownout then s
    else
      let s := { s with sys := { s.sys with brownout := true } }
      if s.sys.mode = .run then s.lastGasp else s)

/-- VS_SENSE stays above 1.260 V for 1 ms (R739). -/
def execBrownoutClear (s : State) : Host.Outcome State Fault Refusal :=
  .next { s with sys := { s.sys with brownout := false } }

/-! ### VBAT domain (R740, R741) -/

/-- ST as the RTC gives it (R93, R94). -/
def State.rtcNow (s : State) (elapsed : Nat) : Option Nat := s.vbat.now elapsed

/-- A heartbeat at a whole multiple of 10 ms: of ST while the device runs, of the RTC's count in sleep (R741). -/
def State.heartbeat (s : State) (elapsed : Nat) : State :=
  let v := s.vbat
  let t : Option Nat := match s.sys.mode with | .run => some s.st | .sleep => s.rtcNow elapsed | .inReset => none
  let newest : Option Heartbeat := match v.hb0, v.hb1 with
    | some a, some b => if a.seq < b.seq then some b else some a
    | some a, none => some a
    | none, o => o
  match t with
  | none => s
  | some t =>
    if !v.powered || !v.xtal || (match newest with | some h => h.st / 10000000 == t / 10000000 | none => false) then s
    else
      let h : Heartbeat := { st := t, seq := match newest with | some h => (h.seq + 1) % 2 ^ 32 | none => 1,
                             flags := b01 (s.sys.mode == .sleep) }
      if newest.isSome && newest == v.hb0 then { s with vbat := { v with hb1 := some h } }
      else { s with vbat := { v with hb0 := some h } }

def execHeartbeatWrite (elapsed : Nat) (s : State) : Host.Outcome State Fault Refusal := .next (s.heartbeat elapsed)

/-- The domain's supply falls below 2.0 V: everything it holds is lost, and the valid flag is cleared (R740). What the
reset cause reads until the next reset is free (entry 136). -/
def State.vbatLoss (s : State) : State :=
  let (c, s) := s.free
  { s with vbat := { powered := false, valid := false, levelKept := false, xtal := s.vbat.xtal, cause := c % 256 } }

def execVbatDomainLoss (s : State) : Host.Outcome State Fault Refusal := .next (if s.vbat.powered then s.vbatLoss else s)

/-- The supply is back at 2.0 V: SEAL_N sampling resumes, the valid flag stays clear (R387, R740). -/
def execVbatDomainReturn (s : State) : Host.Outcome State Fault Refusal :=
  .next { s with vbat := { s.vbat with powered := true } }

/-! ### Resets (R743 to R748) -/

/-- RESET_N is low for 1 us or more (R743); it also ends the hold of R748. -/
def State.resetLow (s : State) : State :=
  let c := if s.seqr.state == .done && (s.sys.mode != .inReset || s.sys.bootHold) then 2 else s.sys.nextCause.getD 2
  let s := if s.sys.mode = .inReset then { s with sys := { s.sys with nextCause := some c } } else s.enterReset c
  { s with sys := { s.sys with resetN := true, bootHold := false }, vbat := { s.vbat with failed := 0 } }

def execResetNAssert (s : State) : Host.Outcome State Fault Refusal := .next s.resetLow

/-- 100 ms after entry to the device-fault state for a cause neither thermal nor of the supplies (R746). -/
def State.faultReset (s : State) : State :=
  match s.sys.fault with
  | some f => if !f.thermal && !f.rail && decide (f.at_ + 100000000 ≤ s.el) then s.enterReset 6 else s
  | none => s

def execDeviceFaultReset (s : State) : Host.Outcome State Fault Refusal := live s (·.faultReset)

/-- Time state that SRAM carries through sleep (R64, R756): the servo's correction, the marks of failed sources, the record
of the last step, the latch of TIME.STHI and the estimated error, which grows from the loss of lock, at the latest from entry
to sleep (R91, R98, R99, R104). No source is locked, since no message came; no step is held pending and ATTACK is clear in
the levels that R93 gives (DEDUCED, entry 236). -/
def State.timeThroughSleep (s : State) : TimeS :=
  { s.time with
    sel := none, pend := none, attack := false, ppsEdge := none, slewRef := none
    srcs := s.time.srcs.map (fun (x : TimeSource) =>
      { x with state := if x.failed then .failed else .absent, offs := [], bad := 0, master := none })
    errAt := if s.time.quality = .locked then s.el else s.time.errAt }

/-- ST and quality at power-on and at wake: ST from the RTC and FREE, or 0 and INVALID; a level equal to the stored one
is no change; where none is stored the old level told is free (R93, R95; entry 222). Elapsed time goes on with the RTC, or
from where it stood. -/
def State.loadTime (s : State) (elapsed : Nat) (wake : Bool) : State :=
  let was := if wake then s.selCode else none
  let t := s.rtcNow elapsed
  let st := t.getD 0
  let lvl : Quality := if t.isSome then .free else .invalid
  let known := s.vbat.levelKept
  let same := known && s.vbat.quality == lvl
  let (n, s) := if known then (s.vbat.quality.code, s) else s.free
  let s := { s with
    clk := if wake then { s.clk with fix := st * 2 ^ 32, moved := if t.isSome then s.clk.moved else -s.el, resid := 0 }
      else { fix := st * 2 ^ 32, moved := if t.isSome then s.clk.moved else -s.el }
    time := if wake then { s.timeThroughSleep with quality := lvl } else { quality := lvl }
    vbat := { s.vbat with quality := lvl, levelKept := true, qualitySt := if same then s.vbat.qualitySt else st } }
  let s := if wake then s else s.modTime (fun x => { x with errAt := s.el })
  let s := if same then s else s.raise .timeQuality n lvl.code
  let s := s.srcInit (!wake)
  let s := if s.selCode = was then s else s.raise .timeSourceChange
  s.tellBilling (·.dfltUpdate)

/-- The queues at reset release (R633, R650): the boot layout, stored settings, chains for retired queues. -/
def State.bootQueues (s : State) : Vector Queue 128 :=
  let gone := (s.nv.retired.filter (fun r => tType r.target == 7)).map (fun r => tIndex r.target)
  Vector.ofFn (fun (q : Fin 128) =>
    let cfg := if q.val < 14 then bootLayout q else match s.nv.cfg.queue[q] with | some b => qcfgOf b | none => {}
    let k := gone.idxOf q.val
    { cfg := cfg, boot := decide (q.val < 14), chain := if k < gone.length && decide (k < 8) then some k else none })

/-- A switch channel at reset release, before the channels that are not keep turn off (R690, R693): D3 has held its
state, but at power-on, where its measurements and its retry count read their reset values (R24, R703). -/
def State.bootSw (s : State) (powerOn : Bool) (n : Fin 24) : SwCh :=
  let c := s.sws[n]
  let c := if powerOn then { c with temp := 0, vout := 0, clampE := 0, retries := 0 } else c
  { c with
    cmd := if s.swKeep n then c.cmd else .off
    lost := false, restore := false, held := false, dip := 0, faults := 0, means := [], shedMean := 0, clampSum := 0
    changedSt := 0, protSt := 0 }

/-- A group at reset release: OFF, or FAULTED while its loop engine or every slot is retired (R35, R209, R260, R267); stored
settings in force. -/
def State.bootGroup (s : State) (g : Fin 8) : Group :=
  let cause := match s.nv.retired.find? (fun r => r.target == tgt 1 g) with
    | some r => some r.cause
    | none => if s.allRetired g then some 0x40 else none
  { loop := { par0 := (s.nv.cfg.loop0[g]).getD [], par1 := (s.nv.cfg.loop1[g]).getD []
              limits := match s.nv.cfg.profile[g] with | some b => limitsOf b | none => [] }
    prot := match cause with | some c => { state := .faulted, cause := c } | none => {} }

/-- The records of the device-fault state are written, with zero history when SRAM was lost, and reported (R290, R745,
R747). -/
def State.faultRecords (s : State) (sramLost : Bool) (cause : Nat) : State :=
  let s := s.nv.devGroups.foldl (fun (s : State) (x : Nat × Bytes) =>
    if h : x.1 < 8 then
      let g : Fin 8 := ⟨x.1, h⟩
      let r := s.groupRecs[g]
      let seq := r.seq + 1
      let b := x.2.take 8 ++ le 4 seq ++ x.2.drop 12
      let b := if sramLost then b.take 192 ++ List.replicate 768 0 ++ b.drop 960 else b
      { s with groupRecs := s.groupRecs.set g { seq, recs := ((b ++ le 4 (crc32c b)) :: r.recs).take 32 } }
    else s) s
  match s.nv.faultRec with
  | some f =>
    ({ s with nv := { s.nv with faultRec := none, devGroups := [] } }).raise .deviceFaultRecorded f.level cause
  | none => s

/-- The metrology partition at reset release: what the core keeps only in SRAM is gone, the mirror's registers read their reset
values until it is refreshed, filters start in range 0, and restart handling is due (R385, R396, R399, R429, R430, R460). A part that is an FLV-7320-CM holds the
record of its factory state from its first start on (R391, R427). -/
def State.bootMetro (s : State) (cause : Nat) : State :=
  let s := s.metersFresh
  let s := if s.strap.partCM && !s.metro.general.any (·.code == 7) then s.mrec 7 s.calCrc else s
  { s with
    metro := { s.metro with
      lanes := s.metro.lanes.map (fun (l : Lane) => { l with
        settle := 16, range := 0, down := 0, stream := [], tempBad := false, tempRange := false })
      lastTick := none, mirrorSt := 0, mirror := Vector.replicate 12 {}, mirLanes := Vector.replicate 144 {}, mirLog := 0, mirCalCrc := 0
      mirStat := if s.keyway = 2 then 2 else 1
      stopped := none, restartAt := none, xfer := none, mirHi := 0, sleepAt := none }
    bill := { s.bill with
      restartCause := if cause = 1 || cause = 8 then 0 else 2
      gaspAt := none, qual := [], shown := false, regSec := none, mirWin := none, commitHi := 0, paths := []
      mir := { s.bill.mir with tariff := 0, dflt := none, degraded := false } } }

/-- What MRAM holds after the boot: drive sources read loop engine, one more boot, an armed trial image runs (R616, R629,
R791). -/
def State.bootNv (s : State) : State :=
  let trial := s.nv.fw.armed && s.nv.fw.alt.isSome
  let s := if trial then s.swapImages else s
  { s with nv := { s.nv with
      cfg := { s.nv.cfg with pwm := s.nv.cfg.pwm.map (fun (b : Option Bytes) => b.map (fun b => b.take 1 ++ [0] ++ b.drop 2)) }
      fw := { s.nv.fw with armed := false, trial := s.nv.fw.trial || trial }
      boots := s.nv.boots + 1 } }

/-- Everything that a reset forgets, with stored settings in force again (R745, R750, R791, R795); THERM.LATCHHI is kept (R725). -/
def State.bootClear (s : State) (powerOn : Bool) : State :=
  let s := { s with
    launches := [], launchCount := 0, captures := [], capLog := []
    ccp := { hostWin := Vector.ofFn (fun (i : Fin 4) =>
      match s.nv.hostH[i] with | some h => { valid := true, h := h, marks := [h] } | none => {}) }
    hio := {}
    queues := s.bootQueues
    evt := { routeQ := s.nv.cfg.route.map (fun (r : Option (Nat × Nat)) => match r with | some r => r.1 | none => 13)
             routeIrq := s.nv.cfg.route.map (fun (r : Option (Nat × Nat)) => match r with | some r => r.2 | none => 0) }
    hk := {}, therm := { latchHi := s.therm.latchHi }, budget := {}
    sws := Vector.ofFn (fun n => s.bootSw powerOn n)
    fabric := { clkLost := if s.vbat.xtal then 0 else 128 }
    groups := Vector.ofFn (fun g => s.bootGroup g)
    slots := Vector.replicate 48 {}
    cools := Vector.replicate 8 {}
    canCopies := [], flink := {}, twin := {}, image := {}, master := {}
    seqCtr := (s.nv.seqStored + 2 ^ 20) % 2 ^ 32 }
  let s := { s with
    ports := Vector.ofFn (fun (p : Fin 8) =>
      { state := if s.isRetired (tgt 3 p) then .retired else .idle
        limits := match s.nv.cfg.portLimit[p] with | some b => limitsOfPort b | none => (0, 0, 0, 0) })
    cans := Vector.ofFn (fun (n : Fin 8) =>
      { state := if s.isRetired (tgt 6 n) then .busOff else .active, cfg0 := s.nv.cfg.can0[n], cfg1 := s.nv.cfg.can1[n] }) }
  { s with alloc := { limits := match s.nv.cfg.allocLimit with
    | some b => [{ since := 0, limp := u32 b 0, lexp := u32 b 4, reserve := u32 b 8 }]
    | none => [] } }

/-- Reset release: straps sampled, ST loaded, channels that are not keep off, boot and lee period begin (R742 to R750). A start of the
rails that finds the VBAT domain's flag clear is a power-on (R744; DEDUCED, entry 277). -/
def State.restart (s : State) (site : Fin 16) (twinB tcxo : Bool) (elapsed : Nat) : State :=
  let asked := s.sys.nextCause.getD 1
  let cause := if !s.vbat.valid && asked == 8 then 1 else asked
  let s := if cause = 1 && !s.seqr.vsLost then s.swLose else s
  let lost := decide (cause = 1)
  let s := { s with
    strap := { s.strap with siteId := site, twinB := twinB, tcxo := tcxo }
    bill := { s.bill with restartDue := true, cut := s.cutNow } }
  let s := (s.bootNv.bootClear lost).loadTime elapsed false
  let s := { s with
    cools := s.cools.map (fun (c : Cool) => { c with freshAt := s.el })
    sys := { startAt := s.el, brownout := s.sys.brownout, brownoutAt := s.sys.brownoutAt, keepDone := !lost }
    seqr := { s.seqr with tries := 0, vsLost := false }
    vbat := { s.vbat with valid := s.vbat.powered, cause := cause, failed := if cause ≤ 2 then 0 else s.vbat.failed } }
  let s := ((s.nonKeepOff).bootMetro cause).sealAtPower false
  let s := s.faultRecords (cause == 1 || cause == 8) cause
  let s := if asked = 7 then s.raise .fwFallback else s
  if s.latched && (cause = 1 || cause = 5) then s.thermClear true else s

def execResetRelease (site : Fin 16) (twinB tcxo : Bool) (elapsed : Nat) (s : State) : Host.Outcome State Fault Refusal :=
  .next (if s.sys.mode = .inReset && s.seqr.state == .done && !s.sys.bootHold then s.restart site twinB tcxo elapsed else s)

/-! ### Boot, ready, sleep and wake (R749 to R757) -/

/-- Ready has not come in time: a trial image is abandoned, else a reset with cause watchdog (R629, R749, R756, R757). -/
def State.bootTimeout (s : State) : State :=
  let limit : Int := if s.sys.wake.isSome then 60000000 else 350000000
  if s.sys.ready || s.sys.fault.isSome || decide (s.el < s.sys.startAt + limit) then s
  else if s.nv.fw.trial && s.sys.wake.isNone then s.fwFallback else s.enterReset 3

def execBootTimeout (s : State) : Host.Outcome State Fault Refusal := live s (·.bootTimeout)

/-- The gap of a sleep is recorded at ready (R422, R756). -/
def State.sleepGap (s : State) : State :=
  match s.metro.sleepAt with
  | none => s
  | some t =>
    let woke := s.sys.startAt + s.clk.moved
    let s := s.mrec 0x22 t (min 0xFFFFFFFF ((woke - t) / 1000000).toNat)
    { s with metro := { s.metro with sleepAt := none } }

/-- Ready (R749, R752): the vehicle links leave reset and each pilot shows the drive of its port's state, UNAVAILABLE of a
RETIRED port; every other port starts from IDLE, and CONNECTED takes three periods from here (R306, R312, R324, R343, R344;
DEDUCED, entry 296); a pair's device is WAITING, with every channel off (R506; DEDUCED, entry 275). -/
def State.deviceReady (s : State) : State :=
  if s.sys.ready || !s.sys.lee || s.hk.lastRound.isNone || s.bill.restartDue || s.sys.fault.isSome then s
  else
    let p1 := match s.sys.wake with | some b => 0x80 + b | none => s.vbat.cause
    let s := { s with
      sys := { s.sys with ready := true, lee := false, readySt := s.st, readyAt := s.el }
      vbat := { s.vbat with failed := 0 } }
    let s := forFin 8 s (fun s n =>
      if s.cans[n].released then s else s.canAskMode n (canModeOf ((s.nv.cfg.canMode[n]).getD 0)) 5)
    let s := forFin 8 s (fun s p =>
      let s := if s.ports[p].state = .faulted then s.portSet p .idle else s
      (s.linkRelease p).modPort p (fun x => { x with drive := x.state.drive, levelRun := none }))
    let s := { s with
      twin := { s.twin with waitFrom :=
        if s.paired && s.twin.state == TwinState.waiting then some (s.el + (if s.strap.twinB then 1000000 else 0)) else s.twin.waitFrom } }
    let s := { s with flink := { s.flink with since := some s.el } }
    let s := if s.driving then s else s.swAllOff
    (s.sleepGap).raise .deviceReady p1 ((s.el - s.sys.startAt) / 1000).toNat

def execDeviceReady (s : State) : Host.Outcome State Fault Refusal := live s (·.deviceReady)

/-- Entry to sleep after the reply to SYS_SLEEP: blocks closed and an orderly commit, channels that are not keep off, pilot
drives NOT_READY and vehicle links in reset through sleep and the lee period after it, wake sources armed (R343, R344, R753). A brownout stops the entry after the commit (R757). -/
def State.sleepEnter (s : State) (sources : Nat) (wakeAt : Nat) : State :=
  let s := s.orderly
  if s.sys.brownout then s
  else
    let s := s.sleepOff
    { s with
      metro := { s.metro with sleepAt := some s.st, meters := s.metro.meters.map (fun (x : Meter) => { x with block := none }) }
      ports := s.ports.map (fun (x : Port) => { x.unlinked with drive := 0, linkOn := false, levelRun := none, doze := none })
      hio := { s.hio with serving := false }
      flink := { s.flink with woke := false }
      vbat := { s.vbat with wakeAt := if bit sources 4 then some wakeAt else none }
      seqr := { s.seqr with en := s.seqr.en - (if bit s.seqr.en 2 then 4 else 0) }
      sys := { s.sys with mode := .sleep, armed := sources } }

/-- Wake: the state kept in SRAM stands, ST comes from the RTC, and a lee period begins, whose gust counts start at 0 (R695, R756, R363,
R536; DEDUCED, entry 278). -/
def State.wakeUp (s : State) (src : Option Nat) (elapsed : Nat) : State :=
  let clean := match s.bill.newest with | some c => c.kind == 3 | none => false
  let s := { s with bill := { s.bill with
    restartDue := s.bill.restartDue || !clean, restartCause := if clean then s.bill.restartCause else 2
    cut := s.cutNow } }
  let s := s.loadTime elapsed true
  let s := s.sealAtPower true
  let s := { s with
    sys := { s.sys with mode := .run, ready := false, lee := true, wake := src, startAt := s.el, armed := 0 }
    seqr := { s.seqr with en := 63 }
    vbat := { s.vbat with wakeAt := none }
    hk := { s.hk with lastRound := none }
    cools := s.cools.map (fun (c : Cool) => { c.afresh with freshAt := s.el, stale := false })
    cans := s.cans.map (fun (c : Can) => { c with mode := .restricted, next := none, lee := true })
    sws := s.sws.map (fun (c : SwCh) => { c with restore := c.state == SwState.off && c.cmd != SwCmd.off })
    metro := { s.metro with
      lastTick := none, lanes := s.metro.lanes.map (fun (l : Lane) => { l with settle := 16, range := 0, down := 0 }) }
    flink := { s.flink with mute := true }
    ccp := { s.ccp with early := Vector.replicate 2 0 }
    fabric := { s.fabric with gust := Vector.replicate 11 0, gustRaised := 0 } }
  s.billThroughSleep

/-- An armed wake source acts: a pilot change once a level was accepted in place of L0, CAN activity while a controller's boot mode is not off, a beacon that has the device in its wake mask, the timer from its wake ST on (R755). -/
def State.wake (s : State) (src : Fin 5) (elapsed : Nat) : State :=
  let due := match s.vbat.wakeAt, s.rtcNow elapsed with
    | some w, some t => decide (w ≤ t)
    | _, _ => false
  let canLive := (List.finRange 8).any (fun n => canModeOf ((s.nv.cfg.canMode[n]).getD 0) != .off)
  let plugged := (List.finRange 8).any (fun p => s.ports[p].doze.any (·.woke))
  if s.sys.mode != .sleep || !bit s.sys.armed src || (src.val == 0 && !plugged) || (src.val == 1 && !canLive) || (src.val == 3 && !s.flink.woke) || (src.val == 4 && !due) then s
  else s.wakeUp (some src.val) elapsed

def execWake (src : Fin 5) (elapsed : Nat) (s : State) : Host.Outcome State Fault Refusal := .next (s.wake src elapsed)

/-- A 150 degC comparator trips, also in sleep, from which the device then wakes: the device-fault state and the thermal
latch, marked (R715, R720, R723). -/
def State.thermHwLimit (s : State) (i : Fin 8) (elapsed : Nat) : State :=
  if s.sys.mode = .inReset || !s.therm.dies[i].cmpArmed then s
  else
    let s := if s.sys.mode = .sleep then s.wakeUp none elapsed else s
    let d := s.therm.dies[i]
    let s := { s with therm := { s.therm with dies := s.therm.dies.set i { d with cmpArmed := false } } }
    ((s.deviceFault 7 true false).setLatch true).raise .thermHwLimit i

def execThermHwLimit (i : Fin 8) (elapsed : Nat) (s : State) : Host.Outcome State Fault Refusal :=
  .next (s.thermHwLimit i elapsed)

end Sys2Proof.Machine
end

