-- ==== Sys2Proof/Machine/Mirror.lean ====
section
/-! DEFINITION. The direct window: the registers of the status mirror block by block, the violation log, reads and writes
of the host, and the other instructions of HOSTIO (R606 to R616). -/

namespace Sys2Proof.Machine

/-- Two 16-bit fields of a register, the lower one first. -/
def half2 (lo hi : Int) : Nat := (lo % 65536).toNat + 65536 * (hi % 65536).toNat

/-- The two words of a 64-bit value. -/
def loWord (v : Nat) : Nat := v % 2 ^ 32
def hiWord (v : Nat) : Nat := v / 2 ^ 32 % 2 ^ 32

/-- SYS registers (R616). -/
def State.sysRegs (s : State) : List Nat :=
  [ b01 s.sys.ready + 2 * b01 s.sys.lee + 4 * b01 s.therm.throttle + 8 * b01 s.latched + 16 * b01 s.metroStopped +
      32 * b01 s.nv.fw.trial + 256 * (s.strap.siteId % 16) + 4096 * b01 s.strap.twinB + 8192 * b01 s.strap.partCM +
      65536 * s.roles + 524288 * b01 s.mastering
  , s.nv.fw.version, s.nv.boots.toNat, s.vbat.cause % 256, loWord s.sys.readySt, s.hio.readyHi, s.ccp.rx.toNat, s.ccp.err.toNat
  , s.ccp.cmacFail.toNat, s.hio.violCnt.toNat, s.cfgCrc ]

/-- TIME registers (R75). -/
def State.timeRegs (s : State) : List Nat :=
  [ loWord s.st, s.time.sthi
  , s.time.quality.code + 4 * b01 s.time.pend.isSome + 8 * b01 s.time.attack + 16 * s.selCode.getD 15 +
      65536 * min 256 s.launches.length ]

/-- The present reference boundary of a group, the last one reached, as ST; 0 while its timebase stands (R176, R211). -/
def State.refBoundary (s : State) (g : Fin 8) : Nat :=
  let w := s.groups[g].pwm
  if !w.running || w.period = 0 then 0
  else
    let p : Int := 64 * w.period
    s.fineToSt (w.ref + (s.fine - w.ref).fdiv p * p)

/-- PWM registers of a group (R211). -/
def State.pwmRegs (s : State) (g : Fin 8) : List Nat :=
  let w := s.groups[g].pwm
  [ b01 w.test + 2 * b01 w.running + 4 * (s.inService g).length + 64 * w.lead + 1024 * b01 (w.held || w.respace) + 2048 * b01 (s.anyArmed g) +
      4096 * b01 ((s.gSlots g).any (fun n => (s.slot n).trans)) + 8192 * w.mode
  , w.period % 65536, w.loadCnt.toNat, w.heldCnt.toNat, w.tripCnt.toNat, w.dtCnt.toNat, loWord (s.refBoundary g), w.refHi ]

/-- PWM registers of a slot (R212). -/
def State.slotRegs (s : State) (n : Nat) : List Nat :=
  let x := s.slot n
  let own : Nat := match s.slotGroup n with
    | none => 0
    | some g => g.val + 8 + 32 * (if (s.inService g).contains n then s.position g n else 0) + 4096 * b01 (s.tripEn g n)
  let m := match s.slotGroup n with | none => 0 | some g => s.tripM g
  [ own + 16 * b01 (s.slotRetired n) + 512 * b01 x.coarse + 1024 * b01 x.tripped + 2048 * b01 x.armed
  , x.force.hRise % 2 ^ 24, x.force.hFall % 2 ^ 24, x.force.lRise % 2 ^ 24, x.force.lFall % 2 ^ 24
  , x.taps % 256 + 256 * (x.calFaults % 256), x.tripCount m % 65536 ]

/-- LOOP registers of a group (R252). -/
def State.loopRegs (s : State) (g : Fin 8) : List Nat :=
  let l := s.groups[g].loop
  [ b01 (s.loopActive g) + 2 * b01 l.current + 4 * b01 l.atTarget + 8 * b01 l.vsel + 16 * b01 l.laneInvalid, l.sat % 1024
  , par l.target, par l.posQ16, par (rdiv l.vel (2 ^ 24)), par l.iref, par (l.vout.getD 0), par (l.iout.getD 0), l.clMax, l.effMax
  , l.super.toNat, l.replan.toNat ]

/-- GRP registers of a group (R291). -/
def State.grpRegs (s : State) (g : Fin 8) : List Nat :=
  let p := s.groups[g].prot
  let svc := maskOf (s.inService g)
  let sus := s.suspendedMask g
  [ p.state.code + 8 * (match p.stop with | some t => t.cls | none => 0) + 32 * b01 p.stop.isSome + 64 * b01 p.pending.isSome +
      128 * b01 p.permit + 256 * b01 s.latched + 512 * b01 (s.contactorWaits g) + 1024 * min 3 (s.retriesNow g)
  , p.cause % 65536, loWord svc, hiWord svc, loWord sus, hiWord sus, s.groupRecs[g].seq ]

/-- PORT registers of a port (R347). -/
def State.portRegs (s : State) (p : Fin 8) : List Nat :=
  let x := s.ports[p]
  [ s.pstat p, x.lastId, half2 x.high x.low, par x.vcable, par x.alloc, par x.eff, par (s.portIreq p), par x.itgt
  , x.lastEnd % 256 + 256 * (x.caps % 256) ]

/-- COOL registers of a loop (R379). -/
def State.coolRegs (s : State) (p : Fin 8) : List Nat :=
  let c := s.cools[p]
  [ s.cstat p, half2 (tenths c.tc) (tenths c.pred), half2 (c.sens[0].shown.getD 0) (c.sens[1].shown.getD 0), half2 (tenths c.tk) (c.hotPin.getD 0x8000)
  , c.flowTenths % 65536, c.icap % 65536, c.pcap, c.pumpDuty % 256 + 256 * (c.fanDuty % 256), c.losses.toNat ]

/-- METER registers of the device, as last refreshed (R429). -/
def State.meterRegs (s : State) : List Nat :=
  let m := s.metro
  [m.mirStat, m.mirCalCrc, m.mirCnt, loWord m.mirrorSt, m.mirHi, m.mirLog, m.mirLost]

/-- METER registers of a meter, as last refreshed (R430). -/
def State.meterBlock (s : State) (m : Fin 12) : List Nat :=
  let x := s.metro.mirror[m]
  [ x.stat, par x.p, par x.q, par x.v[0], par x.v[1], par x.v[2], par x.i[0], par x.i[1], par x.i[2], x.freq, loWord x.tot[0]
  , loWord x.tot[1] ]

/-- BILL registers of the device, as last refreshed with the mirror (R480). -/
def State.billRegs (s : State) : List Nat :=
  let x := s.bill.mir
  [ b01 x.cal.isSome + 2 * b01 x.prices.isSome + 4 * b01 x.dflt.isSome + 8 * b01 x.degraded +
      16 * b01 (x.unreg.toList.any (· != 0)) + 32 * b01 s.bill.mirKey +
      64 * b01 (x.calNext.isSome || x.pricesNext.isSome) + 256 * x.tariff
  , x.period, loWord s.bill.mirCommit, s.bill.commitHi, loWord s.bill.mirJseq
  , (match x.cal with | none => 15 | some c => u8 c 21), genOf x.cal 4, genOf x.prices 0, s.bill.mirUnregSeq, x.tokOk.toNat
  , x.tokBad.toNat ]

/-- BILL registers of an account; the balance in whole cu, its rounding open (R481; entry 9). -/
def State.acctRegs (s : State) (a : Nat) : List Nat :=
  let x := vget s.bill.mir.accounts a {}
  [ acctFlags x (s.accountBound a) + 16 * x.cls
  , par (clampI (-(2 ^ 31)) (2 ^ 31 - 1) (rdiv x.bal 1000000)), x.ceil, x.lastId % 2 ^ 24 ]

/-- TWIN registers (R525). -/
def State.twinRegs (s : State) : List Nat :=
  let t := s.twin
  [ b01 s.paired + 2 * t.state.code + 16 * b01 s.strap.twinB + 32 * b01 t.leaseOut + 64 * b01 t.leaseIn + 128 * b01 t.hinge +
      256 * s.hingeLanes + 2048 * b01 s.posHolds + 4096 * b01 (t.handover.isSome || t.drillHold.isSome) + 8192 * t.partner.code
  , t.gen, loWord s.leaseEndSt, t.endHi, t.mismatches.toNat, t.lates.toNat, t.dups.toNat, half2 t.passed t.failed ]

/-- CAN registers of a controller (R552). -/
def State.canRegs (s : State) (n : Fin 8) : List Nat :=
  let c := s.cans[n]
  [ c.mode.code + 8 * c.state.code + 32 * b01 c.warn + 64 * b01 c.recovering + 128 * b01 (s.isRetired (tgt 6 n)) +
      256 * b01 (s.canFd n) + 512 * b01 c.lee
  , c.txErr % 512 + 65536 * (c.rxErr % 512), c.errType % 8 + 16 * (c.errField % 8) + 256 * (c.tdcv % 256), c.rx.toNat, c.tx.toNat
  , c.drops.toNat, c.exps.toNat, c.boffs.toNat ]

/-- FLINK registers (R586). -/
def State.flinkRegs (s : State) : List Nat :=
  let x := s.flink
  let (z, p) : Nat × Nat := match x.beacon with | some b => (b.z, b.p) | none => (0, 0)
  [ s.flStat, z % 65536 + 65536 * (s.flCoordAddr % 256), p, x.rx.toNat, x.tx.toNat, x.crcFail.toNat, x.erase.toNat, x.drops.toNat ]

/-- QUEUE registers of a queue (R666). -/
def State.queueRegs (s : State) (q : Fin 128) : List Nat :=
  let x := s.queues[q]
  [s.qstat q, x.sramFill, x.spilled.length, x.drops.toNat]

/-- SW registers of a channel (R703). -/
def State.swRegs (s : State) (n : Fin 24) : List Nat :=
  let c := s.sws[n]
  [ s.swStat n, min 65535 c.current, half2 c.temp c.vout, half2 (min 65535 c.mean1s : Nat) c.duty, min 65535 c.clampE, c.faults.toNat
  , half2 (min 65535 s.budgetFigure : Nat) s.budget.limit ]

/-- THERM and HK registers of the device (R725). -/
def State.thermRegs (s : State) : List Nat :=
  let t := s.therm
  let l := s.nv.tlatch
  [ b01 t.warn + 2 * b01 t.throttle + 4 * b01 t.stopping + 8 * b01 l.set + 16 * s.thermMode + 32 * b01 (l.set && l.hw) +
      64 * b01 t.releasable + 128 * b01 (t.dies.toList.any (·.failed)) + 256 * (t.hottest % 8)
  , half2 t.tj t.peak, half2 t.dies[0].temp t.dies[1].temp, half2 t.dies[2].temp t.dies[3].temp, half2 t.dies[4].temp t.dies[5].temp
  , half2 t.dies[6].temp t.dies[7].temp, loWord l.st, t.latchHi, t.throttles.toNat, l.count.toNat, s.hk.rounds.toNat
  , b01 s.hk.refFail + 2 * b01 s.hk.vbatLow + 4 * b01 (s.hk.railBad != 0) ]

/-- HK.CH of point `i`, 0 to 63 external, 64 to 80 internal (R725). -/
def State.hkReg (s : State) (i : Nat) : Nat :=
  let p := vget s.hk.pts i {}
  (p.value % 2 ^ 24).toNat + 2 ^ 24 * b01 p.valid + 2 ^ 25 * b01 (s.hkUnused i)

/-- A word of blocks of `size` bytes each that begin at `base`: block number and word number. -/
def blockAt (a base size : Nat) : Nat × Nat := ((a - base) / size, (a - base) % size / 4)

/-- Is an address in a run of bytes? -/
def inRun (a base n : Nat) : Bool := decide (base ≤ a) && decide (a < base + n)

/-- One word of the status mirror; an address that no block holds reads 0 (R612). -/
def State.mirrorWord (s : State) (a : Nat) : Nat :=
  let pick := fun (base size : Nat) (f : Nat → List Nat) => let x := blockAt a base size; (f x.1).getD x.2 0
  let eight := fun (base size : Nat) (f : Fin 8 → List Nat) => pick base size (fun k => f (Fin.ofNat 8 k))
  if inRun a 0 0x40 then s.sysRegs.getD (a / 4) 0
  else if inRun a 0x40 0xC then s.timeRegs.getD ((a - 0x40) / 4) 0
  else if inRun a 0x1000 0x200 then eight 0x1000 0x40 s.pwmRegs
  else if inRun a 0x1400 0x600 then pick 0x1400 0x20 s.slotRegs
  else if inRun a 0x1C00 0x200 then eight 0x1C00 0x40 s.loopRegs
  else if inRun a 0x2000 0x100 then eight 0x2000 0x20 s.grpRegs
  else if inRun a 0x2400 0x200 then eight 0x2400 0x40 s.portRegs
  else if inRun a 0x2800 0x200 then eight 0x2800 0x40 s.coolRegs
  else if inRun a 0x2C00 0x20 then s.meterRegs.getD ((a - 0x2C00) / 4) 0
  else if inRun a 0x3000 0x300 then pick 0x3000 0x40 (fun k => s.meterBlock (Fin.ofNat 12 k))
  else if inRun a 0x3400 0x40 then s.billRegs.getD ((a - 0x3400) / 4) 0
  else if inRun a 0x3800 0x1000 then pick 0x3800 0x10 s.acctRegs
  else if inRun a 0x4800 0x40 then s.twinRegs.getD ((a - 0x4800) / 4) 0
  else if inRun a 0x4C00 0x200 then eight 0x4C00 0x40 s.canRegs
  else if inRun a 0x5000 0x40 then s.flinkRegs.getD ((a - 0x5000) / 4) 0
  else if inRun a 0x5800 0x800 then pick 0x5800 0x10 (fun k => s.queueRegs (Fin.ofNat 128 k))
  else if inRun a 0x6000 0x300 then pick 0x6000 0x20 (fun k => s.swRegs (Fin.ofNat 24 k))
  else if inRun a 0x6400 0x30 then s.thermRegs.getD ((a - 0x6400) / 4) 0
  else if inRun a 0x6500 0x100 then s.hkReg ((a - 0x6500) / 4)
  else if inRun a 0x6600 0x44 then s.hkReg (64 + (a - 0x6600) / 4)
  else 0

/-- What a read of a mirror word latches (R75, R211, R429, R480, R525, R616, R725). -/
def State.mirrorLatch (s : State) (a : Nat) : State :=
  if a = 0x10 then { s with hio := { s.hio with readyHi := hiWord s.sys.readySt } }
  else if a = 0x40 then { s with time := { s.time with sthi := hiWord s.st } }
  else if inRun a 0x1000 0x200 && a % 0x40 = 0x18 then
    let g : Fin 8 := Fin.ofNat 8 ((a - 0x1000) / 0x40)
    s.modPwm g (fun w => { w with refHi := hiWord (s.refBoundary g) })
  else if a = 0x2C0C then { s with metro := { s.metro with mirHi := hiWord s.metro.mirrorSt } }
  else if a = 0x3408 then { s with bill := { s.bill with commitHi := hiWord s.bill.mirCommit } }
  else if a = 0x4808 then s.modTwin (fun t => { t with endHi := hiWord s.leaseEndSt })
  else if a = 0x6418 then { s with therm := { s.therm with latchHi := hiWord s.nv.tlatch.st } }
  else s

/-- One word of the violation log: entry of sequence s in place s mod 64 (R614). -/
def State.vlogWord (s : State) (o : Nat) : Nat :=
  if o < 0x800 then
    match s.hio.vlog.find? (fun v => v.seq % 64 == o / 0x20) with
    | none => 0
    | some v =>
      [ loWord v.st, hiWord v.st, v.addr, b01 v.write + 2 * v.cause + 65536 * v.words, v.seq, v.data ].getD (o % 0x20 / 4) 0
  else if o = 0x800 then s.hio.vseq % 2 ^ 32
  else if o = 0x804 then s.hio.vlost % 2 ^ 32
  else 0

/-- One word of the event router (R663). -/
def State.evtWord (s : State) (o : Nat) : Nat :=
  if o < 0x400 then
    if isSource (o / 4) then vget s.evt.routeQ (o / 4) 0xFF + 256 * vget s.evt.routeIrq (o / 4) 0 else 0
  else if o < 0x480 then vget s.evt.pend ((o - 0x400) / 0x20) 0 / 2 ^ (32 * ((o - 0x400) % 0x20 / 4)) % 2 ^ 32
  else if o = 0x480 then s.evt.enable
  else if o = 0x484 then s.nv.evSeq % 2 ^ 32
  else 0

/-- Is an offset in a queue's window one of the read port's (R641)? -/
def readPort (o : Nat) : Bool := o = 0x1000 || o = 0x1004 || o = 0x1008 || o = 0x100C

/-- One word of a queue's window; a read port of a queue whose consumer is not the host is misused (R641, R642). -/
def State.queueWord (s : State) (a : Nat) (bad : Nat → State → State) : Nat × State :=
  let q : Fin 128 := Fin.ofNat 128 ((a - 0x100000) / 0x2000)
  let o := (a - 0x100000) % 0x2000
  let x := s.queues[q]
  if readPort o && x.cfg.firmware then (0, bad 4 s)
  else if o = 0x1000 then s.qrlo q
  else if o = 0x1004 then (x.rhi, s)
  else if o = 0x1008 then (x.tag, s)
  else if o = 0x100C then (x.level % 2 ^ 20, s)
  else (0, s)

/-- A read of one word of the window (R611). -/
def State.readWord (s : State) (a : Nat) (bad : Nat → State → State) : Nat × State :=
  if a < 0x100000 then (s.mirrorWord a % 2 ^ 32, s.mirrorLatch a)
  else if a < 0x200000 then s.queueWord a bad
  else if a < 0x210000 then (s.evtWord (a - 0x200000), s)
  else (s.vlogWord (a - 0x210000), s)

/-- A write of one word of the window: the mirror, the log and EVT.SEQ are read only, cause 1 (R612, R613, R641, R663). -/
def State.writeWord (s : State) (a v : Nat) (bad : Nat → State → State) : State :=
  if a < 0x100000 then bad 1 s
  else if a < 0x200000 then
    let q : Fin 128 := Fin.ofNat 128 ((a - 0x100000) / 0x2000)
    let o := (a - 0x100000) % 0x2000
    if o = 0 then s.qdata q v (bad 4)
    else if o = 4 then s.qopen q v (bad 4)
    else if o = 8 then s.qclose q v (bad 4)
    else if o = 0x1010 then s.qctl q v (bad 4)
    else if readPort o then bad 1 s
    else bad 4 s
  else if a < 0x210000 then
    let o := a - 0x200000
    if o < 0x400 then s.routeWrite (o / 4) v (bad 4)
    else if o < 0x480 then s.pendWrite (Fin.ofNat 4 ((o - 0x400) / 0x20)) (Fin.ofNat 8 ((o - 0x400) % 0x20 / 4)) v
    else if o = 0x480 then { s with evt := { s.evt with enable := v % 16 } }
    else if o = 0x484 then bad 1 s
    else s
  else bad 1 s

/-- Is a register one that a write violates whatever the value (R612, R614, R641, R663)? -/
def readOnlyAt (a : Nat) : Bool :=
  if a < 0x100000 then true
  else if a < 0x200000 then
    let o := (a - 0x100000) % 0x2000
    !(o = 0 || o = 4 || o = 8 || o = 0x1010)
  else decide (0x210000 ≤ a) || a = 0x200484

/-- The end of the range of R611 that holds an address. -/
def rangeEnd (a : Nat) : Option Nat :=
  if a < 0x100000 then some 0x100000
  else if a < 0x200000 then some 0x200000
  else if a < 0x210000 then some 0x210000
  else if a < 0x211000 then some 0x211000
  else none

/-- The cause for which the address phase of an access of `n` words voids it (R609, R613). -/
def addressCause (a n : Nat) : Option Nat :=
  if a % 4 ≠ 0 then some 2
  else match rangeEnd a with
    | none => some 0
    | some e => if e < a + 4 * n then some 3 else none

/-- Read `n` words from `a` on. -/
def State.readWords (bad : Nat → State → State) : Nat → Nat → State → List Nat × State
  | 0, _, s => ([], s)
  | n + 1, a, s =>
    let (w, s) := s.readWord a bad
    let (ws, s) := State.readWords bad n (a + 4) s
    (w :: ws, s)

/-- Write words from `a` on. -/
def State.writeWords (bad : Nat → State → State) : List Nat → Nat → State → State
  | [], _, s => s
  | w :: ws, a, s => State.writeWords bad ws (a + 4) (s.writeWord a w bad)

/-- A window read of `n` whole words, and a partial one behind them (R608, R609, R613; entry 132). -/
def State.windowRead (s : State) (a n : Nat) (part : Bool) : State :=
  if !s.hio.serving then s.emit (.window 2 (List.replicate n 0))
  else
    let bad := fun (c : Nat) (s : State) => s.violate a false c n 0
    let void := fun (c : Nat) => (bad c s).emit (.window 1 (List.replicate n 0))
    match addressCause a n with
    | some c => void c
    | none =>
      let q : Fin 128 := Fin.ofNat 128 ((a - 0x100000) / 0x2000)
      if inRun a 0x100000 0x100000 && readPort (a % 0x2000) && s.queues[q].cfg.firmware then void 4
      else
        let (ws, s) := State.readWords bad n a s
        (whenDo part (bad 2) s).emit (.window 0 ws)

def execWindowRead (a : Word) (n : Nat) (part : Bool) (s : State) : Host.Outcome State Fault Refusal :=
  live s (·.windowRead a.toNat n part)

/-- A window write of whole words, and a partial one behind them (R608, R609, R613). -/
def State.windowWrite (s : State) (a : Nat) (ws : List Nat) (part : Bool) : State :=
  if !s.hio.serving then s
  else
    let s := { s with hio := { s.hio with lastWriteBad := false } }
    let bad := fun (c : Nat) (s : State) => s.violate a true c ws.length (ws.headD 0)
    match addressCause a ws.length with
    | some c => bad c s
    | none =>
      let first := inRun a 0x100000 0x100000 && !readPort (a % 0x2000)
      if readOnlyAt a then bad (if first then 4 else 1) s
      else whenDo part (bad 2) (State.writeWords bad ws a s)

def execWindowWrite (a : Word) (ws : List Word) (part : Bool) (s : State) : Host.Outcome State Fault Refusal :=
  live s (·.windowWrite a.toNat (ws.map (·.toNat)) part)

/-! ### Registers whose read latches -/

def execTimeStloRead (s : State) : Host.Outcome State Fault Refusal := live s (·.windowRead 0x40 1 false)

def execPwmRefloRead (g : Fin 8) (s : State) : Host.Outcome State Fault Refusal :=
  live s (·.windowRead (0x1018 + 0x40 * g.val) 1 false)

def execMeterMirloRead (s : State) : Host.Outcome State Fault Refusal := live s (·.windowRead 0x2C0C 1 false)

def execBillCommitloRead (s : State) : Host.Outcome State Fault Refusal := live s (·.windowRead 0x3408 1 false)

def execTwinEndloRead (s : State) : Host.Outcome State Fault Refusal := live s (·.windowRead 0x4808 1 false)

def execSysReadyloRead (s : State) : Host.Outcome State Fault Refusal := live s (·.windowRead 0x10 1 false)

def execThermLatchloRead (s : State) : Host.Outcome State Fault Refusal := live s (·.windowRead 0x6418 1 false)

/-! ### Other instructions (R607, R608, R610) -/

/-- The HOSTIO status byte (R610). -/
def State.hostStatus (s : State) : Nat :=
  b01 s.hio.serving + 2 * b01 s.hio.lastWriteBad + 4 * b01 s.hio.violSeen +
  8 * b01 (!(s.queues[1].words.isEmpty && s.queues[1].spilled.isEmpty)) + 16 * b01 s.sys.lee

/-- Reading the byte clears bit 2. -/
def State.statusRead (s : State) : State :=
  let s' := s.emit (.status s.hostStatus)
  { s' with hio := { s'.hio with violSeen := false } }

def execHostioStatusRead (s : State) : Host.Outcome State Fault Refusal := live s (·.statusRead)

/-- The interface reset clears what the interface itself holds: bits 1 and 2 of the status byte (R607). -/
def State.interfaceReset (s : State) : State :=
  { s with hio := { s.hio with lastWriteBad := false, violSeen := false } }

def execHostioInterfaceReset (s : State) : Host.Outcome State Fault Refusal := live s (·.interfaceReset)

/-- An instruction that R607 does not list is ignored and logged with cause 5; the address field of that entry is free. -/
def State.unknownInstruction (s : State) (code : BitVec 8) : State :=
  if code = 0xEB || code = 0x38 || code = 0x05 || code = 0x66 then s
  else
    let (a, s) := s.free
    s.violate (a % 2 ^ 32) false 5 0 0

def execHostioUnknownInstruction (code : BitVec 8) (s : State) : Host.Outcome State Fault Refusal :=
  live s (·.unknownInstruction code)

/-- HOSTIO serves from 50 ms after reset release (R608). -/
def execHostioServingStart (s : State) : Host.Outcome State Fault Refusal :=
  live s (fun s => whenDo (!s.hio.serving && decide (s.sys.startAt + 50000000 ≤ s.el))
    (fun s => { s with hio := { s.hio with serving := true } }) s)

end Sys2Proof.Machine
end

