-- ==== Sys2Proof/Machine/SysCmds.lean ====
section
/-! DEFINITION. The SYS commands, firmware images and credentials (R617 to R631). -/

namespace Sys2Proof.Machine

/-- Bits [7:0] of SYS.DSTAT (R616). -/
def State.dstat (s : State) : Nat := (s.sysRegs.getD 0 0) % 256

/-! ### SYS_PING and SYS_SUMMARY (R617 to R619) -/

/-- SYS_PING (R617). -/
def bodySysPing (r : Req) (s : State) : Ans :=
  .ok s (le 1 s.dstat ++ le 1 (s.strap.siteId + 16 * b01 s.strap.twinB) ++ le 8 s.st ++ le 4 s.nv.fw.version ++
    le 4 s.nv.boots.toNat ++ le 1 s.time.quality.code ++ [0, 0, 0] ++ r.body)

/-- Group entry (R618). -/
def State.sumGroup (s : State) (g : Fin 8) : Bytes :=
  let p := s.groups[g].prot
  let l := s.groups[g].loop
  le 1 p.state.code ++
  le 1 (b01 p.permit + 2 * b01 p.pending.isSome + 4 * b01 s.latched + 8 * b01 (s.contactorWaits g) + 16 * b01 (s.loopActive g) +
    32 * b01 l.atTarget) ++
  le 2 p.cause ++ le 6 (maskOf (s.inService g)) ++ le 2 l.sat ++ le 4 s.groupRecs[g].seq

/-- Port entry (R618). -/
def State.sumPort (s : State) (p : Fin 8) : Bytes :=
  let x := s.ports[p]
  le 1 x.state.code ++ le 1 x.level ++ le 1 x.lastEnd ++ le 1 x.caps ++ le 4 x.lastId ++ lei 4 x.eff ++ le 1 (s.cstat p) ++
  le 1 (s.portRetries p) ++ le 2 (x.session.getD {}).account

/-- Switch channel entry (R618). -/
def State.sumSw (s : State) (n : Fin 24) : Bytes :=
  let c := s.sws[n]
  le 1 c.state.code ++
  le 1 (b01 c.openLoad + 2 * b01 (s.swKeep n) + 4 * b01 (bit (s.swStat n) 5) + 8 * b01 (s.swOwner n != 0)) ++
  le 2 (min 65535 c.current)

/-- Meter lane byte (R618), what metrology knows from its mirror (R62). -/
def State.sumLane (s : State) (k : Nat) : Byte :=
  let l := vget s.metro.mirLanes k {}
  let inGroup := (List.finRange 8).any (fun g => (cfgLanes (s.gCfg g)).any (fun x => x.1 == k))
  BitVec.ofNat 8 (b01 inGroup + 2 * b01 l.used + 4 * b01 l.invalid + 8 * b01 l.overload +
    16 * b01 l.settling + 32 * b01 (s.isRetired (tgt 5 k)) + 64 * (l.range % 4))

/-- CAN controller entry (R618). -/
def State.sumCan (s : State) (n : Fin 8) : Bytes :=
  let c := s.cans[n]
  le 1 (c.mode.code + 8 * c.state.code + 32 * b01 c.warn + 64 * b01 (s.isRetired (tgt 6 n)) + 128 * b01 c.lee) ++
  le 1 (min 255 c.txErr) ++ le 1 (min 255 c.rxErr) ++ [0]

/-- Queue entry (R618). -/
def State.sumQueue (s : State) (q : Fin 128) : Bytes :=
  let x := s.queues[q]
  let r := s.isRetired (tgt 7 q)
  let cap := x.room r + (if r then 0 else x.cfg.spillWords)
  le 1 (if cap = 0 then 0 else min 255 (x.fill * 256 / cap)) ++
  le 1 (b01 x.isHigh + 2 * b01 (!x.spilled.isEmpty) + 4 * b01 (r && x.chain.isSome)) ++ le 2 (min 65535 x.drops.toNat)

/-- SYS_SUMMARY (R618, R619): metrology and billing fields from the mirror, the rest of the present tick. -/
def bodySysSummary (_ : Req) (s : State) : Ans :=
  let b := s.bill.mir
  let each {n : Nat} (f : Fin n → Bytes) : Bytes := (List.finRange n).flatMap f
  let limp := match s.limitsAt (s.st / 1000000 * 1000000) with | some l => l.limp | none => 0
  let listed := s.nv.retired.take 64
  let peers := s.flink.peers.countP (fun q => q.robust || q.txRobust)
  .ok s ([1] ++ le 1 s.dstat ++
    le 1 (s.strap.siteId + 16 * b01 s.strap.twinB + 32 * b01 s.paired + 64 * b01 s.sys.idConflict + 128 * b01 s.strap.partCM) ++
    le 1 (s.roles + 8 * b01 s.mastering) ++
    (if s.paired then le 1 s.twin.state.code ++ le 1 s.twin.partner.code else [0xFF, 0xFF]) ++
    le 8 s.st ++ le 1 s.time.quality.code ++ le 1 (s.selCode.getD 255) ++ le 2 s.timeFlags ++ le 4 s.twin.gen ++ le 4 s.master.gen ++
    le 1 (s.masterSite.getD 255) ++ le 1 s.allocState ++ le 1 (min 255 s.alloc.missed) ++ le 1 s.allocFlags ++
    le 1 s.vbat.cause ++ [0] ++ lei 2 s.therm.tj ++ le 4 s.nv.fw.version ++ le 8 (if s.sys.lee then 0 else s.sys.readySt) ++
    le 4 s.cfgCrc ++ le 4 s.nv.boots.toNat ++ le 4 limp ++ le 4 0 ++
    each s.sumGroup ++ each s.sumPort ++ each s.sumSw ++ (List.range 144).map s.sumLane ++ each s.sumCan ++
    (le 1 s.flStat ++ le 1 s.flCoordAddr ++ le 2 peers ++ le 4 s.flink.crcFail.toNat) ++ each s.sumQueue ++
    s.fabric.gust.toList.flatMap (le 4) ++ le 4 0 ++
    le 4 s.fabric.transients ++ le 4 s.nv.retirements ++ le 4 s.nv.devFaults ++ le 4 s.fabric.dogs ++ le 4 s.fabric.linkReplays ++
    le 4 s.fabric.eccCount ++ le 4 s.hio.violCnt.toNat ++ le 4 s.ccp.cmacFail.toNat ++
    le 4 (s.billRegs.getD 0 0) ++ le 4 b.period ++ le 4 s.metro.mirStat ++ le 4 s.bill.mirUnregSeq ++ le 8 s.bill.mirCommit ++
    le 2 (b.accounts.toList.countP (·.loaded)) ++ le 2 (b.accounts.toList.countP (fun a => a.loaded && decide (a.bal ≤ 0))) ++
    le 4 (genOf b.cal 4) ++ le 2 s.nv.retired.length ++ le 2 listed.length ++ listed.flatMap (fun x => le 2 x.target) ++
    List.replicate (2 * (64 - listed.length)) 0 ++ le 4 0)

/-! ### SYS_ROLE (R65 to R68, R620) -/

/-- Field checks of SYS_ROLE (R620). -/
def roleFields (b : Bytes) : List (Bool × Nat) :=
  if u8 b 0 = 0 then [(decide (7 < u8 b 1), 1), rz b 2 6]
  else if u8 b 0 = 1 then
    let site := fun (f : Nat) (pre v4 v6 : Nat) =>
      [outside (u8 b f) 0 3 f, (if bit (u8 b f) 0 then outside (u8 b pre) 1 30 pre else outside (u8 b pre) 0 0 pre),
        (!bit (u8 b f) 0 && u32 b v4 != 0, v4), (!bit (u8 b f) 1 && !zeros b v6 16, v6)]
    [outside (u8 b 1) 0 4 1, outside (u16 b 2) 1024 65535 2] ++ site 4 5 8 16 ++ site 6 7 12 32 ++
    (List.range (u8 b 1)).flatMap (fun k => [outside (u8 b (48 + 20 * k)) 0 1 (48 + 20 * k), rz b (49 + 20 * k) 1])
  else [(true, 0)]

/-- Would a role set remove PORT from a device with a port in use, or POWER with a group in use (R67)? -/
def State.roleHeld (s : State) (new : Nat) : Bool :=
  (bit s.roles 0 && !bit new 0 && s.ports.toList.any (·.state != .idle)) ||
  (bit s.roles 1 && !bit new 1 && s.groups.toList.any (·.prot.state != .off))

/-- SYS_ROLE (R620); the twins' role sets are compared anew (R68). -/
def bodySysRole (r : Req) (s : State) : Ans :=
  let b := r.body
  .table s
    [ paramRow (roleFields b), row (u8 b 0 == 1 && !r.isLocal) stDenied, row (u8 b 0 == 0 && s.roleHeld (u8 b 1)) stConflict ]
    (fun s => .ok ((s.store (fun c => if u8 b 0 = 0 then { c with role := some b } else { c with net := some b })).twinRecheck))

/-! ### SYS_RESET and SYS_SLEEP (R621, R622): what they do comes after the reply -/

/-- SYS_RESET (R621). -/
def bodySysReset (r : Req) (s : State) : Ans :=
  let b := r.body
  let busy := s.groups.toList.any (fun g => g.prot.state != .off && g.prot.state != .faulted) ||
    s.ports.toList.any (fun p => p.state != .idle && p.state != .connected && p.state != .faulted && p.state != .retired)
  .table s
    [ paramRow [outside (u8 b 0) 0 1 0, outside (u8 b 1) 0 1 1, rz b 2 6]
    , row (u8 b 0 == 1 && s.nv.fw.alt.isNone) stConflict, row (!bit (u8 b 1) 0 && busy) stConflict ]
    (fun s => .ok s)

/-- The device resets after the reply: lease released, journal committed, cause SYS_RESET; action 1 has the alternate image on
trial (R621, R744). -/
def State.sysReset (s : State) (trial : Bool) : State :=
  let s := if s.paired && s.twin.leaseOut then s.release else s
  let s := s.orderly.flushLog
  let s := if trial then { s with nv := { s.nv with fw := { s.nv.fw with armed := true } } } else s
  s.enterReset 4

/-- SYS_SLEEP (R622). -/
def bodySysSleep (r : Req) (s : State) : Ans :=
  let b := r.body
  let w := u16 b 0
  let busy := s.groups.toList.any (·.prot.state != .off) ||
    s.ports.toList.any (fun p => p.state != .idle && p.state != .faulted && p.state != .retired) || !s.launches.isEmpty || s.paired
  .table s
    [ paramRow [outside w 1 31 0, rz b 2 6, (if bit w 4 then decide (u64 b 8 < s.st + 1000000000) else u64 b 8 != 0, 8)]
    , row busy stConflict ]
    (fun s => .ok s)

/-! ### SYS_LOG_READ and SYS_VIOLATION_READ (R623 to R625) -/

/-- Whole records of `size` bytes from sequence `sel` on, 0 the oldest held, with what R623 says of them; `l` holds sequence and
bytes, oldest first; `newest` is the newest sequence held. -/
def logReply (kind size sel want newest : Nat) (l : List (Nat × Bytes)) : Bytes :=
  let from_ := l.filter (fun r => decide (sel ≤ r.1))
  let n := want / size
  let got := from_.take n
  let next := match from_.drop n with | r :: _ => r.1 | [] => newest + 1
  let above := sel != 0 && decide (from_.length < newest + 1 - sel)
  le 1 kind ++ le 1 (b01 (decide (n < from_.length)) + 2 * b01 above) ++ le 4 (size * got.length) ++ le 4 next ++ le 4 newest ++
  got.flatMap (·.2)

/-- Every metrology event record held, in order of sequence (R426). -/
def State.metroLog (s : State) : List MRec :=
  sortBy (fun (a b : MRec) => decide (a.seq ≤ b.seq)) (s.metro.general ++ s.metro.reserved ++ s.metro.running.reverse)

/-- SYS_LOG_READ (R623). -/
def bodySysLogRead (r : Req) (s : State) : Ans :=
  let b := r.body
  let k := u8 b 0
  let sel := u32 b 4
  let off := u32 b 8
  let n := u16 b 12
  let cap := s.captures.find? (fun c => c.id == sel && c.state == 2)
  .table s
    [ paramRow [outside k 0 2 0, rz b 1 3, (k != 1 && off != 0, 8), outside n 1 4064 12, rz b 14 2]
    , row (k == 1 && cap.isNone) stConflict ]
    (fun s =>
      match k with
      | 0 => .ok s (logReply 0 24 sel n (match s.nv.evLog with | e :: _ => e.seq | [] => 0)
          (s.nv.evLog.reverse.map (fun e => (e.seq, e.bytes))))
      | 1 =>
        let c : Capture := cap.getD { id := 0, state := 2, contents := 0, mask := 0, launch := 0, pre := 0, post := 0, bytes := [], truncated := false }
        let d := (c.bytes.drop off).take n
        .ok s (le 1 1 ++ le 1 (b01 (decide (off + d.length < c.bytes.length)) + 4 * b01 c.truncated) ++ le 4 d.length ++
          le 4 (off + d.length) ++ le 4 c.bytes.length ++ d)
      | _ => .ok s (logReply 2 32 sel n s.metro.logSeq (s.metroLog.map (fun e => (e.seq, e.bytes)))))

/-- An entry of the violation log as R614 lays it out. -/
def Viol.bytes (v : Viol) : Bytes :=
  le 8 v.st ++ le 4 v.addr ++ le 4 (b01 v.write + 2 * v.cause + 65536 * v.words) ++ le 4 v.seq ++ le 4 v.data ++ le 8 0

/-- SYS_VIOLATION_READ (R625). -/
def bodySysViolationRead (r : Req) (s : State) : Ans :=
  let b := r.body
  let ring := u8 b 0 = 1
  let sel := u32 b 4
  let all := if ring then s.nv.violRing.reverse else s.hio.vlog
  let from_ := if sel = 0 then all else all.dropWhile (fun v => decide (v.seq < sel))
  let got := from_.take 64
  let newest := if ring then (match s.nv.violRing with | v :: _ => v.seq | [] => 0) else s.hio.vseq
  let lost := if ring then sel != 0 && (match all with | v :: _ => decide (sel < v.seq) | [] => false) else s.hio.vlost != 0
  .table s
    [ paramRow [outside (u8 b 0) 0 1 0, (decide (1 < u8 b 1) || (bit (u8 b 1) 0 && ring), 1), rz b 2 2] ]
    (fun s =>
      let read := match got.getLast? with | some v => max s.hio.vread v.seq | none => s.hio.vread
      let clear := bit (u8 b 1) 0
      let t := if ring then s else { s with hio := { s.hio with
        vlog := if clear then [] else s.hio.vlog, vread := if clear then s.hio.vseq else read } }
      .ok t (le 1 got.length ++ le 1 (b01 (decide (64 < from_.length)) + 2 * b01 lost) ++ le 4 newest ++ le 4 s.hio.vlost ++ le 4 0 ++
        got.flatMap Viol.bytes))

/-! ### Firmware images and credentials (R626 to R631) -/

/-- Does the header of an image pass: CRC, format, length, stepping (R627, R628)? -/
def imageHeadOk (o : Bytes) : Bool :=
  u16 o 0 = 1 && decide (256 ≤ u32 o 4) && decide (u32 o 4 ≤ 4194304) && u8 o 12 = 0xC0 && crc32c (o.take 252) = u32 o 252

/-- Does a whole image pass: length, CRC with bytes 32 to 127 as zero, signature (R627)? -/
def imageOk (o : Bytes) : Bool :=
  o.length = u32 o 4 && crc32c (o.take 32 ++ List.replicate 96 0 ++ o.drop 128) = u32 o 28 && Config.imageSigOk o

/-- Certificates of a chain, each a length and its bytes: do they fill it exactly (R630)? -/
def chainOk : Nat → Bytes → Bool
  | 0, c => c.isEmpty
  | n + 1, c => c.isEmpty || (decide (2 ≤ c.length) && decide (2 + u16 c 0 ≤ c.length) && chainOk n (c.drop (2 + u16 c 0)))

/-- Does a credential object pass: the layout of its id and its CRC (R630)? -/
def credentialOk (id : Nat) (o : Bytes) : Bool :=
  let n := o.length - 4
  let body := o.take n
  let layout := if id = 3 then
      let c := u16 body 0
      decide (c + 4 ≤ n) && decide (n ≤ 8192) && n = c + 4 + u16 body (2 + c) && chainOk c (sub body 2 c)
    else n = 16
  decide (4 ≤ o.length) && layout && crc32c body = u32 o n

/-- Longest object of a transfer (R627, R630). -/
def objectMax (kind id : Nat) (o : Bytes) : Nat :=
  if kind = 0 then (if o.length < 256 then 4194304 else u32 o 4) else if id = 3 then 8196 else 20

/-- Take a credential into use; the CCP key that it replaces is honoured for 60 s (R630, R631). -/
def State.credential (s : State) (id : Nat) (body : Bytes) : State :=
  let f := s.nv.fw
  let s := match id with
    | 1 =>
      { s with
        ccp := { s.ccp with prevKey := match f.ccpKey with | some k => some (k, s.el + 60000000000) | none => s.ccp.prevKey }
        nv := { s.nv with fw := { f with ccpKey := some body } } }
    | 2 => { s with nv := { s.nv with fw := { f with siteKey := some body } } }
    | _ => { s with nv := { s.nv with fw := { f with secc := some body } } }
  s.raise .credentialLoaded id

/-- Is the previous CCP key still honoured (R631)? -/
def State.prevKey (s : State) : Option Bytes :=
  match s.ccp.prevKey with | some (k, t) => if s.el < t then some k else none | none => none

/-- The reply of SYS_FW_UPDATE after its status (R626). -/
def State.fwReply (s : State) : Bytes :=
  let f := s.nv.fw
  let (n, crc) : Nat × Nat := match f.transfer with | some t => (t.bytes.length, 0) | none => f.done.getD (0, 0)
  le 1 (b01 (f.transfer.isNone && f.done.isSome) + 2 * b01 f.alt.isSome + 4 * b01 f.armed + 8 * b01 s.prevKey.isSome) ++ [(0 : Byte)] ++
  le 4 n ++ le 4 f.version ++ le 4 (match f.alt with | some a => a.1 | none => 0) ++ le 4 crc ++ le 4 0

/-- Update the firmware state. -/
def State.modFw (s : State) (f : Fw → Fw) : State := { s with nv := { s.nv with fw := f s.nv.fw } }

/-- SYS_FW_UPDATE (R626, R628, R629). Only the causes that the first row of R628 names abandon the transfer; any other field out of
range, or an unused one that is not 0, is refused without an effect (R13). -/
def bodySysFwUpdate (r : Req) (s : State) : Ans :=
  let b := r.body
  let k := u8 b 0
  let id := u8 b 1
  let last := bit (u8 b 2) 0
  let gen := u32 b 4
  let off := u32 b 8
  let len := u16 b 12
  let d := sub b 16 len
  let f := s.nv.fw
  let before := match f.transfer with | some t => t.bytes | none => []
  let o := if off = 0 then d else before ++ d
  let follows := match f.transfer with
    | some t => t.kind == k && t.id == id && t.gen == gen && t.bytes.length == off
    | none => false
  let drops : List (Bool × Nat) :=
    [ outside k 0 3 0, rz b 3 1, rz b 14 2
    , (decide (k ≤ 1) && off != 0 && !follows, if f.transfer.any (fun t => t.gen != gen) then 4 else 8)
    , (decide (k ≤ 1) && decide (objectMax k id o < o.length), 12) ]
  let bad := paramRow (drops ++
    [ (if k = 1 then outside id 1 3 1 else outside id 0 0 1), outside (u8 b 2) 0 1 2
    , (if k ≤ 1 then outside len 0 4064 12 else outside len 0 0 12) ])
  if bad.1 then .err (if drops.any (·.1) then s.modFw (fun f => { f with transfer := none }) else s) stParam bad.2.2
  else
    let a := Ans.table s
      [ row (k == 1 && !r.isLocal) stDenied
      , row (k == 0 && off == 0 && (decide (len < 256) || !imageHeadOk d)) stParam 16
      , row (k == 0 && off == 0 && s.keyway == 2 && u32 d 24 != s.metroSection) stSealed
      , row (k == 0 && last && !imageOk o) stDenied
      , row (k == 1 && last && !credentialOk id o) stParam 16
      , row (k == 2 && f.alt.isNone) stConflict ]
      (fun s =>
        let s : State := match k with
          | 0 =>
            if last then s.modFw (fun f => { f with
              transfer := none, alt := some (u32 o 8, u32 o 24), done := some (o.length, crc32c o), armed := false })
            else s.modFw (fun f => { f with
              transfer := some { kind := 0, id := 0, gen := gen, bytes := o }, alt := if off = 0 then none else f.alt
              done := none })
          | 1 =>
            if last then (s.modFw (fun f => { f with transfer := none, done := some (o.length, crc32c o) })).credential id (o.take (o.length - 4))
            else s.modFw (fun f => { f with transfer := some { kind := 1, id := id, gen := gen, bytes := o }, done := none })
          | 2 => s.modFw (fun f => { f with armed := true })
          | _ => s
        .ok s s.fwReply)
    if k = 0 && a.status = stDenied then { a with s := s.modFw (fun f => { f with transfer := none, alt := none }) } else a

/-- A trial image that ran 60 s from ready becomes the running image (R629). -/
def execFwTrialConfirm (s : State) : Host.Outcome State Fault Refusal :=
  live s (fun s => whenDo (s.nv.fw.trial && s.sys.ready && decide (s.sys.readyAt + 60000000000 ≤ s.el))
    (fun s => (s.modFw (fun f => { f with trial := false })).raise .fwUpdateDone) s)

/-- After 60 s only the new CCP key is honoured (R631). -/
def execCcpKeyOverlapEnd (s : State) : Host.Outcome State Fault Refusal :=
  live s (fun s => whenDo (s.prevKey.isNone) (fun s => { s with ccp := { s.ccp with prevKey := none } }) s)

end Sys2Proof.Machine
end

