-- ==== Sys2Proof/Machine/Operands.lean ====
section
/-! DEFINITION. Operands of the CCP commands: targets and timing of each opcode, payload lengths (R20, R600, R605), and the
body of each. -/

namespace Sys2Proof.Machine

/-- May or must a packet be timed (R605)? -/
inductive Timing where
  | no | may | must | kind
  deriving DecidableEq, Repr, Inhabited

/-- Target types that an opcode accepts, and its timing; none for an opcode that the table does not hold (R605). -/
def opInfo (code : Nat) : Option (List Nat × Timing) :=
  match code with
  | 0x0100 | 0x0101 | 0x0102 | 0x0103 | 0x0104 | 0x0105 | 0x0106 | 0x0107 | 0x0201 | 0x0202 | 0x0203 => some ([0], .no)
  | 0x0204 => some ([0], .must)
  | 0x0301 => some ([0], .may)
  | 0x0302 | 0x0303 | 0x0304 => some ([0], .no)
  | 0x0305 => some ([0], .kind)
  | 0x0401 | 0x0404 | 0x0405 | 0x0408 => some ([1], .no)
  | 0x0402 | 0x0403 => some ([1], .may)
  | 0x0406 | 0x0407 => some ([2], .no)
  | 0x0501 => some ([1, 2], .may)
  | 0x0502 => some ([1], .may)
  | 0x0503 => some ([0, 2], .no)
  | 0x0601 | 0x0602 => some ([1], .may)
  | 0x0603 => some ([1], .no)
  | 0x0701 | 0x0702 | 0x0704 | 0x0705 | 0x0706 | 0x0707 => some ([3], .no)
  | 0x0703 => some ([3], .may)
  | 0x0801 | 0x0802 => some ([8], .no)
  | 0x0901 => some ([0, 3, 9], .no)
  | 0x0902 | 0x0904 => some ([0], .no)
  | 0x0903 => some ([3, 9, 5], .no)
  | 0x0A01 | 0x0A02 => some ([0], .no)
  | 0x0A03 => some ([3, 9, 0], .no)
  | 0x0A04 => some ([10], .no)
  | 0x0A05 => some ([0], .may)
  | 0x0A06 => some ([10, 0], .no)
  | 0x0B01 | 0x0B02 | 0x0B03 => some ([0], .no)
  | 0x0B04 => some ([0], .may)
  | 0x0C01 | 0x0C03 | 0x0C04 => some ([6], .no)
  | 0x0C02 => some ([6], .may)
  | 0x0D01 | 0x0D02 | 0x0D03 => some ([0], .no)
  | 0x0E01 | 0x0E02 => some ([7], .no)
  | 0x0E03 => some ([7, 0], .no)
  | 0x0E04 => some ([0], .no)
  | 0x0F01 | 0x0F03 => some ([4], .no)
  | 0x0F02 => some ([4], .may)
  | 0x1001 | 0x1002 | 0x1003 | 0x1004 => some ([0], .no)
  | 0x1101 | 0x1102 => some ([1, 2, 3, 4, 5, 6, 7], .no)
  | 0x1103 => some ([0], .no)
  | _ => none

/-- How many resources each target type has (R20). -/
def typeCount (t : Nat) : Nat := [1, 8, 48, 8, 24, 144, 8, 128, 8, 4, 256].getD t 0

/-- Is a target of the types given, its index in range (R20, R21)? -/
def targetOk (types : List Nat) (t : Nat) : Bool := types.contains (tType t) && decide (tIndex t < typeCount (tType t))

/-- One of several lengths, by a section or kind; none, any length, for one that the layout does not name: its own table
answers it. -/
def bySection (k : Nat) (l : List Nat) : Option Nat := l[k]?

/-- The length that an opcode's layout gives for a payload without its launch ST, from its section, kind, count and length
fields; none where every length passes (R600). -/
def layoutLen (code : Nat) (b : Bytes) : Option Nat :=
  match code with
  | 0x0100 => if b.length ≤ 64 then none else some 64
  | 0x0101 => some 0
  | 0x0102 => bySection (u8 b 0) [8, 48 + 20 * u8 b 1]
  | 0x0103 => some 8
  | 0x0104 => some 16
  | 0x0105 => some 16
  | 0x0106 => some 8
  | 0x0107 => some (16 + u16 b 12)
  | 0x0201 => some 16
  | 0x0202 => some 40
  | 0x0203 => some 0
  | 0x0204 => some 16
  | 0x0301 => some 16
  | 0x0302 => bySection (u8 b 0) [32 + 4 * u8 b 3, 8 + 32 * u8 b 1]
  | 0x0303 => some 136
  | 0x0304 => bySection (u8 b 8) [16, 16 + 32 * (u8 b 11 + u8 b 12) + 16 * u8 b 13]
  | 0x0305 => let n := 40 + 16 * (u8 b 10 + u8 b 11); bySection (u8 b 8) [n, n, 16]
  | 0x0401 => some 64
  | 0x0402 => some 8
  | 0x0403 => some 16
  | 0x0404 => some 8
  | 0x0405 | 0x0406 | 0x0407 => some 0
  | 0x0408 => some 8
  | 0x0501 => bySection (u8 b 0) [40, 24]
  | 0x0502 | 0x0503 => some 0
  | 0x0601 => some 56
  | 0x0602 => some 32
  | 0x0603 => some 16
  | 0x0701 => some 64
  | 0x0702 => some 24
  | 0x0703 => some 16
  | 0x0704 => some 8
  | 0x0705 => some 0
  | 0x0706 => some 8
  | 0x0707 => some 0
  | 0x0801 => some 64
  | 0x0802 => some 0
  | 0x0901 => bySection (u8 b 0) [24, 24, 32]
  | 0x0902 => some (16 + u16 b 8)
  | 0x0903 => some 8
  | 0x0904 => some 8
  | 0x0A01 => some (16 + 128 * u8 b 4)
  | 0x0A02 => none
  | 0x0A03 => some 16
  | 0x0A04 => some 24
  | 0x0A05 => some 0
  | 0x0A06 => bySection (u8 b 0) [16, 16, 16, 4 + 12 * u8 b 1]
  | 0x0B01 => bySection (u8 b 0) [32, 8 + 24 * u8 b 1]
  | 0x0B02 => bySection (u8 b 8) [16, 32, 32]
  | 0x0B03 => some 8
  | 0x0B04 => some 8
  | 0x0C01 => bySection (u8 b 0) [24, 8 + 8 * u8 b 1]
  | 0x0C02 => some (16 + (if bit (u8 b 4) 2 then 0 else u8 b 5))
  | 0x0C03 => some 8
  | 0x0C04 => some 0
  | 0x0D01 => bySection (u8 b 0) [24, 40]
  | 0x0D02 => some (8 + u16 b 2)
  | 0x0D03 => some 0
  | 0x0E01 => some 16
  | 0x0E02 | 0x0E03 => some 0
  | 0x0E04 => some (4 + 4 * u16 b 0)
  | 0x0F01 => some 32
  | 0x0F02 => some 8
  | 0x0F03 => some 0
  | 0x1001 => some (8 + 16 * u8 b 0)
  | 0x1002 | 0x1003 => some 8
  | 0x1004 => some 0
  | 0x1101 => some 0
  | 0x1102 => some 8
  | 0x1103 => some 4
  | _ => none

/-- Does a payload have the length that its opcode's layout gives? -/
def lenOk (code : Nat) (b : Bytes) : Bool := match layoutLen code b with | none => true | some n => b.length == n

/-- Does a command only read (R793)? -/
def readsOnly (r : Req) : Bool :=
  match r.code with
  | 0x0100 | 0x0101 | 0x0105 | 0x0106 | 0x0203 | 0x0405 | 0x0408 | 0x0503 | 0x0603 | 0x0705 | 0x0706 | 0x0802 | 0x0903
  | 0x0A03 | 0x0C04 | 0x0D03 | 0x0E03 | 0x0F03 | 0x1002 | 0x1101 | 0x1103 => true
  | 0x0107 => u8 r.body 0 = 3
  | 0x0304 => u8 r.body 8 = 0
  | 0x0A06 => u8 r.body 0 = 1
  | 0x0B02 => u8 r.body 8 = 0
  | _ => false

/-- ALLOC_TARGETS received untimed: only RELEASE (R169). -/
def bodyAllocTargets (r : Req) (s : State) : Ans :=
  .table s (s.targetsRows1 r ++ s.targetsRows2 r) (fun s => .ok (s.allocRelease (u64 r.body 0)))

/-- The body of each command: its own table and what it does (R605). -/
def bodyOf (r : Req) : State → Ans :=
  match r.code with
  | 0x0100 => bodySysPing r
  | 0x0101 => bodySysSummary r
  | 0x0102 => bodySysRole r
  | 0x0103 => bodySysReset r
  | 0x0104 => bodySysSleep r
  | 0x0105 => bodySysLogRead r
  | 0x0106 => bodySysViolationRead r
  | 0x0107 => bodySysFwUpdate r
  | 0x0201 => bodyTimeSet r
  | 0x0202 => bodyTimeSource r
  | 0x0203 => bodyTimeStatus r
  | 0x0204 => bodyTimeCapture r
  | 0x0301 => bodyAllocLimit r
  | 0x0302 => bodyAllocPolicy r
  | 0x0303 => bodyAllocFallback r
  | 0x0304 => bodyAllocStatus r
  | 0x0305 => bodyAllocTargets r
  | 0x0401 => bodyGroupConfig r
  | 0x0402 => bodyGroupEnable r
  | 0x0403 => bodyGroupSetpoint r
  | 0x0404 => bodyGroupStop r
  | 0x0405 => bodyGroupStatus r
  | 0x0406 => bodyPhaseRetire r
  | 0x0407 => bodyPhaseRestore r
  | 0x0408 => bodyGroupFaultRead r
  | 0x0501 => bodyPwmWrite r
  | 0x0502 => bodyPwmLoadall r
  | 0x0503 => bodyPwmCalStatus r
  | 0x0601 => bodyLoopParam r
  | 0x0602 => bodyLoopProfile r
  | 0x0603 => bodyLoopTrace r
  | 0x0701 => bodyPortConfig r
  | 0x0702 => bodyPortAuthorize r
  | 0x0703 => bodyPortLimit r
  | 0x0704 => bodyPortStop r
  | 0x0705 => bodyPortStatus r
  | 0x0706 => bodyPortSessionRead r
  | 0x0707 => bodyPortClear r
  | 0x0801 => bodyCoolConfig r
  | 0x0802 => bodyCoolStatus r
  | 0x0901 => bodyMeterConfig r
  | 0x0902 => bodyMeterCalTable r
  | 0x0903 => bodyMeterRead r
  | 0x0904 => bodyMeterSeal r
  | 0x0A01 => bodyBillTariffLoad r
  | 0x0A02 => bodyBillCalendarLoad r
  | 0x0A03 => bodyBillRead r
  | 0x0A04 => bodyBillTokenEnter r
  | 0x0A05 => bodyBillClosePeriod r
  | 0x0A06 => bodyBillAccount r
  | 0x0B01 => bodyTwinConfig r
  | 0x0B02 => bodyTwinStatus r
  | 0x0B03 => bodyTwinDrill r
  | 0x0B04 => bodyTwinYield r
  | 0x0C01 => bodyCanConfig r
  | 0x0C02 => bodyCanSend r
  | 0x0C03 => bodyCanMode r
  | 0x0C04 => bodyCanStatus r
  | 0x0D01 => bodyFlinkConfig r
  | 0x0D02 => bodyFlinkSend r
  | 0x0D03 => bodyFlinkStatus r
  | 0x0E01 => bodyQueueConfig r
  | 0x0E02 => bodyQueueDropPacket r
  | 0x0E03 => bodyQueueStatus r
  | 0x0E04 => bodyEventRoute r
  | 0x0F01 => bodySwConfig r
  | 0x0F02 => bodySwSet r
  | 0x0F03 => bodySwStatus r
  | 0x1001 => bodyHkConfig r
  | 0x1002 => bodyHkRead r
  | 0x1003 => bodyThermConfig r
  | 0x1004 => bodyThermRelease r
  | 0x1101 => bodyFaultRead r
  | 0x1102 => bodyFaultClear r
  | _ => bodyResourceList r

/-- What a command does after its reply: SYS_RESET, SYS_SLEEP, and the release of a latch that the hardware limit set (R621,
R622, R729, R753). -/
def State.afterReply (r : Req) (s : State) : State :=
  if r.code = 0x0103 then s.sysReset (u8 r.body 0 = 1)
  else if r.code = 0x0104 then s.sleepEnter (u16 r.body 0) (u64 r.body 8)
  else if r.code = 0x1004 && s.nv.tlatch.hw then s.enterReset 5
  else s

end Sys2Proof.Machine
end

