-- ==== Sys2Proof/Machine/Flags.lean ====
section
/-! DEFINITION. Header and flags of a CCP packet, and the rows of R600 that read them (R593, R600, R601). A block has no
arithmetic flags. -/

namespace Sys2Proof.Machine

/-- Header fields (R593). -/
def Pkt.flags (p : Pkt) : Nat := u8 p.raw 1
def Pkt.code (p : Pkt) : Nat := u16 p.raw 2
def Pkt.seq (p : Pkt) : Nat := u32 p.raw 4
def Pkt.plen (p : Pkt) : Nat := u16 p.raw 8
def Pkt.target (p : Pkt) : Nat := u16 p.raw 10

/-- Flag bits of R593. -/
def Pkt.timed (p : Pkt) : Bool := bit p.flags 0
def Pkt.wants (p : Pkt) : Bool := bit p.flags 1
def Pkt.twinOrigin (p : Pkt) : Bool := bit p.flags 2
def Pkt.overrides (p : Pkt) : Bool := bit p.flags 3

/-- The payload as sent. -/
def Pkt.payload (p : Pkt) : Bytes := sub p.raw 16 p.plen

/-- The payload without the launch ST of a timed packet. -/
def Pkt.body (p : Pkt) : Bytes := if p.timed then p.payload.drop 8 else p.payload

/-- Is the length of a packet 16 + payload + trailer, the trailer of 4 bytes over HOSTIO and of 20 bytes over a site port (R590,
R600)? -/
def Pkt.lengthOk (p : Pkt) : Bool :=
  let t := if p.via == .hostio then 20 else 36
  decide (t ≤ p.raw.length) && p.raw.length == t + p.plen

/-- Does the CRC-32C of header and payload pass (R594)? -/
def Pkt.crcOk (p : Pkt) : Bool := crc32c (p.raw.take (16 + p.plen)) == u32 p.raw (16 + p.plen)

/-- Does the tag pass under a key (R594)? -/
def Pkt.tagOk (p : Pkt) (key : Bytes) : Bool := cmac key (p.raw.take (20 + p.plen)) == sub p.raw (20 + p.plen) 16

/-- The packet as its command sees it. -/
def Pkt.req (p : Pkt) (from_ : Sender) : Req :=
  { code := p.code, sender := from_, via := p.via, flags := p.flags, seq := p.seq, target := p.target, body := p.body
    launch := if p.timed then u64 p.payload 0 else 0 }

/-- Is the sender a host: the local one or a host entry? -/
def Sender.isHost : Sender → Bool
  | .position .. => false
  | _ => true

/-- Opcodes that the lee period lets through: SYS_PING, SYS_SUMMARY and the keyway commands (R600, R605). -/
def leeAllows (code : Nat) : Bool := code = 0x0100 || code = 0x0101 || code = 0x0901 || code = 0x0902 || code = 0x0904

/-- Does a packet's timed flag fail what its opcode allows (R600, R605)? -/
def Timing.refuses (t : Timing) (timed : Bool) : Bool :=
  match t with
  | .no => timed
  | .must => !timed
  | _ => false

/-- The rows of R600 from the reserved flags to the payload length, and the row of R793 for a thermal device fault. -/
def State.commonRows (s : State) (p : Pkt) (from_ : Sender) : List (Bool × Nat × Nat) :=
  let (types, timing) := (opInfo p.code).getD ([], .no)
  let thermal := match s.sys.fault with | some f => f.thermal | none => false
  [ row (decide (15 < p.flags) || !zeros p.raw 12 4) stParam
  , row ((p.overrides && p.code != 0x0201) || (p.twinOrigin && from_.isHost)) stParam
  , row (decide (4080 < p.plen)) stLength
  , row (opInfo p.code).isNone stOpcode
  , row (s.sys.lee && !leeAllows p.code) stBusy
  , row (timing.refuses p.timed) stParam
  , row (p.timed && decide (p.plen < 8)) stLength
  , row (!targetOk types p.target) stTarget
  , row (!lenOk p.code p.body) stLength
  , row (thermal && !readsOnly (p.req from_) && p.code != 0x1004 && p.code != 0x0103) stThermal ]

end Sys2Proof.Machine
end

