-- ==== Sys2Proof/Machine/Ccp.lean ====
section
/-! DEFINITION. The command interface: intake of packets, sequence windows, answers, launches (R106 to R112, R518, R590 to
R604, R793). -/

namespace Sys2Proof.Machine

/-! ### Senders (R591, R620) -/

/-- The number of a site network. -/
def Via.net : Via → Nat
  | .site1 => 1
  | _ => 0

/-- Host entries of SYS_ROLE section 1: network, UDP port, address (R620). -/
def State.hostEntries (s : State) : List (Nat × Nat × Nat) :=
  match s.nv.cfg.net with
  | none => []
  | some b => (List.range (u8 b 1)).map (fun k => (u8 b (48 + 20 * k), u16 b (50 + 20 * k), uN 16 b (52 + 20 * k)))

/-- The CCP UDP port (R591). -/
def State.ccpPort (s : State) : Nat := match s.nv.cfg.net with | none => 47320 | some b => u16 b 2

/-- Who sent a packet: a host entry or a position of the site table, by network, address and UDP port (R591; DEDUCED,
entry 130). -/
def State.senderOf (s : State) (p : Pkt) : Option Sender :=
  if p.via == .hostio then some .hostio
  else
    match s.hostEntries.findIdx? (fun e => e.1 == p.via.net && e.2.1 == p.port && e.2.2 == p.src) with
    | some i => some (.host i)
    | none =>
      match s.peers.find? (fun e => e.net == p.via.net && e.port == p.port && e.addr == p.src) with
      | some e => some (.position e.site e.twin)
      | none => none

/-! ### Sequence windows (R518, R597) -/

/-- What a window says of a sequence. -/
inductive Fresh where
  | deliver | stale | duplicate
  deriving DecidableEq, Repr, Inhabited

/-- The procedure of R518 with M = 2^32. -/
def SeqWin.receive (w : SeqWin) (n : Nat) : Fresh × SeqWin :=
  let m := 2 ^ 32
  if !w.valid then (.deliver, { valid := true, h := n, marks := [n] })
  else
    let ahead := (n + m - w.h) % m
    if 0 < ahead ∧ ahead < m / 2 then
      (.deliver, { w with h := n, marks := n :: w.marks.filter (fun k => decide ((n + m - k) % m ≤ 1023)) })
    else if 1024 ≤ (w.h + m - n) % m then (.stale, w)
    else if w.marks.contains n then (.duplicate, w)
    else (.deliver, { w with marks := n :: w.marks })

/-- Run the window of a sender; a host window's H is kept in MRAM (R597). -/
def State.window (s : State) (from_ : Sender) (n : Nat) : Fresh × State :=
  match from_ with
  | .hostio => (.deliver, s)
  | .host i =>
    let (f, w) := (vget s.ccp.hostWin i {}).receive n
    (f, { s with ccp := { s.ccp with hostWin := vset s.ccp.hostWin i w }
                 nv := { s.nv with hostH := if f = .deliver then vset s.nv.hostH i (some w.h) else s.nv.hostH } })
  | .position site _ =>
    let (f, w) := (vget s.ccp.posWin site {}).receive n
    (f, { s with ccp := { s.ccp with posWin := vset s.ccp.posWin site w } })

/-! ### Answers (R592, R596, R601, R603) -/

/-- Count a packet discarded or answered with an error status (R616). -/
def State.countErr (s : State) : State := { s with ccp := { s.ccp with err := s.ccp.err + 1 } }

/-- Where a reply to a position goes: each device of it, on the receiving network where it has an entry there (R508; DEDUCED,
entry 131). -/
def State.repliesTo (s : State) (site net : Nat) : List SitePeer :=
  (List.range 3).filterMap (fun t =>
    let l := s.peers.filter (fun e => e.site == site && e.twin == t && !s.isSelf e)
    match l.find? (·.net == net) with | some e => some e | none => l.head?)

/-- A reply over HOSTIO goes to queue 1; while that cannot take it core 0 takes nothing further from queue 0 (R592). -/
def State.replyHost (s : State) (bs : Bytes) : State :=
  let q := s.queues[1]
  if !q.isHigh && s.packetFits 1 bs.length then (s.offerPacket 1 bs).1
  else if 1 + (bs.length + 7) / 8 ≤ q.room (s.isRetired (tgt 7 1)) then { s with ccp := { s.ccp with stalled := some bs } }
  else s

/-- Send a reply with its trailer; the last 32 replies of a host entry are held (R590, R594, R597). The reply to a packet that a
position's window delivered goes to both of its devices (R519), that to one stopped before goes back (DEDUCED, entry 131). -/
def State.sendReply (s : State) (p : Pkt) (a : Arrival) (raw : Bytes) : State :=
  let bs := match p.via, a.key with
    | .hostio, _ => withCrc raw
    | _, some k => tagged k raw
    | _, none => withCrc raw ++ List.replicate 16 0
  match a.sender with
  | .hostio => s.replyHost bs
  | .host i =>
    let s := s.emit (.ccp p.via p.src p.port bs)
    if a.delivered then
      { s with ccp := { s.ccp with held := vset s.ccp.held i (({ seq := p.seq, bytes := bs } :: vget s.ccp.held i []).take 32) } }
    else s
  | .position site _ =>
    if a.delivered then (s.repliesTo site p.via.net).foldl (fun s e => s.emit (.ccp (viaOf e.net) e.addr e.port bs)) s
    else s.emit (.ccp p.via p.src p.port bs)

/-- The reply to a packet (R596): header fields that a short packet lacks are free, its sequence is 0 (R601). -/
def State.reply (s : State) (p : Pkt) (a : Arrival) (payload : Bytes) : State :=
  let (c, s) : Nat × State := if p.raw.length < 4 then (let (v, s) := s.free; (v % 2 ^ 15, s)) else (p.code, s)
  let (t, s) : Nat × State := if p.raw.length < 12 then (let (v, s) := s.free; (v % 2 ^ 16, s)) else (p.target, s)
  let n := if p.raw.length < 8 then 0 else p.seq
  s.sendReply p a (ccpHeader s.twinFlag (c % 2 ^ 15 + 2 ^ 15) n payload.length t ++ payload)

/-- The error form (R603). -/
def errorForm (status off : Nat) : Bytes := le 2 status ++ le 2 off ++ List.replicate 4 0

/-- Is an error status one that is always answered: BAD_CHECK and BAD_LENGTH over HOSTIO (R601)? -/
def Pkt.mustAnswer (p : Pkt) (status : Nat) : Bool := p.via == .hostio && (status == stCheck || status == stLength)

/-- Answer with an error status: counted, sent when a reply is wanted or always (R601, R616). -/
def State.refuse (s : State) (p : Pkt) (a : Arrival) (status off : Nat) (always : Bool) : State :=
  let s := s.countErr
  if p.wants || always || p.mustAnswer status then s.reply p a (errorForm status off) else s

/-! ### Execution (R106 to R109, R169, R602) -/

/-- Move the field offsets of rows past a launch ST (R603). -/
def afterLaunch (l : List (Bool × Nat × Nat)) : List (Bool × Nat × Nat) :=
  l.map (fun x => (x.1, x.2.1, if x.2.2 = 0xFFFF then 0xFFFF else x.2.2 + 8))

/-- Acceptance of a timed packet: its own table as if untimed, then R107, R106 and R108; the reply shows nothing that its effect
gives (R109, R602). -/
def acceptTimed (r : Req) (s : State) : Ans :=
  let a := bodyOf r s
  if a.status ≠ stOk then .err s a.status (if a.off = 0xFFFF then 0xFFFF else a.off + 8)
  else
    .table s (s.launchRows r.launch ++ [s.slotsRow]) (fun s =>
      let s := s.pushLaunch r
      if r.code = 0x0C02 then
        let (v, s) := s.free
        { status := stPending, off := 0xFFFF, rest := [0, 0] ++ le 4 v, s }
      else
        { status := stPending, off := 0xFFFF, rest := if r.code = 0x0A05 then a.rest else List.replicate a.rest.length 0, s })

/-- Acceptance of ALLOC_TARGETS kinds 0 and 1 (R169). -/
def acceptTargets (r : Req) (s : State) : Ans :=
  .table s (afterLaunch (s.targetsRows1 r) ++ s.launchRows r.launch ++ afterLaunch (s.targetsRows2 r) ++ [s.slotsRow])
    (fun s => { status := stPending, off := 0xFFFF, rest := [0, 0], s := (s.allocAccept r.launch r.body).pushLaunch r })

/-- A site-time or allocation message from outside the own twin pair that carries this device's SITE_ID (R6): from another
position, or, at an unpaired device, from any sender. -/
def State.conflictSeen (s : State) (r : Req) : State :=
  let own := (r.code = 0x0304 && u8 r.body 8 = 1 && u8 r.body 9 = s.strap.siteId) ||
    (r.code = 0x0305 && decide (u8 r.body 8 ≤ 1) && u8 r.body 36 = s.strap.siteId)
  match r.sender with
  | .position p _ => if (p != s.strap.siteId || !s.paired) && own then s.siteConflict else s
  | _ => s

/-- Run an accepted packet: its answer, and the state before its reply. -/
def execute (r : Req) (s : State) : Ans :=
  let s := s.conflictSeen r
  if r.timed then (if r.code = 0x0305 then acceptTargets r s else acceptTimed r s) else bodyOf r s

/-- An accepted command is counted, and its reply is sent when one is wanted (R601, R603, R616), unless none is sent at all (R476). -/
def State.replied (s : State) (p : Pkt) (arr : Arrival) (status : Nat) (rest : Bytes) (silent : Bool := false) : State :=
  let s := { s with ccp := { s.ccp with rx := s.ccp.rx + 1 } }
  if p.wants && !silent then s.reply p arr (le 2 status ++ rest) else s

/-- Answer an executed packet and do what comes after its reply (R601, R603, R616). -/
def State.finish (s : State) (p : Pkt) (arr : Arrival) (r : Req) : State :=
  let a := execute r s
  if a.status ≤ 1 then
    let s := a.s.replied p arr a.status a.rest a.silent
    if a.status = 0 then s.afterReply r else s
  else a.s.refuse p arr a.status a.off false

/-- Is a request work that pauses while the device throttles: SYS_SUMMARY, SYS_LOG_READ, SYS_VIOLATION_READ and the chunks of
SYS_FW_UPDATE (R619, R716)? -/
def Req.pauses (r : Req) : Bool :=
  r.code == 0x0101 || r.code == 0x0105 || r.code == 0x0106 || (r.code == 0x0107 && decide (u8 r.body 0 ≤ 1))

/-- Run an accepted packet, at the start of the next work window where it pauses (R716). -/
def State.complete (s : State) (p : Pkt) (arr : Arrival) (r : Req) : State :=
  if s.paused && r.pauses then { s with ccp := { s.ccp with delayed := s.ccp.delayed ++ [(p, arr, r)] } } else s.finish p arr r

/-! ### Intake (R600) -/

/-- What R600 makes of a packet. -/
inductive Verdict where
  /-- discarded and counted -/
  | discard
  /-- a tag that fails -/
  | badTag
  /-- answered with an error status, whether or not a reply is wanted -/
  | answer (status : Nat) (always : Bool)
  /-- a duplicate whose reply is held -/
  | again (bytes : Bytes)
  /-- a duplicate without one -/
  | duplicate
  /-- handled as a reply -/
  | isReply
  /-- run -/
  | run (r : Req)
  deriving DecidableEq, Repr

/-- The checks over a site port before the CRC (R595, R600): a verdict, or the key that passed. -/
def State.siteChecks (s : State) (p : Pkt) : Verdict ⊕ Option Bytes :=
  match s.nv.fw.ccpKey with
  | none => if p.code = 0x0100 && p.wants && u8 p.raw 0 = 3 && p.crcOk then .inl (.answer stDenied true) else .inl .discard
  | some k =>
    if p.tagOk k then .inr (some k)
    else
      match s.prevKey with
      | some k' => if p.tagOk k' then .inr (some k') else .inl .badTag
      | none => .inl .badTag

/-- The rows of R600 from the CRC on. -/
def State.lateChecks (s : State) (p : Pkt) (from_ : Sender) : Verdict × Bool × State :=
  if !p.crcOk then (.answer stCheck (p.via == .hostio), false, s)
  else if u8 p.raw 0 ≠ 3 then (.answer stParam false, false, s)
  else if bit p.code 15 then (.isReply, false, s)
  else
    match s.window from_ p.seq with
    | (.stale, s) => (.answer stStale false, false, s)
    | (.duplicate, s) =>
      match from_ with
      | .host i =>
        match (vget s.ccp.held i []).find? (·.seq == p.seq) with
        | some h => (.again h.bytes, false, s)
        | none => (.duplicate, false, s)
      | _ => (.duplicate, false, s)
    | (.deliver, s) =>
      match firstRow (s.commonRows p from_) with
      | some (st, _) => (.answer st false, true, s)
      | none => (.run (p.req from_), true, s)

/-- The verdict of R600 on a packet, how it arrived, and the state with its window moved. -/
def State.intake (s : State) (p : Pkt) : Verdict × Option Arrival × State :=
  match s.senderOf p with
  | none => (.discard, none, s)
  | some from_ =>
    if p.via == .hostio then
      if !p.lengthOk then (.answer stLength true, some { sender := from_, key := none, delivered := false }, s)
      else
        let (v, d, s) := s.lateChecks p from_
        (v, some { sender := from_, key := none, delivered := d }, s)
    else if !p.lengthOk then (.discard, none, s)
    else
      match s.siteChecks p with
      | .inl v => (v, some { sender := from_, key := if v = .badTag then s.nv.fw.ccpKey else none, delivered := false }, s)
      | .inr k =>
        let (v, d, s) := s.lateChecks p from_
        (v, some { sender := from_, key := k, delivered := d }, s)

/-- First parameter of CCP_AUTH_FAIL (R656). -/
def authParam (via : Via) : Sender → Nat
  | .position site twin => via.net + 256 * 1 + 65536 * site + 16777216 * twin
  | .host i => via.net + 65536 * i + 16777216 * 0xFF
  | .hostio => 0

/-- A tag fails: counted; CCP_AUTH_FAIL at most once a second, BAD_CHECK at most ten times a second, for each sender (R600). -/
def State.badTag (s : State) (p : Pkt) (a : Arrival) : State :=
  let s := { s.countErr with ccp := { s.countErr.ccp with cmacFail := s.ccp.cmacFail + 1 } }
  let (n, last) : Nat × Option Int := match s.ccp.authFails.find? (fun x => x.1 == a.sender) with
    | some x => (x.2.1 + 1, x.2.2)
    | none => (1, none)
  let others := s.ccp.authFails.filter (fun x => x.1 != a.sender)
  let due := match last with | some t => decide (t + 1000000000 ≤ s.el) | none => true
  let s := { s with ccp := { s.ccp with authFails := (a.sender, if due then 0 else n, if due then some s.el else last) :: others } }
  let s := if due then s.raise .ccpAuthFail (authParam p.via a.sender) n else s
  let recent := s.ccp.badTimes.filter (fun x => decide (s.el < x.2 + 1000000000))
  let mine : Nat := recent.countP (fun x => x.1 == a.sender)
  if p.wants && decide (mine < 10) then
    ({ s with ccp := { s.ccp with badTimes := (a.sender, s.el) :: recent } }).reply p a (errorForm stCheck 0xFFFF)
  else { s with ccp := { s.ccp with badTimes := recent } }

/-- A reply is matched to an outstanding request by origin, sequence and opcode; an unmatched one is discarded (R599). The
acknowledgement of a leading ALLOC_TARGETS packet counts for its release (R140). -/
def State.matchReply (s : State) (p : Pkt) (from_ : Sender) : State :=
  match from_ with
  | .position site _ =>
    let code := p.code % 2 ^ 15
    match s.ccp.waiting.find? (fun w => w.site == site && w.seq == p.seq && w.code == code) with
    | none => s.countErr
    | some w =>
      let s := { s with ccp := { s.ccp with waiting := s.ccp.waiting.erase w } }
      if code = 0x0305 && decide (u16 p.raw 16 ≤ 1) then s.allocAck site p.seq else s
  | _ => s.countErr

/-- Deal with a received packet (R597, R599, R600). -/
def State.handle (s : State) (p : Pkt) : State :=
  match s.intake p with
  | (.run r, some a, s) => s.complete p a r
  | (.isReply, some a, s) => s.matchReply p a.sender
  | (.answer st always, some a, s) => s.refuse p a st 0xFFFF always
  | (.badTag, some a, s) => s.badTag p a
  | (.again bs, some _, s) => s.emit (.ccp p.via p.src p.port bs)
  | (.duplicate, some _, s) =>
    let s := s.countErr
    { s with twin := { s.twin with dups := s.twin.dups + 1 } }
  | (_, _, s) => s.countErr

/-- Does core 0 take packets of a transport now (R592, R45, R793)? -/
def State.takes (s : State) (via : Via) : Bool :=
  (match s.sys.fault with | some f => f.thermal | none => true) &&
  (if via == .hostio then s.hio.serving && s.ccp.stalled.isNone else !s.siteStopped)

/-- A packet that the host has queued leaves queue 0 as it is taken (R590). -/
def State.fromQueue0 (s : State) (bs : Bytes) : State :=
  let q := s.queues[0]
  let ws := packetWords bs
  if (q.words.take ws.length).map (fun w => (w.data, w.valid)) = ws.map (fun w => (w.data, w.valid)) then
    s.putQueue 0 { q with words := q.words.drop ws.length }
  else s

/-- A packet as its transport hands it over: over HOSTIO it leaves queue 0 (R590). -/
def State.received (s : State) (p : Pkt) : State := if p.via == .hostio then s.fromQueue0 p.raw else s

/-- Take a packet. -/
def State.take (s : State) (p : Pkt) : State := if !s.takes p.via then s else (s.received p).handle p

/-- The row of one opcode: a received packet that carries it. -/
def State.command (s : State) (code : Nat) (p : Pkt) : State := if 4 ≤ p.raw.length ∧ p.code = code then s.take p else s

/-- Is a packet one that R600 stops before its command's own table (R600)? -/
def State.rejects (s : State) (p : Pkt) : Bool :=
  match (s.intake p).1 with
  | .run _ => false
  | .isReply => false
  | _ => true

def execCcpPacketRejected (p : Pkt) (s : State) : Host.Outcome State Fault Refusal :=
  live s (fun s => if s.rejects p then s.take p else s)

def execCcpReplyReceive (p : Pkt) (s : State) : Host.Outcome State Fault Refusal :=
  live s (fun s => if bit p.code 15 then s.take p else s)

/-- Does core 0 take packets and send replies: not in a device-fault state of a cause that is not thermal (R793)? -/
def State.core0Acts (s : State) : Bool := match s.sys.fault with | some f => f.thermal | none => true

/-- Queue 1 has room again: the reply that waited is sent and intake goes on (R592), while core 0 acts (R793). -/
def State.intakeResume (s : State) : State :=
  match s.ccp.stalled with
  | none => s
  | some bs =>
    if s.core0Acts && !s.queues[1].isHigh && s.packetFits 1 bs.length then
      (({ s with ccp := { s.ccp with stalled := none } }).offerPacket 1 bs).1
    else s

def execCcpIntakeResume (s : State) : Host.Outcome State Fault Refusal := live s (·.intakeResume)

/-! ### The work windows of throttling (R716) -/

/-- The commands that waited run, in order of acceptance, while core 0 acts (R716, R793). -/
def State.runDelayed (s : State) : State :=
  if s.core0Acts then
    s.ccp.delayed.foldl (fun s x => s.finish x.1 x.2.1 x.2.2) { s with ccp := { s.ccp with delayed := [] } }
  else s

/-- What waited runs: records go to the MRAM log, captures that are due are copied, commands are answered (R716). -/
def State.pausedWork (s : State) : State := s.flushLog.captureDone.runDelayed

/-- While throttling, each 10 ms window opens 2 ms of paused work (R716). -/
def State.throttleWindow (s : State) : State :=
  let start := s.st / 10000000 * 10000000
  if s.therm.throttle && s.therm.workEnd != some (start + 2000000) && decide (s.st < start + 2000000) then
    ({ s with therm := { s.therm with workEnd := some (start + 2000000) } }).pausedWork
  else s

def execThrottleWindowStart (s : State) : Host.Outcome State Fault Refusal := live s (·.throttleWindow)

/-- A conversion of the die sensors; where it ends throttling, what was paused runs (R711, R716). -/
def State.thermRound (s : State) (temps : Vector Int 8) : State :=
  let t := s.thermConvert temps
  if s.therm.throttle && !t.therm.throttle then t.pausedWork else t

def execThermalConversion (temps : Vector Int 8) (s : State) : Host.Outcome State Fault Refusal := live s (·.thermRound temps)

/-! ### Launches (R110 to R113) -/

/-- The status that an untimed packet would receive at this tick, and the state it leaves (R110, R112, R793). -/
def State.launchRun (s : State) (r : Req) : Nat × State :=
  let thermal := match s.sys.fault with | some f => f.thermal | none => false
  if thermal then (stThermal, s)
  else if r.code = 0x0305 then
    let (s, st) := s.allocLaunch r.body
    (st, s)
  else
    let a := bodyOf { r with flags := r.flags - r.flags % 2 } s
    (a.status, a.s)

/-- One launch takes effect, its slot being freed; that of a TARGETS packet stays until T + D. A failed one is dropped whole,
with the trailing moves of an ALLOC_TARGETS packet (R110, R112, R113, R146). -/
def State.launchOne (s : State) (l : Launch) : State :=
  let s := { s with launches := s.launches.filter (· != l)
                    ccp := { s.ccp with executed := ((l.req.sender, l.req.seq) :: s.ccp.executed).take 256 } }
  let (st, s) := s.launchRun l.req
  if st = stOk then
    let s := match l.trailAt with
      | some t => { s with launches := s.launches ++ [{ l with trailing := true, at_ := t }] }
      | none => s
    s.raise .launchDone l.req.seq
  else
    let s := whenDo (l.req.code == 0x0305) (fun s => { s with alloc := { s.alloc with
      trailing := s.alloc.trailing.filter (fun t => t.fallback || t.epoch != u64 l.req.body 0) } }) s
    s.raise .launchFailed l.req.seq st

/-- What is due takes effect, unless a step of the clock by one before it in this tick has put it off or cancelled it (R113). -/
def State.dueRun (s : State) : Due → State
  | .lead l => whenDo (s.launches.contains l && decide (l.at_ ≤ s.st)) (·.launchOne l) s
  | .trail _ t => whenDo (decide (t.at_ ≤ s.st)) (·.trailOne t) s

/-- Every launch that is due takes effect, and every trailing time, in their order (R110, R111, R113, R145); none in a
device-fault state that is not thermal (R36, R793). -/
def State.launchExecute (s : State) : State :=
  if (match s.sys.fault with | some f => f.thermal | none => true) then
    (s.dues.foldl State.dueRun s).freeSlots
  else s

def execLaunchExecute (s : State) : Host.Outcome State Fault Refusal := live s (·.launchExecute)

end Sys2Proof.Machine
end

