-- ==== Sys2Proof/Machine/CcpRows.lean ====
section
/-! DEFINITION. The rows of the CCP commands: a received packet that carries the opcode goes through R600 and, when it passes,
through the command's own table (R600, R605). -/

namespace Sys2Proof.Machine

/-- SYS_PING (0x0100; R617). -/
def execSysPing (p : Pkt) (s : State) : Host.Outcome State Fault Refusal := live s (·.command 0x0100 p)

/-- SYS_SUMMARY (0x0101; R618). -/
def execSysSummary (p : Pkt) (s : State) : Host.Outcome State Fault Refusal := live s (·.command 0x0101 p)

/-- SYS_ROLE (0x0102; R620). -/
def execSysRole (p : Pkt) (s : State) : Host.Outcome State Fault Refusal := live s (·.command 0x0102 p)

/-- SYS_RESET (0x0103; R621). -/
def execSysReset (p : Pkt) (s : State) : Host.Outcome State Fault Refusal := live s (·.command 0x0103 p)

/-- SYS_SLEEP (0x0104; R622). -/
def execSysSleep (p : Pkt) (s : State) : Host.Outcome State Fault Refusal := live s (·.command 0x0104 p)

/-- SYS_LOG_READ (0x0105; R623). -/
def execSysLogRead (p : Pkt) (s : State) : Host.Outcome State Fault Refusal := live s (·.command 0x0105 p)

/-- SYS_VIOLATION_READ (0x0106; R625). -/
def execSysViolationRead (p : Pkt) (s : State) : Host.Outcome State Fault Refusal := live s (·.command 0x0106 p)

/-- SYS_FW_UPDATE (0x0107; R628). -/
def execSysFwUpdate (p : Pkt) (s : State) : Host.Outcome State Fault Refusal := live s (·.command 0x0107 p)

/-- TIME_SET (0x0201; R117). -/
def execTimeSet (p : Pkt) (s : State) : Host.Outcome State Fault Refusal := live s (·.command 0x0201 p)

/-- TIME_SOURCE (0x0202; R118). -/
def execTimeSource (p : Pkt) (s : State) : Host.Outcome State Fault Refusal := live s (·.command 0x0202 p)

/-- TIME_STATUS (0x0203; R120). -/
def execTimeStatus (p : Pkt) (s : State) : Host.Outcome State Fault Refusal := live s (·.command 0x0203 p)

/-- TIME_CAPTURE (0x0204; R115). -/
def execTimeCapture (p : Pkt) (s : State) : Host.Outcome State Fault Refusal := live s (·.command 0x0204 p)

/-- ALLOC_LIMIT (0x0301; R164). -/
def execAllocLimit (p : Pkt) (s : State) : Host.Outcome State Fault Refusal := live s (·.command 0x0301 p)

/-- ALLOC_POLICY (0x0302; R165). -/
def execAllocPolicy (p : Pkt) (s : State) : Host.Outcome State Fault Refusal := live s (·.command 0x0302 p)

/-- ALLOC_FALLBACK (0x0303; R166). -/
def execAllocFallback (p : Pkt) (s : State) : Host.Outcome State Fault Refusal := live s (·.command 0x0303 p)

/-- ALLOC_STATUS (0x0304; R167). -/
def execAllocStatus (p : Pkt) (s : State) : Host.Outcome State Fault Refusal := live s (·.command 0x0304 p)

/-- ALLOC_TARGETS (0x0305; R169). -/
def execAllocTargets (p : Pkt) (s : State) : Host.Outcome State Fault Refusal := live s (·.command 0x0305 p)

/-- GROUP_CONFIG (0x0401; R292). -/
def execGroupConfig (p : Pkt) (s : State) : Host.Outcome State Fault Refusal := live s (·.command 0x0401 p)

/-- GROUP_ENABLE (0x0402; R293). -/
def execGroupEnable (p : Pkt) (s : State) : Host.Outcome State Fault Refusal := live s (·.command 0x0402 p)

/-- GROUP_SETPOINT (0x0403; R257). -/
def execGroupSetpoint (p : Pkt) (s : State) : Host.Outcome State Fault Refusal := live s (·.command 0x0403 p)

/-- GROUP_STOP (0x0404; R294). -/
def execGroupStop (p : Pkt) (s : State) : Host.Outcome State Fault Refusal := live s (·.command 0x0404 p)

/-- GROUP_STATUS (0x0405; R295). -/
def execGroupStatus (p : Pkt) (s : State) : Host.Outcome State Fault Refusal := live s (·.command 0x0405 p)

/-- PHASE_RETIRE (0x0406; R296). -/
def execPhaseRetire (p : Pkt) (s : State) : Host.Outcome State Fault Refusal := live s (·.command 0x0406 p)

/-- PHASE_RESTORE (0x0407; R297). -/
def execPhaseRestore (p : Pkt) (s : State) : Host.Outcome State Fault Refusal := live s (·.command 0x0407 p)

/-- GROUP_FAULT_READ (0x0408; R298). -/
def execGroupFaultRead (p : Pkt) (s : State) : Host.Outcome State Fault Refusal := live s (·.command 0x0408 p)

/-- PWM_WRITE (0x0501; R215). -/
def execPwmWrite (p : Pkt) (s : State) : Host.Outcome State Fault Refusal := live s (·.command 0x0501 p)

/-- PWM_LOADALL (0x0502; R217). -/
def execPwmLoadall (p : Pkt) (s : State) : Host.Outcome State Fault Refusal := live s (·.command 0x0502 p)

/-- PWM_CAL_STATUS (0x0503; R218). -/
def execPwmCalStatus (p : Pkt) (s : State) : Host.Outcome State Fault Refusal := live s (·.command 0x0503 p)

/-- LOOP_PARAM (0x0601; R254). -/
def execLoopParam (p : Pkt) (s : State) : Host.Outcome State Fault Refusal := live s (·.command 0x0601 p)

/-- LOOP_PROFILE (0x0602; R255). -/
def execLoopProfile (p : Pkt) (s : State) : Host.Outcome State Fault Refusal := live s (·.command 0x0602 p)

/-- LOOP_TRACE (0x0603; R258). -/
def execLoopTrace (p : Pkt) (s : State) : Host.Outcome State Fault Refusal := live s (·.command 0x0603 p)

/-- PORT_CONFIG (0x0701; R348). -/
def execPortConfig (p : Pkt) (s : State) : Host.Outcome State Fault Refusal := live s (·.command 0x0701 p)

/-- PORT_AUTHORIZE (0x0702; R349). -/
def execPortAuthorize (p : Pkt) (s : State) : Host.Outcome State Fault Refusal := live s (·.command 0x0702 p)

/-- PORT_LIMIT (0x0703; R350). -/
def execPortLimit (p : Pkt) (s : State) : Host.Outcome State Fault Refusal := live s (·.command 0x0703 p)

/-- PORT_STOP (0x0704; R351). -/
def execPortStop (p : Pkt) (s : State) : Host.Outcome State Fault Refusal := live s (·.command 0x0704 p)

/-- PORT_STATUS (0x0705; R352). -/
def execPortStatus (p : Pkt) (s : State) : Host.Outcome State Fault Refusal := live s (·.command 0x0705 p)

/-- PORT_SESSION_READ (0x0706; R353). -/
def execPortSessionRead (p : Pkt) (s : State) : Host.Outcome State Fault Refusal := live s (·.command 0x0706 p)

/-- PORT_CLEAR (0x0707; R354). -/
def execPortClear (p : Pkt) (s : State) : Host.Outcome State Fault Refusal := live s (·.command 0x0707 p)

/-- COOL_CONFIG (0x0801; R380). -/
def execCoolConfig (p : Pkt) (s : State) : Host.Outcome State Fault Refusal := live s (·.command 0x0801 p)

/-- COOL_STATUS (0x0802; R381). -/
def execCoolStatus (p : Pkt) (s : State) : Host.Outcome State Fault Refusal := live s (·.command 0x0802 p)

/-- METER_CONFIG (0x0901; R432). -/
def execMeterConfig (p : Pkt) (s : State) : Host.Outcome State Fault Refusal := live s (·.command 0x0901 p)

/-- METER_CAL_TABLE (0x0902; R433). -/
def execMeterCalTable (p : Pkt) (s : State) : Host.Outcome State Fault Refusal := live s (·.command 0x0902 p)

/-- METER_READ (0x0903; R434). -/
def execMeterRead (p : Pkt) (s : State) : Host.Outcome State Fault Refusal := live s (·.command 0x0903 p)

/-- METER_SEAL (0x0904; R435). -/
def execMeterSeal (p : Pkt) (s : State) : Host.Outcome State Fault Refusal := live s (·.command 0x0904 p)

/-- BILL_TARIFF_LOAD (0x0A01; R483). -/
def execBillTariffLoad (p : Pkt) (s : State) : Host.Outcome State Fault Refusal := live s (·.command 0x0A01 p)

/-- BILL_CALENDAR_LOAD (0x0A02; R484). -/
def execBillCalendarLoad (p : Pkt) (s : State) : Host.Outcome State Fault Refusal := live s (·.command 0x0A02 p)

/-- BILL_READ (0x0A03; R485). -/
def execBillRead (p : Pkt) (s : State) : Host.Outcome State Fault Refusal := live s (·.command 0x0A03 p)

/-- BILL_TOKEN_ENTER (0x0A04; R486). -/
def execBillTokenEnter (p : Pkt) (s : State) : Host.Outcome State Fault Refusal := live s (·.command 0x0A04 p)

/-- BILL_CLOSE_PERIOD (0x0A05; R487). -/
def execBillClosePeriod (p : Pkt) (s : State) : Host.Outcome State Fault Refusal := live s (·.command 0x0A05 p)

/-- BILL_ACCOUNT (0x0A06; R488). -/
def execBillAccount (p : Pkt) (s : State) : Host.Outcome State Fault Refusal := live s (·.command 0x0A06 p)

/-- TWIN_CONFIG (0x0B01; R526). -/
def execTwinConfig (p : Pkt) (s : State) : Host.Outcome State Fault Refusal := live s (·.command 0x0B01 p)

/-- TWIN_STATUS (0x0B02; R527). -/
def execTwinStatus (p : Pkt) (s : State) : Host.Outcome State Fault Refusal := live s (·.command 0x0B02 p)

/-- TWIN_DRILL (0x0B03; R528). -/
def execTwinDrill (p : Pkt) (s : State) : Host.Outcome State Fault Refusal := live s (·.command 0x0B03 p)

/-- TWIN_YIELD (0x0B04; R528). -/
def execTwinYield (p : Pkt) (s : State) : Host.Outcome State Fault Refusal := live s (·.command 0x0B04 p)

/-- CAN_CONFIG (0x0C01; R553). -/
def execCanConfig (p : Pkt) (s : State) : Host.Outcome State Fault Refusal := live s (·.command 0x0C01 p)

/-- CAN_SEND (0x0C02; R554). -/
def execCanSend (p : Pkt) (s : State) : Host.Outcome State Fault Refusal := live s (·.command 0x0C02 p)

/-- CAN_MODE (0x0C03; R555). -/
def execCanMode (p : Pkt) (s : State) : Host.Outcome State Fault Refusal := live s (·.command 0x0C03 p)

/-- CAN_STATUS (0x0C04; R556). -/
def execCanStatus (p : Pkt) (s : State) : Host.Outcome State Fault Refusal := live s (·.command 0x0C04 p)

/-- FLINK_CONFIG (0x0D01; R587). -/
def execFlinkConfig (p : Pkt) (s : State) : Host.Outcome State Fault Refusal := live s (·.command 0x0D01 p)

/-- FLINK_SEND (0x0D02; R588). -/
def execFlinkSend (p : Pkt) (s : State) : Host.Outcome State Fault Refusal := live s (·.command 0x0D02 p)

/-- FLINK_STATUS (0x0D03; R589). -/
def execFlinkStatus (p : Pkt) (s : State) : Host.Outcome State Fault Refusal := live s (·.command 0x0D03 p)

/-- QUEUE_CONFIG (0x0E01; R667). -/
def execQueueConfig (p : Pkt) (s : State) : Host.Outcome State Fault Refusal := live s (·.command 0x0E01 p)

/-- QUEUE_DROP_PACKET (0x0E02; R668). -/
def execQueueDropPacket (p : Pkt) (s : State) : Host.Outcome State Fault Refusal := live s (·.command 0x0E02 p)

/-- QUEUE_STATUS (0x0E03; R669). -/
def execQueueStatus (p : Pkt) (s : State) : Host.Outcome State Fault Refusal := live s (·.command 0x0E03 p)

/-- EVENT_ROUTE (0x0E04; R670). -/
def execEventRoute (p : Pkt) (s : State) : Host.Outcome State Fault Refusal := live s (·.command 0x0E04 p)

/-- SW_CONFIG (0x0F01; R704). -/
def execSwConfig (p : Pkt) (s : State) : Host.Outcome State Fault Refusal := live s (·.command 0x0F01 p)

/-- SW_SET (0x0F02; R705). -/
def execSwSet (p : Pkt) (s : State) : Host.Outcome State Fault Refusal := live s (·.command 0x0F02 p)

/-- SW_STATUS (0x0F03; R706). -/
def execSwStatus (p : Pkt) (s : State) : Host.Outcome State Fault Refusal := live s (·.command 0x0F03 p)

/-- HK_CONFIG (0x1001; R726). -/
def execHkConfig (p : Pkt) (s : State) : Host.Outcome State Fault Refusal := live s (·.command 0x1001 p)

/-- HK_READ (0x1002; R727). -/
def execHkRead (p : Pkt) (s : State) : Host.Outcome State Fault Refusal := live s (·.command 0x1002 p)

/-- THERM_CONFIG (0x1003; R728). -/
def execThermConfig (p : Pkt) (s : State) : Host.Outcome State Fault Refusal := live s (·.command 0x1003 p)

/-- THERM_RELEASE (0x1004; R729). -/
def execThermRelease (p : Pkt) (s : State) : Host.Outcome State Fault Refusal := live s (·.command 0x1004 p)

/-- FAULT_READ (0x1101; R299). -/
def execFaultRead (p : Pkt) (s : State) : Host.Outcome State Fault Refusal := live s (·.command 0x1101 p)

/-- FAULT_CLEAR (0x1102; R300). -/
def execFaultClear (p : Pkt) (s : State) : Host.Outcome State Fault Refusal := live s (·.command 0x1102 p)

/-- RESOURCE_LIST (0x1103; R301). -/
def execResourceList (p : Pkt) (s : State) : Host.Outcome State Fault Refusal := live s (·.command 0x1103 p)

end Sys2Proof.Machine
end

