-- ==== Sys2Proof/Machine/Datagrams.lean ====
section
/-! DEFINITION. UDP datagrams at the site ports, reassembly, and the Ethernet links (R591, R635, R664, R751). -/

namespace Sys2Proof.Machine

/-- Does a storage feeder's gateway consume what comes from a UDP port of a network (R150)? -/
def State.storagePort (s : State) (net port : Nat) : Bool :=
  (List.range 4).any (fun f =>
    let e := s.feederCfg f
    s.feederKind f == 2 && u8 e 2 == net + 1 && u32 e 8 == port)

/-- A CCP datagram; before step 6 of R750 at most 256 KB of them wait at each port, the rest are gust drops (R751). -/
def State.ccpDatagram (s : State) (net : Fin 2) (p : Pkt) : State :=
  if s.el < s.sys.startAt + 10000000 then
    let n := s.ccp.early[net] + p.raw.length
    if n ≤ 262144 then ({ s with ccp := { s.ccp with early := s.ccp.early.set net n } }).take p
    else
      let g : Fin 11 := ⟨8 + net.val, by omega⟩
      let s := if bit s.fabric.gustRaised g then s else s.raise .gustDrop g
      { s with fabric := { s.fabric with gust := s.fabric.gust.set g (s.fabric.gust[g] + 1)
                                         gustRaised := s.fabric.gustRaised ||| 2 ^ g.val } }
  else s.take p

/-- Stamp of a SITE record: the frame's start-of-frame delimiter less the port's ingress latency (R86, R100). Of several
fragments the first received gives it (DESIGN CHOICE, entry 241). -/
def State.siteStamp (s : State) (net : Fin 2) (raw : Nat) : Nat := raw - u16 s.timeCfg (28 + 4 * net)

/-- A whole datagram: CCP, PTP and storage status are consumed, the rest become SITE records (R591, R635). -/
def State.datagram (s : State) (d : Dgram) (data : Bytes) : State :=
  if d.dstPort = s.ccpPort then s.ccpDatagram d.net { via := viaOf d.net, src := d.addr, port := d.srcPort, raw := data }
  else if d.dstPort = 319 || d.dstPort = 320 || (!s.sys.lee && s.storagePort d.net d.srcPort) then s
  else
    (s.offerRx ⟨10 + d.net.val, by omega⟩ (le 8 (s.siteStamp d.net d.stamp) ++ le 2 d.srcPort ++ le 2 d.dstPort ++ le 16 d.addr ++ data)).1

/-- The bytes of a datagram whose fragments are all there. -/
def FragEntry.whole (e : FragEntry) : Option Bytes :=
  let bs := (sortBy (fun (a b : Nat × Bytes) => decide (a.1 ≤ b.1)) e.parts).foldl
    (fun (acc : Option Bytes) part => acc.bind (fun l => if part.1 = l.length then some (l ++ part.2) else none)) (some [])
  bs.bind (fun l => if l.length = e.total then some l else none)

/-- A fragment joins its datagram; at most 8 are in reassembly, each for at most 10 ms (R591). -/
def State.fragment (s : State) (d : Dgram) (id off total : Nat) : State :=
  let l := s.ccp.frags.filter (fun e => decide (s.el < e.since + 10000000))
  let e := (l.find? (fun e => e.net == d.net.val && e.id == id)).getD { net := d.net, id, since := s.el, stamp := d.stamp, total, parts := [] }
  let e := { e with parts := (off, d.data) :: e.parts.filter (·.1 != off) }
  let others := l.filter (fun x => !(x.net == d.net.val && x.id == id))
  match e.whole with
  | some data => ({ s with ccp := { s.ccp with frags := others } }).datagram { d with stamp := e.stamp } data
  | none => { s with ccp := { s.ccp with frags := if others.length < 8 then others ++ [e] else l } }

/-- A datagram or a fragment arrives at a site port; nothing while SITE0 and SITE1 stand (R45). -/
def State.siteReceive (s : State) (d : Dgram) : State :=
  if s.siteStopped then s
  else match d.frag with
    | none => s.datagram d d.data
    | some (id, off, total) => s.fragment d id off total

def execSiteDatagramReceive (d : Dgram) (s : State) : Host.Outcome State Fault Refusal := live s (·.siteReceive d)

/-- A datagram not reassembled within 10 ms is discarded (R591). -/
def State.fragTimeout (s : State) (net : Fin 2) (id : Nat) : State :=
  { s with ccp := { s.ccp with frags := s.ccp.frags.filter (fun e =>
    !(e.net == net.val && e.id == id && decide (e.since + 10000000 ≤ s.el))) } }

def execFragmentReassemblyTimeout (net : Fin 2) (id : Nat) (s : State) : Host.Outcome State Fault Refusal :=
  live s (·.fragTimeout net id)

/-- A site port's Ethernet link goes up or down (R664). -/
def State.ethLink (s : State) (net : Fin 2) (up : Bool) : State :=
  if s.sys.ethUp[net] = up then s
  else ({ s with sys := { s.sys with ethUp := s.sys.ethUp.set net up } }).raise (if up then .ethLinkUp net else .ethLinkDown net)

def execEthLinkChange (net : Fin 2) (up : Bool) (s : State) : Host.Outcome State Fault Refusal := live s (·.ethLink net up)

end Sys2Proof.Machine
end

