-- ==== Sys2Proof/Machine/Dispatch.lean ====
section
/-! DEFINITION. exec: one arm for each command, each a direct call of its meaning. -/

namespace Sys2Proof.Machine

def exec (i : Instr) (s : State) : Host.Outcome State Fault Refusal :=
  match i with
  | .sysPing p => Sys2Proof.Machine.execSysPing p s
  | .sysSummary p => Sys2Proof.Machine.execSysSummary p s
  | .sysRole p => Sys2Proof.Machine.execSysRole p s
  | .sysReset p => Sys2Proof.Machine.execSysReset p s
  | .sysSleep p => Sys2Proof.Machine.execSysSleep p s
  | .sysLogRead p => Sys2Proof.Machine.execSysLogRead p s
  | .sysViolationRead p => Sys2Proof.Machine.execSysViolationRead p s
  | .sysFwUpdate p => Sys2Proof.Machine.execSysFwUpdate p s
  | .fwTrialConfirm => Sys2Proof.Machine.execFwTrialConfirm s
  | .ccpKeyOverlapEnd => Sys2Proof.Machine.execCcpKeyOverlapEnd s
  | .timeSet p => Sys2Proof.Machine.execTimeSet p s
  | .timeSource p => Sys2Proof.Machine.execTimeSource p s
  | .timeStatus p => Sys2Proof.Machine.execTimeStatus p s
  | .timeCapture p => Sys2Proof.Machine.execTimeCapture p s
  | .captureDone => Sys2Proof.Machine.execCaptureDone s
  | .allocLimit p => Sys2Proof.Machine.execAllocLimit p s
  | .allocPolicy p => Sys2Proof.Machine.execAllocPolicy p s
  | .allocFallback p => Sys2Proof.Machine.execAllocFallback p s
  | .allocStatus p => Sys2Proof.Machine.execAllocStatus p s
  | .allocTargets p => Sys2Proof.Machine.execAllocTargets p s
  | .allocReportSend => Sys2Proof.Machine.execAllocReportSend s
  | .allocEpochRun => Sys2Proof.Machine.execAllocEpochRun s
  | .allocAckWaitEnd => Sys2Proof.Machine.execAllocAckWaitEnd s
  | .ccpReplyReceive p => Sys2Proof.Machine.execCcpReplyReceive p s
  | .allocTrailingEffect => Sys2Proof.Machine.execAllocTrailingEffect s
  | .allocMissedEpochCheck => Sys2Proof.Machine.execAllocMissedEpochCheck s
  | .storageStatusFrame f b => Sys2Proof.Machine.execStorageStatusFrame f b s
  | .storageStale f => Sys2Proof.Machine.execStorageStale f s
  | .storageSetpointRepeat f => Sys2Proof.Machine.execStorageSetpointRepeat f s
  | .launchExecute => Sys2Proof.Machine.execLaunchExecute s
  | .ptpMessageReceive net m => Sys2Proof.Machine.execPtpMessageReceive net m s
  | .timeSourceLoss k => Sys2Proof.Machine.execTimeSourceLoss k s
  | .ppsEdge => Sys2Proof.Machine.execPpsEdge s
  | .gnssSentence utc ok => Sys2Proof.Machine.execGnssSentence utc ok s
  | .sourceDwellExpiry => Sys2Proof.Machine.execSourceDwellExpiry s
  | .pendingStepExpiry => Sys2Proof.Machine.execPendingStepExpiry s
  | .holdoverLimitReached => Sys2Proof.Machine.execHoldoverLimitReached s
  | .rtcCopy => Sys2Proof.Machine.execRtcCopy s
  | .zoneTableExpiring => Sys2Proof.Machine.execZoneTableExpiring s
  | .timeStloRead => Sys2Proof.Machine.execTimeStloRead s
  | .delayLineCal n taps => Sys2Proof.Machine.execDelayLineCal n taps s
  | .loadallTakeEffect g => Sys2Proof.Machine.execLoadallTakeEffect g s
  | .slotPickup n => Sys2Proof.Machine.execSlotPickup n s
  | .tripRegistered n => Sys2Proof.Machine.execTripRegistered n s
  | .pwmWrite p => Sys2Proof.Machine.execPwmWrite p s
  | .pwmLoadall p => Sys2Proof.Machine.execPwmLoadall p s
  | .pwmCalStatus p => Sys2Proof.Machine.execPwmCalStatus p s
  | .pwmRefloRead g => Sys2Proof.Machine.execPwmRefloRead g s
  | .profileStep g => Sys2Proof.Machine.execProfileStep g s
  | .outerCycle lanes => Sys2Proof.Machine.execOuterCycle lanes s
  | .triggeredSample n code valid => Sys2Proof.Machine.execTriggeredSample n code valid s
  | .innerResultWrite n => Sys2Proof.Machine.execInnerResultWrite n s
  | .loopOverrun n => Sys2Proof.Machine.execLoopOverrun n s
  | .loopLoadall g => Sys2Proof.Machine.execLoopLoadall g s
  | .loopParam p => Sys2Proof.Machine.execLoopParam p s
  | .loopProfile p => Sys2Proof.Machine.execLoopProfile p s
  | .groupSetpoint p => Sys2Proof.Machine.execGroupSetpoint p s
  | .loopTrace p => Sys2Proof.Machine.execLoopTrace p s
  | .groupConfig p => Sys2Proof.Machine.execGroupConfig p s
  | .groupEnable p => Sys2Proof.Machine.execGroupEnable p s
  | .groupStop p => Sys2Proof.Machine.execGroupStop p s
  | .groupStatus p => Sys2Proof.Machine.execGroupStatus p s
  | .phaseRetire p => Sys2Proof.Machine.execPhaseRetire p s
  | .phaseRestore p => Sys2Proof.Machine.execPhaseRestore p s
  | .groupFaultRead p => Sys2Proof.Machine.execGroupFaultRead p s
  | .faultRead p => Sys2Proof.Machine.execFaultRead p s
  | .faultClear p => Sys2Proof.Machine.execFaultClear p s
  | .resourceList p => Sys2Proof.Machine.execResourceList p s
  | .precheckDischargeTimeout g => Sys2Proof.Machine.execPrecheckDischargeTimeout g s
  | .precheckSettleEnd g => Sys2Proof.Machine.execPrecheckSettleEnd g s
  | .precheckVinTimeout g => Sys2Proof.Machine.execPrecheckVinTimeout g s
  | .precheckMidSampleEnd g l => Sys2Proof.Machine.execPrecheckMidSampleEnd g l s
  | .precheckResample g l => Sys2Proof.Machine.execPrecheckResample g l s
  | .stopOverrun g => Sys2Proof.Machine.execStopOverrun g s
  | .contactorWait g => Sys2Proof.Machine.execContactorWait g s
  | .dischargeComplete g => Sys2Proof.Machine.execDischargeComplete g s
  | .dischargeTimeout g => Sys2Proof.Machine.execDischargeTimeout g s
  | .dischargeChannelLimit g => Sys2Proof.Machine.execDischargeChannelLimit g s
  | .tripBurstCharge n => Sys2Proof.Machine.execTripBurstCharge n s
  | .pilotPeriodClassify p l => Sys2Proof.Machine.execPilotPeriodClassify p l s
  | .vlFrameReceive p f => Sys2Proof.Machine.execVlFrameReceive p f s
  | .sdpRequest p => Sys2Proof.Machine.execSdpRequest p s
  | .vlLinkDown l => Sys2Proof.Machine.execVlLinkDown l s
  | .vehicleSessionSetup p u => Sys2Proof.Machine.execVehicleSessionSetup p u s
  | .vehicleAuthorizationReq p u => Sys2Proof.Machine.execVehicleAuthorizationReq p u s
  | .vehicleCableCheckReq p => Sys2Proof.Machine.execVehicleCableCheckReq p s
  | .cableCheckEnd p => Sys2Proof.Machine.execCableCheckEnd p s
  | .vehiclePrechargeReq p v => Sys2Proof.Machine.execVehiclePrechargeReq p v s
  | .vehiclePowerDeliveryStart p iReq iDreq vTarget vMin => Sys2Proof.Machine.execVehiclePowerDeliveryStart p iReq iDreq vTarget vMin s
  | .vehicleCurrentDemand p iReq iDreq vTarget vMin => Sys2Proof.Machine.execVehicleCurrentDemand p iReq iDreq vTarget vMin s
  | .vehicleStop p => Sys2Proof.Machine.execVehicleStop p s
  | .authTimeout p => Sys2Proof.Machine.execAuthTimeout p s
  | .demandGap p => Sys2Proof.Machine.execDemandGap p s
  | .seqTimeout p => Sys2Proof.Machine.execSeqTimeout p s
  | .contactorFail p => Sys2Proof.Machine.execContactorFail p s
  | .contactorWeld p => Sys2Proof.Machine.execContactorWeld p s
  | .portConfig p => Sys2Proof.Machine.execPortConfig p s
  | .portAuthorize p => Sys2Proof.Machine.execPortAuthorize p s
  | .portLimit p => Sys2Proof.Machine.execPortLimit p s
  | .portStop p => Sys2Proof.Machine.execPortStop p s
  | .portStatus p => Sys2Proof.Machine.execPortStatus p s
  | .portSessionRead p => Sys2Proof.Machine.execPortSessionRead p s
  | .portClear p => Sys2Proof.Machine.execPortClear p s
  | .flowPulse p => Sys2Proof.Machine.execFlowPulse p s
  | .coolCapStale p => Sys2Proof.Machine.execCoolCapStale p s
  | .pumpStartWindowEnd p => Sys2Proof.Machine.execPumpStartWindowEnd p s
  | .coolRunOnEnd p => Sys2Proof.Machine.execCoolRunOnEnd p s
  | .coolConfig p => Sys2Proof.Machine.execCoolConfig p s
  | .coolStatus p => Sys2Proof.Machine.execCoolStatus p s
  | .meterSample raw => Sys2Proof.Machine.execMeterSample raw s
  | .metrologyCoreFault => Sys2Proof.Machine.execMetrologyCoreFault s
  | .metrologyRestart => Sys2Proof.Machine.execMetrologyRestart s
  | .mirrorRefresh => Sys2Proof.Machine.execMirrorRefresh s
  | .sealNChange level => Sys2Proof.Machine.execSealNChange level s
  | .meterConfig p => Sys2Proof.Machine.execMeterConfig p s
  | .meterCalTable p => Sys2Proof.Machine.execMeterCalTable p s
  | .meterRead p => Sys2Proof.Machine.execMeterRead p s
  | .meterSeal p => Sys2Proof.Machine.execMeterSeal p s
  | .meterMirloRead => Sys2Proof.Machine.execMeterMirloRead s
  | .journalCommitRegular => Sys2Proof.Machine.execJournalCommitRegular s
  | .lastGaspRepeat => Sys2Proof.Machine.execLastGaspRepeat s
  | .billingRestart => Sys2Proof.Machine.execBillingRestart s
  | .defaultTariffHoldExpiry => Sys2Proof.Machine.execDefaultTariffHoldExpiry s
  | .keypadTokenFrame n ident b => Sys2Proof.Machine.execKeypadTokenFrame n ident b s
  | .tokenLockoutEnd => Sys2Proof.Machine.execTokenLockoutEnd s
  | .billTariffLoad p => Sys2Proof.Machine.execBillTariffLoad p s
  | .billCalendarLoad p => Sys2Proof.Machine.execBillCalendarLoad p s
  | .billRead p => Sys2Proof.Machine.execBillRead p s
  | .billTokenEnter p => Sys2Proof.Machine.execBillTokenEnter p s
  | .billClosePeriod p => Sys2Proof.Machine.execBillClosePeriod p s
  | .billAccount p => Sys2Proof.Machine.execBillAccount p s
  | .billCommitloRead => Sys2Proof.Machine.execBillCommitloRead s
  | .imageCapture => Sys2Proof.Machine.execImageCapture s
  | .imageDeadline => Sys2Proof.Machine.execImageDeadline s
  | .twinSelfTestDone ok => Sys2Proof.Machine.execTwinSelfTestDone ok s
  | .partnerReportReceive r => Sys2Proof.Machine.execPartnerReportReceive r s
  | .leaseRenewal => Sys2Proof.Machine.execLeaseRenewal s
  | .leaseRenewalReceive b => Sys2Proof.Machine.execLeaseRenewalReceive b s
  | .leaseExpiry => Sys2Proof.Machine.execLeaseExpiry s
  | .leaseTaken => Sys2Proof.Machine.execLeaseTaken s
  | .leaseInChange level => Sys2Proof.Machine.execLeaseInChange level s
  | .hingeUp mask => Sys2Proof.Machine.execHingeUp mask s
  | .hingeDown mask => Sys2Proof.Machine.execHingeDown mask s
  | .hingeLaneRetrain n ok => Sys2Proof.Machine.execHingeLaneRetrain n ok s
  | .hingeTimeMessage off => Sys2Proof.Machine.execHingeTimeMessage off s
  | .sharedSeqStore => Sys2Proof.Machine.execSharedSeqStore s
  | .selfDiagFail => Sys2Proof.Machine.execSelfDiagFail s
  | .handoverOffer q0 drill => Sys2Proof.Machine.execHandoverOffer q0 drill s
  | .handoverSwitch => Sys2Proof.Machine.execHandoverSwitch s
  | .handoverCheck => Sys2Proof.Machine.execHandoverCheck s
  | .leaseDrillStart => Sys2Proof.Machine.execLeaseDrillStart s
  | .leaseDrillHoldEnd => Sys2Proof.Machine.execLeaseDrillHoldEnd s
  | .siteMasterRenewal => Sys2Proof.Machine.execSiteMasterRenewal s
  | .siteMasterRenewalReceive b => Sys2Proof.Machine.execSiteMasterRenewalReceive b s
  | .siteMasterTaken => Sys2Proof.Machine.execSiteMasterTaken s
  | .twinConfig p => Sys2Proof.Machine.execTwinConfig p s
  | .twinStatus p => Sys2Proof.Machine.execTwinStatus p s
  | .twinDrill p => Sys2Proof.Machine.execTwinDrill p s
  | .twinYield p => Sys2Proof.Machine.execTwinYield p s
  | .twinEndloRead => Sys2Proof.Machine.execTwinEndloRead s
  | .canFrameReceive n f => Sys2Proof.Machine.execCanFrameReceive n f s
  | .canError n e => Sys2Proof.Machine.execCanError n e s
  | .canRecovered n => Sys2Proof.Machine.execCanRecovered n s
  | .canModeApply n => Sys2Proof.Machine.execCanModeApply n s
  | .canTxComplete n sof tdcv => Sys2Proof.Machine.execCanTxComplete n sof tdcv s
  | .canTxExpired n => Sys2Proof.Machine.execCanTxExpired n s
  | .setpointStreamFrame n k => Sys2Proof.Machine.execSetpointStreamFrame n k s
  | .canConfig p => Sys2Proof.Machine.execCanConfig p s
  | .canSend p => Sys2Proof.Machine.execCanSend p s
  | .canMode p => Sys2Proof.Machine.execCanMode p s
  | .canStatus p => Sys2Proof.Machine.execCanStatus p s
  | .beaconTransmit => Sys2Proof.Machine.execBeaconTransmit s
  | .beaconReceive f => Sys2Proof.Machine.execBeaconReceive f s
  | .flinkBeaconLost => Sys2Proof.Machine.execFlinkBeaconLost s
  | .flinkFrameReceive f => Sys2Proof.Machine.execFlinkFrameReceive f s
  | .linkReportReceive f => Sys2Proof.Machine.execLinkReportReceive f s
  | .flinkSlotTransmit => Sys2Proof.Machine.execFlinkSlotTransmit s
  | .flinkAckTimeout => Sys2Proof.Machine.execFlinkAckTimeout s
  | .flinkSendTimeout => Sys2Proof.Machine.execFlinkSendTimeout s
  | .degradedWindowEnd => Sys2Proof.Machine.execDegradedWindowEnd s
  | .flinkConfig p => Sys2Proof.Machine.execFlinkConfig p s
  | .flinkSend p => Sys2Proof.Machine.execFlinkSend p s
  | .flinkStatus p => Sys2Proof.Machine.execFlinkStatus p s
  | .fragmentReassemblyTimeout net id => Sys2Proof.Machine.execFragmentReassemblyTimeout net id s
  | .siteDatagramReceive d => Sys2Proof.Machine.execSiteDatagramReceive d s
  | .ethLinkChange net up => Sys2Proof.Machine.execEthLinkChange net up s
  | .ccpIntakeResume => Sys2Proof.Machine.execCcpIntakeResume s
  | .hostioStatusRead => Sys2Proof.Machine.execHostioStatusRead s
  | .hostioInterfaceReset => Sys2Proof.Machine.execHostioInterfaceReset s
  | .hostioUnknownInstruction code => Sys2Proof.Machine.execHostioUnknownInstruction code s
  | .windowWrite a ws part => Sys2Proof.Machine.execWindowWrite a ws part s
  | .sysReadyloRead => Sys2Proof.Machine.execSysReadyloRead s
  | .queueQdataWrite q w => Sys2Proof.Machine.execQueueQdataWrite q w s
  | .queueQopenWrite q v => Sys2Proof.Machine.execQueueQopenWrite q v s
  | .queueQcloseWrite q v => Sys2Proof.Machine.execQueueQcloseWrite q v s
  | .queueQrloRead q => Sys2Proof.Machine.execQueueQrloRead q s
  | .queueQctlDrop q v => Sys2Proof.Machine.execQueueQctlDrop q v s
  | .hostPacketTimeout q => Sys2Proof.Machine.execHostPacketTimeout q s
  | .spillMove q => Sys2Proof.Machine.execSpillMove q s
  | .queueLayoutSwitch q => Sys2Proof.Machine.execQueueLayoutSwitch q s
  | .eventRelease => Sys2Proof.Machine.execEventRelease s
  | .eventFlood src => Sys2Proof.Machine.execEventFlood src s
  | .evtRouteWrite src v => Sys2Proof.Machine.execEvtRouteWrite src v s
  | .evtPendWrite p w v => Sys2Proof.Machine.execEvtPendWrite p w v s
  | .queueConfig p => Sys2Proof.Machine.execQueueConfig p s
  | .queueDropPacket p => Sys2Proof.Machine.execQueueDropPacket p s
  | .queueStatus p => Sys2Proof.Machine.execQueueStatus p s
  | .eventRoute p => Sys2Proof.Machine.execEventRoute p s
  | .swLimiting n => Sys2Proof.Machine.execSwLimiting n s
  | .swOvertemp n => Sys2Proof.Machine.execSwOvertemp n s
  | .swRetry n temp => Sys2Proof.Machine.execSwRetry n temp s
  | .clampComplete n e => Sys2Proof.Machine.execClampComplete n e s
  | .clampPowerWindow => Sys2Proof.Machine.execClampPowerWindow s
  | .swOpenLoad n mv => Sys2Proof.Machine.execSwOpenLoad n mv s
  | .swOpenLoadCleared n => Sys2Proof.Machine.execSwOpenLoadCleared n s
  | .inrushWindowEnd n => Sys2Proof.Machine.execInrushWindowEnd n s
  | .slewTurnOnComplete n reached => Sys2Proof.Machine.execSlewTurnOnComplete n reached s
  | .budgetWindow m => Sys2Proof.Machine.execBudgetWindow m s
  | .budgetRestore => Sys2Proof.Machine.execBudgetRestore s
  | .swDipRestore => Sys2Proof.Machine.execSwDipRestore s
  | .swConfig p => Sys2Proof.Machine.execSwConfig p s
  | .swSet p => Sys2Proof.Machine.execSwSet p s
  | .swStatus p => Sys2Proof.Machine.execSwStatus p s
  | .hkRoundComplete raw int => Sys2Proof.Machine.execHkRoundComplete raw int s
  | .thermalConversion temps => Sys2Proof.Machine.execThermalConversion temps s
  | .thermHwLimit sensor elapsed => Sys2Proof.Machine.execThermHwLimit sensor elapsed s
  | .throttleWindowStart => Sys2Proof.Machine.execThrottleWindowStart s
  | .hkConfig p => Sys2Proof.Machine.execHkConfig p s
  | .hkRead p => Sys2Proof.Machine.execHkRead p s
  | .thermConfig p => Sys2Proof.Machine.execThermConfig p s
  | .thermRelease p => Sys2Proof.Machine.execThermRelease p s
  | .thermLatchloRead => Sys2Proof.Machine.execThermLatchloRead s
  | .linkFrameReceive l x => Sys2Proof.Machine.execLinkFrameReceive l x s
  | .clockLoss c => Sys2Proof.Machine.execClockLoss c s
  | .clockRestored c => Sys2Proof.Machine.execClockRestored c s
  | .coreWatchdog k => Sys2Proof.Machine.execCoreWatchdog k s
  | .eccUncorrectable o => Sys2Proof.Machine.execEccUncorrectable o s
  | .deviceFaultReset => Sys2Proof.Machine.execDeviceFaultReset s
  | .vsQualified threshold => Sys2Proof.Machine.execVsQualified threshold s
  | .sequencerStep => Sys2Proof.Machine.execSequencerStep s
  | .pgTimeout => Sys2Proof.Machine.execPgTimeout s
  | .sequencerRetry => Sys2Proof.Machine.execSequencerRetry s
  | .pgFall => Sys2Proof.Machine.execPgFall s
  | .vsBelow3v => Sys2Proof.Machine.execVsBelow3v s
  | .vsRestore => Sys2Proof.Machine.execVsRestore s
  | .brownoutAssert => Sys2Proof.Machine.execBrownoutAssert s
  | .brownoutClear => Sys2Proof.Machine.execBrownoutClear s
  | .resetNAssert => Sys2Proof.Machine.execResetNAssert s
  | .resetRelease site twinB tcxo elapsed => Sys2Proof.Machine.execResetRelease site twinB tcxo elapsed s
  | .bootTimeout => Sys2Proof.Machine.execBootTimeout s
  | .deviceReady => Sys2Proof.Machine.execDeviceReady s
  | .heartbeatWrite elapsed => Sys2Proof.Machine.execHeartbeatWrite elapsed s
  | .wake src elapsed => Sys2Proof.Machine.execWake src elapsed s
  | .ccpPacketRejected p => Sys2Proof.Machine.execCcpPacketRejected p s
  | .windowRead a n part => Sys2Proof.Machine.execWindowRead a n part s
  | .slotPeriodStart n => Sys2Proof.Machine.execSlotPeriodStart n s
  | .pwmCompareEdge n high rise => Sys2Proof.Machine.execPwmCompareEdge n high rise s
  | .handoverAnswerReceive yes => Sys2Proof.Machine.execHandoverAnswerReceive yes s
  | .imageFrameReceive m => Sys2Proof.Machine.execImageFrameReceive m s
  | .swLimitingEnd n cur => Sys2Proof.Machine.execSwLimitingEnd n cur s
  | .vbatDomainLoss => Sys2Proof.Machine.execVbatDomainLoss s
  | .vbatDomainReturn => Sys2Proof.Machine.execVbatDomainReturn s
  | .hostioServingStart => Sys2Proof.Machine.execHostioServingStart s
  | .keepDefaultSet => Sys2Proof.Machine.execKeepDefaultSet s
  | .selfTestFailure u => Sys2Proof.Machine.execSelfTestFailure u s
  | .eccCorrection m => Sys2Proof.Machine.execEccCorrection m s

end Sys2Proof.Machine
end

