-- ==== Sys2Proof/Machine/Step.lean ====
section
/-! DEFINITION. One step: the command at the front of the queue, or a tick of the fabric clock. -/

namespace Sys2Proof.Machine

/-- What the block does with no command waiting: while it runs, ST advances by one fabric tick (R72; DESIGN CHOICE, entry 10),
and a port that acts as PTP master sends what falls due (R85). -/
def State.idle (s : State) : State := if s.sys.mode = .run then s.tick.ptpSend s.el else s

/-- Take the command at the front of the queue and run it with the rest; without one, a tick. -/
def step (s : State) : Host.Outcome State Fault Refusal :=
  match s.pending with
  | [] => .next s.idle
  | i :: rest => exec i { s with pending := rest }

/-- The state with the command that a word spells put at the front of its queue. -/
def State.withFetchWord (s : State) (nbits w : Nat) : State :=
  match Sys2Proof.decodeTableWord nbits w with
  | some i => { s with pending := i :: s.pending }
  | none => s

end Sys2Proof.Machine
end

