-- ==== Sys2Proof/Safety.lean ====
section
/-! DEFINITION. The terms in which claims about this device are stated: which packets reach their command, and what counts as a safe
state of the power stage. -/

namespace Sys2Proof.Machine

/-- The device runs, takes a packet that carries opcode `code`, and R600 lets it through to its command: `r` is the request, `arr` how
it arrived, and `t` the state after intake (a sequence window moved, a packet taken from queue 0). -/
def State.accepts (s : State) (code : Nat) (p : Pkt) (r : Req) (arr : Arrival) (t : State) : Prop :=
  s.sys.mode = .run ∧ s.takes p.via = true ∧ 4 ≤ p.raw.length ∧ p.code = code ∧
    (s.received p).intake p = (.run r, some arr, t) ∧ (t.paused && r.pauses) = false

/-- The bytes of a packet with the fields of R593, up to its CRC (R594). -/
def packetBytes (flags code seq target : Nat) (payload : Bytes) : Bytes :=
  withCrc (ccpHeader flags code seq payload.length target ++ payload)

/-- A sequence window after a run of received sequences (R518). -/
def SeqWin.after (w : SeqWin) (l : List Nat) : SeqWin := l.foldl (fun w n => (w.receive n).2) w

/-- Do sequences and the H of a window fit 32 bits (R518, R593)? -/
def SeqWin.fits (w : SeqWin) : Prop := w.h < 2 ^ 32 ∧ ∀ k ∈ w.marks, k < 2 ^ 32

end Sys2Proof.Machine

namespace Sys2Proof

/-- The rows of the supplies, the VBAT domain, the resets, the tamper input and the switch dies, which act also while the device sleeps
or is held in reset (R387, R672, R730 to R757; entry 1), and those of the receivers that wake a sleeping device, pilots and feeder-link
modem (R344, R583). -/
def Instr.actsAlways : Instr → Bool
  | .sealNChange _ | .vsQualified _ | .sequencerStep | .pgTimeout | .sequencerRetry | .pgFall | .vsBelow3v | .vsRestore
  | .brownoutAssert | .brownoutClear | .heartbeatWrite _ | .vbatDomainLoss | .vbatDomainReturn | .resetNAssert
  | .resetRelease .. | .wake .. | .thermHwLimit .. | .swLimiting _ | .swLimitingEnd .. | .swOvertemp _ | .swRetry .. | .clampComplete ..
  | .inrushWindowEnd _ | .slewTurnOnComplete .. | .pilotPeriodClassify .. | .beaconReceive _ => true
  | _ => false

end Sys2Proof

namespace Sys2Proof.Safety

open Sys2Proof.Machine

/-- PWM_H and PWM_L of a slot are not both high in complementary output (R172, R184). -/
def slotSafe (mode : Nat) (x : Slot) : Prop := mode = 0 → ¬(x.outH = true ∧ x.outL = true)

/-- No output of any slot is high. -/
def outputsLow (s : State) : Prop := ∀ n : Fin 48, s.slots[n].outH = false ∧ s.slots[n].outL = false

/-- The logs and buffers of stated size hold no more than it: the window log 64 entries and its ring 256 (R614, R615), the event log
65 536 records (R657), the copies for core 3 256 (R541), datagrams in reassembly 8 (R591). -/
def logsBounded (s : State) : Prop :=
  s.hio.vlog.length ≤ 64 ∧ s.nv.violRing.length ≤ 256 ∧ s.nv.evLog.length ≤ 65536 ∧ s.canCopies.length ≤ 256 ∧
  s.ccp.frags.length ≤ 8

end Sys2Proof.Safety
end

