-- ==== Sys2Proof/Certificates/Slice0/Obligations.lean ====
section
/-! DEFINITION. The statements for the provers. -/

open Sys2Proof Sys2Proof.Machine

/-- A step runs the command at the front of the queue. -/
def Obligations.StepRunsFront : Prop :=
  ∀ (s : State) (i : Instr) (rest : List Instr), s.pending = i :: rest → step s = exec i { s with pending := rest }

/-! ### Commands of CCP (R605). `s.accepts code p r arr t` says that the device runs and that R600 lets the packet through to its command;
a hypothesis `(body… r t).status = 0` says that no row of the command's own table matches. Each clause then gives the whole next state:
the command's effect on `t`, then the reply. -/

/-- The SYS commands complete (R617, R618, R620 to R623, R625, R628); those that throttling pauses wait for the next work window
(R716). Model's choices in it: entries 5, 7, 200. -/
def Obligations.SysCommandsComplete : Prop :=
  ∀ (s t : State) (p : Pkt) (r : Req) (arr : Arrival), r.timed = false →
    (s.accepts 0x0100 p r arr t → exec (.sysPing p) s = .next (t.replied p arr 0
      (le 1 t.dstat ++ le 1 (t.strap.siteId + 16 * b01 t.strap.twinB) ++ le 8 t.st ++ le 4 t.nv.fw.version ++ le 4 t.nv.boots.toNat ++
        le 1 t.time.quality.code ++ [0, 0, 0] ++ r.body))) ∧
    (s.accepts 0x0101 p r arr t → exec (.sysSummary p) s = .next (t.replied p arr 0 (bodySysSummary r t).rest)) ∧
    (s.accepts 0x0102 p r arr t → (bodySysRole r t).status = 0 → exec (.sysRole p) s = .next
      ((t.store (fun c => if u8 r.body 0 = 0 then { c with role := some r.body } else { c with net := some r.body })).twinRecheck.replied p arr 0 [0, 0])) ∧
    (s.accepts 0x0103 p r arr t → (bodySysReset r t).status = 0 → exec (.sysReset p) s = .next
      ((t.replied p arr 0 [0, 0]).sysReset (u8 r.body 0 = 1))) ∧
    (s.accepts 0x0104 p r arr t → (bodySysSleep r t).status = 0 → exec (.sysSleep p) s = .next
      ((t.replied p arr 0 [0, 0]).sleepEnter (u16 r.body 0) (u64 r.body 8))) ∧
    (s.accepts 0x0105 p r arr t → (bodySysLogRead r t).status = 0 → exec (.sysLogRead p) s = .next
      (t.replied p arr 0 (bodySysLogRead r t).rest)) ∧
    (s.accepts 0x0106 p r arr t → (bodySysViolationRead r t).status = 0 → u8 r.body 0 = 1 → exec (.sysViolationRead p) s = .next
      (t.replied p arr 0 (bodySysViolationRead r t).rest)) ∧
    (s.accepts 0x0106 p r arr t → (bodySysViolationRead r t).status = 0 → u8 r.body 0 = 0 → bit (u8 r.body 1) 0 = true →
      exec (.sysViolationRead p) s = .next (({ t with hio := { t.hio with vlog := [], vread := t.hio.vseq } } : State).replied p arr 0
        (bodySysViolationRead r t).rest)) ∧
    (s.accepts 0x0106 p r arr t → (bodySysViolationRead r t).status = 0 → u8 r.body 0 = 0 → bit (u8 r.body 1) 0 = false →
      exec (.sysViolationRead p) s = .next (({ t with hio := { t.hio with vread :=
          match ((if u32 r.body 4 = 0 then t.hio.vlog else t.hio.vlog.dropWhile (fun v => decide (v.seq < u32 r.body 4))).take 64).getLast? with
          | some v => max t.hio.vread v.seq
          | none => t.hio.vread } } : State).replied p arr 0 (bodySysViolationRead r t).rest)) ∧
    (s.accepts 0x0107 p r arr t → (bodySysFwUpdate r t).status = 0 → u8 r.body 0 = 2 → exec (.sysFwUpdate p) s = .next
      ((t.modFw (fun f => { f with armed := true })).replied p arr 0 (t.modFw (fun f => { f with armed := true })).fwReply)) ∧
    (s.accepts 0x0107 p r arr t → (bodySysFwUpdate r t).status = 0 → u8 r.body 0 = 3 → exec (.sysFwUpdate p) s = .next
      (t.replied p arr 0 t.fwReply)) ∧
    (s.accepts 0x0107 p r arr t → (bodySysFwUpdate r t).status = 0 → u8 r.body 0 ≤ 1 → bit (u8 r.body 2) 0 = false →
      let d := sub r.body 16 (u16 r.body 12)
      let o := if u32 r.body 8 = 0 then d else (match t.nv.fw.transfer with | some x => x.bytes | none => []) ++ d
      exec (.sysFwUpdate p) s = .next ((t.modFw (fun f => { f with
        transfer := some { kind := u8 r.body 0, id := if u8 r.body 0 = 0 then 0 else u8 r.body 1, gen := u32 r.body 4, bytes := o }
        alt := if u8 r.body 0 = 0 ∧ u32 r.body 8 = 0 then none else f.alt
        done := none })).replied p arr 0 (bodySysFwUpdate r t).rest)) ∧
    (s.accepts 0x0107 p r arr t → (bodySysFwUpdate r t).status = 0 → u8 r.body 0 ≤ 1 → bit (u8 r.body 2) 0 = true →
      let d := sub r.body 16 (u16 r.body 12)
      let o := if u32 r.body 8 = 0 then d else (match t.nv.fw.transfer with | some x => x.bytes | none => []) ++ d
      let u := t.modFw (fun f => { f with transfer := none, done := some (o.length, crc32c o) })
      exec (.sysFwUpdate p) s = .next ((if u8 r.body 0 = 0 then
          u.modFw (fun f => { f with alt := some (u32 o 8, u32 o 24), armed := false })
        else u.credential (u8 r.body 1) (o.take (o.length - 4))).replied p arr 0 (bodySysFwUpdate r t).rest)) ∧
    (∀ x ∈ [(0x0101, Instr.sysSummary p), (0x0105, .sysLogRead p), (0x0106, .sysViolationRead p), (0x0107, .sysFwUpdate p)],
      s.sys.mode = .run → s.takes p.via = true → 4 ≤ p.raw.length → p.code = x.1 → (s.received p).intake p = (.run r, some arr, t) →
      t.paused = true → r.pauses = true →
      exec x.2 s = .next { t with ccp := { t.ccp with delayed := t.ccp.delayed ++ [(p, arr, r)] } })

/-- The TIME commands complete (R90, R115, R117, R118, R120): untimed ones at once, TIME_CAPTURE by taking a launch slot. Model's choices in it:
entries 100, 103. -/
def Obligations.TimeCommandsComplete : Prop :=
  ∀ (s t : State) (p : Pkt) (r : Req) (arr : Arrival),
    (s.accepts 0x0201 p r arr t → r.timed = false → (bodyTimeSet r t).status = 0 →
      let v := t.pendEnd
      (v.time.pend = none → exec (.timeSet p) s = .next
        ((withSel (fun u => ((u.stepClock (u64 r.body 0)).modTime (fun x => { x with attack := false })).setQuality .free) v).replied
          p arr 0 [0, 0])) ∧
      (∀ w, v.time.pend = some w → exec (.timeSet p) s = .next
        ((withSel (fun u => ((u.modTime (fun x => { x with sel := some w.src, pend := none })).stepClock ((u.st : Int) + w.offset).toNat).setQuality
          .locked) v).replied p arr 0 [0, 0]))) ∧
    (∀ w, t.time.pend = some w → t.el < w.endAt → t.pendEnd = t) ∧
    (s.accepts 0x0202 p r arr t → r.timed = false → (bodyTimeSource r t).status = 0 → exec (.timeSource p) s = .next
      ((withSel (·.timeSourceTake r.body) t).replied p arr 0 [0, 0])) ∧
    (s.accepts 0x0203 p r arr t → r.timed = false → exec (.timeStatus p) s = .next (t.replied p arr 0 (bodyTimeStatus r t).rest)) ∧
    (s.accepts 0x0204 p r arr t → r.timed = true → (acceptTimed r t).status = 1 → exec (.timeCapture p) s = .next
      ((t.pushLaunch r).replied p arr 1 [0, 0]))

/-- The ALLOC commands complete (R164 to R169): a limit, policy, fallback table or release is taken, a query is answered, and targets take a launch
slot with their trailing moves. Model's choices in it: entries 141, 171, 172. -/
def Obligations.AllocCommandsComplete : Prop :=
  ∀ (s t : State) (p : Pkt) (r : Req) (arr : Arrival),
    (s.accepts 0x0301 p r arr t → r.timed = false → (bodyAllocLimit r t).status = 0 → exec (.allocLimit p) s = .next
      (((t.addLimits { since := t.st, limp := u32 r.body 0, lexp := u32 r.body 4, reserve := u32 r.body 8 }).store
        (fun c => { c with allocLimit := some r.body })).replied p arr 0 [0, 0])) ∧
    (s.accepts 0x0302 p r arr t → r.timed = false → (bodyAllocPolicy r t).status = 0 → exec (.allocPolicy p) s = .next
      ((if u8 r.body 0 = 0 then
          ({ t with alloc := { t.alloc with policyWas := t.wasNote t.alloc.policyWas t.nv.cfg.allocPolicy } } : State).store
            (fun c => { c with allocPolicy := some r.body })
        else
          ({ t with alloc := { t.alloc with feedersWas := t.wasNote t.alloc.feedersWas t.nv.cfg.allocFeeders } } : State).store
            (fun c => { c with allocFeeders := some r.body })).replied p arr 0 [0, 0])) ∧
    (s.accepts 0x0303 p r arr t → r.timed = false → (bodyAllocFallback r t).status = 0 → exec (.allocFallback p) s = .next
      ((if t.alloc.fallback then (t.store (fun c => { c with allocFallback := some r.body })).reshare
        else t.store (fun c => { c with allocFallback := some r.body })).replied p arr 0 [0, 0])) ∧
    (s.accepts 0x0304 p r arr t → r.timed = false → (bodyAllocStatus r t).status = 0 → u8 r.body 8 = 0 → exec (.allocStatus p) s = .next
      (t.replied p arr 0 (bodyAllocStatus r t).rest)) ∧
    (s.accepts 0x0304 p r arr t → r.timed = false → (bodyAllocStatus r (t.conflictSeen r)).status = 0 → u8 r.body 8 = 1 →
      exec (.allocStatus p) s = .next (((t.conflictSeen r).takeReport (reportOf r.body)).replied p arr 0 [0, 0])) ∧
    (s.accepts 0x0305 p r arr t → r.timed = false → (bodyAllocTargets r t).status = 0 → u8 r.body 8 = 2 → exec (.allocTargets p) s = .next
      ((t.allocRelease (u64 r.body 0)).replied p arr 0 [0, 0])) ∧
    (s.accepts 0x0305 p r arr t → r.timed = true → (acceptTargets r (t.conflictSeen r)).status = 1 →
      exec (.allocTargets p) s = .next ((((t.conflictSeen r).allocAccept r.launch r.body).pushLaunch r).replied p arr 1 [0, 0]))

/-- The GROUP and PHASE commands complete (R257, R292 to R298). -/
def Obligations.GroupCommandsComplete : Prop :=
  ∀ (s t : State) (p : Pkt) (r : Req) (arr : Arrival), r.timed = false →
    (s.accepts 0x0401 p r arr t → (bodyGroupConfig r t).status = 0 → exec (.groupConfig p) s = .next
      (((t.store (fun c => { c with group := Vector.ofFn (fun (h : Fin 8) => if h = r.g then some r.body
          else c.group[h].map (fun o => if u8 r.body 0 = 0xFF || u8 o 0 != u8 r.body 0 then o else 0xFF :: o.drop 1)) })).modLoop r.g
        (fun l => { l with vout := none, iout := none, vin := none })).replied p arr 0 [0, 0])) ∧
    (s.accepts 0x0402 p r arr t → (bodyGroupEnable r t).status = 0 → exec (.groupEnable p) s = .next
      ((if u8 r.body 0 = 2 then t.startGroup r.g else t.modProt r.g (fun x => { x with permit := u8 r.body 0 == 1 })).replied p arr 0 [0, 0])) ∧
    (s.accepts 0x0403 p r arr t → (bodyGroupSetpoint r t).status = 0 → exec (.groupSetpoint p) s = .next
      ((t.setpointTake r.g (u8 r.body 0 == 1) (bit (u8 r.body 1) 0) (i32 r.body 4) (i32 r.body 8)).replied p arr 0 (bodyGroupSetpoint r t).rest)) ∧
    (s.accepts 0x0404 p r arr t → (bodyGroupStop r t).status = 0 → t.groups[r.g].pwm.test = false → exec (.groupStop p) s = .next
      ((t.stopGroup r.g (u8 r.body 0) 0).1.replied p arr 0 (bodyGroupStop r t).rest)) ∧
    (s.accepts 0x0404 p r arr t → (bodyGroupStop r t).status = 0 → t.groups[r.g].pwm.test = true → exec (.groupStop p) s = .next
      ((t.pwmStop r.g).replied p arr 0 (bodyGroupStop r t).rest)) ∧
    (s.accepts 0x0405 p r arr t → exec (.groupStatus p) s = .next (t.replied p arr 0 (bodyGroupStatus r t).rest)) ∧
    (s.accepts 0x0406 p r arr t → t.isRetired r.target = false → exec (.phaseRetire p) s = .next
      ((t.chargeAs 1 r.target 0x41 t.st true).replied p arr 0 [0, 0])) ∧
    (s.accepts 0x0407 p r arr t → (bodyPhaseRestore r t).status = 0 → exec (.phaseRestore p) s = .next
      (((t.clearHistory r.target).unretire r.target).replied p arr 0 [0, 0])) ∧
    (s.accepts 0x0408 p r arr t → (bodyGroupFaultRead r t).status = 0 → exec (.groupFaultRead p) s = .next
      ((if t.groupRecs[r.g].recs = [] then t.free.2 else t).replied p arr 0 (bodyGroupFaultRead r t).rest))

/-- FAULT_READ, FAULT_CLEAR and RESOURCE_LIST complete (R299 to R301). -/
def Obligations.FaultCommandsComplete : Prop :=
  ∀ (s t : State) (p : Pkt) (r : Req) (arr : Arrival), r.timed = false →
    (s.accepts 0x1101 p r arr t → exec (.faultRead p) s = .next (t.replied p arr 0 (bodyFaultRead r t).rest)) ∧
    (s.accepts 0x1102 p r arr t → (bodyFaultClear r t).status = 0 → exec (.faultClear p) s = .next
      ((whenDo (bit (u8 r.body 0) 0) (fun u => (u.modProt r.g (fun x => { x with laneFault := false, pending := none })).toOff r.g 0)
        (whenDo (bit (u8 r.body 0) 1) (fun u =>
            if tType r.target = 1 && ((u.clearHistory r.target).gPort r.g).isNone then
              (u.clearHistory r.target).modProt r.g (fun x => { x with retries := [] })
            else u.clearHistory r.target)
          (whenDo (bit (u8 r.body 0) 2) (·.restoreResource r.target) t))).replied p arr 0 [0, 0])) ∧
    (s.accepts 0x1103 p r arr t → exec (.resourceList p) s = .next (t.replied p arr 0 (bodyResourceList r t).rest))

/-- The PWM and LOOP commands complete (R213 to R218, R253 to R258). -/
def Obligations.StageCommandsComplete : Prop :=
  ∀ (s t : State) (p : Pkt) (r : Req) (arr : Arrival), r.timed = false →
    (s.accepts 0x0501 p r arr t → (bodyPwmWrite r t).status = 0 → u8 r.body 0 = 1 → exec (.pwmWrite p) s = .next
      (((t.modSlot (tIndex r.target) (fun x => { x with shadow := comparesOf r.body })).pickTaken (tIndex r.target)).replied p arr 0 [0, 0])) ∧
    (s.accepts 0x0501 p r arr t → (bodyPwmWrite r t).status = 0 → u8 r.body 0 = 0 →
      let u := t.store (fun c => { c with pwm := c.pwm.set r.g (some r.body) })
      let v := (if u.groups[r.g].pwm.test && decide (u8 r.body 1 = 0) then u.pwmStop r.g else u).modPwm r.g
        (fun w => { w with test := decide (u8 r.body 1 = 1) })
      exec (.pwmWrite p) s = .next ((forNums (v.gSlots r.g) v (fun w k => (if w.tripEn r.g k && !t.tripEn r.g k then
        w.modSlot k (fun x => { x with trips := [], tripRun := 0, tripRunWas := 0, tripped := false }) else w).pickTaken k)).replied
          p arr 0 [0, 0])) ∧
    (∀ (u : State) (k : Nat), (∀ x, (u.slot k).pick = some x → x.tick ≠ u.fine) → u.pickTaken k = u) ∧
    (s.accepts 0x0502 p r arr t → (bodyPwmLoadall r t).status = 0 → exec (.pwmLoadall p) s = .next
      ((if t.groups[r.g].pwm.running then t.loadAll r.g false else t.pwmStart r.g).replied p arr 0 (bodyPwmLoadall r t).rest)) ∧
    (s.accepts 0x0503 p r arr t → exec (.pwmCalStatus p) s = .next (t.replied p arr 0 (bodyPwmCalStatus r t).rest)) ∧
    (s.accepts 0x0601 p r arr t → (bodyLoopParam r t).status = 0 → exec (.loopParam p) s = .next
      ((t.store (fun c => if u8 r.body 0 = 0 then { c with loop0 := c.loop0.set r.g (some r.body) }
        else if u8 r.body 0 = 1 then { c with loop1 := c.loop1.set r.g (some r.body) }
        else { c with loop2 := c.loop2.set r.g (some r.body) })).replied p arr 0 [0, 0])) ∧
    (s.accepts 0x0602 p r arr t → (bodyLoopProfile r t).status = 0 → exec (.loopProfile p) s = .next
      (((t.store (fun c => { c with profile := c.profile.set r.g (some r.body) })).modLoop r.g
        (fun l => { l with limits := limitsOf r.body })).replied p arr 0 [0, 0])) ∧
    (s.accepts 0x0603 p r arr t → (bodyLoopTrace r t).status = 0 → u8 r.body 0 = 2 →
      exec (.loopTrace p) s = .next ((if bit (u8 r.body 1) 0 then t.modLoop r.g (fun l => { l with
        sat := 0, clMax := 0, effMax := 0, effMin := none, super := 0, cReplans := 0, cClamps := 0, cArrests := 0
        cAbandoned := 0, clearSt := t.st }) else t).replied p arr 0 (bodyLoopTrace r t).rest)) ∧
    (s.accepts 0x0603 p r arr t → (bodyLoopTrace r t).status = 0 → u8 r.body 0 = 0 → exec (.loopTrace p) s = .next
      (((if t.groups[r.g].loop.lats = [] then t.free.2 else t).modLoop r.g (fun l => { l with latLost := false })).replied p arr 0
        (bodyLoopTrace r t).rest)) ∧
    (s.accepts 0x0603 p r arr t → (bodyLoopTrace r t).status = 0 → u8 r.body 0 = 1 → exec (.loopTrace p) s = .next
      (((if t.groups[r.g].loop.replans = [] then t.free.2 else t).modLoop r.g (fun l => { l with replanLost := false })).replied p arr 0
        (bodyLoopTrace r t).rest))

/-- The PORT and COOL commands complete (R348 to R354, R380, R381). -/
def Obligations.PortCommandsComplete : Prop :=
  ∀ (s t : State) (p : Pkt) (r : Req) (arr : Arrival), r.timed = false →
    (s.accepts 0x0701 p r arr t → (bodyPortConfig r t).status = 0 → exec (.portConfig p) s = .next
      ((if t.sys.ready then (t.store (fun c => { c with port := c.port.set r.g (some r.body) })).linkRelease r.g
        else t.store (fun c => { c with port := c.port.set r.g (some r.body) })).replied p arr 0 [0, 0])) ∧
    (s.accepts 0x0702 p r arr t → (bodyPortAuthorize r t).status = 0 → exec (.portAuthorize p) s = .next
      ((if u8 r.body 4 = 0 then t.portBack r.g 6 else t.modSession r.g (fun e => { e with
        authSt := some t.st, dischOk := bit (u8 r.body 5) 0, proto := if e.bpt && bit (u8 r.body 5) 0 then 4 else e.proto
        account := u16 r.body 6, chargeCeil := u32 r.body 8, dischCeil := u32 r.body 12 })).replied p arr 0 [0, 0])) ∧
    (s.accepts 0x0703 p r arr t → (bodyPortLimit r t).status = 0 → exec (.portLimit p) s = .next
      ((((t.store (fun c => { c with portLimit := c.portLimit.set r.g (some r.body) })).modPort r.g
        (fun x => { x with limits := limitsOfPort r.body, dirty := true })).refreshEff r.g).replied p arr 0 [0, 0])) ∧
    (s.accepts 0x0704 p r arr t → (bodyPortStop r t).status = 0 → exec (.portStop p) s = .next
      ((t.portStop r.g (u8 r.body 0) 1 (1 + u8 r.body 0)).replied p arr 0 [0, 0])) ∧
    (s.accepts 0x0705 p r arr t → exec (.portStatus p) s = .next (t.replied p arr 0 (bodyPortStatus r t).rest)) ∧
    (s.accepts 0x0706 p r arr t → (bodyPortSessionRead r t).status = 0 →
      let u := if (vget t.portRecs r.g {}).recs = [] then t.free.2 else t
      exec (.portSessionRead p) s = .next ((if (t.ports[r.g].session.filter (fun e => u8 r.body 4 == 1 && e.id == u32 r.body 0)).isSome &&
        t.ports[r.g].ending.isNone then u.free.2 else u).replied p arr 0 (bodyPortSessionRead r t).rest)) ∧
    (s.accepts 0x0707 p r arr t → (bodyPortClear r t).status = 0 → exec (.portClear p) s = .next
      (((t.portSet r.g .idle).modPort r.g (fun x => { x with retries := [] })).replied p arr 0 [0, 0])) ∧
    (s.accepts 0x0801 p r arr t → (bodyCoolConfig r t).status = 0 → exec (.coolConfig p) s = .next
      (((t.store (fun c => { c with cool := c.cool.set r.g (some r.body) })).modCool r.g (fun c =>
        (if (t.coolCfg r.g).any (fun o => u8 o 0 == u8 r.body 0) then id else Cool.stop)
          { c.afresh with sens := Vector.replicate 7 {}, freshAt := t.el, stale := false })).replied p arr 0 [0, 0])) ∧
    (s.accepts 0x0802 p r arr t → exec (.coolStatus p) s = .next (t.replied p arr 0 (bodyCoolStatus r t).rest))

/-- The METER commands complete (R431 to R435). -/
def Obligations.MeterCommandsComplete : Prop :=
  ∀ (s t : State) (p : Pkt) (r : Req) (arr : Arrival), r.timed = false →
    (∀ k, s.accepts 0x0901 p r arr t → (bodyMeterConfig r t).status = 0 → meterOfTarget r.target = some k → exec (.meterConfig p) s = .next
      (((t.mrec 3 r.target (crc32c r.body)).modMeter k (fun x => { x with next := some r.body })).replied p arr 0 [0, 0])) ∧
    (s.accepts 0x0901 p r arr t → (bodyMeterConfig r t).status = 0 → meterOfTarget r.target = none →
      let u := (t.mrec 3 r.target (crc32c r.body)).filterRestart (fun l => decide (l < 128) &&
        u8 r.body (4 + l / 8) != (t.mrec 3 r.target (crc32c r.body)).mclkDiv (l / 8))
      exec (.meterConfig p) s = .next (({ u with metro := { u.metro with divs := Vector.ofFn (fun (k : Fin 16) => u8 r.body (4 + k.val)) } } :
        State).replied p arr 0 [0, 0])) ∧
    (s.accepts 0x0902 p r arr t → (bodyMeterCalTable r t).status = 0 →
      let x := (if u32 r.body 4 = 0 then [] else (match t.metro.xfer with | some y => y.2 | none => [])) ++ sub r.body 16 (u16 r.body 8)
      exec (.meterCalTable p) s = .next (if bit (u8 r.body 10) 0 then
          (({ t with metro := { t.metro with xfer := none, calNext := some x } } : State).mrec 4 (u32 r.body 0) (u32 x (x.length - 4))).replied
            p arr 0 ([1, 0] ++ le 4 x.length ++ le 4 (u32 x (x.length - 4)))
        else ({ t with metro := { t.metro with xfer := some (u32 r.body 0, x) } } : State).replied p arr 0
          ([0, 0] ++ le 4 x.length ++ le 4 0))) ∧
    (s.accepts 0x0903 p r arr t → (bodyMeterRead r t).status = 0 → exec (.meterRead p) s = .next
      (t.replied p arr 0 (bodyMeterRead r t).rest)) ∧
    (s.accepts 0x0904 p r arr t → (bodyMeterSeal r t).status = 0 → exec (.meterSeal p) s = .next
      (((({ t with metro := { t.metro with sealed := true, fwCrc := t.nv.fw.metroCrc } } : State).mrec 5 t.calCrc t.nv.fw.metroCrc).raise
        .meterSealed).replied p arr 0 [0, 0]))

/-- The BILL commands complete (R483 to R488). Model's choices in it: entry 61. -/
def Obligations.BillCommandsComplete : Prop :=
  ∀ (s t : State) (p : Pkt) (r : Req) (arr : Arrival), r.timed = false →
    (s.accepts 0x0A01 p r arr t → (bodyBillTariffLoad r t).status = 0 → exec (.billTariffLoad p) s = .next
      (((t.modB (fun x => { x with pricesNext := some (t.activation (u64 r.body 8), r.body) })).mrec 0x41 (u32 r.body 0) (crc32c r.body)).replied
        p arr 0 [0, 0])) ∧
    (s.accepts 0x0A02 p r arr t → (bodyBillCalendarLoad r t).status = 0 → exec (.billCalendarLoad p) s = .next
      (((t.modB (fun x => { x with calNext := some (t.activation (u64 r.body 8), r.body) })).mrec 0x42 (u32 r.body 4) (crc32c r.body)).replied
        p arr 0 [0, 0])) ∧
    (s.accepts 0x0A03 p r arr t → (bodyBillRead r t).status = 0 → exec (.billRead p) s = .next
      (t.replied p arr 0 (bodyBillRead r t).rest)) ∧
    (s.accepts 0x0A04 p r arr t → (bodyBillTokenEnter r t).status = 0 → exec (.billTokenEnter p) s = .next
      ((t.token true (digitsVal (((r.body.take 20).map (fun x => x.toNat)).map (· - 48))) (tIndex r.target) r.via.path 0).2.replied p arr 0
        (bodyBillTokenEnter r t).rest (t.token true (digitsVal (((r.body.take 20).map (fun x => x.toNat)).map (· - 48))) (tIndex r.target)
          r.via.path 0).1.abandoned)) ∧
    (s.accepts 0x0A05 p r arr t → (bodyBillClosePeriod r t).status = 0 → exec (.billClosePeriod p) s = .next
      ((if t.bill.b.opened = (t.st + 99999999) / 100000000 * 100000000 ∧ 1 < t.bill.b.period then t else
        t.modB (fun b => { b with closeAt := b.closeAt ++ [(t.st + 99999999) / 100000000 * 100000000] })).replied p arr 0
          (bodyBillClosePeriod r t).rest)) ∧
    (s.accepts 0x0A06 p r arr t → (bodyBillAccount r t).status = 0 → u8 r.body 0 = 0 → exec (.billAccount p) s = .next
      (((t.modB (fun z => { z with accounts := vset z.accounts (tIndex r.target) { vget z.accounts (tIndex r.target) {} with
        loaded := true, cls := u8 r.body 1, ceil := u32 r.body 4, low := u32 r.body 8 } })).mrec 0x4C (tIndex r.target) 0).replied p arr 0 [0, 0])) ∧
    (s.accepts 0x0A06 p r arr t → (bodyBillAccount r t).status = 0 → u8 r.body 0 = 2 → exec (.billAccount p) s = .next
      (((t.modB (fun z => { z with
        accounts := vset z.accounts (tIndex r.target) ({ life := (vget z.accounts (tIndex r.target) {}).life + 1 } : Account) })).mrec 0x4C (tIndex r.target) 2).replied p arr 0 [0, 0])) ∧
    (s.accepts 0x0A06 p r arr t → (bodyBillAccount r t).status = 0 → u8 r.body 0 = 3 → exec (.billAccount p) s = .next
      ((({ t with bill := { t.bill with keypads := (List.range (u8 r.body 1)).map (fun k =>
        (u8 r.body (4 + 12 * k), u32 r.body (8 + 12 * k), u32 r.body (12 + 12 * k))) } } : State).mrec 0x4C (tIndex r.target) 3).replied
          p arr 0 [0, 0])) ∧
    (s.accepts 0x0A06 p r arr t → (bodyBillAccount r t).status = 0 → u8 r.body 0 = 1 → exec (.billAccount p) s = .next
      (t.replied p arr 0 (bodyBillAccount r t).rest))

/-- The TWIN commands complete (R513, R526 to R528). Model's choices in it: entry 190. -/
def Obligations.TwinCommandsComplete : Prop :=
  ∀ (s t : State) (p : Pkt) (r : Req) (arr : Arrival), r.timed = false →
    (s.accepts 0x0B01 p r arr t → (bodyTwinConfig r t).status = 0 → u8 r.body 0 = 1 → exec (.twinConfig p) s = .next
      ((t.store (fun c => { c with sites := some r.body })).replied p arr 0 [0, 0])) ∧
    (s.accepts 0x0B01 p r arr t → (bodyTwinConfig r t).status = 0 → u8 r.body 0 = 0 → (u8 r.body 1 == 1) = t.paired →
      exec (.twinConfig p) s = .next ((t.store (fun c => { c with twin := some r.body })).replied p arr 0 [0, 0])) ∧
    (s.accepts 0x0B01 p r arr t → (bodyTwinConfig r t).status = 0 → u8 r.body 0 = 0 → (u8 r.body 1 == 1) ≠ t.paired →
      exec (.twinConfig p) s = .next (((t.store (fun c => { c with twin := some r.body })).pairingChange (u8 r.body 1 == 1)).replied p arr 0 [0, 0])) ∧
    (s.accepts 0x0B02 p r arr t → (bodyTwinStatus r t).status = 0 → u8 r.body 8 = 0 → exec (.twinStatus p) s = .next
      (t.replied p arr 0 (bodyTwinStatus r t).rest)) ∧
    (s.accepts 0x0B02 p r arr t → (bodyTwinStatus r t).status = 0 → u8 r.body 8 = 1 → exec (.twinStatus p) s = .next
      ((t.twinRenewal r.body).replied p arr 0 [0, 0])) ∧
    (s.accepts 0x0B02 p r arr t → (bodyTwinStatus r t).status = 0 → u8 r.body 8 = 2 → exec (.twinStatus p) s = .next
      ((t.masterRenewal r.body).replied p arr 0 [0, 0])) ∧
    (s.accepts 0x0B03 p r arr t → (bodyTwinDrill r t).status = 0 → exec (.twinDrill p) s = .next
      ((if u8 r.body 0 = 0 then t.drillStart else t.modTwin (fun x => { x with drillsOff := u8 r.body 0 == 1 })).replied p arr 0
        (List.replicate 6 0 ++ le 8 (if u8 r.body 0 = 0 then t.nextQ0 else 0)))) ∧
    (s.accepts 0x0B04 p r arr t → (bodyTwinYield r t).status = 0 → r.launch = 0 → exec (.twinYield p) s = .next
      ((t.offerHandover t.nextQ0 0).replied p arr 0 (List.replicate 6 0 ++ le 8 t.nextQ0)))

/-- The CAN commands complete (R553 to R556). Model's choices in it: entries 161, 189. -/
def Obligations.CanCommandsComplete : Prop :=
  ∀ (s t : State) (p : Pkt) (r : Req) (arr : Arrival), r.timed = false →
    (s.accepts 0x0C01 p r arr t → (bodyCanConfig r t).status = 0 → u8 r.body 0 = 0 → exec (.canConfig p) s = .next
      (((t.store (fun c => { c with can0 := c.can0.set r.can (some r.body) })).modCan r.can (fun c => { c with cfg0 := some r.body })).replied
        p arr 0 [0, 0])) ∧
    (s.accepts 0x0C01 p r arr t → (bodyCanConfig r t).status = 0 → u8 r.body 0 = 1 → exec (.canConfig p) s = .next
      (((t.store (fun c => { c with can1 := c.can1.set r.can (some r.body) })).modCan r.can (fun c => { c with
        cfg1 := some (t.canStreams r.can), next1 := some (t.st / 50000 + 1, r.body) })).replied p arr 0 [0, 0])) ∧
    (s.accepts 0x0C02 p r arr t → (bodyCanSend r t).status = 0 →
      let remote := bit (u8 r.body 4) 2
      let tagged := bit (u8 r.body 4) 4 && !remote
      let u := if tagged then t.twinTag.2 else t
      let d := if remote then [] else if tagged then (sub r.body 16 (u8 r.body 5)).take (u8 r.body 5 - 4) ++ t.twinTag.1
        else sub r.body 16 (u8 r.body 5)
      let copy := tagged && !u.holdsTwin
      let f : TxFrame := {
        at_ := u.st, copy, ident := (if copy then u.copyIdent (u32 r.body 0) else u32 r.body 0) + 2 ^ 30 * b01 remote, fd := bit (u8 r.body 4) 0, brs := bit (u8 r.body 4) 0 && bit (u8 r.body 4) 1, data := d,
        singleShot := bit (u8 r.body 4) 3, echo := bit (u8 r.body 4) 5, key := 0, rlen := u8 r.body 5,
        expiry := if u16 r.body 6 = 0 then none else some (u.el + 1000000 * u16 r.body 6) }
      exec (.canSend p) s = .next ((u.modCan r.can (fun c => { c with tx2 := c.tx2 ++ [f] })).replied p arr 0
        ([0, 0] ++ le 4 (u.modCan r.can (fun c => { c with tx2 := c.tx2 ++ [f] })).cans[r.can].tx2.length))) ∧
    (s.accepts 0x0C03 p r arr t → (bodyCanMode r t).status = 0 → u8 r.body 0 = 4 → exec (.canMode p) s = .next
      ((t.modCan r.can (fun c => { c with recovering := true })).replied p arr 0 [0, 0])) ∧
    (s.accepts 0x0C03 p r arr t → (bodyCanMode r t).status = 0 → u8 r.body 0 ≠ 4 → exec (.canMode p) s = .next
      (((if bit (u8 r.body 1) 0 then t.store (fun x => { x with canMode := x.canMode.set r.can (some (u8 r.body 0)) }) else t).canAskMode r.can (canModeOf (u8 r.body 0)) 4).replied p arr 0 [0, 0])) ∧
    (s.accepts 0x0C04 p r arr t → exec (.canStatus p) s = .next (t.replied p arr 0 (bodyCanStatus r t).rest))

/-- The FLINK commands complete (R587 to R589). -/
def Obligations.FlinkCommandsComplete : Prop :=
  ∀ (s t : State) (p : Pkt) (r : Req) (arr : Arrival), r.timed = false →
    (s.accepts 0x0D01 p r arr t → (bodyFlinkConfig r t).status = 0 → exec (.flinkConfig p) s = .next
      ((if u8 r.body 0 = 0 then
          (if bit (u8 r.body 1) 0 && !t.flOn then t.modFl (fun x => { x with since := some t.el }) else t).store
            (fun c => { c with flink0 := some r.body })
        else t.store (fun c => { c with flink1 := some r.body })).replied p arr 0 [0, 0])) ∧
    (s.accepts 0x0D02 p r arr t → (bodyFlinkSend r t).status = 0 → exec (.flinkSend p) s = .next
      ((t.modFl (fun x => { x with queue := x.queue ++ [{
        dest := u8 r.body 0, ack := bit (u8 r.body 1) 0, data := r.body.drop 8, seq := none,
        sends := 0, since := (match t.flink.beacon with | some b => b.m | none => 0), sentIn := none, at_ := t.el, sentAt := none, again := false,
        ccp := r.seq }] })).replied p arr 0 (le 2 (t.flink.queue.length + 1) ++ le 4 0))) ∧
    (s.accepts 0x0D03 p r arr t → exec (.flinkStatus p) s = .next (t.replied p arr 0 (bodyFlinkStatus r t).rest))

/-- The QUEUE and EVENT commands complete (R667 to R670). -/
def Obligations.QueueCommandsComplete : Prop :=
  ∀ (s t : State) (p : Pkt) (r : Req) (arr : Arrival), r.timed = false →
    (s.accepts 0x0E01 p r arr t → (bodyQueueConfig r t).status = 0 → exec (.queueConfig p) s = .next
      (((t.store (fun k => { k with queue := k.queue.set r.q (some r.body) })).queueApply r.q r.body).replied p arr 0 [0, 0])) ∧
    (s.accepts 0x0E02 p r arr t → (bodyQueueDropPacket r t).status = 0 → exec (.queueDropPacket p) s = .next
      ((t.putQueue r.q t.queues[r.q].dropCurrent.1).replied p arr 0 ([0, 0] ++ le 4 t.queues[r.q].dropCurrent.2))) ∧
    (s.accepts 0x0E03 p r arr t → exec (.queueStatus p) s = .next (t.replied p arr 0 (bodyQueueStatus r t).rest)) ∧
    (s.accepts 0x0E04 p r arr t → (bodyEventRoute r t).status = 0 → exec (.eventRoute p) s = .next
      ((((List.range (u16 r.body 0)).map (fun j => 4 + 4 * j)).foldl (fun (u : State) (o : Nat) =>
        { u.store (fun c => { c with route := vset c.route (u8 r.body o) (some (u8 r.body (o + 1), u8 r.body (o + 2))) }) with
          evt := { u.evt with routeQ := vset u.evt.routeQ (u8 r.body o) (u8 r.body (o + 1))
                              routeIrq := vset u.evt.routeIrq (u8 r.body o) (u8 r.body (o + 2)) } }) t).replied p arr 0 [0, 0]))

/-- The SW, HK and THERM commands complete (R704 to R706, R726 to R729). Model's choices in it: entries 135, 150. -/
def Obligations.SupplyCommandsComplete : Prop :=
  ∀ (s t : State) (p : Pkt) (r : Req) (arr : Arrival), r.timed = false →
    (s.accepts 0x0F01 p r arr t → (bodySwConfig r t).status = 0 → exec (.swConfig p) s = .next
      ((t.store (fun c => { c with sw := c.sw.set r.ch (some r.body) })).replied p arr 0 [0, 0])) ∧
    (s.accepts 0x0F02 p r arr t → (bodySwSet r t).status = 0 → exec (.swSet p) s = .next
      ((if u8 r.body 0 = 3 then (t.modSw r.ch (fun c => { c with retries := 0, cmd := .off, lost := false })).swState r.ch .off
        else t.swCommand r.ch (if u8 r.body 0 = 0 then .off else if u8 r.body 0 = 1 then .on else .pwm (u16 r.body 2)) (bit (u8 r.body 1) 0)
          false).replied p arr 0 [0, 0])) ∧
    (s.accepts 0x0F03 p r arr t → exec (.swStatus p) s = .next (t.replied p arr 0 (bodySwStatus r t).rest)) ∧
    (s.accepts 0x1001 p r arr t → (bodyHkConfig r t).status = 0 → exec (.hkConfig p) s = .next
      ((((List.range (u8 r.body 0)).map (fun j => 8 + 16 * j)).foldl (fun (u : State) (o : Nat) =>
        if h : u8 r.body o < 64 then
          ({ u with hk := { u.hk with
              inForce := u.hk.inForce.set (u8 r.body o) (u.hkCfg ⟨u8 r.body o, h⟩ (t.st / 20000000))
              since := u.hk.since.set (u8 r.body o) (t.st / 20000000 + 1) } } : State).store
            (fun g => { g with hk := g.hk.set (u8 r.body o) (some (sub r.body o 16)) })
        else u) t).replied p arr 0 [0, 0])) ∧
    (s.accepts 0x1002 p r arr t → (bodyHkRead r t).status = 0 → exec (.hkRead p) s = .next (t.replied p arr 0 (bodyHkRead r t).rest)) ∧
    (s.accepts 0x1003 p r arr t → (bodyThermConfig r t).status = 0 → exec (.thermConfig p) s = .next
      ((t.store (fun c => { c with therm := some r.body })).replied p arr 0 [0, 0])) ∧
    (s.accepts 0x1004 p r arr t → (bodyThermRelease r t).status = 0 → t.nv.tlatch.hw = false →
      (t.thermRelease.replied p arr 0 [0, 0]).nv.tlatch.hw = false → exec (.thermRelease p) s = .next
      (t.thermRelease.replied p arr 0 [0, 0]))

/-- A command that may be timed and is accepted with a launch ST takes a launch slot and answers PENDING: nothing else changes before the
launch (R20, R108, R109, R605). -/
def Obligations.TimedCommandsAreHeld : Prop :=
  ∀ (s t : State) (p : Pkt) (r : Req) (arr : Arrival), r.timed = true →
    ∀ x ∈ [(0x0301, Instr.allocLimit p), (0x0402, .groupEnable p), (0x0403, .groupSetpoint p), (0x0501, .pwmWrite p), (0x0502, .pwmLoadall p),
        (0x0601, .loopParam p), (0x0602, .loopProfile p), (0x0703, .portLimit p), (0x0A05, .billClosePeriod p), (0x0B04, .twinYield p),
        (0x0C02, .canSend p), (0x0F02, .swSet p)],
      s.accepts x.1 p r arr t → (acceptTimed r t).status = 1 →
        ∃ rest, exec x.2 s = .next (({ t with launches := t.launches ++ [{ at_ := r.launch, order := t.launchCount, req := r }]
                                              launchCount := t.launchCount + 1
                                              freeCount := t.freeCount + b01 (r.code = 0x0C02) } : State).replied p arr 1 rest)

/-! ### Events and other rows that are no packet: each statement says, row by row, when the row has its effect and the whole next state
then. -/

/-- Firmware, key and capture rows complete (R115, R629, R631). -/
def Obligations.FirmwareAndCaptureRowsComplete : Prop :=
  ∀ s : State, s.sys.mode = .run →
    (s.nv.fw.trial = true → s.sys.ready = true → s.sys.readyAt + 60000000000 ≤ s.el →
      exec .fwTrialConfirm s = .next ((s.modFw (fun f => { f with trial := false })).raise .fwUpdateDone)) ∧
    (∀ k t, s.ccp.prevKey = some (k, t) → t ≤ s.el →
      exec .ccpKeyOverlapEnd s = .next { s with ccp := { s.ccp with prevKey := none } }) ∧
    (s.paused = true → exec .captureDone s = .next s) ∧
    (s.paused = false → ∃ t, exec .captureDone s = .next t ∧ t.captures.map (·.id) = s.captures.map (·.id) ∧
      (∀ c ∈ t.captures, c.state = 1 → s.st < c.launch + c.post) ∧
      t.evt.held.length = s.evt.held.length + (s.captures.filter (fun c => c.state == 1 && decide (c.launch + c.post ≤ s.st))).length)

/-- The rows of site power allocation that time or a storage converter brings complete (R125, R126, R134 to R142, R148 to R151, R154). Model's
choices in it: entries 90, 92, 139, 177, 225. -/
def Obligations.AllocRowsComplete : Prop :=
  ∀ s : State, s.sys.mode = .run →
    (∀ m, s.sys.ready = true → s.st / 1000000 * 1000000 + 10000 * s.strap.siteId ≤ s.st → s.alloc.reported ≠ some (s.st / 1000000) →
      let u := { s.epochRoll with alloc := { s.epochRoll.alloc with reported := some (s.st / 1000000) } }
      u.masterSite = some m → exec .allocReportSend s = .next ((if m = u.strap.siteId then u.takeReport (u.report (s.st / 1000000)) else u).originate
        0x0304 false false (reportBytes (u.report (s.st / 1000000))) (fun x => x.site == m)).2) ∧
    (s.allocates = true → s.time.quality ≠ .invalid → s.st / 1000000 * 1000000 + 400000 ≤ s.st → s.alloc.ran = none →
      let n := s.st / 1000000
      let lim := (s.limitsAt (n * 1000000)).getD { since := 0, limp := 0, lexp := 0, reserve := 0 }
      let u := { s with alloc := { s.alloc with ran := some n } }
      let reps := u.positions.filterMap (fun p => u.alloc.reports.find? (fun r => r.site == p && r.epoch == n))
      let v := (u.estimates (n * 1000000) reps lim.limp).noteBase (s.st - 10000000) reps
      exec .allocEpochRun s = .next
        (if n * 1000000 < v.alloc.collectUntil ∨ (n + 2) * 1000000 < v.alloc.tPrev + v.alloc.dPrev then
          ({ v with alloc := { v.alloc with wasHeld := true, helds := v.alloc.helds + 1 } }).sendHold n lim
        else v.issueEpoch n lim reps)) ∧
    (s.allocates = true → ∃ t, exec .allocAckWaitEnd s = .next t ∧
      t.alloc.issued.map (fun x => (x.epoch, x.t, x.released)) = s.alloc.issued.map (fun x => (x.epoch, x.t, x.released)) ∧
      ∀ x ∈ t.alloc.issued, x.released = true ∨ x.withheld = true ∨ s.st + x.wait * 1000 < x.t) ∧
    (exec .allocTrailingEffect s = .next ((s.dues.takeWhile (·.isTrail)).foldl (fun u x => match x with
        | .trail _ t => u.trailOne t
        | .lead _ => u) s).freeSlots) ∧
    (2000000 ≤ s.st → s.sys.ready = true → s.sys.readyAt + 2000000 ≤ s.el → s.alloc.checked = none →
      let e := s.st / 1000000 - 2
      let missed := if e ∈ s.alloc.received then 0 else s.alloc.missed + 1
      let u := { s with alloc := { s.alloc with checked := some e, missed := missed, received := s.alloc.received.filter (fun x => decide (e < x)) } }
      exec .allocMissedEpochCheck s = .next (if s.alloc.fallback = true then (if u.sharesMoved then u.reshare else u)
        else if 5 ≤ missed then u.enterFallback else u)) ∧
    (∀ (f : Fin 4) (b : Bytes), s.canCopies = [] → s.feederKind f = 2 → b.length = 16 →
      let u := s.modFeeder f (fun x => { x with
        soc := u16 b 0, sflags := u16 b 2, avCharge := u32 b 4, avDisch := u32 b 8, lastSeq := u16 b 12, statusAt := some s.el })
      exec (.storageStatusFrame f b) s = .next (if bit (u16 b 2) 0 then u.storeStale f else u.modFeeder f (fun x => { x with stale := false, told := false }))) ∧
    (∀ (f : Fin 4) (t : Int), s.feederKind f = 2 → s.sys.ready = true → s.alloc.feeders[f].statusAt = some t → t + 100000000 ≤ s.el →
      s.alloc.feeders[f].told = false →
      exec (.storageStale f) s = .next ((s.modFeeder f (fun x => { x with stale := true, told := true })).raise .storageStale)) ∧
    (∀ f : Fin 4, s.feederKind f = 2 → s.sys.ready = true → s.alloc.feeders[f].statusAt = none → s.alloc.feeders[f].told = false →
      s.sys.readyAt + 100000000 ≤ s.el → s.alloc.feeders[f].cfgAt + 100000000 ≤ s.el →
      exec (.storageStale f) s = .next ((s.modFeeder f (fun x => { x with stale := true, told := true })).raise .storageStale)) ∧
    (∀ f : Fin 4, s.feederKind f = 2 → s.alloc.feeders[f].sentAt + 10000000 ≤ s.el →
      exec (.storageSetpointRepeat f) s = .next (s.sendStore f))

/-- Packets that are no command, the intake that waited, and the launches complete (R110, R111, R592, R597 to R600). Model's choices in it: entries
22, 131, 142. -/
def Obligations.IntakeRowsComplete : Prop :=
  ∀ (s t : State) (p : Pkt) (arr : Arrival), s.sys.mode = .run →
    (s.takes p.via = true → bit p.code 15 = true → (s.received p).intake p = (.isReply, some arr, t) →
      exec (.ccpReplyReceive p) s = .next (t.matchReply p arr.sender)) ∧
    (∀ st always, s.takes p.via = true → s.rejects p = true → (s.received p).intake p = (.answer st always, some arr, t) →
      exec (.ccpPacketRejected p) s = .next (t.refuse p arr st 0xFFFF always)) ∧
    (s.takes p.via = true → s.rejects p = true → (s.received p).intake p = (.badTag, some arr, t) →
      exec (.ccpPacketRejected p) s = .next (t.badTag p arr)) ∧
    (s.takes p.via = true → s.rejects p = true → (s.received p).intake p = (.discard, none, t) →
      exec (.ccpPacketRejected p) s = .next t.countErr) ∧
    (∀ bs, s.takes p.via = true → s.rejects p = true → (s.received p).intake p = (.again bs, some arr, t) →
      exec (.ccpPacketRejected p) s = .next (t.emit (.ccp p.via p.src p.port bs))) ∧
    (∀ bs, s.ccp.stalled = some bs → s.core0Acts = true → s.queues[1].isHigh = false → s.packetFits 1 bs.length = true →
      exec .ccpIntakeResume s = .next (({ s with ccp := { s.ccp with stalled := none } } : State).offerPacket 1 bs).1) ∧
    (s.sys.fault = none → exec .launchExecute s = .next (s.dues.foldl State.dueRun s).freeSlots) ∧
    (∀ f, s.sys.fault = some f → f.thermal = true → exec .launchExecute s = .next (s.dues.foldl State.dueRun s).freeSlots)

/-- The rows of site time that its sources and its timers bring complete (R75, R80 to R104). Model's choices in it: entries 6, 100, 101, 102. -/
def Obligations.TimeRowsComplete : Prop :=
  ∀ s : State, s.sys.mode = .run →
    (∀ (net : Fin 2) (m : PtpMsg), m.domain = u8 s.timeCfg 8 → m.ieee8023 = bit (u8 s.timeCfg 9) (4 + net) →
      (m.site = some s.strap.siteId → m.partner = true) →
      (∀ n set, m.what = .announce n set → exec (.ptpMessageReceive net m) s = .next (s.ptpAnnounce net m.src n set)) ∧
      (∀ set t1 t2 t3 t4, m.what = .sync t1 t2 (.e2e t3 t4) → (vget s.time.srcs net {}).master = some (m.src, set) →
        bit (u8 s.timeCfg 9) net = false → exec (.ptpMessageReceive net m) s = .next (s.sourceOffset net
          (rdiv ((t1 - (t2 - u16 s.timeCfg (28 + 4 * net))) + (t4 - (t3 + u16 s.timeCfg (30 + 4 * net)))) 2))) ∧
      (∀ set t1 t2 p1 p2 p3 p4, m.what = .sync t1 t2 (.p2p p1 p2 p3 p4) → (vget s.time.srcs net {}).master = some (m.src, set) →
        bit (u8 s.timeCfg 9) net = true → exec (.ptpMessageReceive net m) s = .next (s.sourceOffset net
          (t1 + rdiv (((p4 - u16 s.timeCfg (28 + 4 * net)) - (p1 + u16 s.timeCfg (30 + 4 * net))) - (p3 - p2)) 2 -
            (t2 - u16 s.timeCfg (28 + 4 * net))))) ∧
      (∀ t, m.what = .delayReq t → s.ptpMaster net = true → bit (u8 s.timeCfg 9) net = false →
        exec (.ptpMessageReceive net m) s = .next (s.emit (.ptp net m.src (.delayResp (t - u16 s.timeCfg (28 + 4 * net)))))) ∧
      (∀ t, m.what = .pdelayReq t → bit (u8 s.timeCfg 9) net = true →
        exec (.ptpMessageReceive net m) s = .next (s.emit (.ptp net m.src
          (.pdelayResp (t - u16 s.timeCfg (28 + 4 * net)) ((s.st : Int) + u16 s.timeCfg (30 + 4 * net))))))) ∧
    (∀ (net : Fin 2) (m : PtpMsg), m.domain = u8 s.timeCfg 8 → m.ieee8023 = bit (u8 s.timeCfg 9) (4 + net) →
      m.site = some s.strap.siteId → m.partner = false → exec (.ptpMessageReceive net m) s = .next s.siteConflict) ∧
    (∀ k : Fin 5, s.lossMet k = true → (vget s.time.srcs k {}).state ≠ .disabled → (vget s.time.srcs k {}).state ≠ .failed →
      s.time.sel ≠ some k.val →
      exec (.timeSourceLoss k) s = .next (s.modSrc k (fun x => { x with state := .absent, offs := [], bad := 0, master := none }))) ∧
    (∀ k : Fin 5, s.lossMet k = true → (vget s.time.srcs k {}).state ≠ .disabled → (vget s.time.srcs k {}).state ≠ .failed →
      s.time.sel = some k.val → s.time.quality = .locked →
      exec (.timeSourceLoss k) s = .next (withSel (·.reselect) (s.modSrc k (fun x => { x with state := .absent, offs := [], bad := 0, master := none })))) ∧
    (
      let stamp := s.el - i32 s.timeCfg 24
      let miss := match s.time.ppsEdge with | some e => ((stamp - e) + 500000000).toNat / 1000000000 - 1 | none => 0
      exec .ppsEdge s = .next ((((if 3 ≤ miss then s.sourceLost 2 else s).sourceSeen 2).modSrc 2 (fun x => { x with
        offs := if miss = 0 ∧ (s.time.ppsNamed = true ∨ s.time.ppsEdge = none) then x.offs else [] })).modTime
        (fun x => { x with ppsEdge := some stamp, ppsNamed := false }))) ∧
    (∀ utc e, s.time.ppsEdge = some e → s.el < e + 900000000 → s.time.ppsNamed = false →
      exec (.gnssSentence utc true) s = .next
        ((s.modTime (fun x => { x with ppsNamed := true })).sourceOffset 2 ((s.stOfUtc utc : Int) - (e + s.clk.moved)))) ∧
    (∀ utc e, s.time.ppsEdge = some e → s.el < e + 900000000 → s.time.ppsNamed = true →
      exec (.gnssSentence utc true) s = .next s) ∧
    (∀ utc e, s.time.ppsEdge = some e → e + 900000000 ≤ s.el →
      exec (.gnssSentence utc true) s = .next (s.modSrc 2 (fun x => { x with bad := x.bad + 1 }))) ∧
    (∀ utc, exec (.gnssSentence utc false) s = .next (s.modSrc 2 (fun x => { x with bad := x.bad + 1 }))) ∧
    (∀ j k, s.time.sel = some j → s.time.quality = .locked →
      (s.timeList.takeWhile (· != j)).find? (fun n => (vget s.time.srcs n {}).state == .locked &&
        decide ((vget s.time.srcs n {}).lockedAt + 10000000000 ≤ s.el)) = some k →
      exec .sourceDwellExpiry s = .next (withSel (·.selectSource k) s)) ∧
    (∀ w, s.time.pend = some w → w.endAt ≤ s.el → exec .pendingStepExpiry s = .next (withSel (fun u =>
      (((u.failSource w.src).modTime (fun x => { x with pend := none, attack := true })).setQuality .invalid).raise .timeAttack) s)) ∧
    (s.time.quality = .holdover → s.time.pend = none → s.holdLimit ≤ s.errNow →
      exec .holdoverLimitReached s = .next (withSel (·.setQuality .free) s)) ∧
    (s.time.quality ≠ .invalid → s.vbat.powered = true → s.vbat.xtal = true → s.vbat.rtcValid = false →
      exec .rtcCopy s = .next { s with vbat := { s.vbat with rtc := s.st, rtcValid := true } }) ∧
    (s.zoneExpiring = true → s.time.zoneWarnDay ≠ some (s.st / 86400000000000) → exec .zoneTableExpiring s = .next
      ((s.modTime (fun x => { x with zoneWarnDay := some (s.st / 86400000000000) })).raise .zoneTableExpiring))

/-- The rows of the PWM generator complete (R176, R179, R186 to R203). Model's choices in it: entry 42. -/
def Obligations.PwmRowsComplete : Prop :=
  ∀ (s : State) (n : Fin 48) (g : Fin 8), s.sys.mode = .run →
    (∀ t, 40 ≤ t → t ≤ 90 → (n.val * 20000 + 18000) * 2 ^ 32 ≤ s.clk.fix % (1000000 * 2 ^ 32) →
      s.clk.fix % (1000000 * 2 ^ 32) - (n.val * 20000 + 18000) * 2 ^ 32 < 10737418240 →
      let m := forNums (List.range 48) s (fun w k => w.mapTurn k)
      let v := m.modSlot n (fun x => { x with bias := m.hk.bias })
      let u := if n.val = 47 then { v with fabric := { v.fabric with calRound := v.st / 1000000 * 1000000 } } else v
      exec (.delayLineCal n (some t)) s = .next
        ((u.modSlot n (fun x => { x with taps := t, coarse := false, calFailed := false, calSt := u.st, mapWait := 15 })).mapTurn n) ∧
      exec (.delayLineCal n none) s = .next (((u.modSlot n (fun x => { x with
        coarse := true, calFailed := true, calFaults := min 255 (x.calFaults + 1) })).raise (.pwmCalFault n) n).classify (tgt 2 n) 0x23 u.st false)) ∧
    (s.groups[g].pwm.running = true → (s.groups[g].pwm.held = true ∨ s.groups[g].pwm.respace = true) → s.anyArmed g = false →
      s.inLeadWindow g = true → exec (.loadallTakeEffect g) s = .next (s.loadEffect g)) ∧
    (s.slotGroup n = some g → s.groups[g].pwm.running = true → n.val ∈ s.inService g → (s.slot n).armed = true →
      (s.slot n).next ≤ s.fine → s.groups[g].pwm.leadStart ≤ (s.slot n).next → exec (.slotPickup n) s = .next ((s.pickup g n).mapTurn n)) ∧
    (s.slotGroup n = some g → s.groups[g].pwm.running = true → n.val ∈ s.inService g → (s.slot n).armed = false →
      0 < (s.slot n).len → (s.slot n).next ≤ s.fine → exec (.slotPeriodStart n) s = .next
        (((s.modSlot n (fun x => x.begin x.next (64 * x.vals.period) false s.groups[g].pwm.mode (s.tripM g) s.fine)).notePoint g n).mapTurn n)) ∧
    (s.slotGroup n = some g → s.groups[g].pwm.running = true → n.val ∈ s.inService g → s.tripEn g n = true → 0 < (s.slot n).len →
      exec (.tripRegistered n) s = .next
        (if (s.slot n).blanks.any (fun b => decide (b.1 ≤ s.fine - 512) && decide (s.fine - 512 < b.2)) then
          (s.modSlot n (fun x => { x with tripHeld := some (s.fine - 512) })).edgeNote n 5 (s.st - 20)
        else
          match (match (s.slot n).tripHeld with | some h => decide (s.fine - 640 < h) | none => false),
            ((s.slot n).blanks.map (·.2)).filter (fun e => decide (s.fine - 576 < e) && decide (e ≤ s.fine - 512)) with
          | true, e :: l => s.tripActed g n (l.foldl max e) (s.fineStamp (l.foldl max e))
          | _, _ => s.tripActed g n (s.fine - 512) (s.st - 20))) ∧
    (∀ high, s.slotGroup n = some g → s.groups[g].pwm.running = true → n.val ∈ s.inService g → 0 < (s.slot n).len →
      exec (.pwmCompareEdge n high false) s = .next ((s.fallingEdge g n high).mapTurn n) ∧
      (s.pwmAllowed = true → exec (.pwmCompareEdge n high true) s = .next ((s.risingEdge g n high).mapTurn n)))

/-- The rows of the loop engine complete (R226 to R251). Model's choices in it: entries 9, 40, 143, 145. -/
def Obligations.LoopRowsComplete : Prop :=
  ∀ (s : State) (n : Fin 48) (g : Fin 8), s.sys.mode = .run →
    (s.loopActive g = true → s.groups[g].prot.stop = none → s.atMultiple 1000 = true → s.groups[g].loop.stepped ≠ some (s.st / 1000) →
      let u := s.modLoop g (fun l => { l with stepped := some (s.st / 1000) })
      exec (.profileStep g) s = .next (match s.groups[g].loop.next with
        | none => u.profileAdvance g
        | some w => if (u.takeSetPoint g w).2 then (u.takeSetPoint g w).1 else (u.takeSetPoint g w).1.profileAdvance g)) ∧
    (∀ lanes, s.atMultiple 50000 = true → s.fabric.outer ≠ some (s.st / 50000) →
      let u := ({ s with fabric := { s.fabric with outer := some (s.st / 50000) } } : State).feederCycle lanes
      let v := (forFin 8 (forFin 8 u (fun w g => w.groupCycle g lanes)) (fun w p => ((w.portVoltage p lanes).coolCycle p).portCycle p)).epochRoll
      exec (.outerCycle lanes) s = .next
        (forFin 8 v (fun w p => whenDo (w.ports[p].state.live && w.ports[p].dirty) (·.portTarget p) w)).latchWhenDone) ∧
    (∀ code q, s.slotGroup n = some g → s.loopActive g = true → s.groups[g].pwm.running = true → n.val ∈ s.inService g →
      q ∈ (s.slot n).points → q ≤ s.fine → s.fine < q + 64 → s.isRetired (tgt 5 (s.gPhaseLane g n)) = false →
      let c := sampleQ16 code (i16 (s.loopPar g 2) (28 + 2 * s.slotIndex g n)) (i32 (s.loopPar g 2) 16)
      let u := (s.setSat g [(9, c.2)]).modSlot n (fun x => { x with
        current := c.1, valid := true, samples := c.1 :: x.samples
        points := x.points.filter (fun p => decide (s.fine < p)), sampledAt := some s.fine
        jobs := x.jobs ++ [{ stamp := s.st, avail := s.el + 20, current := c.1, valid := true }] })
      exec (.triggeredSample n code true) s = .next
        (u.capNote 2 g s.st (le 8 s.st ++ le 2 (u.gPhaseLane g n) ++ lei 2 code ++ le 1 g ++ [0, 0, 0]))) ∧
    (∀ j l, s.slotGroup n = some g → (s.slot n).jobs = j :: l → s.loopActive g = true → j.avail ≤ s.el → s.el ≤ j.avail + 1800 →
      let d := (innerStage s.groups[g].loop (s.slot n).trim (s.sampleFor g j).1 (s.slot n).integ (s.groups[g].loop.vout.getD 0)
        (s.groups[g].loop.vin.getD 0)).1
      ((∀ q, (s.slot n).pick = some q → q.tick ≠ s.fine) → ∃ t, exec (.innerResultWrite n) s = .next t ∧ (t.slot n).jobs = l ∧
        (t.slot n).fresh = true ∧ (t.slot n).resStamp = j.stamp ∧ (t.slot n).duty = d) ∧
      (∀ q, (s.slot n).pick = some q → q.tick = s.fine → s.groups[g].pwm.running = true → 0 < (s.slot n).len → ∃ t, exec (.innerResultWrite n) s = .next t ∧ (t.slot n).jobs = l ∧
        (t.slot n).fresh = false ∧ (t.slot n).resStamp = j.stamp ∧ (t.slot n).duty = d ∧ (t.slot n).dutyForce = d)) ∧
    (∀ j l, s.slotGroup n = some g → (s.slot n).jobs = j :: l → s.loopActive g = true → j.avail + 1800 < s.el →
      exec (.loopOverrun n) s = .next ((((s.modSlot n (fun x => { x with jobs := l })).modLoop g
        (fun l => { l with cAbandoned := l.cAbandoned + 1 })).raise (.loopOverrun g) n j.stamp).classify (tgt 1 g) 0x22 s.st false)) ∧
    (∀ a b, s.leadWindow g = some (a, b) → s.loopActive g = true → s.groups[g].pwm.running = true → s.anyArmed g = false →
      a ≤ s.fine → s.fine < b → s.fine < a + 65 → exec (.loopLoadall g) s = .next (s.loadAll g false))

/-- HOSTIO and the direct window complete: accesses, status, and what reads latch (R75, R211, R429, R480, R525, R607 to R616, R725). -/
def Obligations.WindowRowsComplete : Prop :=
  ∀ s : State, s.sys.mode = .run →
    exec .hostioStatusRead s = .next { s.emit (.status s.hostStatus) with hio := { s.hio with violSeen := false } } ∧
    exec .hostioInterfaceReset s = .next { s with hio := { s.hio with lastWriteBad := false, violSeen := false } } ∧
    (∀ code, code ≠ 0xEB#8 → code ≠ 0x38#8 → code ≠ 0x05#8 → code ≠ 0x66#8 →
      exec (.hostioUnknownInstruction code) s = .next (s.free.2.violate (s.free.1 % 2 ^ 32) false 5 0 0)) ∧
    (s.hio.serving = false → s.sys.startAt + 50000000 ≤ s.el →
      exec .hostioServingStart s = .next { s with hio := { s.hio with serving := true } }) ∧
    (s.hio.serving = true →
      let u := { s with hio := { s.hio with lastWriteBad := false } }
      ∀ (a : Word) (ws : List Word),
        (∀ c, addressCause a.toNat ws.length = some c →
          exec (.windowWrite a ws false) s = .next (u.violate a.toNat true c ws.length ((ws.map (·.toNat)).headD 0))) ∧
        (addressCause a.toNat ws.length = none → readOnlyAt a.toNat = false →
          exec (.windowWrite a ws false) s = .next
            (State.writeWords (fun c w => w.violate a.toNat true c ws.length ((ws.map (·.toNat)).headD 0)) (ws.map (·.toNat)) a.toNat u))) ∧
    (s.hio.serving = true → ∀ (a : Word) (n : Nat),
      (∀ c, addressCause a.toNat n = some c → exec (.windowRead a n false) s = .next
        ((s.violate a.toNat false c n 0).emit (.window 1 (List.replicate n 0)))) ∧
      (addressCause a.toNat n = none → a.toNat < 0x100000 →
        let r := State.readWords (fun c w => w.violate a.toNat false c n 0) n a.toNat s
        exec (.windowRead a n false) s = .next (r.2.emit (.window 0 r.1)))) ∧
    (s.hio.serving = true →
      exec .timeStloRead s = .next (({ s with time := { s.time with sthi := hiWord s.st } } : State).emit (.window 0 [loWord s.st])) ∧
      exec .sysReadyloRead s = .next
        (({ s with hio := { s.hio with readyHi := hiWord s.sys.readySt } } : State).emit (.window 0 [loWord s.sys.readySt])) ∧
      (∀ g : Fin 8, exec (.pwmRefloRead g) s = .next
        ((s.modPwm g (fun w => { w with refHi := hiWord (s.refBoundary g) })).emit (.window 0 [loWord (s.refBoundary g)]))) ∧
      exec .meterMirloRead s = .next
        (({ s with metro := { s.metro with mirHi := hiWord s.metro.mirrorSt } } : State).emit (.window 0 [loWord s.metro.mirrorSt])) ∧
      exec .billCommitloRead s = .next
        (({ s with bill := { s.bill with commitHi := hiWord s.bill.mirCommit } } : State).emit (.window 0 [loWord s.bill.mirCommit])) ∧
      exec .twinEndloRead s = .next
        ((s.modTwin (fun t => { t with endHi := hiWord s.leaseEndSt })).emit (.window 0 [loWord s.leaseEndSt])) ∧
      exec .thermLatchloRead s = .next
        (({ s with therm := { s.therm with latchHi := hiWord s.nv.tlatch.st } } : State).emit (.window 0 [loWord s.nv.tlatch.st])))

/-- The rows of the pre-start check complete (R260, R264, R265, R273). -/
def Obligations.PrecheckRowsComplete : Prop :=
  ∀ (s : State) (g : Fin 8), s.sys.mode = .run → s.gState g = .precheck →
    (∀ t, s.groups[g].prot.pre = some (.discharging t) → t + 1000000000 ≤ s.el →
      exec (.precheckDischargeTimeout g) s = .next
        (((s.raise (.dischargeTimeout g)).modProt g (fun x => { x with discharge := some t })).toFaulted g 0x31 true)) ∧
    (∀ t v, s.groups[g].prot.pre = some (.settle t) → t + 2000000 ≤ s.el → s.groups[g].loop.vin = some v →
      exec (.precheckSettleEnd g) s = .next (s.modProt g (fun x => { x with
        pre := some (if v < s.vinMin g then .lowVin s.el else .sampling s.el) }))) ∧
    (∀ t, s.groups[g].prot.pre = some (.settle t) → t + 2000000 ≤ s.el → s.groups[g].loop.vin = none →
      exec (.precheckSettleEnd g) s = .next (s.modProt g (fun x => { x with pre := some (.lowVin s.el) }))) ∧
    (∀ t, s.groups[g].prot.pre = some (.lowVin t) → t + 100000000 ≤ s.el →
      exec (.precheckVinTimeout g) s = .next (s.toOff g 0x03)) ∧
    (∀ t l, s.groups[g].prot.pre = some (.sampling t) → t + 100000 ≤ s.el →
      let bad := (s.inService g).filterMap (fun n => (s.midFails g l n).map (fun h => (n, h)))
      exec (.precheckMidSampleEnd g l) s = .next (if bad = [] then s.precheckPassed g 0
        else s.modProt g (fun x => { x with pre := some (.resample (t + 1000000) bad) }))) ∧
    (∀ t l bad, s.groups[g].prot.pre = some (.resample t bad) → t + 100000 ≤ s.el →
      let u := bad.foldl (fun w (x : Nat × Bool) => match w.midFails g l x.1 with
        | none => w
        | some h => if w.shadow then w else w.classify (tgt 2 x.1) (if x.2 || h then 0x01 else 0x02) w.st true) s
      exec (.precheckResample g l) s = .next (if u.gState g = .precheck then u.precheckPassed g 0x40 else u))

/-- The rows that end a stop, a discharge or a suspended burst complete (R260, R267, R270 to R273, R278). Model's choices in it: entry 163. -/
def Obligations.StopRowsComplete : Prop :=
  ∀ (s : State) (g : Fin 8), s.sys.mode = .run →
    (∀ t, s.gState g = .rampdown → s.groups[g].prot.stop = some t → s.groups[g].prot.zeroAt = none → s.groups[g].prot.overrun = false →
      t.bound ≤ s.el →
      let u := ((s.raise (.stopOverrun g)).modProt g (fun x => { x with overrun := true })).setPending g 0x30
      exec (.stopOverrun g) s = .next (if t.cls < 2 then (u.stopGroup g 2 0x30).1
        else (u.groupRecord g u.st 0x30 GState.rampdown.code 2 0xFF 3).groupLow g)) ∧
    (∀ t, s.gState g = .rampdown → s.groups[g].prot.zeroAt = some t → s.groups[g].prot.waitRaised = false → s.contactorClosed g = true →
      t + 200000000 ≤ s.el → exec (.contactorWait g) s = .next
        ((s.raise (.groupContactorWait g)).modProt g (fun x => { x with waitRaised := true }))) ∧
    (∀ t, s.gState g = .discharge → s.groups[g].prot.below60 = some t → t + 10000000 ≤ s.el →
      exec (.dischargeComplete g) s = .next (match s.groups[g].prot.pending with
        | some c => (s.toFaulted g c false).latchWhenDone
        | none => (s.toOff g s.groups[g].prot.cause).latchWhenDone)) ∧
    (∀ t, s.gState g = .discharge → s.groups[g].prot.discharge = some t → s.groups[g].prot.below60 = none → t + 1000000000 ≤ s.el →
      exec (.dischargeTimeout g) s = .next ((s.raise (.dischargeTimeout g)).toFaulted g 0x31 true).latchWhenDone) ∧
    (∀ t, s.gState g = .faulted → s.groups[g].prot.discharge = some t → t + 5000000000 ≤ s.el →
      exec (.dischargeChannelLimit g) s = .next ((s.dischargeChannel g false).modProt g (fun x => { x with discharge := none }))) ∧
    (∀ (n : Fin 48) (t : Int) (stamp : Nat), (s.slot n).burst = some (t, stamp) → t + 1000000 ≤ s.el →
      exec (.tripBurstCharge n) s = .next ((s.modSlot n (fun x => { x with burst := none })).classify (tgt 2 n) 0x12 stamp false))

/-- The rows of the pilot and of the vehicle link complete (R307 to R319, R339). Model's choices in it: entries 44, 224. -/
def Obligations.VehicleLinkRowsComplete : Prop :=
  ∀ (s : State) (p : Fin 8), s.sys.mode = .run →
    (∀ l v, (s.nv.cfg.port[p]).isSome = true → s.atMultiple 1000000 = true → s.ports[p].pilotWin ≠ some (s.st / 1000000) →
      1000000 ≤ s.st → s.plateaus p ((s.st / 1000000 - 1) * 1000000) l = (some v, none) →
      let lv := classifyLevel (portThrs (s.pCfg p)) s.ports[p].level v
      let run := if s.ports[p].pilotWin = some (s.st / 1000000 - 1) then
          (match s.ports[p].levelRun with | some (a, n) => if a = lv then n + 1 else 1 | none => 1)
        else 1
      ∃ t, exec (.pilotPeriodClassify p l) s = .next t ∧ t.ports[p].pilotWin = some (s.st / 1000000) ∧ t.ports[p].high = v ∧
        t.ports[p].levelRun = some (lv, run) ∧ t.ports[p].level = if 3 ≤ run then lv else s.ports[p].level) ∧
    (∀ f, s.ports[p].linkOn = true → s.sys.ready = true → u8 (s.pCfg p) 1 = 0 → (f.len = 0 ∨ 60 ≤ f.len ∧ f.len ≤ 1514) →
      let u := s.modPort p (fun x => { x with
        heardAt := s.el, modemReady := bit f.flags 0, modemMore := bit f.flags 1, modemOverflow := bit f.flags 2, linkSeq := f.seq % 256 })
      (f.what = .other → exec (.vlFrameReceive p f) s = .next u) ∧
      (∀ d, f.what = .matched (some d) → s.ports[p].matching = true → exec (.vlFrameReceive p f) s = .next
        (if d ≤ s.attenMax p then u.modPort p (fun x => { x with matching := false, phys := true, link := true }) else u.linkDown p .matching)) ∧
      (f.what = .connect none → s.ports[p].phys = true → s.ports[p].tcp = false → exec (.vlFrameReceive p f) s = .next
        (u.modPort p (fun y => { y with tcp := true, tls := false, link := true }))) ∧
      (∀ h, f.what = .connect (some h) → s.ports[p].phys = true → s.ports[p].tcp = false → h.offered = true → s.nv.fw.secc.isSome = true →
        exec (.vlFrameReceive p f) s = .next (u.modPort p (fun y => { y with tcp := true, tls := true, link := true })))) ∧
    (∀ f, s.ports[p].linkOn = true → s.sys.ready = true → u8 (s.pCfg p) 1 ≠ 0 → f.chunk = 64 → f.what = .other →
      exec (.vlFrameReceive p f) s = .next (s.modPort p (fun x => { x with heardAt := s.el, phys := true, link := x.link || !x.phys }))) ∧
    (s.ports[p].phys = true → s.sys.ready = true → exec (.sdpRequest p) s = .next ((s.overLink p).tell p .sdp [15118])) ∧
    (s.ports[p].link = true → s.ports[p].tcp = true →
      let u := (s.modPort p (fun y => { y with link := false, tcp := false, tls := false })).raise (.vlLinkDown p)
      exec (.vlLinkDown { port := p, cause := .tcp }) s = .next (if s.ports[p].state = .idle then u else u.portStop p 1 4 5)) ∧
    (s.ports[p].link = true →
      let u := (s.modPort p (fun y => y.unlinked)).raise (.vlLinkDown p)
      let v := (if s.ports[p].state = .idle then u else u.portStop p 1 4 5).rematch p
      (s.ports[p].linkOn = true → s.ports[p].heardAt + 100000000 ≤ s.el → exec (.vlLinkDown { port := p, cause := .silence }) s = .next v) ∧
      (u8 (s.pCfg p) 1 = 0 → s.ports[p].phys = true → exec (.vlLinkDown { port := p, cause := .matching }) s = .next v)) ∧
    (∀ u : Setup, s.ports[p].state = .connected → s.ports[p].tcp = true → s.ports[p].session = none → s.portServed p = true →
      let w := s.overLink p
      let c := (u.offers.find? (s.protoOn p)).getD 0
      let e : Session := {
        id := s.sessionSeq + 1, proto := min c 3, bpt := decide (c = 4), setupSt := s.st, e0 := s.portEnergy p
        flags := b01 (s.time.quality != .locked) + 4 * b01 s.metro.stopped.isSome, evccid := u.evccid.take 6, vmax := u.vmax, imax := u.imax
        seqAt := s.el }
      let v := ({ w with sessionSeq := s.sessionSeq + 1 } : State).modPort p (fun y => { y with
        session := some e, lastId := s.sessionSeq + 1, ending := none })
      exec (.vehicleSessionSetup p u) s = .next (if c = 0 then (v.tell p .failed []).portEndSession p 15 true
        else (v.tell p .ok [(min c 3 : Nat)]).portSet p .negotiating)) ∧
    (s.ports[p].session.isSome = true → s.ports[p].tcp = true →
      let u := ((s.overLink p).heard p).portStop p 0 0 0
      exec (.vehicleStop p) s = .next (match s.ports[p].state with
        | .precharge | .charging | .discharging => (u.tell p .stopping (u.measured p)).modPort p (fun y => { y with telling := false })
        | .rampdown => u.loopAnswer p
        | _ => u))

/-- The requests of a charging session complete: each is heard over the link, and is answered by its own rule or, in a stop, with
the answer of the stop (R316, R321 to R336, R340, R342). Model's choices in it: entries 43, 157, 168, 220, 260. -/
def Obligations.ChargingRowsComplete : Prop :=
  ∀ (s : State) (p : Fin 8) (e : Session), s.sys.mode = .run → s.ports[p].session = some e → s.ports[p].tcp = true →
    let w := s.overLink p
    let o := w.heard p
    (∀ u : Ident, s.ports[p].state = .negotiating → e.authSt = none → e.authAsked = none →
      let pnc := u.plugAndCharge && bit (u8 (s.pCfg p) 2) 4 && decide (3 ≤ e.proto)
      (pnc = true → contractOk (u.chain.take 3800) s.st = true) → exec (.vehicleAuthorizationReq p u) s = .next (((o.modSession p (fun x => { x with
        authAsked := some s.el, ident := b01 pnc, emaid := if pnc then u.emaid.take 32 else []
        chain := if pnc then some (u.chain.take 3800) else none })).raise (.authRequest p) e.id (b01 pnc)).tell p .ongoing [])) ∧
    (∀ u : Ident, s.ports[p].state = .negotiating → e.authSt = none → e.authAsked = none → u.plugAndCharge = true →
      bit (u8 (s.pCfg p) 2) 4 = true → 3 ≤ e.proto → contractOk (u.chain.take 3800) s.st = false →
      exec (.vehicleAuthorizationReq p u) s = .next (o.tell p .failed [])) ∧
    (∀ u : Ident, s.ports[p].state = .negotiating → e.authSt = none → e.authAsked.isSome = true →
      exec (.vehicleAuthorizationReq p u) s = .next (o.tell p .ongoing [])) ∧
    (∀ u : Ident, s.ports[p].state = .negotiating → e.authSt.isSome = true →
      exec (.vehicleAuthorizationReq p u) s = .next (o.tell p .finished [b01 e.dischOk])) ∧
    (s.ports[p].state = .negotiating → e.authSt.isSome = true → e.check = .none →
      let v := w.checkVolts p
      let q := w.portVolts p v
      exec (.vehicleCableCheckReq p) s = .next (if q.2 then
          (((q.1.heard p).modSession p (fun x => { x with check := .rising, checkVolts := v, checkWaits := true })).tell p .ongoing [])
        else q.1.tell p .ongoing [])) ∧
    (s.ports[p].state = .negotiating → e.authSt.isSome = true → e.check = .rising ∨ (∃ t, e.check = .holding t) ∨ (∃ b, e.check = .ending b) →
      exec (.vehicleCableCheckReq p) s = .next (o.tell p .ongoing [])) ∧
    (s.ports[p].state = .negotiating → e.authSt.isSome = true → e.check = .passed →
      exec (.vehicleCableCheckReq p) s = .next (o.tell p .finished [1])) ∧
    (∀ v, s.ports[p].state = .precharge ∨ (s.ports[p].state = .negotiating ∧ e.check = .passed ∧ e.authSt.isSome = true) →
      let a := w.modSession p (fun x => { x with vTarget := v })
      let b := if s.ports[p].state = .negotiating then a.portSet p .precharge else a
      let q := b.portVolts p v
      let r := q.1.modSession p (fun x => { x with refused := !q.2 && (x.refused || q.1.latched) })
      exec (.vehiclePrechargeReq p v) s = .next (if s.ports[p].ending.isSome then (b.heard p).loopAnswer p
        else if q.2 then (r.heard p).tell p .measured (r.measured p) else r.tell p .ongoing [])) ∧
    (∀ iReq iDreq vTarget vMin, s.ports[p].state = .precharge → s.ports[p].ending = none →
      let u := o.modSession p (fun x => { x with iReq, iDreq, vTarget, vMin, demandAt := s.el, started := true })
      let probe := (u.modPort p (fun y => { y with state := .charging })).refreshEff p
      (s.ports[p].closed = true → s.ports[p].cdrive = true → exec (.vehiclePowerDeliveryStart p iReq iDreq vTarget vMin) s = .next
        (((u.portSet p (if (probe.portCurrent p).1 < 0 then .discharging else .charging)).refreshEff p).tell p .ok [])) ∧
      (s.ports[p].closed = false ∨ s.ports[p].cdrive = false →
        exec (.vehiclePowerDeliveryStart p iReq iDreq vTarget vMin) s = .next (u.tell p .ongoing []))) ∧
    (∀ iReq iDreq vTarget vMin, s.ports[p].state = .charging ∨ s.ports[p].state = .discharging →
      exec (.vehicleCurrentDemand p iReq iDreq vTarget vMin) s = .next ((((o.modSession p (fun x => { x with
        iReq, iDreq, vTarget, vMin, demandAt := s.el })).modPort p (fun y => { y with dirty := true })).refreshEff p).loopAnswer p)) ∧
    (s.ports[p].state = .rampdown ∨ (s.ports[p].state = .discharge ∧ s.ports[p].telling = true) →
      (∀ u, exec (.vehicleAuthorizationReq p u) s = .next (o.loopAnswer p)) ∧
      exec (.vehicleCableCheckReq p) s = .next (o.loopAnswer p) ∧
      (∀ v, exec (.vehiclePrechargeReq p v) s = .next (o.loopAnswer p)) ∧
      (∀ iReq iDreq vTarget vMin, exec (.vehiclePowerDeliveryStart p iReq iDreq vTarget vMin) s = .next (o.loopAnswer p)) ∧
      (∀ iReq iDreq vTarget vMin, exec (.vehicleCurrentDemand p iReq iDreq vTarget vMin) s = .next (o.loopAnswer p)))

/-- The rows of the session's timeouts, of the contactor and of the cooling loop complete (R322, R327, R331, R333, R336, R339, R342,
R357, R371 to R374). Model's choices in it: entries 50, 51. -/
def Obligations.ContactorAndCoolingRowsComplete : Prop :=
  ∀ (s : State) (p : Fin 8), s.sys.mode = .run →
    (∀ e t, s.ports[p].session = some e → e.check = .holding t → t + 1000000 * s.pField p 24 2000 ≤ s.el →
      exec (.cableCheckEnd p) s = .next (s.checkEnds p true)) ∧
    (∀ e t, s.ports[p].session = some e → s.ports[p].state = .negotiating → e.authAsked = some t → e.authSt = none →
      t + 1000000000 * s.pField p 28 55 ≤ s.el → exec (.authTimeout p) s = .next (s.portBack p 7)) ∧
    (∀ e, s.ports[p].session = some e → s.ports[p].state = .charging ∨ s.ports[p].state = .discharging →
      e.demandAt + 1000000 * s.pField p 30 1000 ≤ s.el → exec (.demandGap p) s = .next (s.portStop p 1 14 6)) ∧
    (∀ e, s.ports[p].session = some e → s.ports[p].state = .negotiating ∨ s.ports[p].state = .precharge → s.ports[p].ending = none →
      e.seqAt + 1000000000 * s.pField p 32 60 ≤ s.el →
      exec (.seqTimeout p) s = .next (s.portStop p 0 (if s.latched && e.refused then 13 else 5) 7)) ∧
    (s.ports[p].cFailed = false → s.ports[p].cAt + 100000000 ≤ s.el → s.ports[p].cdrive = true → s.ports[p].closed = false →
      exec (.contactorFail p) s = .next (((s.modPort p (fun y => { y with cFailed := true })).raise (.contactorFail p) 0).portStop p 0 11 7)) ∧
    (s.ports[p].cFailed = false → s.ports[p].cAt + 100000000 ≤ s.el → s.ports[p].cdrive = false → s.ports[p].reported = true →
      exec (.contactorFail p) s = .next ((s.modPort p (fun y => { y with cFailed := true })).raise (.contactorFail p) 1)) ∧
    (s.ports[p].cWeld = false → s.ports[p].cdrive = false → s.ports[p].reported = true → s.ports[p].cAt + 1000000000 ≤ s.el →
      exec (.contactorWeld p) s = .next (((s.modPort p (fun y => { y with cWeld := true })).raise (.contactorWeld p)).portFault p 11)) ∧
    exec (.flowPulse p) s = .next (s.modCool p (fun c => { c with
      pulses := s.el :: c.pulses.filter (fun t => decide (s.el - 250000000 ≤ t)) })) ∧
    ((s.coolCfg p).isSome = true → s.cools[p].stale = false → s.cools[p].freshAt + 60000000 ≤ s.el →
      exec (.coolCapStale p) s = .next (((s.modCool p (fun c => { c with stale := true })).raise (.coolCapStale p)).coolUncooled p)) ∧
    (∀ t, s.cools[p].startWin = true → s.cools[p].pumpAt = some t → t + 2000000000 ≤ s.el →
      exec (.pumpStartWindowEnd p) s = .next (s.modCool p (fun c => { c with startWin := false, lowRun := 0 }))) ∧
    (∀ b t, s.coolCfg p = some b → s.cools[p].leftAt = some t → s.cools[p].active = true → t + 1000000000 * u16 b 58 ≤ s.el →
      s.coolActive p b = false → exec (.coolRunOnEnd p) s = .next (s.coolChannels p b))

/-- The rows of the metrology partition complete (R62, R385, R387, R393). Model's choices in it: entries 60, 62. -/
def Obligations.MeteringRowsComplete : Prop :=
  ∀ s : State,
    (∀ bits, s.sys.mode = .run → s.sampleDue = true →
      (s.metro.stopped = none → ∃ t, exec (.meterSample bits) s = .next t ∧ t.metro.lastSt = some s.st ∧
        t.metro.index = s.metro.index + 1 ∧ t.metro.lastFix = s.clk.fix ∧ t.clk = s.clk) ∧
      (s.metro.stopped.isSome = true → exec (.meterSample bits) s = .next s.sampleNoted)) ∧
    (s.sys.mode = .run → s.metro.stopped = none →
      let good := match s.metro.restartAt with | some t => decide (s.el < t + 10000000000) | none => false
      exec .metrologyCoreFault s = .next (((s.mrec 0x20 s.metro.restarts (b01 good)).raise .meterRestart).metroStop good) ∧
      ∀ c, s.bill.newest = some c → ∃ t, exec .metrologyCoreFault s = .next t ∧ t.metro.stopped = some (s.el, good) ∧
        ∀ m : Fin 12, t.metro.meters[m].tot = c.data.totals[m]) ∧
    (∀ t, s.sys.mode = .run → s.metro.stopped = some (t, false) → t + 100000000 ≤ s.el → bit s.fabric.clkLost 3 = false →
      let u := s.metersFresh
      let v : State := { u with
        metro := { u.metro with stopped := none, restartAt := some u.el, restarts := u.metro.restarts + 1 }
        bill := { u.bill with restartDue := true, restartCause := 1, cut := u.cutNow } }
      exec .metrologyRestart s = .next ((v.mrec 0x20 v.metro.restarts 0).raise .meterRestart)) ∧
    (s.sys.mode = .run → s.metro.stopped = none → s.bill.mirWin ≠ some (s.st / 100000000) →
      ∃ t, exec .mirrorRefresh s = .next t ∧ t.metro.mirrorSt = s.st ∧ (∀ k, t.metro.mirror[k] = s.meterMirror k) ∧
        (∀ k : Fin 144, t.metro.mirLanes[k] = s.laneMirror k) ∧ t.metro.mirCalCrc = s.calCrc ∧ t.bill.mir = s.billShown ∧
        t.bill.mirUnregs = s.bill.unregs ∧ t.bill.mirSnaps = s.bill.snaps ∧
        t.bill.mirWin = some (s.st / 100000000) ∧ t.bill.b = s.bill.b ∧ t.evt = s.evt) ∧
    (∀ level elapsed, s.vbat.powered = true → (if s.vbat.sealSample.1 = level then min 10 (s.vbat.sealSample.2 + 1) else 1) < 10 →
      exec (.sealNChange { high := level, elapsed }) s = .next { s with vbat := { s.vbat with
        sealSample := (level, if s.vbat.sealSample.1 = level then min 10 (s.vbat.sealSample.2 + 1) else 1) } }) ∧
    (∀ elapsed, s.vbat.powered = true → s.vbat.sealSample.1 = false → 9 ≤ s.vbat.sealSample.2 → s.vbat.sealLevel = true →
      let t := if s.sys.mode = .run then s.st else (s.vbat.now elapsed).getD 0
      let u := { s with vbat := { s.vbat with
        sealSample := (false, 10), sealLevel := false, sealNew := s.vbat.sealNew ++ [(t, false)], tamperHeld := false } }
      exec (.sealNChange { high := false, elapsed }) s = .next (if s.sys.mode = .run then (u.sealRecord true).tamperRecords false else u))

/-- The rows of billing complete (R439, R446, R457 to R460, R472, R475). -/
def Obligations.BillingRowsComplete : Prop :=
  ∀ s : State, s.sys.mode = .run → s.metro.stopped = none →
    (s.bill.restartDue = false → s.sys.brownout = false → s.bill.regSec ≠ some (s.st / 1000000000) →
      s.bookedBefore (s.st / 1000000000 * 1000000000) = true →
      let u := (s.billAdvance (s.st / 1000000000 * 1000000000)).billCommit 0
      exec .journalCommitRegular s = .next { u with bill := { u.bill with regSec := some (s.st / 1000000000) } }) ∧
    (s.bill.restartDue = false → s.sys.brownout = true → s.bill.gaspAt = none →
      let u := s.closeBooks.billCommit 2
      exec .lastGaspRepeat s = .next { u with bill := { u.bill with gaspAt := some u.el } }) ∧
    (s.bill.restartDue = true → exec .billingRestart s = .next s.billRestart) ∧
    (∀ c, s.dfltNow = some c → s.bill.b.dflt = none →
      let u := ((s.mrec 0x45 c).raise .billDefaultTariff).modB (fun b => { b with dflt := some c })
      exec .defaultTariffHoldExpiry s = .next { u with bill := { u.bill with
        qual := ((u.st, u.time.quality, u.vbat.qualitySt) :: u.bill.qual.filter (fun q => decide (q.1 < u.st))).take 8 } }) ∧
    (∀ n ident b, s.canCopies = [] → exec (.keypadTokenFrame n ident b) s = .next (s.keypad n ident b)) ∧
    (∃ t, exec .tokenLockoutEnd s = .next t ∧ t.bill.b = s.bill.b ∧ t.evt = s.evt ∧
      (∀ x ∈ t.bill.paths, ∀ u, x.2.2.lockedTo = some u → s.el < u) ∧
      t.bill.paths.map (fun x => (x.1, x.2.1)) = s.bill.paths.map (fun x => (x.1, x.2.1)))

/-- The rows of the image and of the partner's reports complete (R495 to R498, R517). Model's choices in it: entries 70, 110. -/
def Obligations.ImageRowsComplete : Prop :=
  ∀ s : State, s.sys.mode = .run → s.paired = true →
    (2000 ≤ s.st % 50000 → s.twin.captured ≠ some (s.st / 50000) →
      let u := s.modTwin (fun t => { t with
        captured := some (s.st / 50000)
        imgRecs := ((List.finRange 8).filter (fun g => s.gState g != .off)).map (fun g => (g.val, s.faultRec g 0 0 0 0 0xFF 0xFF 3)) })
      let v := u.modTwin (fun t => { t with
        ownHash := some (s.st / 50000, u.ownHashNow), hashOrder := u.launchCount, seqAt := u.seqCtr })
      let sec := v.launchesSent
      let w := v.modTwin (fun t => { t with sentOrder := match sec.getLast? with | some l => l.order + 1 | none => t.sentOrder })
      (s.twin.state ≠ .active → exec .imageCapture s = .next v) ∧
      (s.twin.state = .active → exec .imageCapture s = .next ((if w.twin.hinge then
          (w.imageFrames (s.st / 50000) u.ownHashNow sec).foldl (fun s m => s.emit (.image m)) w
        else w).modTwin (fun t => { t with clsfNew := [], flNew := [] })))) ∧
    (s.isOther = true → 30000 ≤ s.st % 50000 → s.twin.deadline ≠ some (s.st / 50000) → s.twin.state = .waiting →
      s.twin.handover = none → (∀ h, s.twin.gotEnd ≠ some (s.st / 50000, h)) →
      exec .imageDeadline s = .next (s.modTwin (fun t => { t with deadline := some (s.st / 50000) }))) ∧
    (∀ h, s.isOther = true → 30000 ≤ s.st % 50000 → s.twin.deadline ≠ some (s.st / 50000) → s.twin.handover = none →
      s.twin.gotEnd = some (s.st / 50000, h) → s.image.cycle = s.st / 50000 → s.sys.fault = none →
      let u := (s.modTwin (fun t => { t with deadline := some (s.st / 50000) })).twinCompare s.image.cfgCrc s.image.roles
      let v := ((u.modTwin (fun t => { t with lateRun := 0 })).modTwin (fun t => { t with
        goodImages := t.goodImages + 1, mismatchRun := 0 })).imageAdopt.recordFlush (fun _ => true)
      u.twin.state = .standby → u.twin.gotEnd = some (s.st / 50000, h) → u.twin.ownHash = some (s.st / 50000, h) → v.twin.state = .standby →
      exec .imageDeadline s = .next (v.hingeSend .report ([(v.twin.state.code : Int), v.cfgCrc, v.roles, 0] ++
        (match v.twin.ownHash with | some x => [(x.1 : Int), x.2] | none => [])))) ∧
    (s.twin.selfTest.isSome = true →
      exec (.twinSelfTestDone true) s = .next (s.modTwin (fun t => { t with selfTest := none }))) ∧
    (s.twin.selfTest.isSome = true → s.twin.state = .standby ∨ s.twin.state = .syncing →
      exec (.twinSelfTestDone false) s = .next ((s.modTwin (fun t => { t with selfTest := none })).twinEnter .unfit)) ∧
    (∀ r : PartnerReport, s.twin.hinge = true → r.hash = none → r.unfit = false →
      exec (.partnerReportReceive r) s = .next ((s.modTwin (fun t => { t with
        partner := r.state, heard := true, hingeAt := some s.el })).twinCompare r.cfgCrc r.roles))

/-- The rows of the twin lease complete (R501 to R507, R509). Model's choices in it: entries 111, 182, 183. -/
def Obligations.TwinLeaseRowsComplete : Prop :=
  ∀ s : State, s.sys.mode = .run → s.paired = true →
    (s.twin.state = .active → s.twin.renewedAt + 500000 ≤ s.el → s.twin.leaseEnd = none → s.holdsTwin = true → s.sys.fault = none →
      exec .leaseRenewal s = .next s.twinRenew) ∧
    (∀ e, s.twin.state = .active → s.twin.renewedAt + 500000 ≤ s.el → s.twin.leaseEnd = some e → s.el < e →
      s.holdsTwin = true → s.sys.fault = none → exec .leaseRenewal s = .next s.twinRenew) ∧
    (∀ b, b.length = 32 → u8 b 9 = s.strap.siteId → u8 b 10 ≠ b01 s.strap.twinB → u8 b 8 = 1 → s.twin.state ≠ .waiting →
      exec (.leaseRenewalReceive b) s = .next (s.modTwin (fun t => { t with
        seenEnd := some (match t.seenEnd with | some x => max x (s.elOf (u64 b 16)) | none => s.elOf (u64 b 16))
        partnerGen := u32 b 12, partner := .active, partition := false, posMaster := bit (u8 b 11) 3
        gen := if t.state = .active then t.gen else u32 b 12
        renewedInCarry := t.renewedInCarry || t.state == .carry }))) ∧
    (∀ e, s.twin.state = .active → s.twin.leaseEnd = some e → e ≤ s.el →
      exec .leaseExpiry s = .next s.release) ∧
    (∀ d, s.handoverDue = some d → s.rolesDiffer = false → s.sys.fault = none → s.sys.ready = true → exec .leaseTaken s = .next (s.handoverTake d)) ∧
    (∀ l, s.handoverDue = none → s.waitEnd = some l → l + 200000 ≤ s.el → s.rolesDiffer = false → s.sys.fault = none → s.sys.ready = true →
      exec .leaseTaken s = .next (if s.twin.leaseIn then
          (if s.twin.partition then s else (s.modTwin (fun t => { t with partition := true })).raise .twinPartition)
        else s.twinTake)) ∧
    (s.twin.leaseIn = false → s.twin.leaseOut = true → s.twin.state = .active →
      let u := (s.modTwin (fun t => { t with leaseIn := true })).raise .twinDualAssert
      exec (.leaseInChange true) s = .next (if s.twin.gen < s.twin.partnerGen ∨ (s.twin.gen = s.twin.partnerGen ∧ s.strap.twinB = true)
        then u.release else u)) ∧
    (s.twin.leaseIn = true → s.twin.state = .syncing →
      exec (.leaseInChange false) s = .next ((((((s.modTwin (fun t => { t with leaseIn := false })).modTwin (fun t => { t with
        partition := false })).modTwin (fun t => { t with renewedInCarry := false, carryLow := true })).drillBroken).twinEnter .carry).swApplyAll
          false)) ∧
    (s.twin.leaseIn = true → s.handoverNow = false → s.twin.state = .standby →
      exec (.leaseInChange false) s = .next ((((((s.modTwin (fun t => { t with leaseIn := false })).modTwin (fun t => { t with
        partition := false })).modTwin (fun t => { t with renewedInCarry := false, carryLow := false })).drillBroken).twinEnter .carry).swApplyAll
          false))

/-- The rows of the hinge link complete (R494 to R497, R500, R511). -/
def Obligations.HingeRowsComplete : Prop :=
  ∀ s : State, s.sys.mode = .run →
    (∀ mask, 2 ≤ popcount 4 mask → s.paired = true → s.twin.hinge = false →
      exec (.hingeUp mask) s = .next ((((s.modTwin (fun t => { t with
        lanes := Vector.ofFn (fun (i : Fin 4) => ({ up := bit mask i.val, trainedAt := s.el } : HingeLane)), hingeAt := some s.el })).modTwin
          (fun t => { t with hinge := true, heard := false, knownOrder := 0, partnerRun := 0 })).raise .hingeUp).srcInit false)) ∧
    (∀ mask, s.twin.hinge = true → s.twin.handover = none →
      let u := s.modTwin (fun t => { t with
        lanes := Vector.ofFn (fun (i : Fin 4) => ({ t.lanes[i] with up := t.lanes[i].up && bit mask i.val } : HingeLane)) })
      (∀ h, s.twin.hingeAt = some h → h + 50000 ≤ s.el) ∨ u.hingeLanes < 2 →
      (s.paired = true → s.twin.state = .active → exec (.hingeDown mask) s = .next ((((u.modTwin
        (fun t => { t with hinge := false })).raise .hingeDown).sourceLost 3).srcInit false)) ∧
      (s.twin.state = .standby →
        ∃ t, exec (.hingeDown mask) s = .next t ∧ t.twin.hinge = false ∧ t.twin.goodImages = 0 ∧ t.twin.state = .syncing)) ∧
    (∀ (n : Fin 4) (ok : Bool), s.twin.lanes[n].up = false → s.twin.lanes[n].trainedAt + 10000000 ≤ s.el →
      exec (.hingeLaneRetrain n ok) s = .next (s.modTwin (fun t => { t with lanes := t.lanes.set n { up := ok, trainedAt := s.el } }))) ∧
    (∀ off, s.paired = true → s.twin.hinge = true → s.twin.state = .active → s.holdsTwin = true → s.twin.timeMsgAt = none →
      exec (.hingeTimeMessage off) s = .next ((s.modTwin (fun t => { t with timeMsgAt := some s.el })).hingeSend .time [(s.st : Int)])) ∧
    (∀ off, s.paired = true → s.twin.hinge = true → s.twin.state ≠ .active →
      exec (.hingeTimeMessage off) s = .next ((s.modTwin (fun t => { t with hingeAt := some s.el })).sourceOffset 3 off)) ∧
    exec .sharedSeqStore s = .next { s with nv := { s.nv with seqStored := s.seqCtr } } ∧
    (s.isActive = true → s.twin.partner = .standby → exec .selfDiagFail s = .next s.release) ∧
    (s.isActive = true → s.twin.partner ≠ .standby → exec .selfDiagFail s = .next
      ((forFin 8 (s.modTwin (fun t => { t with diagFail := true })) (fun u g => u.modProt g (fun x => { x with permit := false }))).raise
        .selfDiagFail)) ∧
    (∀ q, s.isOther = true → s.twin.hinge = true →
      exec (.imageFrameReceive (.segment q)) s = .next { s.modTwin (fun t => { t with hingeAt := some s.el }) with image := s.image.take q }) ∧
    (∀ c h, s.isOther = true → s.twin.hinge = true → s.st < c * 50000 + 30000 →
      exec (.imageFrameReceive (.fin c h)) s = .next ((s.modTwin (fun t => { t with hingeAt := some s.el })).modTwin
        (fun t => { t with gotEnd := some (c, h) })))

/-- The rows of the handover, its drills and the site-master lease complete (R513 to R516, R520 to R523). Model's choices in it: entries 185, 186. -/
def Obligations.HandoverRowsComplete : Prop :=
  ∀ s : State, s.sys.mode = .run →
    (∀ (q0 : Nat) (d : Fin 3), s.isOther = true → s.twin.hinge = true →
      let u := s.modTwin (fun t => { t with hingeAt := some s.el })
      exec (.handoverOffer q0 d) s = .next (if s.twin.state = .standby ∧ 3 ≤ s.twin.goodImages then
        (u.modTwin (fun t => { t with handover := some { giver := false, q0, accepted := true, switched := false, drill := d } })).hingeSend
          .answer [1] else (if d.val = 2 then u.drillBroken else u).hingeSend .answer [0])) ∧
    (∀ h, s.twin.handover = some h → h.giver = true → h.accepted = false →
      exec (.handoverAnswerReceive true) s = .next (if s.el < h.at_ + 10000 then
        s.modTwin (fun t => { t with handover := some { h with accepted := true } }) else s.handoverRefused) ∧
      exec (.handoverAnswerReceive false) s = .next s.handoverRefused) ∧
    (∀ h, s.twin.handover = some h → h.giver = true → h.switched = false → s.isActive = true → h.q0 + 32000 ≤ s.st → s.sys.fault = none → s.dues = [] →
      exec .handoverSwitch s = .next (if h.accepted then (s.modTwin (fun t => { t with handover := some { h with switched := true } })).setLeaseOut
        false else s.handoverRefused)) ∧
    (∀ h, s.twin.handover = some h → h.giver = true → h.switched = true → h.q0 + 34000 ≤ s.st → s.twin.leaseIn = false →
      s.sys.fault = none → exec .handoverCheck s = .next (s.setLeaseOut true).markUnfit.handoverFail) ∧
    (∀ h, s.twin.handover = some h → h.giver = true → h.switched = true → h.q0 + 34000 ≤ s.st → s.twin.leaseIn = true →
      s.sys.fault = none → ∃ t, exec .handoverCheck s = .next t ∧ t.twin.handover = none ∧ t.twin.state = .standby ∧ t.master.held = false) ∧
    (s.isActive = true → s.twin.partner = .standby → s.twin.drillsOff = false → s.twin.drillDue = none → s.drillFalls = true →
      exec .leaseDrillStart s = .next (if s.handingOver || (List.finRange 8).any (fun g => s.gState g == .precheck || s.gState g == .softstart)
        then s.modTwin (fun t => { t with drillDue := some s.el }) else s.drillStart)) ∧
    (∀ t ok, s.twin.drillHold = some (t, ok) → s.isActive = true → s.twin.handover = none → t ≤ s.el →
      exec .leaseDrillHoldEnd s = .next ((s.modTwin (fun x => { x with drillHold := none })).offerHandover s.nextQ0 2)) ∧
    (s.mastering = true → s.contends = true → s.holdsTwin = true → s.sys.fault = none → s.master.renewedAt = none →
      exec .siteMasterRenewal s = .next s.masterRenew) ∧
    (∀ b, b.length = 32 → u8 b 8 = 2 → s.sys.fault = none → s.mastering = true → u8 b 9 < s.strap.siteId → s.el < s.elOf (u64 b 16) →
      exec (.siteMasterRenewalReceive b) s = .next (({ s with master := { s.master with
        held := false, conflict := true, holder := some (u8 b 9), holderEnd := some (s.elOf (u64 b 16))
        gen := max s.master.gen (u32 b 12) } } : State).raise .siteMasterConflict)) ∧
    (∀ b, b.length = 32 → u8 b 8 = 2 → s.sys.fault = none → s.mastering = false →
      let u := s.modTwin (fun t => { t with posMaster := u8 b 9 == s.strap.siteId })
      let last := match s.master.holderEnd with | some x => decide (x ≤ s.elOf (u64 b 16)) | none => true
      exec (.siteMasterRenewalReceive b) s = .next { u with master := { u.master with
        held := false, holder := if last then some (u8 b 9) else s.master.holder
        holderEnd := if last then some (s.elOf (u64 b 16)) else s.master.holderEnd, gen := max u.master.gen (u32 b 12) } }) ∧
    (∀ e, s.sys.ready = true → s.contends = true → s.holdsTwin = true → s.sys.fault = none → s.mastering = false →
      s.masterSite = none → s.master.holderEnd = some e → e + 1200000 + s.strap.siteId * 1000000 ≤ s.el →
      exec .siteMasterTaken s = .next (s.masterTake (·.allocTake)))

/-- The rows of the CAN controllers complete (R535, R538, R543 to R550). Model's choices in it: entries 120, 162. -/
def Obligations.CanRowsComplete : Prop :=
  ∀ (s : State) (n : Fin 8), s.sys.mode = .run →
    (∀ f, s.cans[n].mode ≠ .off → s.cans[n].state ≠ .busOff → s.cans[n].rxErr ≤ 127 →
      let u := (s.modCan n (fun c => { c with rx := c.rx + 1, leeRx := if s.sys.lee then c.leeRx + 1 else c.leeRx })).canFrame n f false
      exec (.canFrameReceive n f) s = .next ((if f.lost then u.canSpoiled n f.sof else u).canCounters n s.cans[n].txErr
        (s.cans[n].rxErr - 1))) ∧
    (∀ f, s.cans[n].mode ≠ .off → s.cans[n].state ≠ .busOff → 127 < s.cans[n].rxErr →
      let u := (s.modCan n (fun c => { c with rx := c.rx + 1, leeRx := if s.sys.lee then c.leeRx + 1 else c.leeRx })).canFrame n f false
      let v := if f.lost then u.canSpoiled n f.sof else u
      exec (.canFrameReceive n f) s = .next (v.free.2.canCounters n s.cans[n].txErr (119 + v.free.1 % 9))) ∧
    (∀ e, s.cans[n].mode = .normal → s.cans[n].state ≠ .busOff → (e.own = true → s.sys.fault = none) → e.type ≠ 0 → bit (u8 (s.canCfg n) 1) 3 = false →
      let u := (s.modCan n (fun c => { c with errType := e.type % 8, errField := e.field % 8 })).canCounters n e.tec e.rxe
      bit (u8 (u.canCfg n) 1) 3 = false →
      exec (.canError n e) s = .next (if e.own then u.canSpoiled n (e.sof.getD u.st) else u)) ∧
    (s.cans[n].state = .busOff → s.cans[n].recovering = true → s.isRetired (tgt 6 n) = false → bit s.fabric.clkLost 5 = false →
      exec (.canRecovered n) s = .next (((s.modCan n (fun c => { c with
        state := .active, recovering := false, txErr := 0, rxErr := 0, warn := false })).canStateRec n s.cans[n].mode .busOff 1).raise
          (.canRecovered n))) ∧
    (∀ m cause, s.cans[n].next = some (m, cause) → exec (.canModeApply n) s = .next (s.canSetMode n m cause)) ∧
    (∀ sof k f, s.canOffered n sof = some (k, f) → s.cans[n].mode = .normal → s.cans[n].state ≠ .busOff → s.sys.fault = none → f.echo = false →
      bit (u8 (s.canCfg n) 1) 4 = false →
      let u := (s.modCan n (fun c => { (c.popClass k) with tx := c.tx + 1 })).emit (.can n f.ident f.fd f.brs f.data)
      exec (.canTxComplete n sof none) s = .next (u.canCounters n (s.cans[n].txErr - 1) u.cans[n].rxErr)) ∧
    (
      let due := fun (f : TxFrame) => match f.expiry with | some t => decide (t ≤ s.el) | none => false
      exec (.canTxExpired n) s = .next (((s.cans[n].tx0 ++ s.cans[n].tx1 ++ s.cans[n].tx2).filter due).foldl (fun u f => u.canExpired n f.ident)
        (s.modCan n (fun c => { c with tx0 := c.tx0.filter (fun f => !due f), tx1 := c.tx1.filter (fun f => !due f)
                                       tx2 := c.tx2.filter (fun f => !due f) })))) ∧
    (∀ (k : Fin 8) ident, k.val < u8 (s.canStreams n) 1 → 0 < u8 (s.canStreams n) (9 + 8 * k.val) →
      s.st / 50000 % u8 (s.canStreams n) (9 + 8 * k.val) = 0 → u8 (s.canStreams n) (10 + 8 * k.val) * 1000 ≤ s.st % 50000 →
      (k.val, s.st / 50000) ∉ s.cans[n].sent →
      let u := s.modCan n (fun x => { x with sent := (k.val, s.st / 50000) :: x.sent.filter (fun y => y.1 != k.val) })
      u.streamIdent (u32 (s.canStreams n) (12 + 8 * k.val)) = some ident →
      exec (.setpointStreamFrame n k) s = .next (u.twinTag.2.canQueue0 n {
        ident, fd := u.canFabricFd n, brs := u.canFabricFd n
        data := u.streamData (Fin.ofNat 8 (u8 (s.canStreams n) (8 + 8 * k.val))) (u.canFabricFd n) ++ u.twinTag.1
        singleShot := false, echo := false, expiry := none, key := k } true))

/-- The rows of the feeder link complete (R567 to R583). Model's choices in it: entries 80, 82, 83, 84. -/
def Obligations.FlinkRowsComplete : Prop :=
  ∀ s : State, s.sys.mode = .run →
    (∀ z q m fr, s.flCoord = true → s.flMay = true → s.nextBeacon = (z, q, m, fr) → z ≤ s.st → s.st < z + 3 → s.flink.yielding = false →
      let d := le 8 z ++ le 4 q ++ le 2 m ++ le 1 (b01 fr) ++ le 1 s.time.quality.code ++ sub s.flPlan 2 2 ++ sub s.flPlan 1 1 ++
        List.replicate 5 0 ++ sub s.flPlan 8 32
      let x := s.flPeer 255
      let h := s.flHeader 0 0 255 56 x.nextSeq 0 0
      let u := (s.emit (.flink (h ++ d) (beaconSymbols h d))).setPeer { x with nextSeq := (x.nextSeq + 1) % 2 ^ 32 }
      exec .beaconTransmit s = .next ((u.modFl (fun y => { y with own := some (z, q, m), tx := y.tx + 1 })).takeBeacon
        (beaconOf u.flAddr d) z)) ∧
    (∀ f, s.flHdrOk f = true → u8 f.hdr 0 = 0 → f.crcOk = true → s.flink.yielding = false → s.flCoord = false → u8 f.hdr 4 ≠ s.flAddr →
      let b := beaconOf (u8 f.hdr 4) f.payload
      let u := s.takeBeacon b (f.start - u16 s.flCfg 8)
      let v := (u.setPeer { u.flPeer (u8 f.hdr 4) with snr := f.snr :: (u.flPeer (u8 f.hdr 4)).snr }).modFl
        (fun x => { x with offset := (b.z : Int) - ((f.start - u16 s.flCfg 8 : Nat)) })
      exec (.beaconReceive f) s = .next (if b.quality = 3 then v else v.sourceOffset 4 ((b.z : Int) - ((f.start - u16 s.flCfg 8 : Nat))))) ∧
    (∀ a b, s.flink.beaconAt = some a → s.flink.since = some b → s.flOn = true → s.flink.lostRaised = false →
      max a b + 4 * ((s.flCycle).getD (4 * s.nominalP) : Nat) ≤ s.el →
      exec .flinkBeaconLost s = .next ((s.modFl (fun x => { x with lostRaised := true, mute := true })).raise .flinkBeaconLost)) ∧
    (∀ b, s.flink.beaconAt = none → s.flink.since = some b → s.flOn = true → s.flink.lostRaised = false →
      b + 4 * ((s.flCycle).getD (4 * s.nominalP) : Nat) ≤ s.el →
      exec .flinkBeaconLost s = .next ((s.modFl (fun x => { x with lostRaised := true, mute := true })).raise .flinkBeaconLost)) ∧
    (∀ f, s.flHdrOk f = true → u8 f.hdr 0 = 1 → u8 f.hdr 5 = s.flAddr → s.flAddr ≠ 255 → f.crcOk = true → f.energy = [] →
      let v := s.modFl (fun x => { x with erase := x.erase + 0#32 })
      let w := v.setPeer { v.flPeer (u8 f.hdr 4) with snr := f.snr :: (v.flPeer (u8 f.hdr 4)).snr }
      let y := w.setPeer { (w.flPeer (u8 f.hdr 4)).note (u32 f.hdr 8) true with ackDue := true }
      (w.flPeer (u8 f.hdr 4)).got = [] → (w.flPeer (u8 f.hdr 4)).high = none →
      exec (.flinkFrameReceive f) s = .next ((y.setPeer { y.flPeer (u8 f.hdr 4) with fails := 0 }).flRecord f 0)) ∧
    (∀ f, s.flHdrOk f = true → u8 f.hdr 0 = 2 → u8 f.hdr 5 = s.flAddr → f.crcOk = true → s.flink.queue = [] →
      exec (.linkReportReceive f) s = .next (s.setPeer { s.flPeer (u8 f.hdr 4) with
        snr := f.snr :: (s.flPeer (u8 f.hdr 4)).snr, txRobust := bit (u8 f.payload 0) 0, txDegraded := u8 f.payload 2 % 64
        txMap := if bit (u8 f.payload 0) 1 then some (mapOf (u8 f.payload 1) f.payload 16) else (s.flPeer (u8 f.hdr 4)).txMap })) ∧
    (∀ t e b x, s.slotNow = some (t, e) → s.flink.beacon = some b → s.flMay = true → s.flink.mute = false → s.flink.slotAt = none →
      s.sys.readySt < t → s.paused = false → s.flink.queue = [x] → x.again = true →
      frameFits b ((s.modFl (fun y => { y with slotAt := some t })).flPeer x.dest) t e x.data.length = true →
      exec .flinkSlotTransmit s = .next (((s.modFl (fun y => { y with slotAt := some t })).modFl (fun y => { y with defer := false })).flSendData x)) ∧
    (∀ c, s.flCycle = some c → s.holdsTwin = true →
      let late := fun (f : FlTx) => !f.again && (match f.sentAt with | some t => decide (t + 2 * c ≤ s.el) | none => false)
      let u := s.modFl (fun x => { x with queue := x.queue.filter (fun f => f.ack || !late f) })
      let v := (u.flink.queue.filter (fun f => late f && decide (3 ≤ f.sends))).foldl (fun w f => w.flFail f) u
      exec .flinkAckTimeout s = .next (v.modFl (fun x => { x with
        queue := x.queue.map (fun (f : FlTx) => if late f then { f with again := true } else f) }))) ∧
    (s.holdsTwin = true →
      let c : Nat := (s.flCycle).getD (4 * s.nominalP)
      exec .flinkSendTimeout s = .next ((s.flink.queue.filter (fun f => f.seq.isNone && decide (f.at_ + 4 * c ≤ s.el))).foldl
        (fun u f => u.flFail f) s)) ∧
    exec .degradedWindowEnd s = .next (s.modFl (fun x => { x with
      peers := x.peers.map (fun (p : Peer) => { p with degraded := p.degraded.filter (fun d => decide (s.el < d.2.2)) }) }))

/-- Datagrams, fragments and Ethernet links complete (R591, R635, R664). Model's choices in it: entry 199. -/
def Obligations.SiteRowsComplete : Prop :=
  ∀ s : State, s.sys.mode = .run →
    (∀ d : Dgram, s.siteStopped = false → d.frag = none → d.dstPort = s.ccpPort → s.sys.startAt + 10000000 ≤ s.el →
      exec (.siteDatagramReceive d) s = .next (s.take { via := viaOf d.net, src := d.addr, port := d.srcPort, raw := d.data })) ∧
    (∀ d : Dgram, s.siteStopped = false → d.frag = none → d.dstPort ≠ s.ccpPort → d.dstPort ≠ 319 → d.dstPort ≠ 320 → s.sys.lee = true →
      exec (.siteDatagramReceive d) s = .next (s.offerRx ⟨10 + d.net.val, by omega⟩
        (le 8 (s.siteStamp d.net d.stamp) ++ le 2 d.srcPort ++ le 2 d.dstPort ++ le 16 d.addr ++ d.data)).1) ∧
    (∀ (d : Dgram) (id off total : Nat), s.siteStopped = false → d.frag = some (id, off, total) →
      exec (.siteDatagramReceive d) s = .next (s.fragment d id off total)) ∧
    (∀ (net : Fin 2) (id : Nat), exec (.fragmentReassemblyTimeout net id) s = .next { s with ccp := { s.ccp with
      frags := s.ccp.frags.filter (fun e => !(e.net == net.val && e.id == id && decide (e.since + 10000000 ≤ s.el))) } }) ∧
    (∀ net : Fin 2, s.sys.ethUp[net] = false → exec (.ethLinkChange net true) s = .next
      (({ s with sys := { s.sys with ethUp := s.sys.ethUp.set net true } } : State).raise (.ethLinkUp net))) ∧
    (∀ net : Fin 2, s.sys.ethUp[net] = true → exec (.ethLinkChange net false) s = .next
      (({ s with sys := { s.sys with ethUp := s.sys.ethUp.set net false } } : State).raise (.ethLinkDown net)))

/-- The ports of the queues and what time does to a queue complete (R634, R638 to R648). Model's choices in it: entries 137, 308. -/
def Obligations.QueueRowsComplete : Prop :=
  ∀ (s : State) (q : Fin 128), s.sys.mode = .run →
    (
      let u : State := { s with hio := { s.hio with lastWriteBad := false } }
      s.hio.serving = true →
      (∀ w : Word, s.queues[q].cfg.hostWrites = true → s.queues[q].cfg.mode = .stream →
        exec (.queueQdataWrite q w) s = .next
          (State.offerItems s.queues[q].cfg.itemBytes (4 / s.queues[q].cfg.itemBytes) u q (le 4 w.toNat))) ∧
      (∀ (w : Word) (o : HostOpen), s.queues[q].cfg.hostWrites = true → s.queues[q].cfg.mode = .packet → s.queues[q].open_ = some o →
        let y : Queue := { s.queues[q] with open_ := some { o with bytes := o.bytes ++ le 4 w.toNat, words := o.words + 1 } }
        y.sramFill ≤ y.room (s.isRetired (tgt 7 q)) → exec (.queueQdataWrite q w) s = .next (u.putQueue q y)) ∧
      (∀ w : Word, s.queues[q].cfg.hostWrites = true → s.queues[q].cfg.mode = .packet → s.queues[q].open_ = none →
        exec (.queueQdataWrite q w) s = .next ((u.setQueue q { s.queues[q] with
          drops := s.queues[q].drops + BitVec.ofNat 32 (4 / s.queues[q].cfg.itemBytes), lastDrop := s.st }).violate
            (qaddr q 0) true 4 1 w.toNat)) ∧
      (∀ v : Word, v.toNat % 2 = 1 → s.queues[q].cfg.hostWrites = true → s.queues[q].cfg.mode = .packet → s.queues[q].open_ = none →
        s.queueFits q 1 = true →
        exec (.queueQopenWrite q v) s = .next (u.putQueue q { s.queues[q] with open_ := some { bytes := [], words := 0, since := s.el } })) ∧
      (∀ (v : Word) (o : HostOpen), s.queues[q].cfg.hostWrites = true → s.queues[q].open_ = some o → 0 < v.toNat % 65536 →
        v.toNat % 65536 ≤ 4 * o.words → 4 * o.words < v.toNat % 65536 + 4 →
        exec (.queueQcloseWrite q v) s = .next
          (u.putQueue q (s.queues[q].closeOpen (packetWords (o.bytes.take (v.toNat % 65536)))))) ∧
      (∀ v : Word, v.toNat % 2 = 1 → s.queues[q].cfg.firmware = false → s.queues[q].cfg.mode = .packet →
        exec (.queueQctlDrop q v) s = .next (u.putQueue q s.queues[q].dropCurrent.1)) ∧
      (s.queues[q].cfg.firmware = false → exec (.queueQrloRead q) s = .next ((s.qrlo q).2.emit (.window 0 [(s.qrlo q).1]))) ∧
      (s.queues[q].cfg.firmware = true → exec (.queueQrloRead q) s = .next
        ((s.violate (qaddr q 0x1000) false 4 1 0).emit (.window 1 [0])))) ∧
    (∀ o : HostOpen, s.queues[q].open_ = some o → o.since + 100000000 ≤ s.el →
      let u := s.dropOpen q
      exec (.hostPacketTimeout q) s = .next (u.free.2.free.2.free.2.violate (u.free.1 % 2 ^ 32) true 4 (u.free.2.free.1 % 2 ^ 16)
        (u.free.2.free.2.free.1 % 2 ^ 32))) ∧
    (s.paused = false → s.queues[q].cfg.mode ≠ .packet → s.isRetired (tgt 7 q) = false →
      exec (.spillMove q) s = .next (s.putQueue q s.queues[q].spillPage)) ∧
    (∀ b, s.sys.ready = true → s.queues[q].boot = true → 2 ≤ q.val → s.queues[q].isEmpty = true → s.nv.cfg.queue[q] = some b →
      exec (.queueLayoutSwitch q) s = .next (s.putQueue q { s.queues[q] with cfg := qcfgOf b, boot := false, inCur := false }))

/-- The event router's rows complete (R659 to R663). -/
def Obligations.EventRowsComplete : Prop :=
  ∀ s : State, s.sys.mode = .run →
    (∃ t, exec .eventRelease s = .next t ∧
      t = (sortBy EvRec.before (s.evt.held.filter (fun r => decide (r.from_ + 200 ≤ s.el)))).foldl (fun u r => u.releaseOne r)
        { s with evt := { s.evt with held := s.evt.held.filter (fun r => decide (s.el < r.from_ + 200)) } }) ∧
    (∀ src : Fin 256, (vget s.evt.flood src {}).held ≠ 0 → (vget s.evt.flood src {}).win ≠ s.st / 1000000 →
      exec (.eventFlood src) s = .next ((s.modFlood src (fun f => { f with held := 0, flag := true })).raise .eventFlood src
        (vget s.evt.flood src {}).held)) ∧
    (∀ (src : Fin 256) (v : Word), s.hio.serving = true → isSource src = true → s.eventQueue (v.toNat % 256) = true →
      exec (.evtRouteWrite src v) s = .next { s with
        hio := { s.hio with lastWriteBad := false }
        evt := { s.evt with routeQ := vset s.evt.routeQ src (v.toNat % 256), routeIrq := vset s.evt.routeIrq src (v.toNat / 256 % 16) } }) ∧
    (∀ (src : Fin 256) (v : Word), s.hio.serving = true → isSource src = false →
      exec (.evtRouteWrite src v) s = .next { s with hio := { s.hio with lastWriteBad := false } }) ∧
    (∀ (k : Fin 4) (w : Fin 8) (v : Word), s.hio.serving = true → s.evt.pendTick ≠ s.el →
      exec (.evtPendWrite k w v) s = .next { s with
        hio := { s.hio with lastWriteBad := false }
        evt := { s.evt with pend := s.evt.pend.set k (s.evt.pend[k] - (s.evt.pend[k] &&& (v.toNat * 2 ^ (32 * w.val)))) } }) ∧
    (∀ (k : Fin 4) (w : Fin 8) (v : Word), s.hio.serving = true → s.evt.pendTick = s.el →
      let ones := v.toNat * 2 ^ (32 * w.val)
      exec (.evtPendWrite k w v) s = .next { s with
        hio := { s.hio with lastWriteBad := false }
        evt := { s.evt with pend := s.evt.pend.set k (s.evt.pend[k] - (s.evt.pend[k] &&& (ones - (ones &&& s.evt.pendNew[k])))) } })

/-- The rows of a switch channel complete (R679 to R691). D3 acts while VS stands, whatever D1 does. Model's choices in it: entries 133, 151. -/
def Obligations.SwitchRowsComplete : Prop :=
  ∀ (s : State) (n : Fin 24), s.seqr.vsLow = false →
    (s.sws[n].state = .on ∨ s.sws[n].state = .inrush →
      exec (.swLimiting n) s = .next ((s.modSw n (fun c => { c with current := s.swLimit n })).swState n .limiting)) ∧
    (∀ cur, s.sws[n].state = .limiting → cur < s.swLimit n →
      exec (.swLimitingEnd n cur) s = .next ((s.modSw n (fun c => { c with current := cur })).swState n
        (if s.sws[n].windowEnd.isSome then .inrush else .on))) ∧
    (s.sws[n].conducts = true → s.latched = false →
      let count := (if s.sws[n].onAt + 1000000000 ≤ s.el then 0 else s.sws[n].retries) + 1
      let above := decide (u8 (s.swCfg n) 2 < count)
      let u := (s.swTurnOff n (if above then .latched else .awaitRetry)).modSw n (fun c => { c with
        retries := count, offAt := (s.swTurnOff n (if above then .latched else .awaitRetry)).el
        protSt := (s.swTurnOff n (if above then .latched else .awaitRetry)).st, faults := c.faults + 1 })
      exec (.swOvertemp n) s = .next (u.told (fun v =>
        let w := (v.raise (.swOvertemp n) count s.sws[n].current).swCharge n
        if above then w.raise (.swRetryExhausted n) count else w))) ∧
    (∀ temp, s.sws[n].state = .awaitRetry → s.latched = false → temp ≤ 1500 → s.sws[n].offAt + 1000000 * u16 (s.swCfg n) 12 ≤ s.el →
      s.sys.fault = none → s.sws[n].cmd = .off ∨ s.driving = false →
      exec (.swRetry n temp) s = .next ((s.modSw n (fun c => { c with temp := temp })).swState n .off)) ∧
    (∀ temp, s.sws[n].state = .awaitRetry → s.latched = false → temp ≤ 1500 → s.sws[n].offAt + 1000000 * u16 (s.swCfg n) 12 ≤ s.el →
      s.sys.fault = none → s.sws[n].cmd ≠ .off →
      let u := s.modSw n (fun c => { c with temp := temp })
      u.driving = true → u.budgetFigure ≤ u.budget.limit →
      exec (.swRetry n temp) s = .next (((u.modSw n (fun c => { c with onAt := u.el })).swTurnOn n true).told
        (fun v => v.raise (.swRetry n) s.sws[n].retries))) ∧
    (∀ e, s.sws[n].clamping = true ∨ s.sws[n].clampDue = true → s.sws[n].onAfterClamp = false →
      exec (.clampComplete n e) s = .next ((s.modSw n (fun c => { c with
        clamping := false, clampDue := false, onAfterClamp := false, clampE := e, clampSum := c.clampSum + e })).told
          (fun v => if (clampRating n).1 < e then (v.raise (.swClampOverload n) e 0).swCharge n else v))) ∧
    (∀ e, s.sws[n].windowEnd = some e → s.sws[n].slew = false → e ≤ s.el → s.sws[n].state = .inrush →
      exec (.inrushWindowEnd n) s = .next ((s.modSw n (fun c => { c with windowEnd := none, current := c.current })).swState n .on)) ∧
    (s.sws[n].slew = true → s.sws[n].state = .inrush →
      exec (.slewTurnOnComplete n true) s = .next ((s.modSw n (fun c => { c with slew := false, windowEnd := none })).swState n .on))

/-- The rows of open loads, clamp power, the conduction budget and restores complete (R687, R688, R691 to R699). Model's choices in it: entry 151. -/
def Obligations.BudgetRowsComplete : Prop :=
  ∀ s : State, s.sys.mode = .run →
    (s.budget.lastClamp ≠ some (s.st / 1000000000) →
      let u := forFin 24 s (fun v (n : Fin 24) =>
        let w := v.modSw n (fun c => { c with clampSum := 0 })
        if (clampRating n).2 < v.sws[n].clampSum then (w.raise (.swClampOverload n) v.sws[n].clampSum 1).swCharge n else w)
      exec .clampPowerWindow s = .next { u with budget := { u.budget with lastClamp := some (s.st / 1000000000) } }) ∧
    (∀ (n : Fin 24) (mv : Int), s.openLoadOn n = true → s.sws[n].openLoad = false → (u16 (s.swCfg n) 16 : Int) < mv →
      exec (.swOpenLoad n mv) s = .next
        ((s.modSw n (fun c => { c with openLoad := true, vout := mv / 10 })).raise (.swOpenLoad n) (par mv))) ∧
    (∀ n : Fin 24, s.sws[n].openLoad = true → exec (.swOpenLoadCleared n) s = .next
      ((s.modSw n (fun c => { c with openLoad := false })).raise (.swOpenLoadCleared n))) ∧
    (∀ m : Vector SwMeas 24, s.budget.lastWin ≠ some (s.st / 100000000) →
      let sum := ((List.finRange 24).map (fun (n : Fin 24) => if s.sws[n].state = .limiting then 0 else m[n].mw)).sum
      let u : State := { s with
        sws := Vector.ofFn (fun (n : Fin 24) => { s.sws[n] with
          means := (m[n].mw :: s.sws[n].means).take 10, current := m[n].cur, vout := m[n].vout, temp := m[n].temp })
        budget := { s.budget with lastWin := some (s.st / 100000000), sums := (sum :: s.budget.sums).take 10 } }
      let l := u.shedList 24 u.budgetFigure ((List.finRange 24).filter (fun n => (u.swRank n).isSome))
      exec (.budgetWindow m) s = .next (if l.isEmpty then u
        else l.foldl (fun v n => v.shedOne n) (if u.budget.episode then u
          else ({ u with budget := { u.budget with episode := true } }).raise .budgetExceeded u.budgetFigure l.length))) ∧
    (s.budget.lastRestore ≠ some (s.st / 1000000000) → (∀ n : Fin 24, s.sws[n].state ≠ .shed) → s.budget.episode = false →
      exec .budgetRestore s = .next { s with budget := { s.budget with lastRestore := some (s.st / 1000000000) } }) ∧
    (∀ n : Fin 24, s.budget.lastRestore ≠ some (s.st / 1000000000) →
      let u : State := { s with budget := { s.budget with lastRestore := some (s.st / 1000000000) } }
      minBy u.swRestoreKey ((List.finRange 24).filter (fun (k : Fin 24) => s.sws[k].state == .shed)) = some n →
      s.latched = false → s.driving = true → s.sys.fault = none → (u.budgetFigure + s.sws[n].shedMean) * 100 ≤ s.budget.limit * 85 → s.budget.episode = false →
      (((u.swState n .off).swTurnOn n true).raise (.swRestored n)).budget.episode = false →
      exec .budgetRestore s = .next (((u.swState n .off).swTurnOn n true).raise (.swRestored n))) ∧
    (∀ n : Fin 24, minBy s.swRestoreKey ((List.finRange 24).filter (fun (k : Fin 24) => s.sws[k].restore)) = some n → s.budget.dipAt = none →
      let u := ({ s with budget := { s.budget with dipAt := some s.el } } : State).modSw n (fun c => { c with restore := false })
      s.sws[n].state = .off → s.sws[n].cmd ≠ .off → u.driving = true → u.latched = false →
      exec .swDipRestore s = .next (u.swTurnOn n true)) ∧
    (s.sys.keepDone = false → exec .keepDefaultSet s = .next
      (forFin 24 ({ s with sys := { s.sys with keepDone := true } } : State) (fun u n =>
        if u.swKeep n && bit (u8 (u.swCfg n) 0) 1 && u.sws[n].state == .off && !u.latched then
          (u.modSw n (fun c => { c with cmd := .on })).swTurnOn n true
        else u)))

/-- The rows of housekeeping and of the die temperatures complete (R707 to R720). Model's choices in it: entries 30, 197, 198. -/
def Obligations.ThermalRowsComplete : Prop :=
  ∀ s : State,
    (∀ raw int, s.sys.mode = .run → 19600000 ≤ s.st % 20000000 → s.hk.lastRound ≠ some (s.st / 20000000) →
      let u := forFin 64 s (fun v ch => v.hkChannel ch (s.st / 20000000) raw[ch])
      let u := forFin 8 u (fun v k => { v with hk := { v.hk with pts := vset v.hk.pts (64 + k) v.hk.die[k] } })
      let u := ((((forFin 9 u (fun v k => v.hkInternal (8 + k) int[k])).hkVbat int[1]).hkRef int[8]).hkTrim)
      let u := { u with hk := { u.hk with lastRound := some (s.st / 20000000), rounds := u.hk.rounds + 1 } }
      exec (.hkRoundComplete raw int) s = .next
        (forFin 8 (forFin 8 u (fun v k => v.coolRound k)) (fun v k => v.portRound k)).meterTemps.holdoverRound) ∧
    (∀ temps : Vector Int 8, s.sys.mode = .run → s.therm.lastConv ≠ some (s.st / 1000000) →
      (∀ i : Fin 8, (dieNext temps i s.therm.dies[i]).failed = s.therm.dies[i].failed) →
      let dies := Vector.ofFn (fun (i : Fin 8) => dieNext temps i s.therm.dies[i])
      let top := (hottestOf ((List.range 8).zip dies.toList)).getD (s.therm.hottest, s.therm.tj)
      crossed s.therm.warn top.2 1100 = s.therm.warn → crossed s.therm.hot top.2 1200 = s.therm.hot →
      crossed s.therm.shut top.2 1350 = s.therm.shut →
      (s.therm.hot || decide (2 ≤ (dies.toList.filter (·.failed)).length)) = s.therm.throttle →
      let u := ({ s with therm := { s.therm with dies := dies } } : State).noteDies
      exec (.thermalConversion temps) s = .next { u with therm := { s.therm with
        dies := dies, tj := top.2, hottest := top.1
        peak := if s.therm.lastConv.isNone then top.2 else max s.therm.peak top.2
        lastConv := some (s.st / 1000000), releasable := s.latched && !s.therm.shut } }) ∧
    (∀ (i : Fin 8) (e : Nat), s.sys.mode = .run → s.therm.dies[i].cmpArmed = true → exec (.thermHwLimit i e) s = .next
      (((({ s with therm := { s.therm with dies := s.therm.dies.set i { s.therm.dies[i] with cmpArmed := false } } } : State).deviceFault 7 true
        false).setLatch true).raise .thermHwLimit i)) ∧
    (s.sys.mode = .run → s.therm.throttle = true → s.therm.workEnd = none → s.st % 10000000 < 2000000 →
      exec .throttleWindowStart s = .next (({ s with therm := { s.therm with
        workEnd := some (s.st / 10000000 * 10000000 + 2000000) } } : State).pausedWork))

/-- The rows of links, memories, clocks and cores complete (R31 to R46, R283). Model's choices in it: entries 133, 203, 204, 240. -/
def Obligations.FabricRowsComplete : Prop :=
  ∀ s : State, s.sys.mode = .run →
    (∀ (l : Fin 3) lane, exec (.linkFrameReceive l { ok := true, lane }) s = .next
      { s with fabric := { s.fabric with streak := s.fabric.streak.set (⟨l.val, by omega⟩ : Fin 4) 0 } }) ∧
    (∀ (l : Fin 3) lane, let i : Fin 4 := ⟨l.val, by omega⟩
      s.fabric.streak[i] < 16 → exec (.linkFrameReceive l { ok := false, lane }) s = .next (({ s with fabric := { s.fabric with
        streak := s.fabric.streak.set i (s.fabric.streak[i] + 1), replays := s.fabric.replays.set i (s.fabric.replays[i] + 1)
        linkReplays := s.fabric.linkReplays + 1 } } : State).raise .linkReplay)) ∧
    (∀ l : Fin 3, let i : Fin 4 := ⟨l.val, by omega⟩
      16 ≤ s.fabric.streak[i] → exec (.linkFrameReceive l { ok := false, lane := none }) s = .next (s.deviceFault 6 false false)) ∧
    (∀ n : Fin 144, 16 ≤ s.fabric.streak[(0 : Fin 4)] →
      exec (.linkFrameReceive 0 { ok := false, lane := some n }) s = .next ((s.chargeFree (tgt 5 n) false).deviceFault 6 false false)) ∧
    (∀ c : Fin 8, bit s.fabric.clkLost c = false →
      let u := { s with fabric := { s.fabric with clkLost := s.fabric.clkLost ||| 2 ^ c.val } }
      exec (.clockLoss c) s = .next (
        if c = 3 then u.metroClockLoss
        else if c = 4 then (u.raise .flinkClockLoss).sourceLost 4
        else if c = 5 then forFin 8 (u.raise .canClockLoss) (fun v n => v.canBusOff n 2)
        else if c = 6 then ((u.raise .ethClockLoss).sourceLost 0).sourceLost 1
        else if c = 7 then ({ u with vbat := { u.vbat with rtcValid := false, xtal := false } } : State).raise .rtcClockLoss
        else u.deviceFault 5 false false)) ∧
    (∀ c : Fin 8, bit s.fabric.clkLost c = true → 3 ≤ c.val →
      let u := { s with fabric := { s.fabric with clkLost := s.fabric.clkLost - 2 ^ c.val } }
      exec (.clockRestored c) s = .next (
        if c = 3 then u.raise .meterClockLoss 0 0 1
        else if c = 4 then u.raise .flinkClockLoss 0 0 1
        else if c = 5 then forFin 8 (u.raise .canClockLoss 0 0 1) (fun v n =>
          if v.isRetired (tgt 6 n) then v else v.modCan n (fun x => { x with recovering := x.state == .busOff }))
        else if c = 6 then u.raise .ethClockLoss 0 0 1
        else ({ u with vbat := { u.vbat with xtal := true } } : State).raise .rtcClockLoss 0 0 1)) ∧
    (∀ k : Fin 4, let u := ({ s with fabric := { s.fabric with
          coreDog := s.fabric.coreDog.set k (some s.el), dogs := s.fabric.dogs + 1 } } : State).raise .coreWatchdog
      exec (.coreWatchdog k) s = .next (if u.onTrial then u.fwFallback
        else if (match s.fabric.coreDog[k] with | some t => decide (s.el < t + 10000000000) | none => false) then u.deviceFault 5 false false
        else if k = 3 then { u with cools := u.cools.map Cool.afresh } else u)) ∧
    (exec (.eccUncorrectable .metrology) s = .next (s.raise .eccUncorrectable).metroFault) ∧
    (∀ t, isRetirable t = true → exec (.eccUncorrectable (.resource t)) s = .next
      (((s.raise .eccUncorrectable).queueError t).chargeFree t false)) ∧
    (∀ m : Fin 4, exec (.eccCorrection m) s = .next { s with fabric := { s.fabric with
      ecc := s.fabric.ecc.set m (s.fabric.ecc[m] + 1), eccCount := s.fabric.eccCount + 1 } }) ∧
    (∀ t sure, isRetirable t = true → tType t ≠ 4 → tType t ≠ 7 →
      exec (.selfTestFailure (.resource t sure)) s = .next (s.chargeFree t sure)) ∧
    (exec (.selfTestFailure .die) s = .next (s.deviceFault 5 false false)) ∧
    (exec (.selfTestFailure .metrology) s = .next s.metroFault) ∧
    (∀ k : Fin 4, exec (.selfTestFailure (.core k)) s = .next (s.coreRestart k)) ∧
    (∀ f, s.sys.fault = some f → f.thermal = false → f.rail = false → f.at_ + 100000000 ≤ s.el →
      exec .deviceFaultReset s = .next (s.enterReset 6)) ∧
    (s.sys.ready = false → s.sys.fault = none → s.sys.wake = none → s.sys.startAt + 350000000 ≤ s.el →
      exec .bootTimeout s = .next (if s.nv.fw.trial then s.fwFallback else s.enterReset 3)) ∧
    (s.sys.ready = false → s.sys.lee = true → s.hk.lastRound.isSome = true → s.bill.restartDue = false → s.sys.fault = none →
      ∃ t, exec .deviceReady s = .next t ∧ t.sys.ready = true ∧ t.sys.lee = false ∧ t.sys.readySt = s.st ∧ t.sys.readyAt = s.el)

/-- The rows of the supplies, the VBAT domain and the resets complete, in whatever mode the device is (R691, R732 to R757). Model's choices in it:
entries 136, 205, 208. -/
def Obligations.PowerRowsComplete : Prop :=
  ∀ s : State,
    (∀ mv, s.seqr.state = .off → s.seqr.vsLow = false → exec (.vsQualified mv) s = .next { s with
      seqr := { s.seqr with state := .step 1, tries := 0, en := 1 }
      sys := { s.sys with mode := .inReset, nextCause := some 1, bootHold := false
                          brownoutAt := (min 30000 (max 9000 mv), decide (9000 ≤ mv ∧ mv ≤ 30000)) } }) ∧
    (∀ n, s.seqr.state = .step n → n < 6 → exec .sequencerStep s = .next
      { s with seqr := { s.seqr with state := .step (n + 1), en := s.seqr.en ||| 2 ^ n } }) ∧
    (∀ n, s.seqr.state = .step n → 6 ≤ n → exec .sequencerStep s = .next { s with seqr := { s.seqr with state := .done } }) ∧
    (∀ n, s.seqr.state = .step n → exec .pgTimeout s = .next { s with seqr := { s.seqr with
      state := if 2 ≤ s.seqr.tries then .stuck else .wait, tries := s.seqr.tries + 1, en := 0 } }) ∧
    (s.seqr.state = .wait → s.seqr.vsLow = false → exec .sequencerRetry s = .next
      { s with seqr := { s.seqr with state := .step 1, en := 1 } }) ∧
    (s.seqr.state = .done → s.sys.mode ≠ .inReset →
      let u := (s.deviceFault 5 false true).enterReset 8
      exec .pgFall s = .next { u with seqr := { u.seqr with state := .wait, tries := 0, en := 0 } }) ∧
    (s.seqr.vsLow = false → s.sys.mode = .inReset → exec .vsBelow3v s = .next { s.swLose with
      seqr := { s.swLose.seqr with state := .off, tries := 0, en := 0, vsLow := true, vsLost := true }
      sys := { s.swLose.sys with mode := if s.swLose.sys.mode = .run then .run else .inReset, nextCause := some 1 } }) ∧
    (s.seqr.vsLow = true → exec .vsRestore s = .next (({ s with seqr := { s.seqr with vsLow := false } } : State).told (fun u =>
      forFin 24 u (fun v n => if v.sws[n].dip = 0 then v
        else (v.modSw n (fun c => { c with lost := true, dip := 0, restore := c.cmd != .off })).raise (.swStateLost n) v.sws[n].dip)))) ∧
    (s.sys.brownout = false → let u := { s with sys := { s.sys with brownout := true } }
      exec .brownoutAssert s = .next (if s.sys.mode = .run then u.lastGasp else u)) ∧
    exec .brownoutClear s = .next { s with sys := { s.sys with brownout := false } } ∧
    (s.sys.mode = .inReset → exec .resetNAssert s = .next { s with
      sys := { s.sys with
        nextCause := some (if s.seqr.state = .done ∧ s.sys.bootHold = true then 2 else s.sys.nextCause.getD 2), resetN := true, bootHold := false }
      vbat := { s.vbat with failed := 0 } }) ∧
    (s.sys.mode ≠ .inReset →
      let u := s.enterReset (if s.seqr.state = .done then 2 else s.sys.nextCause.getD 2)
      exec .resetNAssert s = .next { u with sys := { u.sys with resetN := true, bootHold := false }, vbat := { u.vbat with failed := 0 } }) ∧
    (∀ site twinB tcxo e, s.sys.mode = .inReset → s.seqr.state = .done → s.sys.bootHold = false →
      exec (.resetRelease site twinB tcxo e) s = .next (s.restart site twinB tcxo e)) ∧
    (∀ e, s.sys.mode = .run → s.vbat.powered = true → s.vbat.xtal = true → s.vbat.hb0 = none → s.vbat.hb1 = none →
      exec (.heartbeatWrite e) s = .next { s with vbat := { s.vbat with hb0 := some { st := s.st, seq := 1, flags := 0 } } }) ∧
    (∀ h e, s.sys.mode = .run → s.vbat.powered = true → s.vbat.xtal = true → s.vbat.hb0 = some h → s.vbat.hb1 = none →
      h.st / 10000000 ≠ s.st / 10000000 →
      exec (.heartbeatWrite e) s = .next { s with vbat := { s.vbat with hb1 := some { st := s.st, seq := (h.seq + 1) % 2 ^ 32, flags := 0 } } }) ∧
    (∀ (src : Fin 5) (e : Nat), s.sys.mode = .sleep → bit s.sys.armed src = true → src ≠ 4 →
      (src = 0 → ∃ p : Fin 8, s.ports[p].doze.any (·.woke) = true) → (src = 3 → s.flink.woke = true) →
      (src = 1 → ∃ n : Fin 8, canModeOf ((s.nv.cfg.canMode[n]).getD 0) ≠ .off) →
      exec (.wake src e) s = .next (s.wakeUp (some src.val) e)) ∧
    (∀ w t e, s.sys.mode = .sleep → bit s.sys.armed 4 = true → s.vbat.wakeAt = some w → s.rtcNow e = some t → w ≤ t →
      exec (.wake 4 e) s = .next (s.wakeUp (some 4) e)) ∧
    (s.vbat.powered = true → exec .vbatDomainLoss s = .next { s.free.2 with
      vbat := { powered := false, valid := false, levelKept := false, xtal := s.vbat.xtal, cause := s.free.1 % 256 } }) ∧
    exec .vbatDomainReturn s = .next { s with vbat := { s.vbat with powered := true } }


/-! ### The block as a whole -/

/-- With no command waiting a running device counts one fabric tick: ST advances by the nominal 2.5 ns give or take 500 ppm (R72); asleep or
in reset nothing changes. What leaves the device at that tick are PTP messages of ports that act as master (R85), and none before ready or in
a device-fault state. That a step on an empty queue is a tick is the model's choice (entry 10). -/
def Obligations.AnEmptyQueueIsATick : Prop :=
  ∀ s : State, s.pending = [] →
    (s.sys.mode ≠ .run → step s = .next s) ∧
    (s.sys.mode = .run → ∃ (i : Nat) (resid dev : Int) (sent : List Out), 10737418240 - 5368709 ≤ i ∧ i ≤ 10737418240 + 5368709 ∧
      (s.clk.freq = 0 → s.clk.resid = 0 → i = 10737418240) ∧
      (∀ o ∈ sent, ∃ net who m, o = .ptp net who m) ∧ (s.sys.ready = false ∨ s.sys.fault.isSome = true → sent = []) ∧
      step s = .next { s with clk := { s.clk with fix := s.clk.fix + i, incr := i, resid := resid, dev := dev }, out := s.out ++ sent })

/-- A device that sleeps or is held in reset takes no command but those of supplies, VBAT domain, resets, tamper input and switch dies
(R743, R754), and asleep those of its pilots and of its modem, which touch nothing else (R344, R583). That such a command leaves the
state unchanged, and is neither kept nor reported, is the model's choice (entry 1). -/
def Obligations.HeldDeviceIgnoresCommands : Prop :=
  (∀ (i : Instr) (s : State), s.sys.mode ≠ .run → i.actsAlways = false → exec i s = .next s) ∧
  (∀ s : State, s.sys.mode = .inReset →
    (∀ p l, exec (.pilotPeriodClassify p l) s = .next s) ∧ (∀ f, exec (.beaconReceive f) s = .next s)) ∧
  (∀ s : State, s.sys.mode = .sleep →
    (∀ p l, ∃ ports, exec (.pilotPeriodClassify p l) s = .next { s with ports }) ∧
    (∀ f, ∃ flink, exec (.beaconReceive f) s = .next { s with flink }))

/-- The state after a power-on reset with a new VBAT domain: ST 0 and INVALID (R93), the lee period (R750), every output low (R172), logs,
launches, captures and events empty (R615), queues 0 to 13 alone configured (R633), HOSTIO not serving (R608), groups OFF, ports IDLE. -/
def Obligations.ResetState : Prop :=
  State.reset.st = 0 ∧ State.reset.time.quality = .invalid ∧ State.reset.sys.mode = .run ∧ State.reset.sys.lee = true ∧
  State.reset.sys.ready = false ∧ Safety.outputsLow State.reset ∧ State.reset.hio.vlog = [] ∧ State.reset.hio.serving = false ∧
  State.reset.launches = [] ∧ State.reset.captures = [] ∧ State.reset.evt.held = [] ∧ State.reset.pending = [] ∧
  (∀ q : Fin 128, State.reset.queues[q].words = [] ∧ (q.val < 14 → State.reset.queues[q].cfg = bootLayout q) ∧
    (14 ≤ q.val → State.reset.queues[q].cfg.pages = 0)) ∧
  (∀ g : Fin 8, State.reset.gState g = .off ∧ State.reset.groups[g].pwm.running = false) ∧
  (∀ p : Fin 8, State.reset.ports[p].state = .idle) ∧ State.reset.twin.leaseOut = false

/-- The logs and buffers are within their sizes at reset. -/
def Obligations.LogsBoundedAtReset : Prop := Safety.logsBounded State.reset

/-- Whatever the command, a step keeps the window log, its ring, the event log, core 3's copies and the datagrams in reassembly within
their sizes (R541, R591, R614, R615, R657), and takes exactly the front command from the queue. -/
def Obligations.EveryStepKeepsLogsBounded : Prop :=
  ∀ s t : State, Safety.logsBounded s → step s = .next t → Safety.logsBounded t ∧ t.pending = s.pending.tail

/-! ### The command interface -/

/-- A packet built with the header of R593 is read back as it was built, at every value that the fields admit, with the CRC of R594 over
HOSTIO, and with any tag of 16 bytes behind it over a site port. -/
def Obligations.PacketReadsBackAsBuilt : Prop :=
  ∀ (flags code seq target : Nat) (payload tag : Bytes) (src port : Nat) (via : Via),
    flags < 16 → code < 2 ^ 16 → seq < 2 ^ 32 → target < 2 ^ 16 → payload.length ≤ 4080 → tag.length = (if via = .hostio then 0 else 16) →
    let p : Pkt := { via, src, port, raw := packetBytes flags code seq target payload ++ tag }
    p.flags = flags ∧ p.code = code ∧ p.seq = seq ∧ p.plen = payload.length ∧ p.target = target ∧ p.payload = payload ∧
    u8 p.raw 0 = 3 ∧ zeros p.raw 12 4 = true ∧ p.lengthOk = true ∧ p.crcOk = true ∧
    (∀ key, p.tagOk key = (cmac key (packetBytes flags code seq target payload) == sub p.raw (20 + payload.length) 16)) ∧
    (∀ (l : Nat) (body : Bytes) (from_ : Sender), flags % 2 = 1 → l < 2 ^ 64 → payload = le 8 l ++ body →
      (p.req from_).launch = l ∧ (p.req from_).body = body) ∧
    (∀ from_ : Sender, flags % 2 = 0 → (p.req from_).launch = 0 ∧ (p.req from_).body = payload)

/-- A sequence that a window has delivered is not delivered again while the window's H stays less than 2^31 past it (R518, R597). -/
def Obligations.SequenceIsDeliveredOnce : Prop :=
  ∀ (w : SeqWin) (n : Nat) (l : List Nat), w.fits → n < 2 ^ 32 → (∀ m ∈ l, m < 2 ^ 32) →
    (w.receive n).1 = .deliver →
    (∀ k, k ≤ l.length → ((((w.receive n).2.after (l.take k)).h + 2 ^ 32 - n) % 2 ^ 32 < 2 ^ 31)) →
    (((w.receive n).2.after l).receive n).1 ≠ .deliver

/-- Intake of a packet and its reply touch only the command interface: sequence windows, queues 0 and 1 with their watermark events, the
counters, what leaves the device and the free values of a short header (R590, R592, R596, R597). -/
def Obligations.IntakeAndReplyTouchOnlyTheInterface : Prop :=
  (∀ (s t : State) (p : Pkt) (r : Req) (arr : Arrival) (code : Nat), s.accepts code p r arr t →
    ({ t with ccp := s.ccp, queues := s.queues, evt := s.evt, nv := { t.nv with hostH := s.nv.hostH } } : State) = s ∧
    (∀ q : Fin 128, q ≠ 0 → t.queues[q] = s.queues[q])) ∧
  (∀ (s : State) (p : Pkt) (arr : Arrival) (st : Nat) (rest : Bytes) (silent : Bool),
    let t := s.replied p arr st rest silent
    ({ t with ccp := s.ccp, out := s.out, queues := s.queues, evt := s.evt, freeCount := s.freeCount } : State) = s ∧
    t.ccp.rx = s.ccp.rx + 1 ∧ t.ccp.err = s.ccp.err ∧ (∀ q : Fin 128, q ≠ 1 → t.queues[q] = s.queues[q]) ∧
    (p.wants = false ∨ silent = true → t = { s with ccp := { s.ccp with rx := s.ccp.rx + 1 } }))

/-! ### HOSTIO and the direct window -/

/-- The HOSTIO status byte and its reading (R610). -/
def Obligations.StatusByteBits : Prop :=
  ∀ s : State, s.sys.mode = .run →
    ∃ b : Nat, b < 256 ∧
      exec .hostioStatusRead s = .next
        ({ (s.emit (.status b)) with hio := { (s.emit (.status b)).hio with violSeen := false } }) ∧
      bit b 0 = s.hio.serving ∧ bit b 1 = s.hio.lastWriteBad ∧ bit b 2 = s.hio.violSeen ∧
      (bit b 3 = true ↔ (s.queues[1].words ≠ [] ∨ s.queues[1].spilled ≠ [])) ∧ bit b 4 = s.sys.lee ∧
      bit b 5 = false ∧ bit b 6 = false ∧ bit b 7 = false

/-- The response byte of a window read, and HOSTIO before it serves (R608). A read is valid when no row of R613 stops its address, and it
does not begin at a read port of a queue whose consumer is not the host. -/
def Obligations.WindowReadResponses : Prop :=
  ∀ (s : State) (a : Word) (n : Nat), s.sys.mode = .run →
    let q : Fin 128 := Fin.ofNat 128 ((a.toNat - 0x100000) / 0x2000)
    let misused : Bool := inRun a.toNat 0x100000 0x100000 && readPort (a.toNat % 0x2000) && s.queues[q].cfg.firmware
    (s.hio.serving = true → addressCause a.toNat n = none → misused = false →
      ∃ (ws : List Nat) (t : State), ws.length = n ∧ exec (.windowRead a n false) s = .next (t.emit (.window 0 ws))) ∧
    (∀ c part, s.hio.serving = true → addressCause a.toNat n = some c →
      exec (.windowRead a n part) s = .next ((s.violate a.toNat false c n 0).emit (.window 1 (List.replicate n 0)))) ∧
    (∀ part, s.hio.serving = true → addressCause a.toNat n = none → misused = true →
      exec (.windowRead a n part) s = .next ((s.violate a.toNat false 4 n 0).emit (.window 1 (List.replicate n 0)))) ∧
    (∀ part, s.hio.serving = false → exec (.windowRead a n part) s = .next (s.emit (.window 2 (List.replicate n 0)))) ∧
    (∀ ws part, s.hio.serving = false → exec (.windowWrite a ws part) s = .next s) ∧
    (s.hio.serving = false → s.el < s.sys.startAt + 50000000 → exec .hostioServingStart s = .next s) ∧
    (s.sys.startAt + 50000000 ≤ s.el → ∃ t, exec .hostioServingStart s = .next t ∧ t.hio.serving = true)

/-- What a violation leaves: one entry in the window log, the newest 64 of them, its copy in the ring of 256, bit 2 of the status byte and
one more count; WINDOW_VIOLATION unless one was raised within the last ms (R613 to R615; that the ms runs from the last one raised is the
model's choice, entry 22); nothing else. -/
def Obligations.ViolationIsRecorded : Prop :=
  ∀ (s : State) (addr : Nat) (write : Bool) (cause words data : Nat), s.hio.vlog.length ≤ 64 →
    let t := s.violate addr write cause words data
    let v : Viol := { st := s.st, addr, write, cause, words := min words 0xFFFF, seq := (s.hio.vseq + 1) % 2 ^ 32, data }
    t.hio.vlog = s.hio.vlog.drop (if s.hio.vlog.length = 64 then 1 else 0) ++ [v] ∧
    t.hio.vseq = s.hio.vseq + 1 ∧ t.hio.violSeen = true ∧ t.hio.violCnt = s.hio.violCnt + 1 ∧
    t.nv.violRing = (v :: s.nv.violRing).take 256 ∧
    ((∃ x, s.hio.violEvt = some x ∧ s.el < x + 1000000) → t.evt = s.evt) ∧
    ((∀ x, s.hio.violEvt = some x → x + 1000000 ≤ s.el) → t.evt.held = s.evt.held ++
      [{ stamp := s.st, from_ := s.el, seq := 0, src := 8, code := 1, flags := 0, p1 := (cause + 16 * b01 write) % 2 ^ 32, p2 := addr % 2 ^ 32 }]) ∧
    ({ t with hio := s.hio, nv := { t.nv with violRing := s.nv.violRing }, evt := s.evt } : State) = s

/-- The window log is cleared by every reset; the ring of 256 takes a copy of each entry and survives every reset (R615). -/
def Obligations.WindowLogThroughReset : Prop :=
  (∀ (s : State) (site : Fin 16) (twinB tcxo : Bool) (e : Nat),
    (s.restart site twinB tcxo e).hio.vlog = [] ∧ (s.restart site twinB tcxo e).nv.violRing = s.nv.violRing) ∧
  (∀ (s : State) (cause : Nat), (s.enterReset cause).nv.violRing = s.nv.violRing) ∧
  (∀ (s : State) (addr : Nat) (write : Bool) (cause words data : Nat),
    ∃ v, (s.violate addr write cause words data).hio.vlog.getLast? = some v ∧
      (s.violate addr write cause words data).nv.violRing = (v :: s.nv.violRing).take 256)

/-! ### Queues, events and launches -/

/-- Items are packed into words from the least significant byte, and a word left incomplete is padded with zero bytes and tagged with its
valid bytes (R636): of a packet, of an event record, of a stream, and at a read that finds only a partial word. -/
def Obligations.WordsArePackedInOrder : Prop :=
  (∀ bs : Bytes, let ws := packWords bs.length bs
    ws.flatMap (fun w => (le 8 w.data).take w.valid) = bs ∧
    (∀ w ∈ ws, 1 ≤ w.valid ∧ w.valid ≤ 8 ∧ w.data < 2 ^ 64 ∧ (le 8 w.data).drop w.valid = List.replicate (8 - w.valid) 0) ∧
    (∀ w ∈ ws.dropLast, w.valid = 8)) ∧
  (∀ bs : Bytes, bs.length = 24 → (recordWords bs).flatMap (fun w => (le 8 w.data).take w.valid) = bs) ∧
  (∀ (s : State) (i : Fin 128) (bs : Bytes), 1 ≤ bs.length → s.queues[i].part.length + bs.length < 8 →
    (s.queues[i].part ≠ [] ∨ s.queueFits i 1 = true) →
    (s.offerItem i bs).queues[i].part = s.queues[i].part ++ bs ∧ (s.offerItem i bs).queues[i].words = s.queues[i].words) ∧
  (∀ (s : State) (i : Fin 128) (bs : Bytes), s.queues[i].part.length + bs.length = 8 → s.queues[i].part ≠ [] →
    s.queues[i].open_ = none → s.queues[i].spilled = [] → s.queues[i].behind = [] → s.queues[i].sramFill ≤ s.queues[i].cfg.capacity →
    (s.offerItem i bs).queues[i].part = [] ∧ (s.offerItem i bs).queues[i].words = s.queues[i].words ++
      [{ data := uN 8 (s.queues[i].part ++ bs) 0, valid := 8, lost := s.queues[i].lostNext }]) ∧
  (∀ q : Queue, q.words = [] → q.spilled = [] → q.behind = [] → q.part ≠ [] → q.part.length < 8 →
    ∃ w, q.pop.1 = some w ∧ w.valid = q.part.length ∧ (le 8 w.data) = q.part ++ List.replicate (8 - q.part.length) 0 ∧ q.pop.2.part = [])

/-- Each event record occupies three whole words, the first of them tagged (R640). -/
def Obligations.EventRecordIsThreeWords : Prop :=
  ∀ r : EvRec, (recordWords r.bytes).map (fun w => (w.valid, w.first)) = [(8, true), (8, false), (8, false)] ∧
    (recordWords r.bytes).flatMap (fun w => le 8 w.data) = r.bytes

/-- What falls due together, launches and trailing times, takes effect in ascending order of its time, with equal times in order of
acceptance, a launch before the trailing time of its own packet (R111, R113, R145), unless one before it has moved the clock back past it
or cancelled it; none in a device-fault state that is not thermal (R36). A launch accepted is held with its order of acceptance. -/
def Obligations.LaunchesExecuteInOrder : Prop :=
  ∀ s : State,
    ∃ l : List Due,
      (l.filterMap (fun x => match x with | .lead a => some a | .trail .. => none)).Perm
        (s.launches.filter (fun a => !a.trailing && decide (a.at_ ≤ s.st))) ∧
      (l.filterMap (fun x => match x with | .trail _ t => some t | .lead _ => none)).Perm
        (s.alloc.trailing.filter (fun t => decide (t.at_ ≤ s.st))) ∧
      l.Pairwise (fun a b => a.key.1 < b.key.1 ∨ (a.key.1 = b.key.1 ∧
        (a.key.2.1 < b.key.2.1 ∨ (a.key.2.1 = b.key.2.1 ∧ a.key.2.2 ≤ b.key.2.2)))) ∧
      (s.sys.mode = .run → (∀ f, s.sys.fault = some f → f.thermal = true) →
        exec .launchExecute s = .next ((l.foldl State.dueRun s).freeSlots)) ∧
      (s.sys.mode = .run → (∃ f, s.sys.fault = some f ∧ f.thermal = false) → exec .launchExecute s = .next s) ∧
      (∀ (t : State) (a : Launch), t.dueRun (.lead a) = if t.launches.contains a && decide (a.at_ ≤ t.st) then t.launchOne a else t) ∧
      (∀ r : Req, (s.pushLaunch r).launches = s.launches ++ [{ at_ := r.launch, order := s.launchCount, req := r }] ∧
        (s.pushLaunch r).launchCount = s.launchCount + 1)

/-! ### The device-fault state -/

/-- On entry to the device-fault state every output of every group's slots is low, a group that was not OFF is FAULTED, and LEASE_OUT is
low (R36, R172); site time and memory of the metering partition are as they were. -/
def Obligations.DeviceFaultDrivesOutputsLow : Prop :=
  ∀ (s : State) (level : Nat) (thermal rail : Bool), s.sys.fault = none →
    let t := s.deviceFault level thermal rail
    (∀ (n : Fin 48) (g : Fin 8), s.slotGroup n = some g → t.slots[n].outH = false ∧ t.slots[n].outL = false) ∧
    (∀ g : Fin 8, s.groups[g].pwm.test = false → s.gState g ≠ .off → t.gState g = .faulted) ∧
    t.twin.leaseOut = false ∧ t.sys.fault.isSome = true ∧ t.clk = s.clk ∧ t.bill = s.bill ∧ t.metro = s.metro
end

