-- ==== Sys2Proof/Laws/Ccp.lean ====
section
/-! SUPPORT. What the command interface does with a packet that R600 lets through: cited in place of unfolding intake. -/

namespace Sys2Proof.Machine

/-- A packet that passes the rows after the CRC runs with the request that its header spells. -/
theorem State.lateChecks_run {s : State} {p : Pkt} {from_ : Sender} {r : Req}
    (h : (s.lateChecks p from_).1 = .run r) : r = p.req from_ := by
  unfold State.lateChecks at h
  repeat' split at h
  all_goals simp at h
  exact h.symm

/-- The checks of a site port before the CRC never let a packet run. -/
theorem State.siteChecks_inl {s : State} {p : Pkt} {v : Verdict} (h : s.siteChecks p = .inl v) (r : Req) : v ≠ .run r := by
  unfold State.siteChecks at h
  repeat' split at h
  all_goals simp at h
  all_goals (subst h; simp)

/-- A packet that intake lets through runs with the request that its header spells. -/
theorem State.intake_run {s t : State} {p : Pkt} {r : Req} {arr : Arrival}
    (h : s.intake p = (.run r, some arr, t)) : r = p.req arr.sender := by
  unfold State.intake at h
  split at h
  · simp at h
  · split at h
    · split at h
      · simp at h
      · simp only [Prod.mk.injEq, Option.some.injEq] at h
        obtain ⟨h1, h2, _⟩ := h
        subst h2
        exact State.lateChecks_run h1
    · split at h
      · simp at h
      · split at h
        · rename_i hv
          simp only [Prod.mk.injEq, Option.some.injEq] at h
          exact absurd h.1 (State.siteChecks_inl hv r)
        · simp only [Prod.mk.injEq, Option.some.injEq] at h
          obtain ⟨h1, h2, _⟩ := h
          subst h2
          exact State.lateChecks_run h1

/-- What a packet that reaches its command leaves: the answer of the command, and what comes after it. -/
theorem State.command_of_accepts {s t : State} {code : Nat} {p : Pkt} {r : Req} {arr : Arrival}
    (h : s.accepts code p r arr t) : s.command code p = t.finish p arr r ∧ r.code = code := by
  obtain ⟨_, ht, hl, hc, hi, hp⟩ := h
  refine ⟨?_, ?_⟩
  · simp [State.command, State.take, State.handle, State.complete, ht, hl, hc, hi, hp]
  · rw [State.intake_run hi]; exact hc

/-- A command that is not one of the allocation's runs as its own body says when it is untimed. -/
theorem State.execute_untimed {t : State} {r : Req} (hu : r.timed = false) (h4 : r.code = 0x0304 → u8 r.body 8 = 0)
    (h5 : r.code = 0x0305 → u8 r.body 8 = 2) : execute r t = bodyOf r t := by
  have : t.conflictSeen r = t := by
    unfold State.conflictSeen
    by_cases h : r.code = 0x0304
    · simp only [h, h4 h]; split <;> simp
    · by_cases h' : r.code = 0x0305
      · simp only [h', h5 h']; split <;> simp
      · simp only [h, h']; split <;> simp
  simp [execute, this, hu]

/-- The answer of a command that runs: status OK (R603). -/
theorem State.finish_ok {t : State} {p : Pkt} {r : Req} {arr : Arrival} (h : (execute r t).status = 0) :
    t.finish p arr r = ((execute r t).s.replied p arr 0 (execute r t).rest (execute r t).silent).afterReply r := by
  simp [State.finish, h]

/-- The answer of a timed command that is accepted: status PENDING (R109). -/
theorem State.finish_pending {t : State} {p : Pkt} {r : Req} {arr : Arrival} (h : (execute r t).status = 1) :
    t.finish p arr r = (execute r t).s.replied p arr 1 (execute r t).rest (execute r t).silent := by
  simp [State.finish, h]

/-- A request that pauses waits while the device throttles (R716). -/
theorem State.complete_paused {t : State} {p : Pkt} {r : Req} {arr : Arrival} (h : t.paused = true) (hr : r.pauses = true) :
    t.complete p arr r = { t with ccp := { t.ccp with delayed := t.ccp.delayed ++ [(p, arr, r)] } } := by
  simp [State.complete, h, hr]

/-- A table that answers OK has no matching row, and runs its effect (R600). -/
theorem Ans.table_ok {s : State} {rows : List (Bool × Nat × Nat)} {f : State → Ans} (h : (Ans.table s rows f).status = 0)
    (hz : ∀ x, firstRow rows = some x → x.1 ≠ 0) : Ans.table s rows f = f s := by
  unfold Ans.table at h ⊢
  split
  · rename_i st o he
    rw [he] at h
    exact absurd h (hz _ he)
  · rfl

end Sys2Proof.Machine
end

