-- ==== Sys2Proof/WellFormed.lean ====
section
/-! DEFINITION. Well-formed commands: operands that a packet, a bus, a pin or a sensor can deliver. exec gives every command its
effect, well-formed or not; a log entry says so. -/

namespace Sys2Proof.WellFormed

open Sys2Proof.Machine

/-- A packet's sender: a 16-byte address and a UDP port (R590, R620); nothing of the kind over HOSTIO. -/
def pkt (p : Pkt) : Bool :=
  decide (p.src < 2 ^ 128) && decide (p.port < 65536) && (p.via != .hostio || (p.src == 0 && p.port == 0))

/-- A datagram's addresses; a fragment lies within its datagram (R591, R635). -/
def dgram (d : Dgram) : Bool :=
  decide (d.srcPort < 65536) && decide (d.dstPort < 65536) && decide (d.addr < 2 ^ 128) &&
  (match d.frag with | none => true | some (_, off, total) => decide (off + d.data.length ≤ total))

/-- Outputs of a control filter: of a lane, codes of 16 bits (R222). -/
def laneCycle (l : LaneCycle) : Bool :=
  decide (l.lane < 144) && l.codes.all (fun c => decide (-32768 ≤ c.2) && decide (c.2 ≤ 32767))

/-- The bitstream of a metering path: no run is empty (R392). -/
def pathBits (r : PathBits) : Bool := r.runs.all (fun x => decide (0 < x.2))

/-- What MIDnn showed: of a slot, the lowest level first (R264). -/
def midSample (m : MidSample) : Bool := decide (m.slot < 48) && decide (m.low ≤ m.high)

/-- A CAN frame: at most 64 data bytes (R543). -/
def canRx (f : CanRx) : Bool := decide (f.data.length ≤ 64)

/-- A feeder-link frame: a header of R564, SNR of 36 carriers of each segment or none (R564, R570). -/
def flRx (f : FlRx) : Bool := f.snr.all (fun l => l.isEmpty || l.length == 36) && (f.energy.isEmpty || f.energy.length == f.symbols + 32)

end Sys2Proof.WellFormed

namespace Sys2Proof

open Sys2Proof.Machine

/-- The packet that a command carries, for the rows of CCP commands and of intake. -/
def Instr.pkt? : Instr → Option Pkt
  | .sysPing p => some p
  | .sysSummary p => some p
  | .sysRole p => some p
  | .sysReset p => some p
  | .sysSleep p => some p
  | .sysLogRead p => some p
  | .sysViolationRead p => some p
  | .sysFwUpdate p => some p
  | .timeSet p => some p
  | .timeSource p => some p
  | .timeStatus p => some p
  | .timeCapture p => some p
  | .allocLimit p => some p
  | .allocPolicy p => some p
  | .allocFallback p => some p
  | .allocStatus p => some p
  | .allocTargets p => some p
  | .ccpReplyReceive p => some p
  | .pwmWrite p => some p
  | .pwmLoadall p => some p
  | .pwmCalStatus p => some p
  | .loopParam p => some p
  | .loopProfile p => some p
  | .groupSetpoint p => some p
  | .loopTrace p => some p
  | .groupConfig p => some p
  | .groupEnable p => some p
  | .groupStop p => some p
  | .groupStatus p => some p
  | .phaseRetire p => some p
  | .phaseRestore p => some p
  | .groupFaultRead p => some p
  | .faultRead p => some p
  | .faultClear p => some p
  | .resourceList p => some p
  | .portConfig p => some p
  | .portAuthorize p => some p
  | .portLimit p => some p
  | .portStop p => some p
  | .portStatus p => some p
  | .portSessionRead p => some p
  | .portClear p => some p
  | .coolConfig p => some p
  | .coolStatus p => some p
  | .meterConfig p => some p
  | .meterCalTable p => some p
  | .meterRead p => some p
  | .meterSeal p => some p
  | .billTariffLoad p => some p
  | .billCalendarLoad p => some p
  | .billRead p => some p
  | .billTokenEnter p => some p
  | .billClosePeriod p => some p
  | .billAccount p => some p
  | .twinConfig p => some p
  | .twinStatus p => some p
  | .twinDrill p => some p
  | .twinYield p => some p
  | .canConfig p => some p
  | .canSend p => some p
  | .canMode p => some p
  | .canStatus p => some p
  | .flinkConfig p => some p
  | .flinkSend p => some p
  | .flinkStatus p => some p
  | .queueConfig p => some p
  | .queueDropPacket p => some p
  | .queueStatus p => some p
  | .eventRoute p => some p
  | .swConfig p => some p
  | .swSet p => some p
  | .swStatus p => some p
  | .hkConfig p => some p
  | .hkRead p => some p
  | .thermConfig p => some p
  | .thermRelease p => some p
  | .ccpPacketRejected p => some p
  | _ => none

/-- Is a command well-formed? -/
def Instr.wf (i : Instr) : Bool :=
  match i.pkt? with
  | some p => WellFormed.pkt p
  | none =>
    match i with
    | .siteDatagramReceive d => WellFormed.dgram d
    | .outerCycle lanes => lanes.all WellFormed.laneCycle
    | .meterSample raw => raw.length == 176 && raw.all WellFormed.pathBits
    | .precheckMidSampleEnd _ l => l.all WellFormed.midSample
    | .precheckResample _ l => l.all WellFormed.midSample
    | .delayLineCal _ taps => (match taps with | none => true | some t => decide (t < 256))
    | .canFrameReceive _ f => WellFormed.canRx f
    | .beaconReceive f => WellFormed.flRx f
    | .flinkFrameReceive f => WellFormed.flRx f
    | .linkReportReceive f => WellFormed.flRx f
    | .hingeUp mask => decide (mask < 16)
    | .hingeDown mask => decide (mask < 16)
    | _ => true

end Sys2Proof
end

