-- ==== Sys2Proof/Laws/PerInstr.lean ====
section
/-! SUPPORT. What holds of every command as syntax, one lemma for each constructor. -/

namespace Sys2Proof.Laws.CommandForm

open Sys2Proof Sys2Proof.Machine

/-- A command that carries a packet is well-formed exactly when its packet's sender is one that R590 and R620 admit. -/
def Statement (i : Instr) : Prop :=
  ∀ p, i.pkt? = some p → (i.wf = true ↔ p.src < 2 ^ 128 ∧ p.port < 65536 ∧ (p.via = .hostio → p.src = 0 ∧ p.port = 0))

theorem pkt_iff (p : Pkt) :
    WellFormed.pkt p = true ↔ p.src < 2 ^ 128 ∧ p.port < 65536 ∧ (p.via = .hostio → p.src = 0 ∧ p.port = 0) := by
  cases h : p.via <;> simp [WellFormed.pkt, h] <;> omega

theorem of_packet (i : Instr) : Statement i := fun p h => by simp only [Instr.wf, h]; exact pkt_iff p

theorem sysPing (p : Pkt) : Statement (.sysPing p) := of_packet _
theorem sysSummary (p : Pkt) : Statement (.sysSummary p) := of_packet _
theorem sysRole (p : Pkt) : Statement (.sysRole p) := of_packet _
theorem sysReset (p : Pkt) : Statement (.sysReset p) := of_packet _
theorem sysSleep (p : Pkt) : Statement (.sysSleep p) := of_packet _
theorem sysLogRead (p : Pkt) : Statement (.sysLogRead p) := of_packet _
theorem sysViolationRead (p : Pkt) : Statement (.sysViolationRead p) := of_packet _
theorem sysFwUpdate (p : Pkt) : Statement (.sysFwUpdate p) := of_packet _
theorem fwTrialConfirm : Statement (.fwTrialConfirm) := of_packet _
theorem ccpKeyOverlapEnd : Statement (.ccpKeyOverlapEnd) := of_packet _
theorem timeSet (p : Pkt) : Statement (.timeSet p) := of_packet _
theorem timeSource (p : Pkt) : Statement (.timeSource p) := of_packet _
theorem timeStatus (p : Pkt) : Statement (.timeStatus p) := of_packet _
theorem timeCapture (p : Pkt) : Statement (.timeCapture p) := of_packet _
theorem captureDone : Statement (.captureDone) := of_packet _
theorem allocLimit (p : Pkt) : Statement (.allocLimit p) := of_packet _
theorem allocPolicy (p : Pkt) : Statement (.allocPolicy p) := of_packet _
theorem allocFallback (p : Pkt) : Statement (.allocFallback p) := of_packet _
theorem allocStatus (p : Pkt) : Statement (.allocStatus p) := of_packet _
theorem allocTargets (p : Pkt) : Statement (.allocTargets p) := of_packet _
theorem allocReportSend : Statement (.allocReportSend) := of_packet _
theorem allocEpochRun : Statement (.allocEpochRun) := of_packet _
theorem allocAckWaitEnd : Statement (.allocAckWaitEnd) := of_packet _
theorem ccpReplyReceive (p : Pkt) : Statement (.ccpReplyReceive p) := of_packet _
theorem allocTrailingEffect : Statement (.allocTrailingEffect) := of_packet _
theorem allocMissedEpochCheck : Statement (.allocMissedEpochCheck) := of_packet _
theorem storageStatusFrame (f : Fin 4) (b : Bytes) : Statement (.storageStatusFrame f b) := of_packet _
theorem storageStale (f : Fin 4) : Statement (.storageStale f) := of_packet _
theorem storageSetpointRepeat (f : Fin 4) : Statement (.storageSetpointRepeat f) := of_packet _
theorem launchExecute : Statement (.launchExecute) := of_packet _
theorem ptpMessageReceive (net : Fin 2) (m : PtpMsg) : Statement (.ptpMessageReceive net m) := of_packet _
theorem timeSourceLoss (k : Fin 5) : Statement (.timeSourceLoss k) := of_packet _
theorem ppsEdge : Statement (.ppsEdge) := of_packet _
theorem gnssSentence (utc : Nat) (ok : Bool) : Statement (.gnssSentence utc ok) := of_packet _
theorem sourceDwellExpiry : Statement (.sourceDwellExpiry) := of_packet _
theorem pendingStepExpiry : Statement (.pendingStepExpiry) := of_packet _
theorem holdoverLimitReached : Statement (.holdoverLimitReached) := of_packet _
theorem rtcCopy : Statement (.rtcCopy) := of_packet _
theorem zoneTableExpiring : Statement (.zoneTableExpiring) := of_packet _
theorem timeStloRead : Statement (.timeStloRead) := of_packet _
theorem delayLineCal (n : Fin 48) (taps : Option Nat) : Statement (.delayLineCal n taps) := of_packet _
theorem loadallTakeEffect (g : Fin 8) : Statement (.loadallTakeEffect g) := of_packet _
theorem slotPickup (n : Fin 48) : Statement (.slotPickup n) := of_packet _
theorem tripRegistered (n : Fin 48) : Statement (.tripRegistered n) := of_packet _
theorem pwmWrite (p : Pkt) : Statement (.pwmWrite p) := of_packet _
theorem pwmLoadall (p : Pkt) : Statement (.pwmLoadall p) := of_packet _
theorem pwmCalStatus (p : Pkt) : Statement (.pwmCalStatus p) := of_packet _
theorem pwmRefloRead (g : Fin 8) : Statement (.pwmRefloRead g) := of_packet _
theorem profileStep (g : Fin 8) : Statement (.profileStep g) := of_packet _
theorem outerCycle (lanes : List LaneCycle) : Statement (.outerCycle lanes) := of_packet _
theorem triggeredSample (n : Fin 48) (code : Int) (valid : Bool) : Statement (.triggeredSample n code valid) := of_packet _
theorem innerResultWrite (n : Fin 48) : Statement (.innerResultWrite n) := of_packet _
theorem loopOverrun (n : Fin 48) : Statement (.loopOverrun n) := of_packet _
theorem loopLoadall (g : Fin 8) : Statement (.loopLoadall g) := of_packet _
theorem loopParam (p : Pkt) : Statement (.loopParam p) := of_packet _
theorem loopProfile (p : Pkt) : Statement (.loopProfile p) := of_packet _
theorem groupSetpoint (p : Pkt) : Statement (.groupSetpoint p) := of_packet _
theorem loopTrace (p : Pkt) : Statement (.loopTrace p) := of_packet _
theorem groupConfig (p : Pkt) : Statement (.groupConfig p) := of_packet _
theorem groupEnable (p : Pkt) : Statement (.groupEnable p) := of_packet _
theorem groupStop (p : Pkt) : Statement (.groupStop p) := of_packet _
theorem groupStatus (p : Pkt) : Statement (.groupStatus p) := of_packet _
theorem phaseRetire (p : Pkt) : Statement (.phaseRetire p) := of_packet _
theorem phaseRestore (p : Pkt) : Statement (.phaseRestore p) := of_packet _
theorem groupFaultRead (p : Pkt) : Statement (.groupFaultRead p) := of_packet _
theorem faultRead (p : Pkt) : Statement (.faultRead p) := of_packet _
theorem faultClear (p : Pkt) : Statement (.faultClear p) := of_packet _
theorem resourceList (p : Pkt) : Statement (.resourceList p) := of_packet _
theorem precheckDischargeTimeout (g : Fin 8) : Statement (.precheckDischargeTimeout g) := of_packet _
theorem precheckSettleEnd (g : Fin 8) : Statement (.precheckSettleEnd g) := of_packet _
theorem precheckVinTimeout (g : Fin 8) : Statement (.precheckVinTimeout g) := of_packet _
theorem precheckMidSampleEnd (g : Fin 8) (l : List MidSample) : Statement (.precheckMidSampleEnd g l) := of_packet _
theorem precheckResample (g : Fin 8) (l : List MidSample) : Statement (.precheckResample g l) := of_packet _
theorem stopOverrun (g : Fin 8) : Statement (.stopOverrun g) := of_packet _
theorem contactorWait (g : Fin 8) : Statement (.contactorWait g) := of_packet _
theorem dischargeComplete (g : Fin 8) : Statement (.dischargeComplete g) := of_packet _
theorem dischargeTimeout (g : Fin 8) : Statement (.dischargeTimeout g) := of_packet _
theorem dischargeChannelLimit (g : Fin 8) : Statement (.dischargeChannelLimit g) := of_packet _
theorem tripBurstCharge (n : Fin 48) : Statement (.tripBurstCharge n) := of_packet _
theorem pilotPeriodClassify (p : Fin 8) (l : List (Nat × Int)) : Statement (.pilotPeriodClassify p l) := of_packet _
theorem vlFrameReceive (p : Fin 8) (f : VlFrame) : Statement (.vlFrameReceive p f) := of_packet _
theorem sdpRequest (p : Fin 8) : Statement (.sdpRequest p) := of_packet _
theorem vlLinkDown (l : LinkLoss) : Statement (.vlLinkDown l) := of_packet _
theorem vehicleSessionSetup (p : Fin 8) (u : Setup) : Statement (.vehicleSessionSetup p u) := of_packet _
theorem vehicleAuthorizationReq (p : Fin 8) (u : Ident) : Statement (.vehicleAuthorizationReq p u) := of_packet _
theorem vehicleCableCheckReq (p : Fin 8) : Statement (.vehicleCableCheckReq p) := of_packet _
theorem cableCheckEnd (p : Fin 8) : Statement (.cableCheckEnd p) := of_packet _
theorem vehiclePrechargeReq (p : Fin 8) (v : Int) : Statement (.vehiclePrechargeReq p v) := of_packet _
theorem vehiclePowerDeliveryStart (p : Fin 8) (iReq : Int) (iDreq : Int) (vTarget : Int) (vMin : Int) : Statement (.vehiclePowerDeliveryStart p iReq iDreq vTarget vMin) := of_packet _
theorem vehicleCurrentDemand (p : Fin 8) (iReq : Int) (iDreq : Int) (vTarget : Int) (vMin : Int) : Statement (.vehicleCurrentDemand p iReq iDreq vTarget vMin) := of_packet _
theorem vehicleStop (p : Fin 8) : Statement (.vehicleStop p) := of_packet _
theorem authTimeout (p : Fin 8) : Statement (.authTimeout p) := of_packet _
theorem demandGap (p : Fin 8) : Statement (.demandGap p) := of_packet _
theorem seqTimeout (p : Fin 8) : Statement (.seqTimeout p) := of_packet _
theorem contactorFail (p : Fin 8) : Statement (.contactorFail p) := of_packet _
theorem contactorWeld (p : Fin 8) : Statement (.contactorWeld p) := of_packet _
theorem portConfig (p : Pkt) : Statement (.portConfig p) := of_packet _
theorem portAuthorize (p : Pkt) : Statement (.portAuthorize p) := of_packet _
theorem portLimit (p : Pkt) : Statement (.portLimit p) := of_packet _
theorem portStop (p : Pkt) : Statement (.portStop p) := of_packet _
theorem portStatus (p : Pkt) : Statement (.portStatus p) := of_packet _
theorem portSessionRead (p : Pkt) : Statement (.portSessionRead p) := of_packet _
theorem portClear (p : Pkt) : Statement (.portClear p) := of_packet _
theorem flowPulse (p : Fin 8) : Statement (.flowPulse p) := of_packet _
theorem coolCapStale (p : Fin 8) : Statement (.coolCapStale p) := of_packet _
theorem pumpStartWindowEnd (p : Fin 8) : Statement (.pumpStartWindowEnd p) := of_packet _
theorem coolRunOnEnd (p : Fin 8) : Statement (.coolRunOnEnd p) := of_packet _
theorem coolConfig (p : Pkt) : Statement (.coolConfig p) := of_packet _
theorem coolStatus (p : Pkt) : Statement (.coolStatus p) := of_packet _
theorem meterSample (raw : List PathBits) : Statement (.meterSample raw) := of_packet _
theorem metrologyCoreFault : Statement (.metrologyCoreFault) := of_packet _
theorem metrologyRestart : Statement (.metrologyRestart) := of_packet _
theorem mirrorRefresh : Statement (.mirrorRefresh) := of_packet _
theorem sealNChange (level : SealLevel) : Statement (.sealNChange level) := of_packet _
theorem meterConfig (p : Pkt) : Statement (.meterConfig p) := of_packet _
theorem meterCalTable (p : Pkt) : Statement (.meterCalTable p) := of_packet _
theorem meterRead (p : Pkt) : Statement (.meterRead p) := of_packet _
theorem meterSeal (p : Pkt) : Statement (.meterSeal p) := of_packet _
theorem meterMirloRead : Statement (.meterMirloRead) := of_packet _
theorem journalCommitRegular : Statement (.journalCommitRegular) := of_packet _
theorem lastGaspRepeat : Statement (.lastGaspRepeat) := of_packet _
theorem billingRestart : Statement (.billingRestart) := of_packet _
theorem defaultTariffHoldExpiry : Statement (.defaultTariffHoldExpiry) := of_packet _
theorem keypadTokenFrame (n : Fin 8) (ident : Nat) (b : Bytes) : Statement (.keypadTokenFrame n ident b) := of_packet _
theorem tokenLockoutEnd : Statement (.tokenLockoutEnd) := of_packet _
theorem billTariffLoad (p : Pkt) : Statement (.billTariffLoad p) := of_packet _
theorem billCalendarLoad (p : Pkt) : Statement (.billCalendarLoad p) := of_packet _
theorem billRead (p : Pkt) : Statement (.billRead p) := of_packet _
theorem billTokenEnter (p : Pkt) : Statement (.billTokenEnter p) := of_packet _
theorem billClosePeriod (p : Pkt) : Statement (.billClosePeriod p) := of_packet _
theorem billAccount (p : Pkt) : Statement (.billAccount p) := of_packet _
theorem billCommitloRead : Statement (.billCommitloRead) := of_packet _
theorem imageCapture : Statement (.imageCapture) := of_packet _
theorem imageDeadline : Statement (.imageDeadline) := of_packet _
theorem twinSelfTestDone (ok : Bool) : Statement (.twinSelfTestDone ok) := of_packet _
theorem partnerReportReceive (r : PartnerReport) : Statement (.partnerReportReceive r) := of_packet _
theorem leaseRenewal : Statement (.leaseRenewal) := of_packet _
theorem leaseRenewalReceive (b : Bytes) : Statement (.leaseRenewalReceive b) := of_packet _
theorem leaseExpiry : Statement (.leaseExpiry) := of_packet _
theorem leaseTaken : Statement (.leaseTaken) := of_packet _
theorem leaseInChange (level : Bool) : Statement (.leaseInChange level) := of_packet _
theorem hingeUp (mask : Nat) : Statement (.hingeUp mask) := of_packet _
theorem hingeDown (mask : Nat) : Statement (.hingeDown mask) := of_packet _
theorem hingeLaneRetrain (n : Fin 4) (ok : Bool) : Statement (.hingeLaneRetrain n ok) := of_packet _
theorem hingeTimeMessage (off : Int) : Statement (.hingeTimeMessage off) := of_packet _
theorem sharedSeqStore : Statement (.sharedSeqStore) := of_packet _
theorem selfDiagFail : Statement (.selfDiagFail) := of_packet _
theorem handoverOffer (q0 : Nat) (drill : Fin 3) : Statement (.handoverOffer q0 drill) := of_packet _
theorem handoverSwitch : Statement (.handoverSwitch) := of_packet _
theorem handoverCheck : Statement (.handoverCheck) := of_packet _
theorem leaseDrillStart : Statement (.leaseDrillStart) := of_packet _
theorem leaseDrillHoldEnd : Statement (.leaseDrillHoldEnd) := of_packet _
theorem siteMasterRenewal : Statement (.siteMasterRenewal) := of_packet _
theorem siteMasterRenewalReceive (b : Bytes) : Statement (.siteMasterRenewalReceive b) := of_packet _
theorem siteMasterTaken : Statement (.siteMasterTaken) := of_packet _
theorem twinConfig (p : Pkt) : Statement (.twinConfig p) := of_packet _
theorem twinStatus (p : Pkt) : Statement (.twinStatus p) := of_packet _
theorem twinDrill (p : Pkt) : Statement (.twinDrill p) := of_packet _
theorem twinYield (p : Pkt) : Statement (.twinYield p) := of_packet _
theorem twinEndloRead : Statement (.twinEndloRead) := of_packet _
theorem canFrameReceive (n : Fin 8) (f : CanRx) : Statement (.canFrameReceive n f) := of_packet _
theorem canError (n : Fin 8) (e : CanErr) : Statement (.canError n e) := of_packet _
theorem canRecovered (n : Fin 8) : Statement (.canRecovered n) := of_packet _
theorem canModeApply (n : Fin 8) : Statement (.canModeApply n) := of_packet _
theorem canTxComplete (n : Fin 8) (sof : Nat) (tdcv : Option Nat) : Statement (.canTxComplete n sof tdcv) := of_packet _
theorem canTxExpired (n : Fin 8) : Statement (.canTxExpired n) := of_packet _
theorem setpointStreamFrame (n : Fin 8) (k : Fin 8) : Statement (.setpointStreamFrame n k) := of_packet _
theorem canConfig (p : Pkt) : Statement (.canConfig p) := of_packet _
theorem canSend (p : Pkt) : Statement (.canSend p) := of_packet _
theorem canMode (p : Pkt) : Statement (.canMode p) := of_packet _
theorem canStatus (p : Pkt) : Statement (.canStatus p) := of_packet _
theorem beaconTransmit : Statement (.beaconTransmit) := of_packet _
theorem beaconReceive (f : FlRx) : Statement (.beaconReceive f) := of_packet _
theorem flinkBeaconLost : Statement (.flinkBeaconLost) := of_packet _
theorem flinkFrameReceive (f : FlRx) : Statement (.flinkFrameReceive f) := of_packet _
theorem linkReportReceive (f : FlRx) : Statement (.linkReportReceive f) := of_packet _
theorem flinkSlotTransmit : Statement (.flinkSlotTransmit) := of_packet _
theorem flinkAckTimeout : Statement (.flinkAckTimeout) := of_packet _
theorem flinkSendTimeout : Statement (.flinkSendTimeout) := of_packet _
theorem degradedWindowEnd : Statement (.degradedWindowEnd) := of_packet _
theorem flinkConfig (p : Pkt) : Statement (.flinkConfig p) := of_packet _
theorem flinkSend (p : Pkt) : Statement (.flinkSend p) := of_packet _
theorem flinkStatus (p : Pkt) : Statement (.flinkStatus p) := of_packet _
theorem fragmentReassemblyTimeout (net : Fin 2) (id : Nat) : Statement (.fragmentReassemblyTimeout net id) := of_packet _
theorem siteDatagramReceive (d : Dgram) : Statement (.siteDatagramReceive d) := of_packet _
theorem ethLinkChange (net : Fin 2) (up : Bool) : Statement (.ethLinkChange net up) := of_packet _
theorem ccpIntakeResume : Statement (.ccpIntakeResume) := of_packet _
theorem hostioStatusRead : Statement (.hostioStatusRead) := of_packet _
theorem hostioInterfaceReset : Statement (.hostioInterfaceReset) := of_packet _
theorem hostioUnknownInstruction (code : BitVec 8) : Statement (.hostioUnknownInstruction code) := of_packet _
theorem windowWrite (a : Word) (ws : List Word) (part : Bool) : Statement (.windowWrite a ws part) := of_packet _
theorem sysReadyloRead : Statement (.sysReadyloRead) := of_packet _
theorem queueQdataWrite (q : Fin 128) (w : Word) : Statement (.queueQdataWrite q w) := of_packet _
theorem queueQopenWrite (q : Fin 128) (v : Word) : Statement (.queueQopenWrite q v) := of_packet _
theorem queueQcloseWrite (q : Fin 128) (v : Word) : Statement (.queueQcloseWrite q v) := of_packet _
theorem queueQrloRead (q : Fin 128) : Statement (.queueQrloRead q) := of_packet _
theorem queueQctlDrop (q : Fin 128) (v : Word) : Statement (.queueQctlDrop q v) := of_packet _
theorem hostPacketTimeout (q : Fin 128) : Statement (.hostPacketTimeout q) := of_packet _
theorem spillMove (q : Fin 128) : Statement (.spillMove q) := of_packet _
theorem queueLayoutSwitch (q : Fin 128) : Statement (.queueLayoutSwitch q) := of_packet _
theorem eventRelease : Statement (.eventRelease) := of_packet _
theorem eventFlood (src : Fin 256) : Statement (.eventFlood src) := of_packet _
theorem evtRouteWrite (src : Fin 256) (v : Word) : Statement (.evtRouteWrite src v) := of_packet _
theorem evtPendWrite (p : Fin 4) (w : Fin 8) (v : Word) : Statement (.evtPendWrite p w v) := of_packet _
theorem queueConfig (p : Pkt) : Statement (.queueConfig p) := of_packet _
theorem queueDropPacket (p : Pkt) : Statement (.queueDropPacket p) := of_packet _
theorem queueStatus (p : Pkt) : Statement (.queueStatus p) := of_packet _
theorem eventRoute (p : Pkt) : Statement (.eventRoute p) := of_packet _
theorem swLimiting (n : Fin 24) : Statement (.swLimiting n) := of_packet _
theorem swOvertemp (n : Fin 24) : Statement (.swOvertemp n) := of_packet _
theorem swRetry (n : Fin 24) (temp : Int) : Statement (.swRetry n temp) := of_packet _
theorem clampComplete (n : Fin 24) (e : Nat) : Statement (.clampComplete n e) := of_packet _
theorem clampPowerWindow : Statement (.clampPowerWindow) := of_packet _
theorem swOpenLoad (n : Fin 24) (mv : Int) : Statement (.swOpenLoad n mv) := of_packet _
theorem swOpenLoadCleared (n : Fin 24) : Statement (.swOpenLoadCleared n) := of_packet _
theorem inrushWindowEnd (n : Fin 24) : Statement (.inrushWindowEnd n) := of_packet _
theorem slewTurnOnComplete (n : Fin 24) (reached : Bool) : Statement (.slewTurnOnComplete n reached) := of_packet _
theorem budgetWindow (m : Vector SwMeas 24) : Statement (.budgetWindow m) := of_packet _
theorem budgetRestore : Statement (.budgetRestore) := of_packet _
theorem swDipRestore : Statement (.swDipRestore) := of_packet _
theorem swConfig (p : Pkt) : Statement (.swConfig p) := of_packet _
theorem swSet (p : Pkt) : Statement (.swSet p) := of_packet _
theorem swStatus (p : Pkt) : Statement (.swStatus p) := of_packet _
theorem hkRoundComplete (raw : Vector Int 64) (int : Vector Int 9) : Statement (.hkRoundComplete raw int) := of_packet _
theorem thermalConversion (temps : Vector Int 8) : Statement (.thermalConversion temps) := of_packet _
theorem thermHwLimit (sensor : Fin 8) (elapsed : Nat) : Statement (.thermHwLimit sensor elapsed) := of_packet _
theorem throttleWindowStart : Statement (.throttleWindowStart) := of_packet _
theorem hkConfig (p : Pkt) : Statement (.hkConfig p) := of_packet _
theorem hkRead (p : Pkt) : Statement (.hkRead p) := of_packet _
theorem thermConfig (p : Pkt) : Statement (.thermConfig p) := of_packet _
theorem thermRelease (p : Pkt) : Statement (.thermRelease p) := of_packet _
theorem thermLatchloRead : Statement (.thermLatchloRead) := of_packet _
theorem linkFrameReceive (l : Fin 3) (x : BusFrame) : Statement (.linkFrameReceive l x) := of_packet _
theorem clockLoss (c : Fin 8) : Statement (.clockLoss c) := of_packet _
theorem clockRestored (c : Fin 8) : Statement (.clockRestored c) := of_packet _
theorem coreWatchdog (k : Fin 4) : Statement (.coreWatchdog k) := of_packet _
theorem eccUncorrectable (o : EccOwner) : Statement (.eccUncorrectable o) := of_packet _
theorem deviceFaultReset : Statement (.deviceFaultReset) := of_packet _
theorem vsQualified (threshold : Nat) : Statement (.vsQualified threshold) := of_packet _
theorem sequencerStep : Statement (.sequencerStep) := of_packet _
theorem pgTimeout : Statement (.pgTimeout) := of_packet _
theorem sequencerRetry : Statement (.sequencerRetry) := of_packet _
theorem pgFall : Statement (.pgFall) := of_packet _
theorem vsBelow3v : Statement (.vsBelow3v) := of_packet _
theorem vsRestore : Statement (.vsRestore) := of_packet _
theorem brownoutAssert : Statement (.brownoutAssert) := of_packet _
theorem brownoutClear : Statement (.brownoutClear) := of_packet _
theorem resetNAssert : Statement (.resetNAssert) := of_packet _
theorem resetRelease (site : Fin 16) (twinB : Bool) (tcxo : Bool) (elapsed : Nat) : Statement (.resetRelease site twinB tcxo elapsed) := of_packet _
theorem bootTimeout : Statement (.bootTimeout) := of_packet _
theorem deviceReady : Statement (.deviceReady) := of_packet _
theorem heartbeatWrite (elapsed : Nat) : Statement (.heartbeatWrite elapsed) := of_packet _
theorem wake (src : Fin 5) (elapsed : Nat) : Statement (.wake src elapsed) := of_packet _
theorem ccpPacketRejected (p : Pkt) : Statement (.ccpPacketRejected p) := of_packet _
theorem windowRead (a : Word) (n : Nat) (part : Bool) : Statement (.windowRead a n part) := of_packet _
theorem slotPeriodStart (n : Fin 48) : Statement (.slotPeriodStart n) := of_packet _
theorem pwmCompareEdge (n : Fin 48) (high : Bool) (rise : Bool) : Statement (.pwmCompareEdge n high rise) := of_packet _
theorem handoverAnswerReceive (yes : Bool) : Statement (.handoverAnswerReceive yes) := of_packet _
theorem imageFrameReceive (m : ImageMsg) : Statement (.imageFrameReceive m) := of_packet _
theorem swLimitingEnd (n : Fin 24) (cur : Nat) : Statement (.swLimitingEnd n cur) := of_packet _
theorem vbatDomainLoss : Statement (.vbatDomainLoss) := of_packet _
theorem vbatDomainReturn : Statement (.vbatDomainReturn) := of_packet _
theorem hostioServingStart : Statement (.hostioServingStart) := of_packet _
theorem keepDefaultSet : Statement (.keepDefaultSet) := of_packet _
theorem selfTestFailure (u : TestUnit) : Statement (.selfTestFailure u) := of_packet _
theorem eccCorrection (m : Fin 4) : Statement (.eccCorrection m) := of_packet _

end Sys2Proof.Laws.CommandForm
end

