-- ==== Sys2Proof/Laws/State.lean ====
section
/-! SUPPORT. What each shared update does to each field of the state, so that no proof unfolds a record update. -/

namespace Sys2Proof.Machine

variable (s : State)

/-! `raise` -/
section

variable (e : Ev) (p1 p2 fl : Nat)

@[simp] theorem State.raise_strap : (s.raise e p1 p2 fl).strap = s.strap := rfl
@[simp] theorem State.raise_clk : (s.raise e p1 p2 fl).clk = s.clk := rfl
@[simp] theorem State.raise_time : (s.raise e p1 p2 fl).time = s.time := rfl
@[simp] theorem State.raise_launches : (s.raise e p1 p2 fl).launches = s.launches := rfl
@[simp] theorem State.raise_launchCount : (s.raise e p1 p2 fl).launchCount = s.launchCount := rfl
@[simp] theorem State.raise_captures : (s.raise e p1 p2 fl).captures = s.captures := rfl
@[simp] theorem State.raise_capLog : (s.raise e p1 p2 fl).capLog = s.capLog := rfl
@[simp] theorem State.raise_ccp : (s.raise e p1 p2 fl).ccp = s.ccp := rfl
@[simp] theorem State.raise_hio : (s.raise e p1 p2 fl).hio = s.hio := rfl
@[simp] theorem State.raise_queues : (s.raise e p1 p2 fl).queues = s.queues := rfl
@[simp] theorem State.raise_nv : (s.raise e p1 p2 fl).nv = s.nv := rfl
@[simp] theorem State.raise_sys : (s.raise e p1 p2 fl).sys = s.sys := rfl
@[simp] theorem State.raise_seqr : (s.raise e p1 p2 fl).seqr = s.seqr := rfl
@[simp] theorem State.raise_vbat : (s.raise e p1 p2 fl).vbat = s.vbat := rfl
@[simp] theorem State.raise_hk : (s.raise e p1 p2 fl).hk = s.hk := rfl
@[simp] theorem State.raise_therm : (s.raise e p1 p2 fl).therm = s.therm := rfl
@[simp] theorem State.raise_sws : (s.raise e p1 p2 fl).sws = s.sws := rfl
@[simp] theorem State.raise_budget : (s.raise e p1 p2 fl).budget = s.budget := rfl
@[simp] theorem State.raise_fabric : (s.raise e p1 p2 fl).fabric = s.fabric := rfl
@[simp] theorem State.raise_groups : (s.raise e p1 p2 fl).groups = s.groups := rfl
@[simp] theorem State.raise_slots : (s.raise e p1 p2 fl).slots = s.slots := rfl
@[simp] theorem State.raise_groupRecs : (s.raise e p1 p2 fl).groupRecs = s.groupRecs := rfl
@[simp] theorem State.raise_ports : (s.raise e p1 p2 fl).ports = s.ports := rfl
@[simp] theorem State.raise_portRecs : (s.raise e p1 p2 fl).portRecs = s.portRecs := rfl
@[simp] theorem State.raise_sessionSeq : (s.raise e p1 p2 fl).sessionSeq = s.sessionSeq := rfl
@[simp] theorem State.raise_cools : (s.raise e p1 p2 fl).cools = s.cools := rfl
@[simp] theorem State.raise_alloc : (s.raise e p1 p2 fl).alloc = s.alloc := rfl
@[simp] theorem State.raise_metro : (s.raise e p1 p2 fl).metro = s.metro := rfl
@[simp] theorem State.raise_bill : (s.raise e p1 p2 fl).bill = s.bill := rfl
@[simp] theorem State.raise_cans : (s.raise e p1 p2 fl).cans = s.cans := rfl
@[simp] theorem State.raise_canCopies : (s.raise e p1 p2 fl).canCopies = s.canCopies := rfl
@[simp] theorem State.raise_flink : (s.raise e p1 p2 fl).flink = s.flink := rfl
@[simp] theorem State.raise_twin : (s.raise e p1 p2 fl).twin = s.twin := rfl
@[simp] theorem State.raise_image : (s.raise e p1 p2 fl).image = s.image := rfl
@[simp] theorem State.raise_master : (s.raise e p1 p2 fl).master = s.master := rfl
@[simp] theorem State.raise_seqCtr : (s.raise e p1 p2 fl).seqCtr = s.seqCtr := rfl
@[simp] theorem State.raise_out : (s.raise e p1 p2 fl).out = s.out := rfl
@[simp] theorem State.raise_freeCount : (s.raise e p1 p2 fl).freeCount = s.freeCount := rfl
@[simp] theorem State.raise_pending : (s.raise e p1 p2 fl).pending = s.pending := rfl
@[simp] theorem State.raise_evt : (s.raise e p1 p2 fl).evt = { s.evt with held := s.evt.held ++
      [{ stamp := s.st, from_ := (s.st : Int) - s.clk.moved, seq := 0, src := e.source, code := e.code, flags := fl, p1 := p1 % 2 ^ 32, p2 := p2 % 2 ^ 32 }] } := rfl

end

/-! `emit` -/
section

variable (o : Out)

@[simp] theorem State.emit_strap : (s.emit o).strap = s.strap := by unfold State.emit; split <;> rfl
@[simp] theorem State.emit_clk : (s.emit o).clk = s.clk := by unfold State.emit; split <;> rfl
@[simp] theorem State.emit_time : (s.emit o).time = s.time := by unfold State.emit; split <;> rfl
@[simp] theorem State.emit_launches : (s.emit o).launches = s.launches := by unfold State.emit; split <;> rfl
@[simp] theorem State.emit_launchCount : (s.emit o).launchCount = s.launchCount := by unfold State.emit; split <;> rfl
@[simp] theorem State.emit_captures : (s.emit o).captures = s.captures := by unfold State.emit; split <;> rfl
@[simp] theorem State.emit_capLog : (s.emit o).capLog = s.capLog := by unfold State.emit; split <;> rfl
@[simp] theorem State.emit_ccp : (s.emit o).ccp = s.ccp := by unfold State.emit; split <;> rfl
@[simp] theorem State.emit_hio : (s.emit o).hio = s.hio := by unfold State.emit; split <;> rfl
@[simp] theorem State.emit_queues : (s.emit o).queues = s.queues := by unfold State.emit; split <;> rfl
@[simp] theorem State.emit_evt : (s.emit o).evt = s.evt := by unfold State.emit; split <;> rfl
@[simp] theorem State.emit_nv : (s.emit o).nv = s.nv := by unfold State.emit; split <;> rfl
@[simp] theorem State.emit_sys : (s.emit o).sys = s.sys := by unfold State.emit; split <;> rfl
@[simp] theorem State.emit_seqr : (s.emit o).seqr = s.seqr := by unfold State.emit; split <;> rfl
@[simp] theorem State.emit_vbat : (s.emit o).vbat = s.vbat := by unfold State.emit; split <;> rfl
@[simp] theorem State.emit_hk : (s.emit o).hk = s.hk := by unfold State.emit; split <;> rfl
@[simp] theorem State.emit_therm : (s.emit o).therm = s.therm := by unfold State.emit; split <;> rfl
@[simp] theorem State.emit_sws : (s.emit o).sws = s.sws := by unfold State.emit; split <;> rfl
@[simp] theorem State.emit_budget : (s.emit o).budget = s.budget := by unfold State.emit; split <;> rfl
@[simp] theorem State.emit_fabric : (s.emit o).fabric = s.fabric := by unfold State.emit; split <;> rfl
@[simp] theorem State.emit_groups : (s.emit o).groups = s.groups := by unfold State.emit; split <;> rfl
@[simp] theorem State.emit_slots : (s.emit o).slots = s.slots := by unfold State.emit; split <;> rfl
@[simp] theorem State.emit_groupRecs : (s.emit o).groupRecs = s.groupRecs := by unfold State.emit; split <;> rfl
@[simp] theorem State.emit_ports : (s.emit o).ports = s.ports := by unfold State.emit; split <;> rfl
@[simp] theorem State.emit_portRecs : (s.emit o).portRecs = s.portRecs := by unfold State.emit; split <;> rfl
@[simp] theorem State.emit_sessionSeq : (s.emit o).sessionSeq = s.sessionSeq := by unfold State.emit; split <;> rfl
@[simp] theorem State.emit_cools : (s.emit o).cools = s.cools := by unfold State.emit; split <;> rfl
@[simp] theorem State.emit_alloc : (s.emit o).alloc = s.alloc := by unfold State.emit; split <;> rfl
@[simp] theorem State.emit_metro : (s.emit o).metro = s.metro := by unfold State.emit; split <;> rfl
@[simp] theorem State.emit_bill : (s.emit o).bill = s.bill := by unfold State.emit; split <;> rfl
@[simp] theorem State.emit_cans : (s.emit o).cans = s.cans := by unfold State.emit; split <;> rfl
@[simp] theorem State.emit_canCopies : (s.emit o).canCopies = s.canCopies := by unfold State.emit; split <;> rfl
@[simp] theorem State.emit_flink : (s.emit o).flink = s.flink := by unfold State.emit; split <;> rfl
@[simp] theorem State.emit_twin : (s.emit o).twin = s.twin := by unfold State.emit; split <;> rfl
@[simp] theorem State.emit_image : (s.emit o).image = s.image := by unfold State.emit; split <;> rfl
@[simp] theorem State.emit_master : (s.emit o).master = s.master := by unfold State.emit; split <;> rfl
@[simp] theorem State.emit_seqCtr : (s.emit o).seqCtr = s.seqCtr := by unfold State.emit; split <;> rfl
@[simp] theorem State.emit_freeCount : (s.emit o).freeCount = s.freeCount := by unfold State.emit; split <;> rfl
@[simp] theorem State.emit_pending : (s.emit o).pending = s.pending := by unfold State.emit; split <;> rfl

end

/-! `store` -/
section

variable (f : Cfg → Cfg)

@[simp] theorem State.store_strap : (s.store f).strap = s.strap := rfl
@[simp] theorem State.store_clk : (s.store f).clk = s.clk := rfl
@[simp] theorem State.store_time : (s.store f).time = s.time := rfl
@[simp] theorem State.store_launches : (s.store f).launches = s.launches := rfl
@[simp] theorem State.store_launchCount : (s.store f).launchCount = s.launchCount := rfl
@[simp] theorem State.store_captures : (s.store f).captures = s.captures := rfl
@[simp] theorem State.store_capLog : (s.store f).capLog = s.capLog := rfl
@[simp] theorem State.store_ccp : (s.store f).ccp = s.ccp := rfl
@[simp] theorem State.store_hio : (s.store f).hio = s.hio := rfl
@[simp] theorem State.store_queues : (s.store f).queues = s.queues := rfl
@[simp] theorem State.store_evt : (s.store f).evt = s.evt := rfl
@[simp] theorem State.store_sys : (s.store f).sys = s.sys := rfl
@[simp] theorem State.store_seqr : (s.store f).seqr = s.seqr := rfl
@[simp] theorem State.store_vbat : (s.store f).vbat = s.vbat := rfl
@[simp] theorem State.store_hk : (s.store f).hk = s.hk := rfl
@[simp] theorem State.store_therm : (s.store f).therm = s.therm := rfl
@[simp] theorem State.store_sws : (s.store f).sws = s.sws := rfl
@[simp] theorem State.store_budget : (s.store f).budget = s.budget := rfl
@[simp] theorem State.store_fabric : (s.store f).fabric = s.fabric := rfl
@[simp] theorem State.store_groups : (s.store f).groups = s.groups := rfl
@[simp] theorem State.store_slots : (s.store f).slots = s.slots := rfl
@[simp] theorem State.store_groupRecs : (s.store f).groupRecs = s.groupRecs := rfl
@[simp] theorem State.store_ports : (s.store f).ports = s.ports := rfl
@[simp] theorem State.store_portRecs : (s.store f).portRecs = s.portRecs := rfl
@[simp] theorem State.store_sessionSeq : (s.store f).sessionSeq = s.sessionSeq := rfl
@[simp] theorem State.store_cools : (s.store f).cools = s.cools := rfl
@[simp] theorem State.store_alloc : (s.store f).alloc = s.alloc := rfl
@[simp] theorem State.store_metro : (s.store f).metro = s.metro := rfl
@[simp] theorem State.store_bill : (s.store f).bill = s.bill := rfl
@[simp] theorem State.store_cans : (s.store f).cans = s.cans := rfl
@[simp] theorem State.store_canCopies : (s.store f).canCopies = s.canCopies := rfl
@[simp] theorem State.store_flink : (s.store f).flink = s.flink := rfl
@[simp] theorem State.store_twin : (s.store f).twin = s.twin := rfl
@[simp] theorem State.store_image : (s.store f).image = s.image := rfl
@[simp] theorem State.store_master : (s.store f).master = s.master := rfl
@[simp] theorem State.store_seqCtr : (s.store f).seqCtr = s.seqCtr := rfl
@[simp] theorem State.store_out : (s.store f).out = s.out := rfl
@[simp] theorem State.store_freeCount : (s.store f).freeCount = s.freeCount := rfl
@[simp] theorem State.store_pending : (s.store f).pending = s.pending := rfl
@[simp] theorem State.store_nv : (s.store f).nv = { s.nv with cfg := f s.nv.cfg } := rfl

end

/-! `setQueue` -/
section

variable (i : Fin 128) (q : Queue)

@[simp] theorem State.setQueue_strap : (s.setQueue i q).strap = s.strap := rfl
@[simp] theorem State.setQueue_clk : (s.setQueue i q).clk = s.clk := rfl
@[simp] theorem State.setQueue_time : (s.setQueue i q).time = s.time := rfl
@[simp] theorem State.setQueue_launches : (s.setQueue i q).launches = s.launches := rfl
@[simp] theorem State.setQueue_launchCount : (s.setQueue i q).launchCount = s.launchCount := rfl
@[simp] theorem State.setQueue_captures : (s.setQueue i q).captures = s.captures := rfl
@[simp] theorem State.setQueue_capLog : (s.setQueue i q).capLog = s.capLog := rfl
@[simp] theorem State.setQueue_ccp : (s.setQueue i q).ccp = s.ccp := rfl
@[simp] theorem State.setQueue_hio : (s.setQueue i q).hio = s.hio := rfl
@[simp] theorem State.setQueue_evt : (s.setQueue i q).evt = s.evt := rfl
@[simp] theorem State.setQueue_nv : (s.setQueue i q).nv = s.nv := rfl
@[simp] theorem State.setQueue_sys : (s.setQueue i q).sys = s.sys := rfl
@[simp] theorem State.setQueue_seqr : (s.setQueue i q).seqr = s.seqr := rfl
@[simp] theorem State.setQueue_vbat : (s.setQueue i q).vbat = s.vbat := rfl
@[simp] theorem State.setQueue_hk : (s.setQueue i q).hk = s.hk := rfl
@[simp] theorem State.setQueue_therm : (s.setQueue i q).therm = s.therm := rfl
@[simp] theorem State.setQueue_sws : (s.setQueue i q).sws = s.sws := rfl
@[simp] theorem State.setQueue_budget : (s.setQueue i q).budget = s.budget := rfl
@[simp] theorem State.setQueue_fabric : (s.setQueue i q).fabric = s.fabric := rfl
@[simp] theorem State.setQueue_groups : (s.setQueue i q).groups = s.groups := rfl
@[simp] theorem State.setQueue_slots : (s.setQueue i q).slots = s.slots := rfl
@[simp] theorem State.setQueue_groupRecs : (s.setQueue i q).groupRecs = s.groupRecs := rfl
@[simp] theorem State.setQueue_ports : (s.setQueue i q).ports = s.ports := rfl
@[simp] theorem State.setQueue_portRecs : (s.setQueue i q).portRecs = s.portRecs := rfl
@[simp] theorem State.setQueue_sessionSeq : (s.setQueue i q).sessionSeq = s.sessionSeq := rfl
@[simp] theorem State.setQueue_cools : (s.setQueue i q).cools = s.cools := rfl
@[simp] theorem State.setQueue_alloc : (s.setQueue i q).alloc = s.alloc := rfl
@[simp] theorem State.setQueue_metro : (s.setQueue i q).metro = s.metro := rfl
@[simp] theorem State.setQueue_bill : (s.setQueue i q).bill = s.bill := rfl
@[simp] theorem State.setQueue_cans : (s.setQueue i q).cans = s.cans := rfl
@[simp] theorem State.setQueue_canCopies : (s.setQueue i q).canCopies = s.canCopies := rfl
@[simp] theorem State.setQueue_flink : (s.setQueue i q).flink = s.flink := rfl
@[simp] theorem State.setQueue_twin : (s.setQueue i q).twin = s.twin := rfl
@[simp] theorem State.setQueue_image : (s.setQueue i q).image = s.image := rfl
@[simp] theorem State.setQueue_master : (s.setQueue i q).master = s.master := rfl
@[simp] theorem State.setQueue_seqCtr : (s.setQueue i q).seqCtr = s.seqCtr := rfl
@[simp] theorem State.setQueue_out : (s.setQueue i q).out = s.out := rfl
@[simp] theorem State.setQueue_freeCount : (s.setQueue i q).freeCount = s.freeCount := rfl
@[simp] theorem State.setQueue_pending : (s.setQueue i q).pending = s.pending := rfl
@[simp] theorem State.setQueue_queues : (s.setQueue i q).queues = s.queues.set i q := rfl

end

/-! `modSw` -/
section

variable (n : Fin 24) (f : SwCh → SwCh)

@[simp] theorem State.modSw_strap : (s.modSw n f).strap = s.strap := rfl
@[simp] theorem State.modSw_clk : (s.modSw n f).clk = s.clk := rfl
@[simp] theorem State.modSw_time : (s.modSw n f).time = s.time := rfl
@[simp] theorem State.modSw_launches : (s.modSw n f).launches = s.launches := rfl
@[simp] theorem State.modSw_launchCount : (s.modSw n f).launchCount = s.launchCount := rfl
@[simp] theorem State.modSw_captures : (s.modSw n f).captures = s.captures := rfl
@[simp] theorem State.modSw_capLog : (s.modSw n f).capLog = s.capLog := rfl
@[simp] theorem State.modSw_ccp : (s.modSw n f).ccp = s.ccp := rfl
@[simp] theorem State.modSw_hio : (s.modSw n f).hio = s.hio := rfl
@[simp] theorem State.modSw_queues : (s.modSw n f).queues = s.queues := rfl
@[simp] theorem State.modSw_evt : (s.modSw n f).evt = s.evt := rfl
@[simp] theorem State.modSw_nv : (s.modSw n f).nv = s.nv := rfl
@[simp] theorem State.modSw_sys : (s.modSw n f).sys = s.sys := rfl
@[simp] theorem State.modSw_seqr : (s.modSw n f).seqr = s.seqr := rfl
@[simp] theorem State.modSw_vbat : (s.modSw n f).vbat = s.vbat := rfl
@[simp] theorem State.modSw_hk : (s.modSw n f).hk = s.hk := rfl
@[simp] theorem State.modSw_therm : (s.modSw n f).therm = s.therm := rfl
@[simp] theorem State.modSw_budget : (s.modSw n f).budget = s.budget := rfl
@[simp] theorem State.modSw_fabric : (s.modSw n f).fabric = s.fabric := rfl
@[simp] theorem State.modSw_groups : (s.modSw n f).groups = s.groups := rfl
@[simp] theorem State.modSw_slots : (s.modSw n f).slots = s.slots := rfl
@[simp] theorem State.modSw_groupRecs : (s.modSw n f).groupRecs = s.groupRecs := rfl
@[simp] theorem State.modSw_ports : (s.modSw n f).ports = s.ports := rfl
@[simp] theorem State.modSw_portRecs : (s.modSw n f).portRecs = s.portRecs := rfl
@[simp] theorem State.modSw_sessionSeq : (s.modSw n f).sessionSeq = s.sessionSeq := rfl
@[simp] theorem State.modSw_cools : (s.modSw n f).cools = s.cools := rfl
@[simp] theorem State.modSw_alloc : (s.modSw n f).alloc = s.alloc := rfl
@[simp] theorem State.modSw_metro : (s.modSw n f).metro = s.metro := rfl
@[simp] theorem State.modSw_bill : (s.modSw n f).bill = s.bill := rfl
@[simp] theorem State.modSw_cans : (s.modSw n f).cans = s.cans := rfl
@[simp] theorem State.modSw_canCopies : (s.modSw n f).canCopies = s.canCopies := rfl
@[simp] theorem State.modSw_flink : (s.modSw n f).flink = s.flink := rfl
@[simp] theorem State.modSw_twin : (s.modSw n f).twin = s.twin := rfl
@[simp] theorem State.modSw_image : (s.modSw n f).image = s.image := rfl
@[simp] theorem State.modSw_master : (s.modSw n f).master = s.master := rfl
@[simp] theorem State.modSw_seqCtr : (s.modSw n f).seqCtr = s.seqCtr := rfl
@[simp] theorem State.modSw_out : (s.modSw n f).out = s.out := rfl
@[simp] theorem State.modSw_freeCount : (s.modSw n f).freeCount = s.freeCount := rfl
@[simp] theorem State.modSw_pending : (s.modSw n f).pending = s.pending := rfl
@[simp] theorem State.modSw_sws : (s.modSw n f).sws = s.sws.set n (f s.sws[n]) := rfl

end

/-! `modG` -/
section

variable (g : Fin 8) (f : Group → Group)

@[simp] theorem State.modG_strap : (s.modG g f).strap = s.strap := rfl
@[simp] theorem State.modG_clk : (s.modG g f).clk = s.clk := rfl
@[simp] theorem State.modG_time : (s.modG g f).time = s.time := rfl
@[simp] theorem State.modG_launches : (s.modG g f).launches = s.launches := rfl
@[simp] theorem State.modG_launchCount : (s.modG g f).launchCount = s.launchCount := rfl
@[simp] theorem State.modG_captures : (s.modG g f).captures = s.captures := rfl
@[simp] theorem State.modG_capLog : (s.modG g f).capLog = s.capLog := rfl
@[simp] theorem State.modG_ccp : (s.modG g f).ccp = s.ccp := rfl
@[simp] theorem State.modG_hio : (s.modG g f).hio = s.hio := rfl
@[simp] theorem State.modG_queues : (s.modG g f).queues = s.queues := rfl
@[simp] theorem State.modG_evt : (s.modG g f).evt = s.evt := rfl
@[simp] theorem State.modG_nv : (s.modG g f).nv = s.nv := rfl
@[simp] theorem State.modG_sys : (s.modG g f).sys = s.sys := rfl
@[simp] theorem State.modG_seqr : (s.modG g f).seqr = s.seqr := rfl
@[simp] theorem State.modG_vbat : (s.modG g f).vbat = s.vbat := rfl
@[simp] theorem State.modG_hk : (s.modG g f).hk = s.hk := rfl
@[simp] theorem State.modG_therm : (s.modG g f).therm = s.therm := rfl
@[simp] theorem State.modG_sws : (s.modG g f).sws = s.sws := rfl
@[simp] theorem State.modG_budget : (s.modG g f).budget = s.budget := rfl
@[simp] theorem State.modG_fabric : (s.modG g f).fabric = s.fabric := rfl
@[simp] theorem State.modG_slots : (s.modG g f).slots = s.slots := rfl
@[simp] theorem State.modG_groupRecs : (s.modG g f).groupRecs = s.groupRecs := rfl
@[simp] theorem State.modG_ports : (s.modG g f).ports = s.ports := rfl
@[simp] theorem State.modG_portRecs : (s.modG g f).portRecs = s.portRecs := rfl
@[simp] theorem State.modG_sessionSeq : (s.modG g f).sessionSeq = s.sessionSeq := rfl
@[simp] theorem State.modG_cools : (s.modG g f).cools = s.cools := rfl
@[simp] theorem State.modG_alloc : (s.modG g f).alloc = s.alloc := rfl
@[simp] theorem State.modG_metro : (s.modG g f).metro = s.metro := rfl
@[simp] theorem State.modG_bill : (s.modG g f).bill = s.bill := rfl
@[simp] theorem State.modG_cans : (s.modG g f).cans = s.cans := rfl
@[simp] theorem State.modG_canCopies : (s.modG g f).canCopies = s.canCopies := rfl
@[simp] theorem State.modG_flink : (s.modG g f).flink = s.flink := rfl
@[simp] theorem State.modG_twin : (s.modG g f).twin = s.twin := rfl
@[simp] theorem State.modG_image : (s.modG g f).image = s.image := rfl
@[simp] theorem State.modG_master : (s.modG g f).master = s.master := rfl
@[simp] theorem State.modG_seqCtr : (s.modG g f).seqCtr = s.seqCtr := rfl
@[simp] theorem State.modG_out : (s.modG g f).out = s.out := rfl
@[simp] theorem State.modG_freeCount : (s.modG g f).freeCount = s.freeCount := rfl
@[simp] theorem State.modG_pending : (s.modG g f).pending = s.pending := rfl
@[simp] theorem State.modG_groups : (s.modG g f).groups = s.groups.set g (f s.groups[g]) := rfl

end

/-! `modPort` -/
section

variable (p : Fin 8) (f : Port → Port)

@[simp] theorem State.modPort_strap : (s.modPort p f).strap = s.strap := rfl
@[simp] theorem State.modPort_clk : (s.modPort p f).clk = s.clk := rfl
@[simp] theorem State.modPort_time : (s.modPort p f).time = s.time := rfl
@[simp] theorem State.modPort_launches : (s.modPort p f).launches = s.launches := rfl
@[simp] theorem State.modPort_launchCount : (s.modPort p f).launchCount = s.launchCount := rfl
@[simp] theorem State.modPort_captures : (s.modPort p f).captures = s.captures := rfl
@[simp] theorem State.modPort_capLog : (s.modPort p f).capLog = s.capLog := rfl
@[simp] theorem State.modPort_ccp : (s.modPort p f).ccp = s.ccp := rfl
@[simp] theorem State.modPort_hio : (s.modPort p f).hio = s.hio := rfl
@[simp] theorem State.modPort_queues : (s.modPort p f).queues = s.queues := rfl
@[simp] theorem State.modPort_evt : (s.modPort p f).evt = s.evt := rfl
@[simp] theorem State.modPort_nv : (s.modPort p f).nv = s.nv := rfl
@[simp] theorem State.modPort_sys : (s.modPort p f).sys = s.sys := rfl
@[simp] theorem State.modPort_seqr : (s.modPort p f).seqr = s.seqr := rfl
@[simp] theorem State.modPort_vbat : (s.modPort p f).vbat = s.vbat := rfl
@[simp] theorem State.modPort_hk : (s.modPort p f).hk = s.hk := rfl
@[simp] theorem State.modPort_therm : (s.modPort p f).therm = s.therm := rfl
@[simp] theorem State.modPort_sws : (s.modPort p f).sws = s.sws := rfl
@[simp] theorem State.modPort_budget : (s.modPort p f).budget = s.budget := rfl
@[simp] theorem State.modPort_fabric : (s.modPort p f).fabric = s.fabric := rfl
@[simp] theorem State.modPort_groups : (s.modPort p f).groups = s.groups := rfl
@[simp] theorem State.modPort_slots : (s.modPort p f).slots = s.slots := rfl
@[simp] theorem State.modPort_groupRecs : (s.modPort p f).groupRecs = s.groupRecs := rfl
@[simp] theorem State.modPort_portRecs : (s.modPort p f).portRecs = s.portRecs := rfl
@[simp] theorem State.modPort_sessionSeq : (s.modPort p f).sessionSeq = s.sessionSeq := rfl
@[simp] theorem State.modPort_cools : (s.modPort p f).cools = s.cools := rfl
@[simp] theorem State.modPort_alloc : (s.modPort p f).alloc = s.alloc := rfl
@[simp] theorem State.modPort_metro : (s.modPort p f).metro = s.metro := rfl
@[simp] theorem State.modPort_bill : (s.modPort p f).bill = s.bill := rfl
@[simp] theorem State.modPort_cans : (s.modPort p f).cans = s.cans := rfl
@[simp] theorem State.modPort_canCopies : (s.modPort p f).canCopies = s.canCopies := rfl
@[simp] theorem State.modPort_flink : (s.modPort p f).flink = s.flink := rfl
@[simp] theorem State.modPort_twin : (s.modPort p f).twin = s.twin := rfl
@[simp] theorem State.modPort_image : (s.modPort p f).image = s.image := rfl
@[simp] theorem State.modPort_master : (s.modPort p f).master = s.master := rfl
@[simp] theorem State.modPort_seqCtr : (s.modPort p f).seqCtr = s.seqCtr := rfl
@[simp] theorem State.modPort_out : (s.modPort p f).out = s.out := rfl
@[simp] theorem State.modPort_freeCount : (s.modPort p f).freeCount = s.freeCount := rfl
@[simp] theorem State.modPort_pending : (s.modPort p f).pending = s.pending := rfl
@[simp] theorem State.modPort_ports : (s.modPort p f).ports = s.ports.set p (f s.ports[p]) := rfl

end

/-! `modCan` -/
section

variable (n : Fin 8) (f : Can → Can)

@[simp] theorem State.modCan_strap : (s.modCan n f).strap = s.strap := rfl
@[simp] theorem State.modCan_clk : (s.modCan n f).clk = s.clk := rfl
@[simp] theorem State.modCan_time : (s.modCan n f).time = s.time := rfl
@[simp] theorem State.modCan_launches : (s.modCan n f).launches = s.launches := rfl
@[simp] theorem State.modCan_launchCount : (s.modCan n f).launchCount = s.launchCount := rfl
@[simp] theorem State.modCan_captures : (s.modCan n f).captures = s.captures := rfl
@[simp] theorem State.modCan_capLog : (s.modCan n f).capLog = s.capLog := rfl
@[simp] theorem State.modCan_ccp : (s.modCan n f).ccp = s.ccp := rfl
@[simp] theorem State.modCan_hio : (s.modCan n f).hio = s.hio := rfl
@[simp] theorem State.modCan_queues : (s.modCan n f).queues = s.queues := rfl
@[simp] theorem State.modCan_evt : (s.modCan n f).evt = s.evt := rfl
@[simp] theorem State.modCan_nv : (s.modCan n f).nv = s.nv := rfl
@[simp] theorem State.modCan_sys : (s.modCan n f).sys = s.sys := rfl
@[simp] theorem State.modCan_seqr : (s.modCan n f).seqr = s.seqr := rfl
@[simp] theorem State.modCan_vbat : (s.modCan n f).vbat = s.vbat := rfl
@[simp] theorem State.modCan_hk : (s.modCan n f).hk = s.hk := rfl
@[simp] theorem State.modCan_therm : (s.modCan n f).therm = s.therm := rfl
@[simp] theorem State.modCan_sws : (s.modCan n f).sws = s.sws := rfl
@[simp] theorem State.modCan_budget : (s.modCan n f).budget = s.budget := rfl
@[simp] theorem State.modCan_fabric : (s.modCan n f).fabric = s.fabric := rfl
@[simp] theorem State.modCan_groups : (s.modCan n f).groups = s.groups := rfl
@[simp] theorem State.modCan_slots : (s.modCan n f).slots = s.slots := rfl
@[simp] theorem State.modCan_groupRecs : (s.modCan n f).groupRecs = s.groupRecs := rfl
@[simp] theorem State.modCan_ports : (s.modCan n f).ports = s.ports := rfl
@[simp] theorem State.modCan_portRecs : (s.modCan n f).portRecs = s.portRecs := rfl
@[simp] theorem State.modCan_sessionSeq : (s.modCan n f).sessionSeq = s.sessionSeq := rfl
@[simp] theorem State.modCan_cools : (s.modCan n f).cools = s.cools := rfl
@[simp] theorem State.modCan_alloc : (s.modCan n f).alloc = s.alloc := rfl
@[simp] theorem State.modCan_metro : (s.modCan n f).metro = s.metro := rfl
@[simp] theorem State.modCan_bill : (s.modCan n f).bill = s.bill := rfl
@[simp] theorem State.modCan_canCopies : (s.modCan n f).canCopies = s.canCopies := rfl
@[simp] theorem State.modCan_flink : (s.modCan n f).flink = s.flink := rfl
@[simp] theorem State.modCan_twin : (s.modCan n f).twin = s.twin := rfl
@[simp] theorem State.modCan_image : (s.modCan n f).image = s.image := rfl
@[simp] theorem State.modCan_master : (s.modCan n f).master = s.master := rfl
@[simp] theorem State.modCan_seqCtr : (s.modCan n f).seqCtr = s.seqCtr := rfl
@[simp] theorem State.modCan_out : (s.modCan n f).out = s.out := rfl
@[simp] theorem State.modCan_freeCount : (s.modCan n f).freeCount = s.freeCount := rfl
@[simp] theorem State.modCan_pending : (s.modCan n f).pending = s.pending := rfl
@[simp] theorem State.modCan_cans : (s.modCan n f).cans = s.cans.set n (f s.cans[n]) := rfl

end

/-! `modCool` -/
section

variable (p : Fin 8) (f : Cool → Cool)

@[simp] theorem State.modCool_strap : (s.modCool p f).strap = s.strap := rfl
@[simp] theorem State.modCool_clk : (s.modCool p f).clk = s.clk := rfl
@[simp] theorem State.modCool_time : (s.modCool p f).time = s.time := rfl
@[simp] theorem State.modCool_launches : (s.modCool p f).launches = s.launches := rfl
@[simp] theorem State.modCool_launchCount : (s.modCool p f).launchCount = s.launchCount := rfl
@[simp] theorem State.modCool_captures : (s.modCool p f).captures = s.captures := rfl
@[simp] theorem State.modCool_capLog : (s.modCool p f).capLog = s.capLog := rfl
@[simp] theorem State.modCool_ccp : (s.modCool p f).ccp = s.ccp := rfl
@[simp] theorem State.modCool_hio : (s.modCool p f).hio = s.hio := rfl
@[simp] theorem State.modCool_queues : (s.modCool p f).queues = s.queues := rfl
@[simp] theorem State.modCool_evt : (s.modCool p f).evt = s.evt := rfl
@[simp] theorem State.modCool_nv : (s.modCool p f).nv = s.nv := rfl
@[simp] theorem State.modCool_sys : (s.modCool p f).sys = s.sys := rfl
@[simp] theorem State.modCool_seqr : (s.modCool p f).seqr = s.seqr := rfl
@[simp] theorem State.modCool_vbat : (s.modCool p f).vbat = s.vbat := rfl
@[simp] theorem State.modCool_hk : (s.modCool p f).hk = s.hk := rfl
@[simp] theorem State.modCool_therm : (s.modCool p f).therm = s.therm := rfl
@[simp] theorem State.modCool_sws : (s.modCool p f).sws = s.sws := rfl
@[simp] theorem State.modCool_budget : (s.modCool p f).budget = s.budget := rfl
@[simp] theorem State.modCool_fabric : (s.modCool p f).fabric = s.fabric := rfl
@[simp] theorem State.modCool_groups : (s.modCool p f).groups = s.groups := rfl
@[simp] theorem State.modCool_slots : (s.modCool p f).slots = s.slots := rfl
@[simp] theorem State.modCool_groupRecs : (s.modCool p f).groupRecs = s.groupRecs := rfl
@[simp] theorem State.modCool_ports : (s.modCool p f).ports = s.ports := rfl
@[simp] theorem State.modCool_portRecs : (s.modCool p f).portRecs = s.portRecs := rfl
@[simp] theorem State.modCool_sessionSeq : (s.modCool p f).sessionSeq = s.sessionSeq := rfl
@[simp] theorem State.modCool_alloc : (s.modCool p f).alloc = s.alloc := rfl
@[simp] theorem State.modCool_metro : (s.modCool p f).metro = s.metro := rfl
@[simp] theorem State.modCool_bill : (s.modCool p f).bill = s.bill := rfl
@[simp] theorem State.modCool_cans : (s.modCool p f).cans = s.cans := rfl
@[simp] theorem State.modCool_canCopies : (s.modCool p f).canCopies = s.canCopies := rfl
@[simp] theorem State.modCool_flink : (s.modCool p f).flink = s.flink := rfl
@[simp] theorem State.modCool_twin : (s.modCool p f).twin = s.twin := rfl
@[simp] theorem State.modCool_image : (s.modCool p f).image = s.image := rfl
@[simp] theorem State.modCool_master : (s.modCool p f).master = s.master := rfl
@[simp] theorem State.modCool_seqCtr : (s.modCool p f).seqCtr = s.seqCtr := rfl
@[simp] theorem State.modCool_out : (s.modCool p f).out = s.out := rfl
@[simp] theorem State.modCool_freeCount : (s.modCool p f).freeCount = s.freeCount := rfl
@[simp] theorem State.modCool_pending : (s.modCool p f).pending = s.pending := rfl
@[simp] theorem State.modCool_cools : (s.modCool p f).cools = s.cools.set p (f s.cools[p]) := rfl

end

/-! `modB` -/
section

variable (f : BState → BState)

@[simp] theorem State.modB_strap : (s.modB f).strap = s.strap := rfl
@[simp] theorem State.modB_clk : (s.modB f).clk = s.clk := rfl
@[simp] theorem State.modB_time : (s.modB f).time = s.time := rfl
@[simp] theorem State.modB_launches : (s.modB f).launches = s.launches := rfl
@[simp] theorem State.modB_launchCount : (s.modB f).launchCount = s.launchCount := rfl
@[simp] theorem State.modB_captures : (s.modB f).captures = s.captures := rfl
@[simp] theorem State.modB_capLog : (s.modB f).capLog = s.capLog := rfl
@[simp] theorem State.modB_ccp : (s.modB f).ccp = s.ccp := rfl
@[simp] theorem State.modB_hio : (s.modB f).hio = s.hio := rfl
@[simp] theorem State.modB_queues : (s.modB f).queues = s.queues := rfl
@[simp] theorem State.modB_evt : (s.modB f).evt = s.evt := rfl
@[simp] theorem State.modB_nv : (s.modB f).nv = s.nv := rfl
@[simp] theorem State.modB_sys : (s.modB f).sys = s.sys := rfl
@[simp] theorem State.modB_seqr : (s.modB f).seqr = s.seqr := rfl
@[simp] theorem State.modB_vbat : (s.modB f).vbat = s.vbat := rfl
@[simp] theorem State.modB_hk : (s.modB f).hk = s.hk := rfl
@[simp] theorem State.modB_therm : (s.modB f).therm = s.therm := rfl
@[simp] theorem State.modB_sws : (s.modB f).sws = s.sws := rfl
@[simp] theorem State.modB_budget : (s.modB f).budget = s.budget := rfl
@[simp] theorem State.modB_fabric : (s.modB f).fabric = s.fabric := rfl
@[simp] theorem State.modB_groups : (s.modB f).groups = s.groups := rfl
@[simp] theorem State.modB_slots : (s.modB f).slots = s.slots := rfl
@[simp] theorem State.modB_groupRecs : (s.modB f).groupRecs = s.groupRecs := rfl
@[simp] theorem State.modB_ports : (s.modB f).ports = s.ports := rfl
@[simp] theorem State.modB_portRecs : (s.modB f).portRecs = s.portRecs := rfl
@[simp] theorem State.modB_sessionSeq : (s.modB f).sessionSeq = s.sessionSeq := rfl
@[simp] theorem State.modB_cools : (s.modB f).cools = s.cools := rfl
@[simp] theorem State.modB_alloc : (s.modB f).alloc = s.alloc := rfl
@[simp] theorem State.modB_metro : (s.modB f).metro = s.metro := rfl
@[simp] theorem State.modB_cans : (s.modB f).cans = s.cans := rfl
@[simp] theorem State.modB_canCopies : (s.modB f).canCopies = s.canCopies := rfl
@[simp] theorem State.modB_flink : (s.modB f).flink = s.flink := rfl
@[simp] theorem State.modB_twin : (s.modB f).twin = s.twin := rfl
@[simp] theorem State.modB_image : (s.modB f).image = s.image := rfl
@[simp] theorem State.modB_master : (s.modB f).master = s.master := rfl
@[simp] theorem State.modB_seqCtr : (s.modB f).seqCtr = s.seqCtr := rfl
@[simp] theorem State.modB_out : (s.modB f).out = s.out := rfl
@[simp] theorem State.modB_freeCount : (s.modB f).freeCount = s.freeCount := rfl
@[simp] theorem State.modB_pending : (s.modB f).pending = s.pending := rfl
@[simp] theorem State.modB_bill : (s.modB f).bill = { s.bill with b := f s.bill.b } := rfl

end

/-! `modTime` -/
section

variable (f : TimeS → TimeS)

@[simp] theorem State.modTime_strap : (s.modTime f).strap = s.strap := rfl
@[simp] theorem State.modTime_clk : (s.modTime f).clk = s.clk := rfl
@[simp] theorem State.modTime_launches : (s.modTime f).launches = s.launches := rfl
@[simp] theorem State.modTime_launchCount : (s.modTime f).launchCount = s.launchCount := rfl
@[simp] theorem State.modTime_captures : (s.modTime f).captures = s.captures := rfl
@[simp] theorem State.modTime_capLog : (s.modTime f).capLog = s.capLog := rfl
@[simp] theorem State.modTime_ccp : (s.modTime f).ccp = s.ccp := rfl
@[simp] theorem State.modTime_hio : (s.modTime f).hio = s.hio := rfl
@[simp] theorem State.modTime_queues : (s.modTime f).queues = s.queues := rfl
@[simp] theorem State.modTime_evt : (s.modTime f).evt = s.evt := rfl
@[simp] theorem State.modTime_nv : (s.modTime f).nv = s.nv := rfl
@[simp] theorem State.modTime_sys : (s.modTime f).sys = s.sys := rfl
@[simp] theorem State.modTime_seqr : (s.modTime f).seqr = s.seqr := rfl
@[simp] theorem State.modTime_vbat : (s.modTime f).vbat = s.vbat := rfl
@[simp] theorem State.modTime_hk : (s.modTime f).hk = s.hk := rfl
@[simp] theorem State.modTime_therm : (s.modTime f).therm = s.therm := rfl
@[simp] theorem State.modTime_sws : (s.modTime f).sws = s.sws := rfl
@[simp] theorem State.modTime_budget : (s.modTime f).budget = s.budget := rfl
@[simp] theorem State.modTime_fabric : (s.modTime f).fabric = s.fabric := rfl
@[simp] theorem State.modTime_groups : (s.modTime f).groups = s.groups := rfl
@[simp] theorem State.modTime_slots : (s.modTime f).slots = s.slots := rfl
@[simp] theorem State.modTime_groupRecs : (s.modTime f).groupRecs = s.groupRecs := rfl
@[simp] theorem State.modTime_ports : (s.modTime f).ports = s.ports := rfl
@[simp] theorem State.modTime_portRecs : (s.modTime f).portRecs = s.portRecs := rfl
@[simp] theorem State.modTime_sessionSeq : (s.modTime f).sessionSeq = s.sessionSeq := rfl
@[simp] theorem State.modTime_cools : (s.modTime f).cools = s.cools := rfl
@[simp] theorem State.modTime_alloc : (s.modTime f).alloc = s.alloc := rfl
@[simp] theorem State.modTime_metro : (s.modTime f).metro = s.metro := rfl
@[simp] theorem State.modTime_bill : (s.modTime f).bill = s.bill := rfl
@[simp] theorem State.modTime_cans : (s.modTime f).cans = s.cans := rfl
@[simp] theorem State.modTime_canCopies : (s.modTime f).canCopies = s.canCopies := rfl
@[simp] theorem State.modTime_flink : (s.modTime f).flink = s.flink := rfl
@[simp] theorem State.modTime_twin : (s.modTime f).twin = s.twin := rfl
@[simp] theorem State.modTime_image : (s.modTime f).image = s.image := rfl
@[simp] theorem State.modTime_master : (s.modTime f).master = s.master := rfl
@[simp] theorem State.modTime_seqCtr : (s.modTime f).seqCtr = s.seqCtr := rfl
@[simp] theorem State.modTime_out : (s.modTime f).out = s.out := rfl
@[simp] theorem State.modTime_freeCount : (s.modTime f).freeCount = s.freeCount := rfl
@[simp] theorem State.modTime_pending : (s.modTime f).pending = s.pending := rfl
@[simp] theorem State.modTime_time : (s.modTime f).time = f s.time := rfl

end

/-! `modFw` -/
section

variable (f : Fw → Fw)

@[simp] theorem State.modFw_strap : (s.modFw f).strap = s.strap := rfl
@[simp] theorem State.modFw_clk : (s.modFw f).clk = s.clk := rfl
@[simp] theorem State.modFw_time : (s.modFw f).time = s.time := rfl
@[simp] theorem State.modFw_launches : (s.modFw f).launches = s.launches := rfl
@[simp] theorem State.modFw_launchCount : (s.modFw f).launchCount = s.launchCount := rfl
@[simp] theorem State.modFw_captures : (s.modFw f).captures = s.captures := rfl
@[simp] theorem State.modFw_capLog : (s.modFw f).capLog = s.capLog := rfl
@[simp] theorem State.modFw_ccp : (s.modFw f).ccp = s.ccp := rfl
@[simp] theorem State.modFw_hio : (s.modFw f).hio = s.hio := rfl
@[simp] theorem State.modFw_queues : (s.modFw f).queues = s.queues := rfl
@[simp] theorem State.modFw_evt : (s.modFw f).evt = s.evt := rfl
@[simp] theorem State.modFw_sys : (s.modFw f).sys = s.sys := rfl
@[simp] theorem State.modFw_seqr : (s.modFw f).seqr = s.seqr := rfl
@[simp] theorem State.modFw_vbat : (s.modFw f).vbat = s.vbat := rfl
@[simp] theorem State.modFw_hk : (s.modFw f).hk = s.hk := rfl
@[simp] theorem State.modFw_therm : (s.modFw f).therm = s.therm := rfl
@[simp] theorem State.modFw_sws : (s.modFw f).sws = s.sws := rfl
@[simp] theorem State.modFw_budget : (s.modFw f).budget = s.budget := rfl
@[simp] theorem State.modFw_fabric : (s.modFw f).fabric = s.fabric := rfl
@[simp] theorem State.modFw_groups : (s.modFw f).groups = s.groups := rfl
@[simp] theorem State.modFw_slots : (s.modFw f).slots = s.slots := rfl
@[simp] theorem State.modFw_groupRecs : (s.modFw f).groupRecs = s.groupRecs := rfl
@[simp] theorem State.modFw_ports : (s.modFw f).ports = s.ports := rfl
@[simp] theorem State.modFw_portRecs : (s.modFw f).portRecs = s.portRecs := rfl
@[simp] theorem State.modFw_sessionSeq : (s.modFw f).sessionSeq = s.sessionSeq := rfl
@[simp] theorem State.modFw_cools : (s.modFw f).cools = s.cools := rfl
@[simp] theorem State.modFw_alloc : (s.modFw f).alloc = s.alloc := rfl
@[simp] theorem State.modFw_metro : (s.modFw f).metro = s.metro := rfl
@[simp] theorem State.modFw_bill : (s.modFw f).bill = s.bill := rfl
@[simp] theorem State.modFw_cans : (s.modFw f).cans = s.cans := rfl
@[simp] theorem State.modFw_canCopies : (s.modFw f).canCopies = s.canCopies := rfl
@[simp] theorem State.modFw_flink : (s.modFw f).flink = s.flink := rfl
@[simp] theorem State.modFw_twin : (s.modFw f).twin = s.twin := rfl
@[simp] theorem State.modFw_image : (s.modFw f).image = s.image := rfl
@[simp] theorem State.modFw_master : (s.modFw f).master = s.master := rfl
@[simp] theorem State.modFw_seqCtr : (s.modFw f).seqCtr = s.seqCtr := rfl
@[simp] theorem State.modFw_out : (s.modFw f).out = s.out := rfl
@[simp] theorem State.modFw_freeCount : (s.modFw f).freeCount = s.freeCount := rfl
@[simp] theorem State.modFw_pending : (s.modFw f).pending = s.pending := rfl
@[simp] theorem State.modFw_nv : (s.modFw f).nv = { s.nv with fw := f s.nv.fw } := rfl

end

/-! `modTwin` -/
section

variable (f : Twin → Twin)

@[simp] theorem State.modTwin_strap : (s.modTwin f).strap = s.strap := rfl
@[simp] theorem State.modTwin_clk : (s.modTwin f).clk = s.clk := rfl
@[simp] theorem State.modTwin_time : (s.modTwin f).time = s.time := rfl
@[simp] theorem State.modTwin_launches : (s.modTwin f).launches = s.launches := rfl
@[simp] theorem State.modTwin_launchCount : (s.modTwin f).launchCount = s.launchCount := rfl
@[simp] theorem State.modTwin_captures : (s.modTwin f).captures = s.captures := rfl
@[simp] theorem State.modTwin_capLog : (s.modTwin f).capLog = s.capLog := rfl
@[simp] theorem State.modTwin_ccp : (s.modTwin f).ccp = s.ccp := rfl
@[simp] theorem State.modTwin_hio : (s.modTwin f).hio = s.hio := rfl
@[simp] theorem State.modTwin_queues : (s.modTwin f).queues = s.queues := rfl
@[simp] theorem State.modTwin_evt : (s.modTwin f).evt = s.evt := rfl
@[simp] theorem State.modTwin_nv : (s.modTwin f).nv = s.nv := rfl
@[simp] theorem State.modTwin_sys : (s.modTwin f).sys = s.sys := rfl
@[simp] theorem State.modTwin_seqr : (s.modTwin f).seqr = s.seqr := rfl
@[simp] theorem State.modTwin_vbat : (s.modTwin f).vbat = s.vbat := rfl
@[simp] theorem State.modTwin_hk : (s.modTwin f).hk = s.hk := rfl
@[simp] theorem State.modTwin_therm : (s.modTwin f).therm = s.therm := rfl
@[simp] theorem State.modTwin_sws : (s.modTwin f).sws = s.sws := rfl
@[simp] theorem State.modTwin_budget : (s.modTwin f).budget = s.budget := rfl
@[simp] theorem State.modTwin_fabric : (s.modTwin f).fabric = s.fabric := rfl
@[simp] theorem State.modTwin_groups : (s.modTwin f).groups = s.groups := rfl
@[simp] theorem State.modTwin_slots : (s.modTwin f).slots = s.slots := rfl
@[simp] theorem State.modTwin_groupRecs : (s.modTwin f).groupRecs = s.groupRecs := rfl
@[simp] theorem State.modTwin_ports : (s.modTwin f).ports = s.ports := rfl
@[simp] theorem State.modTwin_portRecs : (s.modTwin f).portRecs = s.portRecs := rfl
@[simp] theorem State.modTwin_sessionSeq : (s.modTwin f).sessionSeq = s.sessionSeq := rfl
@[simp] theorem State.modTwin_cools : (s.modTwin f).cools = s.cools := rfl
@[simp] theorem State.modTwin_alloc : (s.modTwin f).alloc = s.alloc := rfl
@[simp] theorem State.modTwin_metro : (s.modTwin f).metro = s.metro := rfl
@[simp] theorem State.modTwin_bill : (s.modTwin f).bill = s.bill := rfl
@[simp] theorem State.modTwin_cans : (s.modTwin f).cans = s.cans := rfl
@[simp] theorem State.modTwin_canCopies : (s.modTwin f).canCopies = s.canCopies := rfl
@[simp] theorem State.modTwin_flink : (s.modTwin f).flink = s.flink := rfl
@[simp] theorem State.modTwin_image : (s.modTwin f).image = s.image := rfl
@[simp] theorem State.modTwin_master : (s.modTwin f).master = s.master := rfl
@[simp] theorem State.modTwin_seqCtr : (s.modTwin f).seqCtr = s.seqCtr := rfl
@[simp] theorem State.modTwin_out : (s.modTwin f).out = s.out := rfl
@[simp] theorem State.modTwin_freeCount : (s.modTwin f).freeCount = s.freeCount := rfl
@[simp] theorem State.modTwin_pending : (s.modTwin f).pending = s.pending := rfl
@[simp] theorem State.modTwin_twin : (s.modTwin f).twin = f s.twin := rfl

end

/-! `modFl` -/
section

variable (f : Flink → Flink)

@[simp] theorem State.modFl_strap : (s.modFl f).strap = s.strap := rfl
@[simp] theorem State.modFl_clk : (s.modFl f).clk = s.clk := rfl
@[simp] theorem State.modFl_time : (s.modFl f).time = s.time := rfl
@[simp] theorem State.modFl_launches : (s.modFl f).launches = s.launches := rfl
@[simp] theorem State.modFl_launchCount : (s.modFl f).launchCount = s.launchCount := rfl
@[simp] theorem State.modFl_captures : (s.modFl f).captures = s.captures := rfl
@[simp] theorem State.modFl_capLog : (s.modFl f).capLog = s.capLog := rfl
@[simp] theorem State.modFl_ccp : (s.modFl f).ccp = s.ccp := rfl
@[simp] theorem State.modFl_hio : (s.modFl f).hio = s.hio := rfl
@[simp] theorem State.modFl_queues : (s.modFl f).queues = s.queues := rfl
@[simp] theorem State.modFl_evt : (s.modFl f).evt = s.evt := rfl
@[simp] theorem State.modFl_nv : (s.modFl f).nv = s.nv := rfl
@[simp] theorem State.modFl_sys : (s.modFl f).sys = s.sys := rfl
@[simp] theorem State.modFl_seqr : (s.modFl f).seqr = s.seqr := rfl
@[simp] theorem State.modFl_vbat : (s.modFl f).vbat = s.vbat := rfl
@[simp] theorem State.modFl_hk : (s.modFl f).hk = s.hk := rfl
@[simp] theorem State.modFl_therm : (s.modFl f).therm = s.therm := rfl
@[simp] theorem State.modFl_sws : (s.modFl f).sws = s.sws := rfl
@[simp] theorem State.modFl_budget : (s.modFl f).budget = s.budget := rfl
@[simp] theorem State.modFl_fabric : (s.modFl f).fabric = s.fabric := rfl
@[simp] theorem State.modFl_groups : (s.modFl f).groups = s.groups := rfl
@[simp] theorem State.modFl_slots : (s.modFl f).slots = s.slots := rfl
@[simp] theorem State.modFl_groupRecs : (s.modFl f).groupRecs = s.groupRecs := rfl
@[simp] theorem State.modFl_ports : (s.modFl f).ports = s.ports := rfl
@[simp] theorem State.modFl_portRecs : (s.modFl f).portRecs = s.portRecs := rfl
@[simp] theorem State.modFl_sessionSeq : (s.modFl f).sessionSeq = s.sessionSeq := rfl
@[simp] theorem State.modFl_cools : (s.modFl f).cools = s.cools := rfl
@[simp] theorem State.modFl_alloc : (s.modFl f).alloc = s.alloc := rfl
@[simp] theorem State.modFl_metro : (s.modFl f).metro = s.metro := rfl
@[simp] theorem State.modFl_bill : (s.modFl f).bill = s.bill := rfl
@[simp] theorem State.modFl_cans : (s.modFl f).cans = s.cans := rfl
@[simp] theorem State.modFl_canCopies : (s.modFl f).canCopies = s.canCopies := rfl
@[simp] theorem State.modFl_twin : (s.modFl f).twin = s.twin := rfl
@[simp] theorem State.modFl_image : (s.modFl f).image = s.image := rfl
@[simp] theorem State.modFl_master : (s.modFl f).master = s.master := rfl
@[simp] theorem State.modFl_seqCtr : (s.modFl f).seqCtr = s.seqCtr := rfl
@[simp] theorem State.modFl_out : (s.modFl f).out = s.out := rfl
@[simp] theorem State.modFl_freeCount : (s.modFl f).freeCount = s.freeCount := rfl
@[simp] theorem State.modFl_pending : (s.modFl f).pending = s.pending := rfl
@[simp] theorem State.modFl_flink : (s.modFl f).flink = f s.flink := rfl

end

/-! `countErr` -/
section

@[simp] theorem State.countErr_strap : (s.countErr).strap = s.strap := rfl
@[simp] theorem State.countErr_clk : (s.countErr).clk = s.clk := rfl
@[simp] theorem State.countErr_time : (s.countErr).time = s.time := rfl
@[simp] theorem State.countErr_launches : (s.countErr).launches = s.launches := rfl
@[simp] theorem State.countErr_launchCount : (s.countErr).launchCount = s.launchCount := rfl
@[simp] theorem State.countErr_captures : (s.countErr).captures = s.captures := rfl
@[simp] theorem State.countErr_capLog : (s.countErr).capLog = s.capLog := rfl
@[simp] theorem State.countErr_hio : (s.countErr).hio = s.hio := rfl
@[simp] theorem State.countErr_queues : (s.countErr).queues = s.queues := rfl
@[simp] theorem State.countErr_evt : (s.countErr).evt = s.evt := rfl
@[simp] theorem State.countErr_nv : (s.countErr).nv = s.nv := rfl
@[simp] theorem State.countErr_sys : (s.countErr).sys = s.sys := rfl
@[simp] theorem State.countErr_seqr : (s.countErr).seqr = s.seqr := rfl
@[simp] theorem State.countErr_vbat : (s.countErr).vbat = s.vbat := rfl
@[simp] theorem State.countErr_hk : (s.countErr).hk = s.hk := rfl
@[simp] theorem State.countErr_therm : (s.countErr).therm = s.therm := rfl
@[simp] theorem State.countErr_sws : (s.countErr).sws = s.sws := rfl
@[simp] theorem State.countErr_budget : (s.countErr).budget = s.budget := rfl
@[simp] theorem State.countErr_fabric : (s.countErr).fabric = s.fabric := rfl
@[simp] theorem State.countErr_groups : (s.countErr).groups = s.groups := rfl
@[simp] theorem State.countErr_slots : (s.countErr).slots = s.slots := rfl
@[simp] theorem State.countErr_groupRecs : (s.countErr).groupRecs = s.groupRecs := rfl
@[simp] theorem State.countErr_ports : (s.countErr).ports = s.ports := rfl
@[simp] theorem State.countErr_portRecs : (s.countErr).portRecs = s.portRecs := rfl
@[simp] theorem State.countErr_sessionSeq : (s.countErr).sessionSeq = s.sessionSeq := rfl
@[simp] theorem State.countErr_cools : (s.countErr).cools = s.cools := rfl
@[simp] theorem State.countErr_alloc : (s.countErr).alloc = s.alloc := rfl
@[simp] theorem State.countErr_metro : (s.countErr).metro = s.metro := rfl
@[simp] theorem State.countErr_bill : (s.countErr).bill = s.bill := rfl
@[simp] theorem State.countErr_cans : (s.countErr).cans = s.cans := rfl
@[simp] theorem State.countErr_canCopies : (s.countErr).canCopies = s.canCopies := rfl
@[simp] theorem State.countErr_flink : (s.countErr).flink = s.flink := rfl
@[simp] theorem State.countErr_twin : (s.countErr).twin = s.twin := rfl
@[simp] theorem State.countErr_image : (s.countErr).image = s.image := rfl
@[simp] theorem State.countErr_master : (s.countErr).master = s.master := rfl
@[simp] theorem State.countErr_seqCtr : (s.countErr).seqCtr = s.seqCtr := rfl
@[simp] theorem State.countErr_out : (s.countErr).out = s.out := rfl
@[simp] theorem State.countErr_freeCount : (s.countErr).freeCount = s.freeCount := rfl
@[simp] theorem State.countErr_pending : (s.countErr).pending = s.pending := rfl
@[simp] theorem State.countErr_ccp : (s.countErr).ccp = { s.ccp with err := s.ccp.err + 1 } := rfl

end

/-! `setClsf` -/
section

variable (e : Clsf)

@[simp] theorem State.setClsf_strap : (s.setClsf e).strap = s.strap := rfl
@[simp] theorem State.setClsf_clk : (s.setClsf e).clk = s.clk := rfl
@[simp] theorem State.setClsf_time : (s.setClsf e).time = s.time := rfl
@[simp] theorem State.setClsf_launches : (s.setClsf e).launches = s.launches := rfl
@[simp] theorem State.setClsf_launchCount : (s.setClsf e).launchCount = s.launchCount := rfl
@[simp] theorem State.setClsf_captures : (s.setClsf e).captures = s.captures := rfl
@[simp] theorem State.setClsf_capLog : (s.setClsf e).capLog = s.capLog := rfl
@[simp] theorem State.setClsf_ccp : (s.setClsf e).ccp = s.ccp := rfl
@[simp] theorem State.setClsf_hio : (s.setClsf e).hio = s.hio := rfl
@[simp] theorem State.setClsf_queues : (s.setClsf e).queues = s.queues := rfl
@[simp] theorem State.setClsf_evt : (s.setClsf e).evt = s.evt := rfl
@[simp] theorem State.setClsf_sys : (s.setClsf e).sys = s.sys := rfl
@[simp] theorem State.setClsf_seqr : (s.setClsf e).seqr = s.seqr := rfl
@[simp] theorem State.setClsf_vbat : (s.setClsf e).vbat = s.vbat := rfl
@[simp] theorem State.setClsf_hk : (s.setClsf e).hk = s.hk := rfl
@[simp] theorem State.setClsf_therm : (s.setClsf e).therm = s.therm := rfl
@[simp] theorem State.setClsf_sws : (s.setClsf e).sws = s.sws := rfl
@[simp] theorem State.setClsf_budget : (s.setClsf e).budget = s.budget := rfl
@[simp] theorem State.setClsf_fabric : (s.setClsf e).fabric = s.fabric := rfl
@[simp] theorem State.setClsf_groups : (s.setClsf e).groups = s.groups := rfl
@[simp] theorem State.setClsf_slots : (s.setClsf e).slots = s.slots := rfl
@[simp] theorem State.setClsf_groupRecs : (s.setClsf e).groupRecs = s.groupRecs := rfl
@[simp] theorem State.setClsf_ports : (s.setClsf e).ports = s.ports := rfl
@[simp] theorem State.setClsf_portRecs : (s.setClsf e).portRecs = s.portRecs := rfl
@[simp] theorem State.setClsf_sessionSeq : (s.setClsf e).sessionSeq = s.sessionSeq := rfl
@[simp] theorem State.setClsf_cools : (s.setClsf e).cools = s.cools := rfl
@[simp] theorem State.setClsf_alloc : (s.setClsf e).alloc = s.alloc := rfl
@[simp] theorem State.setClsf_metro : (s.setClsf e).metro = s.metro := rfl
@[simp] theorem State.setClsf_bill : (s.setClsf e).bill = s.bill := rfl
@[simp] theorem State.setClsf_cans : (s.setClsf e).cans = s.cans := rfl
@[simp] theorem State.setClsf_canCopies : (s.setClsf e).canCopies = s.canCopies := rfl
@[simp] theorem State.setClsf_flink : (s.setClsf e).flink = s.flink := rfl
@[simp] theorem State.setClsf_twin : (s.setClsf e).twin = s.twin := rfl
@[simp] theorem State.setClsf_image : (s.setClsf e).image = s.image := rfl
@[simp] theorem State.setClsf_master : (s.setClsf e).master = s.master := rfl
@[simp] theorem State.setClsf_seqCtr : (s.setClsf e).seqCtr = s.seqCtr := rfl
@[simp] theorem State.setClsf_out : (s.setClsf e).out = s.out := rfl
@[simp] theorem State.setClsf_freeCount : (s.setClsf e).freeCount = s.freeCount := rfl
@[simp] theorem State.setClsf_pending : (s.setClsf e).pending = s.pending := rfl

end

/-! `pushLaunch` -/
section

variable (r : Req)

@[simp] theorem State.pushLaunch_strap : (s.pushLaunch r).strap = s.strap := rfl
@[simp] theorem State.pushLaunch_clk : (s.pushLaunch r).clk = s.clk := rfl
@[simp] theorem State.pushLaunch_time : (s.pushLaunch r).time = s.time := rfl
@[simp] theorem State.pushLaunch_captures : (s.pushLaunch r).captures = s.captures := rfl
@[simp] theorem State.pushLaunch_capLog : (s.pushLaunch r).capLog = s.capLog := rfl
@[simp] theorem State.pushLaunch_ccp : (s.pushLaunch r).ccp = s.ccp := rfl
@[simp] theorem State.pushLaunch_hio : (s.pushLaunch r).hio = s.hio := rfl
@[simp] theorem State.pushLaunch_queues : (s.pushLaunch r).queues = s.queues := rfl
@[simp] theorem State.pushLaunch_evt : (s.pushLaunch r).evt = s.evt := rfl
@[simp] theorem State.pushLaunch_nv : (s.pushLaunch r).nv = s.nv := rfl
@[simp] theorem State.pushLaunch_sys : (s.pushLaunch r).sys = s.sys := rfl
@[simp] theorem State.pushLaunch_seqr : (s.pushLaunch r).seqr = s.seqr := rfl
@[simp] theorem State.pushLaunch_vbat : (s.pushLaunch r).vbat = s.vbat := rfl
@[simp] theorem State.pushLaunch_hk : (s.pushLaunch r).hk = s.hk := rfl
@[simp] theorem State.pushLaunch_therm : (s.pushLaunch r).therm = s.therm := rfl
@[simp] theorem State.pushLaunch_sws : (s.pushLaunch r).sws = s.sws := rfl
@[simp] theorem State.pushLaunch_budget : (s.pushLaunch r).budget = s.budget := rfl
@[simp] theorem State.pushLaunch_fabric : (s.pushLaunch r).fabric = s.fabric := rfl
@[simp] theorem State.pushLaunch_groups : (s.pushLaunch r).groups = s.groups := rfl
@[simp] theorem State.pushLaunch_slots : (s.pushLaunch r).slots = s.slots := rfl
@[simp] theorem State.pushLaunch_groupRecs : (s.pushLaunch r).groupRecs = s.groupRecs := rfl
@[simp] theorem State.pushLaunch_ports : (s.pushLaunch r).ports = s.ports := rfl
@[simp] theorem State.pushLaunch_portRecs : (s.pushLaunch r).portRecs = s.portRecs := rfl
@[simp] theorem State.pushLaunch_sessionSeq : (s.pushLaunch r).sessionSeq = s.sessionSeq := rfl
@[simp] theorem State.pushLaunch_cools : (s.pushLaunch r).cools = s.cools := rfl
@[simp] theorem State.pushLaunch_alloc : (s.pushLaunch r).alloc = s.alloc := rfl
@[simp] theorem State.pushLaunch_metro : (s.pushLaunch r).metro = s.metro := rfl
@[simp] theorem State.pushLaunch_bill : (s.pushLaunch r).bill = s.bill := rfl
@[simp] theorem State.pushLaunch_cans : (s.pushLaunch r).cans = s.cans := rfl
@[simp] theorem State.pushLaunch_canCopies : (s.pushLaunch r).canCopies = s.canCopies := rfl
@[simp] theorem State.pushLaunch_flink : (s.pushLaunch r).flink = s.flink := rfl
@[simp] theorem State.pushLaunch_twin : (s.pushLaunch r).twin = s.twin := rfl
@[simp] theorem State.pushLaunch_image : (s.pushLaunch r).image = s.image := rfl
@[simp] theorem State.pushLaunch_master : (s.pushLaunch r).master = s.master := rfl
@[simp] theorem State.pushLaunch_seqCtr : (s.pushLaunch r).seqCtr = s.seqCtr := rfl
@[simp] theorem State.pushLaunch_out : (s.pushLaunch r).out = s.out := rfl
@[simp] theorem State.pushLaunch_freeCount : (s.pushLaunch r).freeCount = s.freeCount := rfl
@[simp] theorem State.pushLaunch_pending : (s.pushLaunch r).pending = s.pending := rfl
@[simp] theorem State.pushLaunch_launches : (s.pushLaunch r).launches =
    s.launches ++ [{ at_ := r.launch, order := s.launchCount, req := r }] := rfl
@[simp] theorem State.pushLaunch_launchCount : (s.pushLaunch r).launchCount = s.launchCount + 1 := rfl

end

/-! `free` -/

/-- A free value moves only the counter of free values. -/
@[simp] theorem State.free_snd : s.free.2 = { s with freeCount := s.freeCount + 1 } := rfl

/-! The windows of `live`, `whenDo` and `forFin` -/

/-- A row of a running device answers the state after its effect. -/
theorem live_run {s : State} (h : s.sys.mode = .run) (f : State → State) : live s f = .next (f s) := by simp [live, h]

/-- A row of a device that does not run leaves the state as it is. -/
theorem live_held {s : State} (h : s.sys.mode ≠ .run) (f : State → State) : live s f = .next s := by simp [live, h]

@[simp] theorem whenDo_true (f : State → State) : whenDo true f s = f s := rfl
@[simp] theorem whenDo_false (f : State → State) : whenDo false f s = s := rfl

/-- What each step of a loop keeps, the loop keeps. -/
theorem forFin_keeps {σ : Type} {P : σ → Prop} {n : Nat} {f : σ → Fin n → σ} (hf : ∀ s i, P s → P (f s i)) {s : σ} (h : P s) :
    P (forFin n s f) := by
  unfold forFin
  generalize List.finRange n = l
  induction l generalizing s with
  | nil => exact h
  | cons i l ih => exact ih (hf s i h)

/-- What each step of a loop over numbers keeps, the loop keeps. -/
theorem forNums_keeps {σ : Type} {P : σ → Prop} {l : List Nat} {f : σ → Nat → σ} (hf : ∀ s i, P s → P (f s i)) {s : σ} (h : P s) :
    P (forNums l s f) := by
  unfold forNums
  induction l generalizing s with
  | nil => exact h
  | cons i l ih => exact ih (hf s i h)

/-- A projection that no step of a loop changes is as before the loop. -/
theorem forFin_eq {σ α : Type} {π : σ → α} {n : Nat} {f : σ → Fin n → σ} (hf : ∀ s i, π (f s i) = π s) (s : σ) :
    π (forFin n s f) = π s :=
  forFin_keeps (P := fun t => π t = π s) (fun t i h => (hf t i).trans h) rfl

/-- A loop whose steps change nothing changes nothing. -/
theorem forFin_id {σ : Type} {n : Nat} {f : σ → Fin n → σ} {s : σ} (hf : ∀ i, f s i = s) : forFin n s f = s :=
  forFin_keeps (P := fun t => t = s) (fun t i h => by rw [h]; exact hf i) rfl

/-! `vget` and `vset` -/

theorem vget_fin {α : Type} {n : Nat} (v : Vector α n) (i : Fin n) (d : α) : vget v i d = v[i] := by simp [vget]

theorem vset_fin {α : Type} {n : Nat} (v : Vector α n) (i : Fin n) (a : α) : vset v i a = v.set i a := by simp [vset]

end Sys2Proof.Machine
end

