-- ==== Sys2Proof/Laws/Ports.lean ====
section
/-! SUPPORT. What a request of the vehicle does before its own rule: cited in place of unfolding `State.request`. -/

namespace Sys2Proof.Machine

variable (s : State) (p : Fin 8)

/-- Hearing the modem changes the answer stamp of the port and nothing else. -/
theorem State.overLink_cases : s.overLink p = s ∨ s.overLink p = s.modPort p (fun x => { x with heardAt := s.el }) := by
  unfold State.overLink whenDo
  split
  · exact .inr rfl
  · exact .inl rfl

@[simp] theorem State.modPort_self (f : Port → Port) : (s.modPort p f).ports[(p : Nat)] = f s.ports[(p : Nat)] := by
  simp [State.modPort]

@[simp] theorem State.overLink_session : (s.overLink p).ports[(p : Nat)].session = s.ports[(p : Nat)].session := by
  rcases s.overLink_cases p with h | h <;> simp [h]

@[simp] theorem State.overLink_tcp : (s.overLink p).ports[(p : Nat)].tcp = s.ports[(p : Nat)].tcp := by
  rcases s.overLink_cases p with h | h <;> simp [h]

@[simp] theorem State.overLink_state : (s.overLink p).ports[(p : Nat)].state = s.ports[(p : Nat)].state := by
  rcases s.overLink_cases p with h | h <;> simp [h]

@[simp] theorem State.overLink_ending : (s.overLink p).ports[(p : Nat)].ending = s.ports[(p : Nat)].ending := by
  rcases s.overLink_cases p with h | h <;> simp [h]

@[simp] theorem State.overLink_telling : (s.overLink p).ports[(p : Nat)].telling = s.ports[(p : Nat)].telling := by
  rcases s.overLink_cases p with h | h <;> simp [h]

@[simp] theorem State.overLink_closed : (s.overLink p).ports[(p : Nat)].closed = s.ports[(p : Nat)].closed := by
  rcases s.overLink_cases p with h | h <;> simp [h]

@[simp] theorem State.overLink_cdrive : (s.overLink p).ports[(p : Nat)].cdrive = s.ports[(p : Nat)].cdrive := by
  rcases s.overLink_cases p with h | h <;> simp [h]

@[simp] theorem State.overLink_nv : (s.overLink p).nv = s.nv := by
  rcases s.overLink_cases p with h | h <;> simp [h]

@[simp] theorem State.overLink_clk : (s.overLink p).clk = s.clk := by
  rcases s.overLink_cases p with h | h <;> simp [h]

@[simp] theorem State.overLink_st : (s.overLink p).st = s.st := by simp [State.st]

@[simp] theorem State.overLink_el : (s.overLink p).el = s.el := by simp [State.el]

@[simp] theorem State.overLink_pCfg : (s.overLink p).pCfg p = s.pCfg p := by simp [State.pCfg]

@[simp] theorem State.overLink_stopTold : (s.overLink p).stopTold p = s.stopTold p := by simp [State.stopTold]

/-- In a stop a request only gets the answer of the stop (R340). -/
theorem State.request_told {s : State} {p : Fin 8} (h : s.stopTold p = true) (f : State → State) :
    s.request p f = ((s.overLink p).heard p).loopAnswer p := by
  simp [State.request, h]

/-- Otherwise a request is answered by its own rule. -/
theorem State.request_own {s : State} {p : Fin 8} (h : s.stopTold p = false) (f : State → State) :
    s.request p f = f (s.overLink p) := by
  simp [State.request, h]

end Sys2Proof.Machine
end

