-- ==== Sys2Proof/Laws/Queues.lean ====
section
/-! SUPPORT. What the queue operations can do: cited in place of unfolding them. -/

namespace Sys2Proof.Machine

/-- A state whose queues and event router alone may differ. -/
def SameButQueues (s t : State) : Prop := ({ t with queues := s.queues, evt := s.evt } : State) = s

theorem SameButQueues.refl (s : State) : SameButQueues s s := rfl

theorem SameButQueues.trans {a b c : State} (h : SameButQueues a b) (k : SameButQueues b c) : SameButQueues a c := by
  unfold SameButQueues at *
  rw [← h, ← k]

theorem State.setQueue_same (s : State) (i : Fin 128) (q : Queue) : SameButQueues s (s.setQueue i q) := rfl

theorem State.raise_same (s : State) (e : Ev) (p1 p2 fl : Nat) : SameButQueues s (s.raise e p1 p2 fl) := rfl

/-- After a change of fill a queue enters high with QUEUE_HIGH, leaves it with QUEUE_LOW, or stays (R644). -/
theorem State.watermark_cases (s : State) (i : Fin 128) :
    (s.queues[i].isHigh = false ∧ s.queues[i].reachesHigh (s.isRetired (tgt 7 i)) = true ∧
      s.watermark i = (s.setQueue i { s.queues[i] with isHigh := true }).raise .queueHigh) ∨
    (s.queues[i].isHigh = true ∧ s.queues[i].atLow (s.isRetired (tgt 7 i)) = true ∧
      s.watermark i = (s.setQueue i { s.queues[i] with isHigh := false }).raise .queueLow) ∨
    s.watermark i = s := by
  unfold State.watermark
  cases h : s.queues[i].isHigh <;> cases k : s.queues[i].reachesHigh (s.isRetired (tgt 7 i)) <;>
    cases l : s.queues[i].atLow (s.isRetired (tgt 7 i)) <;> simp_all

theorem State.watermark_same (s : State) (i : Fin 128) : SameButQueues s (s.watermark i) := by
  rcases s.watermark_cases i with h | h | h
  · rw [h.2.2]; rfl
  · rw [h.2.2]; rfl
  · rw [h]; rfl

theorem State.putQueue_same (s : State) (i : Fin 128) (q : Queue) : SameButQueues s (s.putQueue i q) :=
  (s.setQueue_same i q).trans (State.watermark_same _ i)

theorem State.queueDrop_same (s : State) (i : Fin 128) (n : Nat) : SameButQueues s (s.queueDrop i n) := by
  unfold State.queueDrop
  dsimp only
  split <;> rfl

/-- What is offered to a queue changes only queues and their events (R637, R644, R647). -/
theorem State.offer_same (s : State) (i : Fin 128) (ws : List QWord) : SameButQueues s (s.offer i ws).1 := by
  unfold State.offer
  split
  · exact s.putQueue_same i _
  · exact s.queueDrop_same i 1

/-- Settling the watermark of a queue leaves every other queue. -/
theorem State.watermark_other (s : State) {i q : Fin 128} (h : q ≠ i) : (s.watermark i).queues[q] = s.queues[q] := by
  have hv : q.val ≠ i.val := fun e => h (Fin.ext e)
  rcases s.watermark_cases i with k | k | k
  · rw [k.2.2]; simp [Ne.symm hv]
  · rw [k.2.2]; simp [Ne.symm hv]
  · rw [k]

/-- Putting one queue in place leaves every other. -/
theorem State.putQueue_other (s : State) {i q : Fin 128} (x : Queue) (h : q ≠ i) : (s.putQueue i x).queues[q] = s.queues[q] := by
  have hv : q.val ≠ i.val := fun e => h (Fin.ext e)
  unfold State.putQueue
  rw [State.watermark_other _ h]
  simp [Ne.symm hv]

/-- The words of a queue put in place are those it is given, whatever its watermark. -/
theorem State.putQueue_words (s : State) (i : Fin 128) (x : Queue) :
    ∃ b, (s.putQueue i x).queues[i] = { x with isHigh := b } := by
  unfold State.putQueue
  rcases (s.setQueue i x).watermark_cases i with k | k | k
  · rw [k.2.2]; exact ⟨true, by simp⟩
  · rw [k.2.2]; exact ⟨false, by simp⟩
  · rw [k]; exact ⟨x.isHigh, by simp⟩

end Sys2Proof.Machine
end

