-- ==== Sys2Proof/Tests/Slice0.lean ====
section
/-! SUPPORT. Small tests: what WellFormed refuses, values from outside the model, and for every obligation a state and operands that meet
its hypotheses, clause by clause. -/

namespace Sys2Proof.Tests

open Sys2Proof Sys2Proof.Machine

-- One theorem at a time: the kernel's evaluations then share one stack.
set_option Elab.async false

/-! ### Fixtures -/

/-- A payload of `n` bytes that are 0 but for fields, each an offset, a size and a value. -/
def fill (n : Nat) (l : List (Nat × Nat × Nat)) : Bytes :=
  l.foldl (fun b x => b.take x.1 ++ le x.2.1 x.2.2 ++ b.drop (x.1 + x.2.1)) (List.replicate n 0)

/-- A packet from the local host. -/
def host (flags code target : Nat) (payload : Bytes) : Pkt :=
  { via := .hostio, src := 0, port := 0, raw := packetBytes flags code 7 target payload }

/-- A device that is ready, LOCKED at 1 s, and serves its host. -/
def up : State := { State.reset with
  sys := { State.reset.sys with ready := true, lee := false }
  hio := { State.reset.hio with serving := true }
  clk := { State.reset.clk with fix := 1000000000 * 2 ^ 32 }
  time := { State.reset.time with quality := .free } }

/-- That device at another ST, in ns. -/
def at_ (ns : Nat) : State := { up with clk := { up.clk with fix := ns * 2 ^ 32 } }

/-- That device at 1000 s. -/
def dev : State := at_ (10 ^ 12)

/-- Group 0 with slots 0 and 1 (R292). -/
def groupPay : Bytes := fill 64 [(0, 1, 0xFF), (1, 1, 15), (2, 1, 1), (3, 1, 20), (4, 8, 3), (14, 2, 8), (16, 2, 16), (20, 2, 24), (22, 2, 25),
  (24, 8, 0xFFFFFFFFFFFFFFFF), (32, 8, 0xFFFFFFFFFFFFFFFF), (40, 4, 0xFFFFFFFF), (44, 2, 300), (46, 2, 900), (48, 2, 10000), (50, 2, 100),
  (52, 2, 100), (54, 2, 1)]

/-- Its timebase (R213): 250 kHz, trips enabled. -/
def pwmPay : Bytes := fill 40 [(4, 4, 1600), (18, 2, 400), (20, 1, 1), (22, 2, 1), (24, 8, 3)]

/-- The device with that group. -/
def grp : State := dev.store (fun c => { c with group := c.group.set 0 (some groupPay), pwm := c.pwm.set 0 (some pwmPay) })

/-- The group in RUN. -/
def runG : State := (grp.modProt 0 (fun p => { p with state := .run })).modPwm 0 (fun w => { w with running := true, period := 1600 })

/-- The tick of 1000 s in fine steps. -/
def devFine : Int := 25600000000000

/-- An inner computation whose result is due for 1.8 us. -/
def lateJob : InnerJob := { stamp := 0, avail := 10 ^ 12 - 1800, current := 0, valid := true }

/-- A stop whose bound has come. -/
def lateStop : Stop := { cls := 0, at_ := 0, bound := 10 ^ 12, iref0 := 0 }

/-- PORT_CONFIG of a port with protocol 3 (R348). -/
def portPay : Bytes := fill 64 [(2, 1, 4), (7, 1, 1)]

/-- A feeder-link header of a frame of type `k` (R564). -/
def flFrame (k src dst : Nat) : FlRx :=
  let h := fill 14 [(0, 1, k), (4, 1, src), (5, 1, dst)]
  { hdr := h ++ le 2 (crc16 h), payload := List.replicate 56 0, crcOk := true, start := 10 ^ 12, symbols := 0, energy := [], snr := [], partner := false }

/-- Port 7 served by a group in RUN, with a session authorized. -/
def portG : State := ((runG.store (fun c => { c with
  group := c.group.set 0 (some (fill 64 [(0, 1, 7), (1, 1, 15), (4, 8, 3), (20, 2, 24)])), port := c.port.set 7 (some portPay) })).modPort 7
    (fun x => { x with link := true, tcp := true, state := .negotiating, session := some { id := 1, authSt := some 5 } }))

/-- A packet from position 4 of the site table with a tag, given as a number. -/
def site (flags code target : Nat) (payload : Bytes) (tag : Nat) : Pkt :=
  { via := .site0, src := 9, port := 47320, raw := packetBytes flags code 7 target payload ++ le 16 tag }

/-- The device with a site table of two positions, itself and 4, and a key (R526, R595). -/
def sited : State :=
  let s := dev.store (fun c => { c with sites := some (fill 56 [(1, 1, 2), (8, 1, 4), (9, 1, 2), (12, 2, 47320), (16, 1, 9), (33, 1, 2), (36, 2, 47320), (40, 1, 8)]) })
  { s with nv := { s.nv with fw := { s.nv.fw with ccpKey := some (fill 16 []) } } }

/-- A calendar of one season, one day profile and one transition, with its CRC (R444). -/
def calPay : Bytes :=
  fill 2312 [(0, 2, 1), (4, 4, 1), (16, 4, 2312), (21, 1, 15), (26, 2, 1), (32, 2, 0x0101), (38, 1, 0xFF), (42, 1, 0xFF), (46, 1, 0xFF), (112, 1, 1),
    (2288, 1, 1), (2290, 1, 1), (2308, 4, 2598811378)]

/-- Port 7 with its limits, two logic channels and a group that is configured in full: a port that is served (R303, R304). -/
def served : State := dev.store (fun c => { c with
  group := c.group.set 0 (some (fill 64 [(0, 1, 7), (2, 1, 1), (3, 1, 20), (4, 8, 3)])), pwm := c.pwm.set 0 (some pwmPay)
  loop0 := c.loop0.set 0 (some (fill 56 [])), loop1 := c.loop1.set 0 (some (fill 56 [])), loop2 := c.loop2.set 0 (some (fill 56 []))
  profile := c.profile.set 0 (some (fill 32 [])), port := c.port.set 7 (some (fill 64 [(2, 1, 4), (5, 2, 0x0100), (7, 1, 1)]))
  portLimit := c.portLimit.set 7 (some (fill 16 [])), hk := (c.hk.set 0 (some (fill 16 [(1, 1, 4)]))).set 1 (some (fill 16 [(0, 1, 1), (1, 1, 4)])) })

/-- A TLS handshake that the device offers (R317). -/
def hello : TlsHello := { v13 := true, suite := .aes256Gcm, group := .secp384r1 }

/-- Queue 127 as a queue that the host writes, and what it has open there (R636, R638). -/
def hostQueue (m : QMode) (o : Option HostOpen) : State := dev.setQueue 127 { dev.queues[127] with
  cfg := { dev.queues[127].cfg with mode := m, hostWrites := true, pages := 1 }, open_ := o }

/-- A pickup in the tick of 1000 s. -/
def pickNow : PickNote := 
  { tick := devFine, fresh := false, superseded := 0, effMax := 0, effMin := none, opened := false, periodWas := 0, refWas := 0
    period := 0, change := false }

/-- That device in a device-fault state. -/
def inFault (thermal : Bool) : State := { dev with sys := { dev.sys with fault := some { thermal, rail := false, level := 5, at_ := 0 } } }

/-- A packet that passes every check of R600 is accepted. -/
theorem accepted {s : State} {p : Pkt} {code : Nat} {P : Req → State → Arrival → Prop} [∀ r t a, Decidable (P r t a)]
    (h : (match (s.received p).intake p with
      | (.run r, some a, t) =>
        decide (s.sys.mode = .run ∧ s.takes p.via = true ∧ 4 ≤ p.raw.length ∧ p.code = code ∧ (t.paused && r.pauses) = false ∧ P r t a)
      | _ => false) = true) : ∃ t r arr, s.accepts code p r arr t ∧ P r t arr := by
  split at h
  · next hi => simp at h; exact ⟨_, _, _, ⟨h.1, h.2.1, h.2.2.1, h.2.2.2.1, hi, by rw [Bool.and_eq_false_iff]; exact h.2.2.2.2.1⟩, h.2.2.2.2.2⟩
  · cases h

/-! ### The commands' form: an ill-formed term for each check (WellFormed) -/

theorem wf_refuses_a_sender_over_hostio : Instr.wf (.sysPing { host 0 0x0100 0 [] with src := 1 }) = false := by decide +kernel
theorem wf_refuses_a_port_of_17_bits : Instr.wf (.sysPing { host 0 0x0100 0 [] with via := .site0, port := 65536 }) = false := by decide +kernel
theorem wf_refuses_an_address_past_16_bytes : Instr.wf (.sysPing { host 0 0x0100 0 [] with via := .site0, src := 2 ^ 128 }) = false := by
  decide +kernel
theorem wf_refuses_a_fragment_past_its_datagram :
    Instr.wf (.siteDatagramReceive { net := 0, srcPort := 1, dstPort := 1, addr := 1, stamp := 0, data := [1, 2], frag := some (1, 9, 10) }) = false := by
  decide +kernel
theorem wf_refuses_lane_144 : Instr.wf (.outerCycle [{ (default : LaneCycle) with lane := 144 }]) = false := by decide +kernel
theorem wf_refuses_a_short_metering_sample : Instr.wf (.meterSample []) = false := by decide +kernel
theorem wf_refuses_a_bitstream_with_an_empty_run : WellFormed.pathBits { runs := [(true, 4), (false, 0)] } = false := by decide
theorem wf_refuses_slot_48 : Instr.wf (.precheckMidSampleEnd 0 [{ (default : MidSample) with slot := 48 }]) = false := by decide +kernel
theorem wf_refuses_low_above_high :
    Instr.wf (.precheckResample 0 [{ (default : MidSample) with low := 1, high := 0 }]) = false := by decide +kernel
theorem wf_refuses_256_taps : Instr.wf (.delayLineCal 0 (some 256)) = false := by decide +kernel
theorem wf_refuses_65_data_bytes :
    Instr.wf (.canFrameReceive 0 { sof := 0, ident := 0, dlc := 0, data := List.replicate 65 0 }) = false := by decide +kernel
theorem wf_refuses_35_carriers : Instr.wf (.flinkFrameReceive { flFrame 1 0 0 with snr := [List.replicate 35 0] }) = false := by decide +kernel
theorem wf_refuses_a_fifth_hinge_lane : Instr.wf (.hingeUp 16) = false ∧ Instr.wf (.hingeDown 16) = false := by decide +kernel
theorem wf_takes_a_packet : Instr.wf (.sysPing (host 0 0x0100 0 [])) = true := by decide +kernel

/-! ### Values from outside the model -/

/-- The check value of CRC-32C over "123456789" (the Castagnoli polynomial that R594 names). -/
theorem test_crc32c : crc32c [49, 50, 51, 52, 53, 54, 55, 56, 57] = 0xE3069283 := by decide +kernel

/-- The published AES-CMAC example over the empty message (R594 names AES-CMAC). -/
theorem test_cmac : cmac [0x2b, 0x7e, 0x15, 0x16, 0x28, 0xae, 0xd2, 0xa6, 0xab, 0xf7, 0x15, 0x88, 0x09, 0xcf, 0x4f, 0x3c] [] =
    [0xbb, 0x1d, 0x69, 0x29, 0xe9, 0x59, 0x37, 0x28, 0x7f, 0xa3, 0x7d, 0x12, 0x9b, 0x75, 0x67, 0x46] := by decide +kernel

/-! ### Witnesses -/

theorem witness_StepRunsFront : ∃ (s : State), ∃ i rest, s.pending = i :: rest := ⟨{ dev with pending := [.launchExecute] }, _, _, rfl⟩

theorem witness_AnEmptyQueueIsATick : (∃ s : State, s.pending = [] ∧ s.sys.mode ≠ .run) ∧
    (∃ s : State, s.pending = [] ∧ s.sys.mode = .run ∧ s.clk.freq = 0 ∧ s.clk.resid = 0) ∧
    (∃ s : State, s.pending = [] ∧ s.sys.mode = .run ∧ s.sys.ready = false) ∧
    ∃ s : State, s.pending = [] ∧ s.sys.mode = .run ∧ s.sys.ready = true ∧ s.sys.fault.isSome = true :=
  ⟨⟨{ dev with sys := { dev.sys with mode := .sleep } }, by decide +kernel⟩, ⟨dev, by decide +kernel⟩, ⟨State.reset, by decide +kernel⟩,
   inFault false, by decide +kernel⟩

theorem witness_HeldDeviceIgnoresCommands : (∃ (i : Instr) (s : State), s.sys.mode ≠ .run ∧ i.actsAlways = false) ∧
    (∃ s : State, s.sys.mode = .inReset) ∧ ∃ s : State, s.sys.mode = .sleep :=
  ⟨⟨.launchExecute, { dev with sys := { dev.sys with mode := .inReset } }, by decide +kernel⟩,
   ⟨{ dev with sys := { dev.sys with mode := .inReset } }, rfl⟩, { dev with sys := { dev.sys with mode := .sleep } }, rfl⟩

theorem witness_EveryStepKeepsLogsBounded : ∃ s t : State, Safety.logsBounded s ∧ step s = .next t :=
  ⟨{ dev with pending := [.hostioStatusRead] }, _, ⟨by decide +kernel, by decide +kernel, by decide +kernel, by decide +kernel, by decide +kernel⟩, rfl⟩

theorem witness_PacketReadsBackAsBuilt :
    (∃ (flags code seq target : Nat) (payload tag : Bytes) (via : Via) (l : Nat) (body : Bytes), flags < 16 ∧ code < 2 ^ 16 ∧ seq < 2 ^ 32 ∧
      target < 2 ^ 16 ∧ payload.length ≤ 4080 ∧ tag.length = (if via = .hostio then 0 else 16) ∧ flags % 2 = 1 ∧ l < 2 ^ 64 ∧ payload = le 8 l ++ body) ∧
    ∃ (flags code seq target : Nat) (payload tag : Bytes) (via : Via), flags < 16 ∧ code < 2 ^ 16 ∧ seq < 2 ^ 32 ∧
      target < 2 ^ 16 ∧ payload.length ≤ 4080 ∧ tag.length = (if via = .hostio then 0 else 16) ∧ flags % 2 = 0 :=
  ⟨⟨15, 0xFFFF, 2 ^ 32 - 1, 0xFFFF, le 8 (2 ^ 64 - 1) ++ [], [], .hostio, 2 ^ 64 - 1, [], by decide +kernel⟩,
   14, 0, 0, 0, [], List.replicate 16 0, .site1, by decide +kernel⟩

theorem witness_SequenceIsDeliveredOnce : ∃ (w : SeqWin) (n : Nat) (l : List Nat), w.fits ∧ n < 2 ^ 32 ∧ (∀ m ∈ l, m < 2 ^ 32) ∧
    (w.receive n).1 = .deliver ∧
    (∀ k, k ≤ l.length → ((((w.receive n).2.after (l.take k)).h + 2 ^ 32 - n) % 2 ^ 32 < 2 ^ 31)) := by
  refine ⟨{ valid := true, h := 5, marks := [5] }, 2 ^ 32 - 1, [6, 7], ⟨by decide, by decide⟩, by decide, by decide, by decide +kernel, ?_⟩
  intro k hk
  have : k = 0 ∨ k = 1 ∨ k = 2 := by simp at hk; omega
  rcases this with h | h | h <;> subst h <;> decide +kernel

theorem witness_StatusByteBits : ∃ s : State, s.sys.mode = .run ∧ s.queues[1].words ≠ [] :=
  ⟨(dev.offerPacket 1 [1]).1, by decide +kernel⟩

/-- At the last word of a range, past it, at the window's start and end, and at a read port of a queue of the firmware. -/
theorem witness_WindowReadResponses :
    (∃ (s : State) (a : Word) (n : Nat), s.sys.mode = .run ∧ s.hio.serving = true ∧ addressCause a.toNat n = none ∧ ¬inRun a.toNat 0x100000 0x100000) ∧
    (∃ (s : State) (a : Word) (n c : Nat), s.sys.mode = .run ∧ s.hio.serving = true ∧ addressCause a.toNat n = some c) ∧
    (∃ (s : State) (a : Word) (n : Nat), s.sys.mode = .run ∧ s.hio.serving = true ∧ addressCause a.toNat n = none ∧
      (inRun a.toNat 0x100000 0x100000 && readPort (a.toNat % 0x2000) &&
        s.queues[(Fin.ofNat 128 ((a.toNat - 0x100000) / 0x2000) : Fin 128)].cfg.firmware) = true) ∧
    (∃ s : State, s.sys.mode = .run ∧ s.hio.serving = false ∧ s.el < s.sys.startAt + 50000000) ∧
    (∃ s : State, s.sys.mode = .run ∧ s.sys.startAt + 50000000 ≤ s.el) :=
  ⟨⟨dev, 0, 1, by decide +kernel⟩, ⟨dev, 2, 1, 2, by decide +kernel⟩, ⟨dev, 0x101000, 1, by decide +kernel⟩,
   ⟨{ at_ 49999999 with hio := { dev.hio with serving := false } }, by decide +kernel⟩, at_ 50000000, by decide +kernel⟩

theorem witness_ViolationIsRecorded :
    (∃ s : State, s.hio.vlog.length ≤ 64 ∧ ∃ x, s.hio.violEvt = some x ∧ s.el < x + 1000000) ∧
    ∃ s : State, s.hio.vlog.length ≤ 64 ∧ s.hio.vlog.length = 64 ∧ ∀ x, s.hio.violEvt = some x → x + 1000000 ≤ s.el :=
  ⟨⟨dev.violate 3 true 0 1 0, by decide +kernel, 10 ^ 12, by decide +kernel⟩,
   { dev with hio := { dev.hio with vlog := List.replicate 64 default, violEvt := some (10 ^ 12 - 1000000) } }, by decide +kernel, by decide +kernel,
   fun x h => by
     have : x = 10 ^ 12 - 1000000 := by injection h with h; exact h.symm
     subst this; decide +kernel⟩

theorem witness_WordsArePackedInOrder :
    (∃ bs : Bytes, bs.length = 24) ∧
    (∃ (s : State) (i : Fin 128) (bs : Bytes), 1 ≤ bs.length ∧ s.queues[i].part.length + bs.length < 8 ∧
      (s.queues[i].part ≠ [] ∨ s.queueFits i 1 = true)) ∧
    (∃ (s : State) (i : Fin 128) (bs : Bytes), s.queues[i].part.length + bs.length = 8 ∧ s.queues[i].part ≠ [] ∧
      s.queues[i].open_ = none ∧ s.queues[i].spilled = [] ∧ s.queues[i].behind = [] ∧ s.queues[i].sramFill ≤ s.queues[i].cfg.capacity) ∧
    (∃ q : Queue, q.words = [] ∧ q.spilled = [] ∧ q.behind = [] ∧ q.part ≠ [] ∧ q.part.length < 8) :=
  ⟨⟨List.replicate 24 0, rfl⟩, ⟨dev, 3, [1, 2], by decide +kernel⟩,
   ⟨dev.setQueue 3 { dev.queues[3] with part := [1, 2, 3] }, 3, [4, 5, 6, 7, 8], by decide +kernel⟩, { dev.queues[3] with part := [1] }, by decide +kernel⟩

/-- Two launches and a trailing time that fall due together; the same in a thermal and in another device-fault state. -/
theorem witness_LaunchesExecuteInOrder :
    (∃ s : State, s.sys.mode = .run ∧ (∀ f, s.sys.fault = some f → f.thermal = true) ∧ s.dues.length = 3) ∧
    (∃ s : State, ∃ f, s.sys.mode = .run ∧ s.sys.fault = some f ∧ f.thermal = true) ∧
    ∃ s : State, s.sys.mode = .run ∧ ∃ f, s.sys.fault = some f ∧ f.thermal = false :=
  ⟨⟨{ dev with
      launches := [{ at_ := 5, order := 1, req := default }, { at_ := 5, order := 0, req := default }]
      alloc := { dev.alloc with trailing := [{ epoch := 0, at_ := 5, entries := [], released := true, fallback := false }] } },
     rfl, nofun, by decide +kernel⟩,
   ⟨inFault true, _, rfl, rfl, rfl⟩,
   inFault false, rfl, _, rfl, rfl⟩

theorem witness_DeviceFaultDrivesOutputsLow : ∃ (s : State) (n : Fin 48) (g : Fin 8), s.sys.fault = none ∧ s.slotGroup n = some g ∧
    s.groups[g].pwm.test = false ∧ s.gState g ≠ .off := ⟨runG, 1, 0, by decide +kernel⟩

theorem witness_IntakeAndReplyTouchOnlyTheInterface : ∃ (s : State) (p : Pkt), ∃ t r arr, s.accepts 0x0100 p r arr t ∧ p.wants = true :=
  ⟨dev, host 2 0x0100 0 [], accepted (by decide +kernel)⟩

theorem witness_SysCommandsComplete :
    (∃ (s : State) (p : Pkt), ∃ t r arr, s.accepts 0x0100 p r arr t ∧ r.timed = false) ∧
    (∃ (s : State) (p : Pkt), ∃ t r arr, s.accepts 0x0101 p r arr t ∧ r.timed = false) ∧
    (∃ (s : State) (p : Pkt), ∃ t r arr, s.accepts 0x0102 p r arr t ∧ r.timed = false ∧ (bodySysRole r t).status = 0) ∧
    (∃ (s : State) (p : Pkt), ∃ t r arr, s.accepts 0x0103 p r arr t ∧ r.timed = false ∧ (bodySysReset r t).status = 0) ∧
    (∃ (s : State) (p : Pkt), ∃ t r arr, s.accepts 0x0104 p r arr t ∧ r.timed = false ∧ (bodySysSleep r t).status = 0) ∧
    (∃ (s : State) (p : Pkt), ∃ t r arr, s.accepts 0x0105 p r arr t ∧ r.timed = false ∧ (bodySysLogRead r t).status = 0) ∧
    (∃ (s : State) (p : Pkt), ∃ t r arr, s.accepts 0x0106 p r arr t ∧ r.timed = false ∧ (bodySysViolationRead r t).status = 0 ∧ u8 r.body 0 = 1) ∧
    (∃ (s : State) (p : Pkt), ∃ t r arr, s.accepts 0x0106 p r arr t ∧ r.timed = false ∧ (bodySysViolationRead r t).status = 0 ∧ u8 r.body 0 = 0 ∧
      bit (u8 r.body 1) 0 = true) ∧
    (∃ (s : State) (p : Pkt), ∃ t r arr, s.accepts 0x0106 p r arr t ∧ r.timed = false ∧ (bodySysViolationRead r t).status = 0 ∧ u8 r.body 0 = 0 ∧
      bit (u8 r.body 1) 0 = false) ∧
    (∃ (s : State) (p : Pkt), ∃ t r arr, s.accepts 0x0107 p r arr t ∧ r.timed = false ∧ (bodySysFwUpdate r t).status = 0 ∧ u8 r.body 0 = 2) ∧
    (∃ (s : State) (p : Pkt), ∃ t r arr, s.accepts 0x0107 p r arr t ∧ r.timed = false ∧ (bodySysFwUpdate r t).status = 0 ∧ u8 r.body 0 = 3) ∧
    (∃ (s : State) (p : Pkt), ∃ t r arr, s.accepts 0x0107 p r arr t ∧ r.timed = false ∧ (bodySysFwUpdate r t).status = 0 ∧ u8 r.body 0 ≤ 1 ∧ bit (u8
      r.body 2) 0 = false) ∧
    (∃ (s : State) (p : Pkt), ∃ t r arr, s.accepts 0x0107 p r arr t ∧ r.timed = false ∧ (bodySysFwUpdate r t).status = 0 ∧ u8 r.body 0 ≤ 1 ∧ bit (u8
      r.body 2) 0 = true) :=
  ⟨⟨dev, host 0 0x0100 0 ([]), accepted (by decide +kernel)⟩,
   ⟨dev, host 0 0x0101 0 ([]), accepted (by decide +kernel)⟩,
   ⟨dev, host 0 0x0102 0 (fill 48 [(0, 1, 1), (2, 2, 47320)]), accepted (by decide +kernel)⟩,
   ⟨dev, host 0 0x0103 0 (fill 8 []), accepted (by decide +kernel)⟩,
   ⟨dev, host 0 0x0104 0 (fill 16 [(0, 2, 1)]), accepted (by decide +kernel)⟩,
   ⟨dev, host 0 0x0105 0 (fill 16 [(12, 2, 4064)]), accepted (by decide +kernel)⟩,
   ⟨dev, host 0 0x0106 0 (fill 8 [(0, 1, 1)]), accepted (by decide +kernel)⟩,
   ⟨dev, host 0 0x0106 0 (fill 8 [(1, 1, 1)]), accepted (by decide +kernel)⟩,
   ⟨dev, host 0 0x0106 0 (fill 8 []), accepted (by decide +kernel)⟩,
   ⟨dev.modFw (fun f => { f with alt := some (1, 2) }), host 0 0x0107 0 (fill 16 [(0, 1, 2)]), accepted (by decide +kernel)⟩,
   ⟨dev, host 0 0x0107 0 (fill 16 [(0, 1, 3)]), accepted (by decide +kernel)⟩,
   ⟨dev, host 0 0x0107 0 (fill 20 [(0, 1, 1), (1, 1, 2), (4, 4, 1), (12, 2, 4)]), accepted (by decide +kernel)⟩,
   ⟨dev, host 0 0x0107 0 (fill 36 [(0, 1, 1), (1, 1, 2), (2, 1, 1), (4, 4, 1), (12, 2, 20), (32, 4, crc32c (List.replicate 16 0))]), accepted
     (by decide +kernel)⟩⟩

theorem witness_TimeCommandsComplete :
    (∃ (s : State) (p : Pkt), ∃ t r arr, s.accepts 0x0201 p r arr t ∧ r.timed = false ∧ (bodyTimeSet r t).status = 0 ∧ t.pendEnd.time.pend = none) ∧
    (∃ w, ∃ (s : State) (p : Pkt), ∃ t r arr, s.accepts 0x0201 p r arr t ∧ r.timed = false ∧ (bodyTimeSet r t).status = 0 ∧ t.pendEnd.time.pend =
      some w) ∧
    (∃ (s : State) (p : Pkt), ∃ t r arr, s.accepts 0x0202 p r arr t ∧ r.timed = false ∧ (bodyTimeSource r t).status = 0) ∧
    (∃ (s : State) (p : Pkt), ∃ t r arr, s.accepts 0x0203 p r arr t ∧ r.timed = false) ∧
    (∃ (s : State) (p : Pkt), ∃ t r arr, s.accepts 0x0204 p r arr t ∧ r.timed = true ∧ (acceptTimed r t).status = 1) :=
  ⟨⟨dev, host 0 0x0201 0 (fill 16 [(0, 8, 5)]), accepted (by decide +kernel)⟩,
   ⟨{ src := 0, offset := 5, endAt := 10 ^ 13 }, dev.modTime (fun x => { x with pend := some { src := 0, offset := 5, endAt := 10 ^ 13 } }), host 8
     0x0201 0 (fill 16 [(8, 1, 1)]), accepted (by decide +kernel)⟩,
   ⟨dev, host 0 0x0202 0 (fill 40 [(0, 1, 1), (2, 5, 0xFFFFFFFFFF), (12, 4, 10000), (16, 4, 10000), (20, 4, 9600)]), accepted (by decide +kernel)⟩,
   ⟨dev, host 0 0x0203 0 ([]), accepted (by decide +kernel)⟩,
   ⟨dev, host 1 0x0204 0 (fill 24 [(0, 8, 1000000020000), (20, 4, 1)]), accepted (by decide +kernel)⟩⟩

theorem witness_AllocCommandsComplete :
    (∃ (s : State) (p : Pkt), ∃ t r arr, s.accepts 0x0301 p r arr t ∧ r.timed = false ∧ (bodyAllocLimit r t).status = 0) ∧
    (∃ (s : State) (p : Pkt), ∃ t r arr, s.accepts 0x0302 p r arr t ∧ r.timed = false ∧ (bodyAllocPolicy r t).status = 0) ∧
    (∃ (s : State) (p : Pkt), ∃ t r arr, s.accepts 0x0303 p r arr t ∧ r.timed = false ∧ (bodyAllocFallback r t).status = 0) ∧
    (∃ (s : State) (p : Pkt), ∃ t r arr, s.accepts 0x0304 p r arr t ∧ r.timed = false ∧ (bodyAllocStatus r t).status = 0 ∧ u8 r.body 8 = 0) ∧
    (∃ (s : State) (p : Pkt), ∃ t r arr, s.accepts 0x0304 p r arr t ∧ r.timed = false ∧ (bodyAllocStatus r (t.conflictSeen r)).status = 0 ∧ u8
      r.body 8 = 1) ∧
    (∃ (s : State) (p : Pkt), ∃ t r arr, s.accepts 0x0305 p r arr t ∧ r.timed = false ∧ (bodyAllocTargets r t).status = 0 ∧ u8 r.body 8 = 2) ∧
    (∃ (s : State) (p : Pkt), ∃ t r arr, s.accepts 0x0305 p r arr t ∧ r.timed = true ∧ (acceptTargets r (t.conflictSeen r)).status = 1) :=
  ⟨⟨dev.store (fun c => { c with role := some (fill 8 [(1, 1, 7)]) }), host 0 0x0301 0 (fill 16 []), accepted (by decide +kernel)⟩,
   ⟨dev.store (fun c => { c with role := some (fill 8 [(1, 1, 7)]) }), host 0 0x0302 0 (fill 32 [(4, 4, 1000), (12, 4, 100), (18, 2, 1), (20, 4,
     1000)]), accepted (by decide +kernel)⟩,
   ⟨{ dev with alloc := { dev.alloc with limits := [{ since := 0, limp := 0, lexp := 0, reserve := 0 }] } }, host 0 0x0303 0 (fill 136 []), accepted
     (by decide +kernel)⟩,
   ⟨dev, host 0 0x0304 0 (fill 16 []), accepted (by decide +kernel)⟩,
   ⟨{ sited with master := { sited.master with held := true, leaseEnd := 10 ^ 13 } }, site 0 0x0304 0 (fill 16 [(8, 1, 1), (9, 1, 4)])
     178609110520561784518876710921705553825, accepted (by decide +kernel)⟩,
   ⟨{ sited with master := { sited.master with holder := some 4, holderEnd := some (10 ^ 12 + 1) }, alloc := { sited.alloc with trailing := [{ epoch := 1000000, at_ := 10 ^ 12 + 1, entries := [], released := false, fallback := false }] } },
     site 0 0x0305 0 (fill 16 [(0, 8, 1000000), (8, 1, 2)]) 88222941546700269986000497072788663635, accepted (by decide +kernel)⟩,
   ⟨{ sited with master := { sited.master with holder := some 4, holderEnd := some (10 ^ 12 + 1) } }, site 1 0x0305 0 (fill 48 [(0, 8,
     1000002000000), (8, 8, 1000000), (44, 1, 4)]) 334721463728570708062665608763860807985, accepted (by decide +kernel)⟩⟩

theorem witness_GroupCommandsComplete :
    (∃ (s : State) (p : Pkt), ∃ t r arr, s.accepts 0x0401 p r arr t ∧ r.timed = false ∧ (bodyGroupConfig r t).status = 0) ∧
    (∃ (s : State) (p : Pkt), ∃ t r arr, s.accepts 0x0402 p r arr t ∧ r.timed = false ∧ (bodyGroupEnable r t).status = 0) ∧
    (∃ (s : State) (p : Pkt), ∃ t r arr, s.accepts 0x0403 p r arr t ∧ r.timed = false ∧ (bodyGroupSetpoint r t).status = 0) ∧
    (∃ (s : State) (p : Pkt), ∃ t r arr, s.accepts 0x0404 p r arr t ∧ r.timed = false ∧ (bodyGroupStop r t).status = 0 ∧ t.groups[r.g].pwm.test =
      false) ∧
    (∃ (s : State) (p : Pkt), ∃ t r arr, s.accepts 0x0404 p r arr t ∧ r.timed = false ∧ (bodyGroupStop r t).status = 0 ∧ t.groups[r.g].pwm.test =
      true) ∧
    (∃ (s : State) (p : Pkt), ∃ t r arr, s.accepts 0x0405 p r arr t ∧ r.timed = false) ∧
    (∃ (s : State) (p : Pkt), ∃ t r arr, s.accepts 0x0406 p r arr t ∧ r.timed = false ∧ t.isRetired r.target = false) ∧
    (∃ (s : State) (p : Pkt), ∃ t r arr, s.accepts 0x0407 p r arr t ∧ r.timed = false ∧ (bodyPhaseRestore r t).status = 0) ∧
    (∃ (s : State) (p : Pkt), ∃ t r arr, s.accepts 0x0408 p r arr t ∧ r.timed = false ∧ (bodyGroupFaultRead r t).status = 0) :=
  ⟨⟨dev, host 0 0x0401 0x1000 (groupPay), accepted (by decide +kernel)⟩,
   ⟨grp, host 0 0x0402 0x1000 (fill 8 [(0, 1, 1)]), accepted (by decide +kernel)⟩,
   ⟨grp, host 0 0x0403 0x1000 (fill 16 [(4, 4, 65536)]), accepted (by decide +kernel)⟩,
   ⟨grp, host 0 0x0404 0x1000 (fill 8 []), accepted (by decide +kernel)⟩,
   ⟨grp.modPwm 0 (fun w => { w with test := true }), host 0 0x0404 0x1000 (fill 8 []), accepted (by decide +kernel)⟩,
   ⟨dev, host 0 0x0405 0x1007 ([]), accepted (by decide +kernel)⟩,
   ⟨dev, host 0 0x0406 0x202F ([]), accepted (by decide +kernel)⟩,
   ⟨{ dev with nv := { dev.nv with retired := [{ target := 0x202F, cause := 0, st := 0 }] } }, host 0 0x0407 0x202F ([]), accepted
     (by decide +kernel)⟩,
   ⟨dev, host 0 0x0408 0x1007 (fill 8 [(4, 1, 1)]), accepted (by decide +kernel)⟩⟩

theorem witness_FaultCommandsComplete :
    (∃ (s : State) (p : Pkt), ∃ t r arr, s.accepts 0x1101 p r arr t ∧ r.timed = false) ∧
    (∃ (s : State) (p : Pkt), ∃ t r arr, s.accepts 0x1102 p r arr t ∧ r.timed = false ∧ (bodyFaultClear r t).status = 0) ∧
    (∃ (s : State) (p : Pkt), ∃ t r arr, s.accepts 0x1103 p r arr t ∧ r.timed = false) :=
  ⟨⟨dev, host 0 0x1101 0x1000 ([]), accepted (by decide +kernel)⟩,
   ⟨dev, host 0 0x1102 0x1000 (fill 8 [(0, 1, 2)]), accepted (by decide +kernel)⟩,
   ⟨dev, host 0 0x1103 0 (fill 4 []), accepted (by decide +kernel)⟩⟩

theorem witness_StageCommandsComplete :
    (∃ (s : State) (p : Pkt), ∃ t r arr, s.accepts 0x0501 p r arr t ∧ r.timed = false ∧ (bodyPwmWrite r t).status = 0 ∧ u8 r.body 0 = 1) ∧
    (∃ (s : State) (p : Pkt), ∃ t r arr, s.accepts 0x0501 p r arr t ∧ r.timed = false ∧ (bodyPwmWrite r t).status = 0 ∧ u8 r.body 0 = 0) ∧
    (∃ (s : State) (p : Pkt), ∃ t r arr, s.accepts 0x0502 p r arr t ∧ r.timed = false ∧ (bodyPwmLoadall r t).status = 0) ∧
    (∃ (s : State) (p : Pkt), ∃ t r arr, s.accepts 0x0503 p r arr t ∧ r.timed = false) ∧
    (∃ (s : State) (p : Pkt), ∃ t r arr, s.accepts 0x0601 p r arr t ∧ r.timed = false ∧ (bodyLoopParam r t).status = 0) ∧
    (∃ (s : State) (p : Pkt), ∃ t r arr, s.accepts 0x0602 p r arr t ∧ r.timed = false ∧ (bodyLoopProfile r t).status = 0) ∧
    (∃ (s : State) (p : Pkt), ∃ t r arr, s.accepts 0x0603 p r arr t ∧ r.timed = false ∧ (bodyLoopTrace r t).status = 0 ∧ u8 r.body 0 = 2) ∧
    (∃ (s : State) (p : Pkt), ∃ t r arr, s.accepts 0x0603 p r arr t ∧ r.timed = false ∧ (bodyLoopTrace r t).status = 0 ∧ u8 r.body 0 = 0) ∧
    (∃ (s : State) (p : Pkt), ∃ t r arr, s.accepts 0x0603 p r arr t ∧ r.timed = false ∧ (bodyLoopTrace r t).status = 0 ∧ u8 r.body 0 = 1) :=
  ⟨⟨grp.modPwm 0 (fun w => { w with test := true }), host 0 0x0501 0x2000 (fill 24 [(0, 1, 1), (4, 4, 100)]), accepted (by decide +kernel)⟩,
   ⟨grp, host 0 0x0501 0x1000 (fill 40 [(1, 1, 1), (4, 4, 800), (18, 2, 4), (20, 1, 1), (22, 2, 1)]), accepted (by decide +kernel)⟩,
   ⟨grp.modPwm 0 (fun w => { w with test := true }), host 0 0x0502 0x1000 ([]), accepted (by decide +kernel)⟩,
   ⟨dev, host 0 0x0503 0x202F ([]), accepted (by decide +kernel)⟩,
   ⟨dev, host 0 0x0601 0x1000 (fill 56 []), accepted (by decide +kernel)⟩,
   ⟨dev, host 0 0x0602 0x1000 (fill 32 [(0, 4, 1), (4, 4, 1), (8, 4, 1), (12, 4, 1), (16, 4, 1), (20, 4, 1)]), accepted (by decide +kernel)⟩,
   ⟨dev, host 0 0x0603 0x1000 (fill 16 [(0, 1, 2), (1, 1, 1)]), accepted (by decide +kernel)⟩,
   ⟨dev, host 0 0x0603 0x1000 (fill 16 [(2, 2, 127)]), accepted (by decide +kernel)⟩,
   ⟨dev, host 0 0x0603 0x1000 (fill 16 [(0, 1, 1), (2, 2, 64)]), accepted (by decide +kernel)⟩⟩

theorem witness_PortCommandsComplete :
    (∃ (s : State) (p : Pkt), ∃ t r arr, s.accepts 0x0701 p r arr t ∧ r.timed = false ∧ (bodyPortConfig r t).status = 0) ∧
    (∃ (s : State) (p : Pkt), ∃ t r arr, s.accepts 0x0702 p r arr t ∧ r.timed = false ∧ (bodyPortAuthorize r t).status = 0) ∧
    (∃ (s : State) (p : Pkt), ∃ t r arr, s.accepts 0x0703 p r arr t ∧ r.timed = false ∧ (bodyPortLimit r t).status = 0) ∧
    (∃ (s : State) (p : Pkt), ∃ t r arr, s.accepts 0x0704 p r arr t ∧ r.timed = false ∧ (bodyPortStop r t).status = 0) ∧
    (∃ (s : State) (p : Pkt), ∃ t r arr, s.accepts 0x0705 p r arr t ∧ r.timed = false) ∧
    (∃ (s : State) (p : Pkt), ∃ t r arr, s.accepts 0x0706 p r arr t ∧ r.timed = false ∧ (bodyPortSessionRead r t).status = 0) ∧
    (∃ (s : State) (p : Pkt), ∃ t r arr, s.accepts 0x0707 p r arr t ∧ r.timed = false ∧ (bodyPortClear r t).status = 0) ∧
    (∃ (s : State) (p : Pkt), ∃ t r arr, s.accepts 0x0801 p r arr t ∧ r.timed = false ∧ (bodyCoolConfig r t).status = 0) ∧
    (∃ (s : State) (p : Pkt), ∃ t r arr, s.accepts 0x0802 p r arr t ∧ r.timed = false) :=
  ⟨⟨dev, host 0 0x0701 0x3000 (fill 64 [(2, 1, 4), (7, 1, 1)]), accepted (by decide +kernel)⟩,
   ⟨dev.modPort 0 (fun x => { x with state := .negotiating, session := some { id := 9, authAsked := some 0 } }), host 0 0x0702 0x3000 (fill 24 [(0,
     4, 9), (4, 1, 1), (6, 2, 0xFFFF)]), accepted (by decide +kernel)⟩,
   ⟨dev, host 0 0x0703 0x3000 (fill 16 []), accepted (by decide +kernel)⟩,
   ⟨dev, host 0 0x0704 0x3000 (fill 8 []), accepted (by decide +kernel)⟩,
   ⟨dev, host 0 0x0705 0x3007 ([]), accepted (by decide +kernel)⟩,
   ⟨dev, host 0 0x0706 0x3000 (fill 8 [(4, 1, 7)]), accepted (by decide +kernel)⟩,
   ⟨dev.modPort 7 (fun x => { x with state := .faulted }), host 0 0x0707 0x3007 ([]), accepted (by decide +kernel)⟩,
   ⟨dev, host 0 0x0801 0x8007 (fill 64 [(0, 3, 0xFFFFFF), (6, 1, 0xFF), (8, 4, 0xFFFFFFFF), (12, 2, 1), (14, 2, 1), (16, 2, 2), (18, 2, 1), (22, 2,
     1), (24, 2, 60000), (32, 2, 1), (34, 2, 400), (40, 2, 1), (52, 2, 1), (56, 2, 1)]), accepted (by decide +kernel)⟩,
   ⟨dev, host 0 0x0802 0x8007 ([]), accepted (by decide +kernel)⟩⟩

theorem witness_MeterCommandsComplete :
    (∃ k, ∃ (s : State) (p : Pkt), ∃ t r arr, s.accepts 0x0901 p r arr t ∧ r.timed = false ∧ (bodyMeterConfig r t).status = 0 ∧ meterOfTarget
      r.target = some k) ∧
    (∃ (s : State) (p : Pkt), ∃ t r arr, s.accepts 0x0901 p r arr t ∧ r.timed = false ∧ (bodyMeterConfig r t).status = 0 ∧ meterOfTarget r.target =
      none) ∧
    (∃ (s : State) (p : Pkt), ∃ t r arr, s.accepts 0x0902 p r arr t ∧ r.timed = false ∧ (bodyMeterCalTable r t).status = 0) ∧
    (∃ (s : State) (p : Pkt), ∃ t r arr, s.accepts 0x0903 p r arr t ∧ r.timed = false ∧ (bodyMeterRead r t).status = 0) ∧
    (∃ (s : State) (p : Pkt), ∃ t r arr, s.accepts 0x0904 p r arr t ∧ r.timed = false ∧ (bodyMeterSeal r t).status = 0) :=
  ⟨⟨0, { dev with vbat := { dev.vbat with sealLevel := true } }, host 0 0x0901 0x3000 (fill 24 [(0, 1, 1)]), accepted (by decide +kernel)⟩,
   ⟨{ dev with vbat := { dev.vbat with sealLevel := true } }, host 0 0x0901 0 (fill 24 [(4, 8, 0x1414141414141414), (12, 8, 0x1414141414141414)]),
     accepted (by decide +kernel)⟩,
   ⟨{ dev with vbat := { dev.vbat with sealLevel := true } }, host 0 0x0902 0 (fill 20 [(0, 4, 1), (8, 2, 4)]), accepted (by decide +kernel)⟩,
   ⟨{ dev with metro := { dev.metro with mirror := dev.metro.mirror.set 0 { stat := 1 } } }, host 0 0x0903 0x3000 (fill 8 []), accepted
     (by decide +kernel)⟩,
   ⟨{ { dev with vbat := { dev.vbat with sealLevel := true } } with metro := { dev.metro with cal := some (fill 36 []) } }, host 0 0x0904 0 (fill 8
     []), accepted (by decide +kernel)⟩⟩

set_option maxRecDepth 8000 in
theorem witness_BillCommandsComplete :
    (∃ (s : State) (p : Pkt), ∃ t r arr, s.accepts 0x0A01 p r arr t ∧ r.timed = false ∧ (bodyBillTariffLoad r t).status = 0) ∧
    (∃ (s : State) (p : Pkt), ∃ t r arr, s.accepts 0x0A02 p r arr t ∧ r.timed = false ∧ (bodyBillCalendarLoad r t).status = 0) ∧
    (∃ (s : State) (p : Pkt), ∃ t r arr, s.accepts 0x0A03 p r arr t ∧ r.timed = false ∧ (bodyBillRead r t).status = 0) ∧
    (∃ (s : State) (p : Pkt), ∃ t r arr, s.accepts 0x0A04 p r arr t ∧ r.timed = false ∧ (bodyBillTokenEnter r t).status = 0) ∧
    (∃ (s : State) (p : Pkt), ∃ t r arr, s.accepts 0x0A05 p r arr t ∧ r.timed = false ∧ (bodyBillClosePeriod r t).status = 0) ∧
    (∃ (s : State) (p : Pkt), ∃ t r arr, s.accepts 0x0A06 p r arr t ∧ r.timed = false ∧ (bodyBillAccount r t).status = 0 ∧ u8 r.body 0 = 0) ∧
    (∃ (s : State) (p : Pkt), ∃ t r arr, s.accepts 0x0A06 p r arr t ∧ r.timed = false ∧ (bodyBillAccount r t).status = 0 ∧ u8 r.body 0 = 2) ∧
    (∃ (s : State) (p : Pkt), ∃ t r arr, s.accepts 0x0A06 p r arr t ∧ r.timed = false ∧ (bodyBillAccount r t).status = 0 ∧ u8 r.body 0 = 3) ∧
    (∃ (s : State) (p : Pkt), ∃ t r arr, s.accepts 0x0A06 p r arr t ∧ r.timed = false ∧ (bodyBillAccount r t).status = 0 ∧ u8 r.body 0 = 1) :=
  ⟨⟨dev, host 0 0x0A01 0 (fill 144 [(0, 4, 1), (4, 1, 1)]), accepted (by decide +kernel)⟩,
   ⟨dev, { host 0 0x0A02 0 [] with raw := ccpHeader 0 0x0A02 7 2312 0 ++ calPay ++ le 4 4181180851 }, accepted (by decide +kernel)⟩,
   ⟨dev, host 0 0x0A03 0x3007 (fill 16 []), accepted (by decide +kernel)⟩,
   ⟨dev, host 0 0x0A04 0xA0FF (List.replicate 20 48 ++ fill 4 []), accepted (by decide +kernel)⟩,
   ⟨dev, host 0 0x0A05 0 ([]), accepted (by decide +kernel)⟩,
   ⟨dev, host 0 0x0A06 0xA0FF (fill 16 []), accepted (by decide +kernel)⟩,
   ⟨{ dev with bill := { dev.bill with b := { dev.bill.b with accounts := vset dev.bill.b.accounts 255 { loaded := true } } } }, host 0 0x0A06
     0xA0FF (fill 16 [(0, 1, 2)]), accepted (by decide +kernel)⟩,
   ⟨dev, host 0 0x0A06 0 (fill 4 [(0, 1, 3)]), accepted (by decide +kernel)⟩,
   ⟨{ dev with bill := { dev.bill with b := { dev.bill.b with accounts := vset dev.bill.b.accounts 255 { loaded := true } } } }, host 0 0x0A06
     0xA0FF (fill 16 [(0, 1, 1)]), accepted (by decide +kernel)⟩⟩

theorem witness_TwinCommandsComplete :
    (∃ (s : State) (p : Pkt), ∃ t r arr, s.accepts 0x0B01 p r arr t ∧ r.timed = false ∧ (bodyTwinConfig r t).status = 0 ∧ u8 r.body 0 = 1) ∧
    (∃ (s : State) (p : Pkt), ∃ t r arr, s.accepts 0x0B01 p r arr t ∧ r.timed = false ∧ (bodyTwinConfig r t).status = 0 ∧ u8 r.body 0 = 0 ∧ (u8
      r.body 1 == 1) = t.paired) ∧
    (∃ (s : State) (p : Pkt), ∃ t r arr, s.accepts 0x0B01 p r arr t ∧ r.timed = false ∧ (bodyTwinConfig r t).status = 0 ∧ u8 r.body 0 = 0 ∧ (u8
      r.body 1 == 1) ≠ t.paired) ∧
    (∃ (s : State) (p : Pkt), ∃ t r arr, s.accepts 0x0B02 p r arr t ∧ r.timed = false ∧ (bodyTwinStatus r t).status = 0 ∧ u8 r.body 8 = 0) ∧
    (∃ (s : State) (p : Pkt), ∃ t r arr, s.accepts 0x0B02 p r arr t ∧ r.timed = false ∧ (bodyTwinStatus r t).status = 0 ∧ u8 r.body 8 = 1) ∧
    (∃ (s : State) (p : Pkt), ∃ t r arr, s.accepts 0x0B02 p r arr t ∧ r.timed = false ∧ (bodyTwinStatus r t).status = 0 ∧ u8 r.body 8 = 2) ∧
    (∃ (s : State) (p : Pkt), ∃ t r arr, s.accepts 0x0B03 p r arr t ∧ r.timed = false ∧ (bodyTwinDrill r t).status = 0) ∧
    (∃ (s : State) (p : Pkt), ∃ t r arr, s.accepts 0x0B04 p r arr t ∧ r.timed = false ∧ (bodyTwinYield r t).status = 0 ∧ r.launch = 0) :=
  ⟨⟨dev, host 0 0x0B01 0 (fill 32 [(0, 1, 1), (1, 1, 1), (12, 2, 1024)]), accepted (by decide +kernel)⟩,
   ⟨dev, host 0 0x0B01 0 (fill 32 [(8, 2, 10), (10, 4, 1)]), accepted (by decide +kernel)⟩,
   ⟨dev, host 0 0x0B01 0 (fill 32 [(1, 1, 1), (8, 2, 10), (10, 4, 1)]), accepted (by decide +kernel)⟩,
   ⟨dev, host 0 0x0B02 0 (fill 16 []), accepted (by decide +kernel)⟩,
   ⟨sited, site 0 0x0B02 0 (fill 32 [(8, 1, 1)]) 292898676103317456710444892703953297128, accepted (by decide +kernel)⟩,
   ⟨sited, site 0 0x0B02 0 (fill 32 [(8, 1, 2)]) 271313826053606639620471588804399621862, accepted (by decide +kernel)⟩,
   ⟨(dev.store (fun c => { c with twin := some (fill 32 [(1, 1, 1)]) })).modTwin (fun t => { t with state := .active, partner := .standby }), host 0
     0x0B03 0 (fill 8 [(0, 1, 1)]), accepted (by decide +kernel)⟩,
   ⟨(dev.store (fun c => { c with twin := some (fill 32 [(1, 1, 1)]) })).modTwin (fun t => { t with state := .active, partner := .standby }), host 0
     0x0B04 0 (fill 8 []), accepted (by decide +kernel)⟩⟩

theorem witness_CanCommandsComplete :
    (∃ (s : State) (p : Pkt), ∃ t r arr, s.accepts 0x0C01 p r arr t ∧ r.timed = false ∧ (bodyCanConfig r t).status = 0 ∧ u8 r.body 0 = 0) ∧
    (∃ (s : State) (p : Pkt), ∃ t r arr, s.accepts 0x0C01 p r arr t ∧ r.timed = false ∧ (bodyCanConfig r t).status = 0 ∧ u8 r.body 0 = 1) ∧
    (∃ (s : State) (p : Pkt), ∃ t r arr, s.accepts 0x0C02 p r arr t ∧ r.timed = false ∧ (bodyCanSend r t).status = 0) ∧
    (∃ (s : State) (p : Pkt), ∃ t r arr, s.accepts 0x0C03 p r arr t ∧ r.timed = false ∧ (bodyCanMode r t).status = 0 ∧ u8 r.body 0 = 4) ∧
    (∃ (s : State) (p : Pkt), ∃ t r arr, s.accepts 0x0C03 p r arr t ∧ r.timed = false ∧ (bodyCanMode r t).status = 0 ∧ u8 r.body 0 ≠ 4) ∧
    (∃ (s : State) (p : Pkt), ∃ t r arr, s.accepts 0x0C04 p r arr t ∧ r.timed = false) :=
  ⟨⟨dev.modCan 0 (fun c => { c with mode := .off }), host 0 0x0C01 0x6000 (fill 24 [(2, 2, 2), (4, 2, 58), (6, 1, 21), (7, 1, 1), (8, 1, 1), (9, 1,
     1), (10, 1, 1), (11, 1, 1)]), accepted (by decide +kernel)⟩,
   ⟨dev.modCan 0 (fun c => { c with mode := .off }), host 0 0x0C01 0x6000 (fill 8 [(0, 1, 1)]), accepted (by decide +kernel)⟩,
   ⟨dev.modCan 0 (fun c => { c with mode := .normal }), host 0 0x0C02 0x6000 (fill 24 [(4, 1, 0x20), (5, 1, 8)]), accepted (by decide +kernel)⟩,
   ⟨dev.modCan 0 (fun c => { c with state := .busOff, cfg0 := some (fill 24 []) }), host 0 0x0C03 0x6000 (fill 8 [(0, 1, 4)]), accepted
     (by decide +kernel)⟩,
   ⟨dev.modCan 0 (fun c => { c with state := .busOff, cfg0 := some (fill 24 []) }), host 0 0x0C03 0x6000 (fill 8 [(0, 1, 1), (1, 1, 1)]), accepted
     (by decide +kernel)⟩,
   ⟨dev, host 0 0x0C04 0x6007 ([]), accepted (by decide +kernel)⟩⟩

theorem witness_FlinkCommandsComplete :
    (∃ (s : State) (p : Pkt), ∃ t r arr, s.accepts 0x0D01 p r arr t ∧ r.timed = false ∧ (bodyFlinkConfig r t).status = 0) ∧
    (∃ (s : State) (p : Pkt), ∃ t r arr, s.accepts 0x0D02 p r arr t ∧ r.timed = false ∧ (bodyFlinkSend r t).status = 0) ∧
    (∃ (s : State) (p : Pkt), ∃ t r arr, s.accepts 0x0D03 p r arr t ∧ r.timed = false) :=
  ⟨⟨dev, host 0 0x0D01 0 (fill 40 [(0, 1, 1)]), accepted (by decide +kernel)⟩,
   ⟨dev.store (fun c => { c with flink0 := some (fill 24 [(1, 1, 1), (6, 1, 50)]) }), host 0 0x0D02 0 (fill 8 []), accepted (by decide +kernel)⟩,
   ⟨dev, host 0 0x0D03 0 ([]), accepted (by decide +kernel)⟩⟩

theorem witness_QueueCommandsComplete :
    (∃ (s : State) (p : Pkt), ∃ t r arr, s.accepts 0x0E01 p r arr t ∧ r.timed = false ∧ (bodyQueueConfig r t).status = 0) ∧
    (∃ (s : State) (p : Pkt), ∃ t r arr, s.accepts 0x0E02 p r arr t ∧ r.timed = false ∧ (bodyQueueDropPacket r t).status = 0) ∧
    (∃ (s : State) (p : Pkt), ∃ t r arr, s.accepts 0x0E03 p r arr t ∧ r.timed = false) ∧
    (∃ (s : State) (p : Pkt), ∃ t r arr, s.accepts 0x0E04 p r arr t ∧ r.timed = false ∧ (bodyEventRoute r t).status = 0) :=
  ⟨⟨dev, host 0 0x0E01 0x707F (fill 16 [(6, 1, 1), (8, 1, 0xFF)]), accepted (by decide +kernel)⟩,
   ⟨dev, host 0 0x0E02 0x7001 ([]), accepted (by decide +kernel)⟩,
   ⟨dev, host 0 0x0E03 0x7001 ([]), accepted (by decide +kernel)⟩,
   ⟨dev, host 0 0x0E04 0 (fill 8 [(0, 2, 1), (5, 1, 0xFF)]), accepted (by decide +kernel)⟩⟩

theorem witness_SupplyCommandsComplete :
    (∃ (s : State) (p : Pkt), ∃ t r arr, s.accepts 0x0F01 p r arr t ∧ r.timed = false ∧ (bodySwConfig r t).status = 0) ∧
    (∃ (s : State) (p : Pkt), ∃ t r arr, s.accepts 0x0F02 p r arr t ∧ r.timed = false ∧ (bodySwSet r t).status = 0) ∧
    (∃ (s : State) (p : Pkt), ∃ t r arr, s.accepts 0x0F03 p r arr t ∧ r.timed = false) ∧
    (∃ (s : State) (p : Pkt), ∃ t r arr, s.accepts 0x1001 p r arr t ∧ r.timed = false ∧ (bodyHkConfig r t).status = 0) ∧
    (∃ (s : State) (p : Pkt), ∃ t r arr, s.accepts 0x1002 p r arr t ∧ r.timed = false ∧ (bodyHkRead r t).status = 0) ∧
    (∃ (s : State) (p : Pkt), ∃ t r arr, s.accepts 0x1003 p r arr t ∧ r.timed = false ∧ (bodyThermConfig r t).status = 0) ∧
    (∃ (s : State) (p : Pkt), ∃ t r arr, s.accepts 0x1004 p r arr t ∧ r.timed = false ∧ (bodyThermRelease r t).status = 0 ∧ t.nv.tlatch.hw = false ∧
      (t.thermRelease.replied p arr 0 [0, 0]).nv.tlatch.hw = false) :=
  ⟨⟨dev, host 0 0x0F01 0x4000 (fill 32 [(4, 2, 10), (6, 2, 10), (10, 2, 1), (12, 2, 10), (16, 2, 500), (18, 2, 1)]), accepted (by decide +kernel)⟩,
   ⟨dev.modSw 0 (fun c => { c with state := .latched }), host 0 0x0F02 0x4000 (fill 8 [(0, 1, 3)]), accepted (by decide +kernel)⟩,
   ⟨dev, host 0 0x0F03 0x4017 ([]), accepted (by decide +kernel)⟩,
   ⟨dev, host 0 0x1001 0 (fill 24 [(0, 1, 1), (8, 1, 63)]), accepted (by decide +kernel)⟩,
   ⟨dev, host 0 0x1002 0 (fill 8 [(1, 1, 81)]), accepted (by decide +kernel)⟩,
   ⟨dev, host 0 0x1003 0 (fill 8 [(0, 1, 1)]), accepted (by decide +kernel)⟩,
   ⟨{ dev with nv := { dev.nv with tlatch := { dev.nv.tlatch with set := true, mode := 1 } } }, host 0 0x1004 0 ([]), accepted (by decide +kernel)⟩⟩

theorem witness_TimedCommandsAreHeld :
    (∃ (s : State) (p : Pkt), ∃ t r arr, s.accepts 0x0301 p r arr t ∧ r.timed = true ∧ (acceptTimed r t).status = 1) ∧
    (∃ (s : State) (p : Pkt), ∃ t r arr, s.accepts 0x0402 p r arr t ∧ r.timed = true ∧ (acceptTimed r t).status = 1) ∧
    (∃ (s : State) (p : Pkt), ∃ t r arr, s.accepts 0x0403 p r arr t ∧ r.timed = true ∧ (acceptTimed r t).status = 1) ∧
    (∃ (s : State) (p : Pkt), ∃ t r arr, s.accepts 0x0501 p r arr t ∧ r.timed = true ∧ (acceptTimed r t).status = 1) ∧
    (∃ (s : State) (p : Pkt), ∃ t r arr, s.accepts 0x0502 p r arr t ∧ r.timed = true ∧ (acceptTimed r t).status = 1) ∧
    (∃ (s : State) (p : Pkt), ∃ t r arr, s.accepts 0x0601 p r arr t ∧ r.timed = true ∧ (acceptTimed r t).status = 1) ∧
    (∃ (s : State) (p : Pkt), ∃ t r arr, s.accepts 0x0602 p r arr t ∧ r.timed = true ∧ (acceptTimed r t).status = 1) ∧
    (∃ (s : State) (p : Pkt), ∃ t r arr, s.accepts 0x0703 p r arr t ∧ r.timed = true ∧ (acceptTimed r t).status = 1) ∧
    (∃ (s : State) (p : Pkt), ∃ t r arr, s.accepts 0x0A05 p r arr t ∧ r.timed = true ∧ (acceptTimed r t).status = 1) ∧
    (∃ (s : State) (p : Pkt), ∃ t r arr, s.accepts 0x0B04 p r arr t ∧ r.timed = true ∧ (acceptTimed r t).status = 1) ∧
    (∃ (s : State) (p : Pkt), ∃ t r arr, s.accepts 0x0C02 p r arr t ∧ r.timed = true ∧ (acceptTimed r t).status = 1) ∧
    (∃ (s : State) (p : Pkt), ∃ t r arr, s.accepts 0x0F02 p r arr t ∧ r.timed = true ∧ (acceptTimed r t).status = 1) :=
  ⟨⟨dev.store (fun c => { c with role := some (fill 8 [(1, 1, 7)]) }), host 1 0x0301 0 (le 8 1000000020000 ++ fill 16 []), accepted
     (by decide +kernel)⟩,
   ⟨grp, host 1 0x0402 0x1000 (le 8 1000000020000 ++ fill 8 [(0, 1, 1)]), accepted (by decide +kernel)⟩,
   ⟨grp, host 1 0x0403 0x1000 (le 8 1000000020000 ++ fill 16 [(4, 4, 65536)]), accepted (by decide +kernel)⟩,
   ⟨grp.modPwm 0 (fun w => { w with test := true }), host 1 0x0501 0x2000 (le 8 1000000020000 ++ fill 24 [(0, 1, 1), (4, 4, 100)]), accepted
     (by decide +kernel)⟩,
   ⟨grp.modPwm 0 (fun w => { w with test := true }), host 1 0x0502 0x1000 (le 8 1000000020000 ++ []), accepted (by decide +kernel)⟩,
   ⟨dev, host 1 0x0601 0x1000 (le 8 1000000020000 ++ fill 56 []), accepted (by decide +kernel)⟩,
   ⟨dev, host 1 0x0602 0x1000 (le 8 1000000020000 ++ fill 32 [(0, 4, 1), (4, 4, 1), (8, 4, 1), (12, 4, 1), (16, 4, 1), (20, 4, 1)]), accepted
     (by decide +kernel)⟩,
   ⟨dev, host 1 0x0703 0x3000 (le 8 1000000020000 ++ fill 16 []), accepted (by decide +kernel)⟩,
   ⟨dev, host 1 0x0A05 0 (le 8 1000000020000 ++ []), accepted (by decide +kernel)⟩,
   ⟨(dev.store (fun c => { c with twin := some (fill 32 [(1, 1, 1)]) })).modTwin (fun t => { t with state := .active, partner := .standby }), host 1
     0x0B04 0 (le 8 1000000020000 ++ fill 8 []), accepted (by decide +kernel)⟩,
   ⟨dev.modCan 0 (fun c => { c with mode := .normal }), host 1 0x0C02 0x6000 (le 8 1000000020000 ++ fill 24 [(4, 1, 0x20), (5, 1, 8)]), accepted
     (by decide +kernel)⟩,
   ⟨dev.modSw 0 (fun c => { c with state := .latched }), host 1 0x0F02 0x4000 (le 8 1000000020000 ++ fill 8 [(0, 1, 3)]), accepted
     (by decide +kernel)⟩⟩

theorem witness_FirmwareAndCaptureRowsComplete :
    (∃ (s : State), s.sys.mode = .run ∧ s.nv.fw.trial = true ∧ s.sys.ready = true ∧ s.sys.readyAt + 60000000000 ≤ s.el) ∧
    (∃ (s : State), ∃ k, ∃ t, s.sys.mode = .run ∧ s.ccp.prevKey = some (k, t) ∧ t ≤ s.el) ∧
    (∃ (s : State), s.sys.mode = .run ∧ s.paused = true) ∧
    (∃ (s : State), s.sys.mode = .run ∧ s.paused = false) :=
  ⟨⟨dev.modFw (fun f => { f with trial := true }), by decide +kernel⟩,
   ⟨{ dev with ccp := { dev.ccp with prevKey := some ([], 10 ^ 12) } }, [], (10 ^ 12), by decide +kernel⟩,
   ⟨{ dev with therm := { dev.therm with throttle := true, workEnd := some (10 ^ 12) } }, by decide +kernel⟩,
   ⟨dev, by decide +kernel⟩⟩

theorem witness_AllocRowsComplete :
    (∃ (s : State), ∃ m, s.sys.mode = .run ∧ s.sys.ready = true ∧ s.st / 1000000 * 1000000 + 10000 * s.strap.siteId ≤ s.st ∧ s.alloc.reported ≠ some (s.st / 1000000) ∧ let u := { s.epochRoll with alloc := { s.epochRoll.alloc with reported := some (s.st / 1000000) } }; u.masterSite = some m) ∧
    (∃ (s : State), s.sys.mode = .run ∧ s.allocates = true ∧ s.time.quality ≠ .invalid ∧ s.st / 1000000 * 1000000 + 400000 ≤ s.st ∧ s.alloc.ran =
      none) ∧
    (∃ (s : State), s.sys.mode = .run ∧ s.allocates = true) ∧
    (∃ (s : State), s.sys.mode = .run) ∧
    (∃ (s : State), s.sys.mode = .run ∧ 2000000 ≤ s.st ∧ s.sys.ready = true ∧ s.sys.readyAt + 2000000 ≤ s.el ∧ s.alloc.checked = none) ∧
    (∃ (s : State), ∃ (f : Fin 4), ∃ (b : Bytes), s.sys.mode = .run ∧ s.canCopies = [] ∧ s.feederKind f = 2 ∧ b.length = 16) ∧
    (∃ (s : State), ∃ (f : Fin 4), ∃ (t : Int), s.sys.mode = .run ∧ s.feederKind f = 2 ∧ s.sys.ready = true ∧ s.alloc.feeders[f].statusAt = some t ∧
      t + 100000000 ≤ s.el ∧ s.alloc.feeders[f].told = false) ∧
    (∃ (s : State), ∃ (f : Fin 4), s.sys.mode = .run ∧ s.feederKind f = 2 ∧ s.sys.ready = true ∧ s.alloc.feeders[f].statusAt = none ∧
      s.alloc.feeders[f].told = false ∧ s.sys.readyAt + 100000000 ≤ s.el ∧ s.alloc.feeders[f].cfgAt + 100000000 ≤ s.el) ∧
    (∃ (s : State), ∃ (f : Fin 4), s.sys.mode = .run ∧ s.feederKind f = 2 ∧ s.alloc.feeders[f].sentAt + 10000000 ≤ s.el) :=
  ⟨⟨{ dev with master := { dev.master with held := true, leaseEnd := 10 ^ 12 + 1 } }, 0, by dsimp only; decide +kernel⟩,
   ⟨{ at_ (10 ^ 12 + 400000) with master := { dev.master with held := true, leaseEnd := 10 ^ 13 } }, by decide +kernel⟩,
   ⟨{ dev with master := { dev.master with held := true, leaseEnd := 10 ^ 12 + 1 } }, by decide +kernel⟩,
   ⟨dev, by decide +kernel⟩,
   ⟨dev, by decide +kernel⟩,
   ⟨(dev.store (fun c => { c with allocFeeders := some (fill 40 [(1, 1, 1), (8, 1, 3), (9, 1, 2)]) })), 3, (fill 16 []), by decide +kernel⟩,
   ⟨(dev.store (fun c => { c with allocFeeders := some (fill 40 [(1, 1, 1), (8, 1, 3), (9, 1, 2)]) })).modFeeder 3 (fun x =>
     { x with statusAt := some (10 ^ 12 - 10 ^ 8), told := false }), 3, (10 ^ 12 - 10 ^ 8), by decide +kernel⟩,
   ⟨(dev.store (fun c => { c with allocFeeders := some (fill 40 [(1, 1, 1), (8, 1, 3), (9, 1, 2)]) })).modFeeder 3 (fun x =>
     { x with statusAt := none, told := false, cfgAt := 10 ^ 12 - 10 ^ 8 }), 3, by decide +kernel⟩,
   ⟨(dev.store (fun c => { c with allocFeeders := some (fill 40 [(1, 1, 1), (8, 1, 3), (9, 1, 2)]) })), 3, by decide +kernel⟩⟩

/-- What intake makes of a packet that it does not run. -/
theorem intake_is {s : State} {p : Pkt} {v : Verdict}
    (h : (decide (((s.received p).intake p).1 = v) && ((s.received p).intake p).2.1.isSome) = true) :
    ∃ arr t, (s.received p).intake p = (v, some arr, t) := by
  match hx : (s.received p).intake p with
  | (w, some a, t) => rw [hx] at h; simp at h; exact ⟨a, t, by rw [h]⟩
  | (w, none, t) => rw [hx] at h; simp at h

/-- The device with host entry 0, its window at 7 and the reply held (R597, R620). -/
def hosted : State :=
  let s := dev.store (fun c => { c with net := some (fill 68 [(0, 1, 1), (1, 1, 1), (2, 2, 47320), (50, 2, 47320), (52, 1, 9)]) })
  { s with
    nv := { s.nv with fw := { s.nv.fw with ccpKey := some (fill 16 []) } }
    ccp := { s.ccp with hostWin := vset s.ccp.hostWin 0 { valid := true, h := 7, marks := [7] }, held := vset s.ccp.held 0 [{ seq := 7, bytes := [1] }] } }

theorem witness_IntakeRowsComplete :
    (∃ (s : State) (p : Pkt), ∃ arr t, s.sys.mode = .run ∧ s.takes p.via = true ∧ bit p.code 15 = true ∧ (s.received p).intake p = (.isReply, some
      arr, t)) ∧
    (∃ (s : State) (p : Pkt), ∃ arr t st always, s.sys.mode = .run ∧ s.takes p.via = true ∧ s.rejects p = true ∧ (s.received p).intake p = (.answer
      st always, some arr, t)) ∧
    (∃ (s : State) (p : Pkt), ∃ arr t, s.sys.mode = .run ∧ s.takes p.via = true ∧ s.rejects p = true ∧ (s.received p).intake p = (.badTag, some arr,
      t)) ∧
    (∃ (s : State) (p : Pkt), ∃ t, s.sys.mode = .run ∧ s.takes p.via = true ∧ s.rejects p = true ∧ (s.received p).intake p = (.discard, none, t)) ∧
    (∃ (s : State) (p : Pkt), ∃ arr t bs, s.sys.mode = .run ∧ s.takes p.via = true ∧ s.rejects p = true ∧ (s.received p).intake p = (.again bs, some
      arr, t)) ∧
    (∃ (s : State), ∃ bs, s.sys.mode = .run ∧ s.ccp.stalled = some bs ∧ s.core0Acts = true ∧ s.queues[1].isHigh = false ∧ s.packetFits 1 bs.length =
      true) ∧
    (∃ (s : State), s.sys.mode = .run ∧ s.sys.fault = none) ∧
    (∃ (s : State), ∃ f, s.sys.mode = .run ∧ s.sys.fault = some f ∧ f.thermal = true) := by
  refine ⟨?_, ?_, ?_, ?_, ?_, ?_, ?_, ?_⟩
  · have ⟨a, t, h⟩ := intake_is (s := dev) (p := host 0 0x8100 0 []) (v := .isReply) (by decide +kernel)
    exact ⟨dev, _, a, t, rfl, by decide +kernel, by decide +kernel, h⟩
  · have ⟨a, t, h⟩ := intake_is (s := dev) (p := host 16 0x0100 0 []) (v := .answer 0x0103 false) (by decide +kernel)
    exact ⟨dev, _, a, t, _, _, rfl, by decide +kernel, by decide +kernel, h⟩
  · have ⟨a, t, h⟩ := intake_is (s := sited) (p := site 0 0x0100 0 [] 0) (v := .badTag) (by decide +kernel)
    exact ⟨sited, _, a, t, rfl, by decide +kernel, by decide +kernel, h⟩
  · exact ⟨dev, { host 0 0x0100 0 [] with via := .site1 }, dev, by decide +kernel, by decide +kernel, by decide +kernel, rfl⟩
  · have ⟨a, t, h⟩ := intake_is (s := hosted) (p := site 2 0x0100 0 [] 143901620611500645579390673316122930149) (v := .again [1])
      (by decide +kernel)
    exact ⟨hosted, _, a, t, _, rfl, by decide +kernel, by decide +kernel, h⟩
  · exact ⟨{ dev with ccp := { dev.ccp with stalled := some [1] } }, [1], by decide +kernel⟩
  · exact ⟨dev, by decide +kernel⟩
  · exact ⟨inFault true, _, by decide +kernel, rfl, rfl⟩

theorem witness_TimeRowsComplete :
    (∃ (s : State), ∃ (net : Fin 2), ∃ (m : PtpMsg), ∃ n, ∃ set, s.sys.mode = .run ∧ m.domain = u8 s.timeCfg 8 ∧ m.ieee8023 = bit (u8 s.timeCfg 9)
      (4 + net) ∧ (m.site = some s.strap.siteId → m.partner = true) ∧ m.what = .announce n set) ∧
    (∃ (s : State), ∃ (net : Fin 2), ∃ (m : PtpMsg), ∃ set, ∃ t1, ∃ t2, ∃ t3, ∃ t4, s.sys.mode = .run ∧ m.domain = u8 s.timeCfg 8 ∧ m.ieee8023 = bit
      (u8 s.timeCfg 9) (4 + net) ∧ (m.site = some s.strap.siteId → m.partner = true) ∧ m.what = .sync t1 t2 (.e2e t3 t4) ∧ (vget s.time.srcs net
      {}).master = some (m.src, set) ∧ bit (u8 s.timeCfg 9) net = false) ∧
    (∃ (s : State), ∃ (net : Fin 2), ∃ (m : PtpMsg), ∃ set, ∃ t1, ∃ t2, ∃ p1, ∃ p2, ∃ p3, ∃ p4, s.sys.mode = .run ∧ m.domain = u8 s.timeCfg 8 ∧
      m.ieee8023 = bit (u8 s.timeCfg 9) (4 + net) ∧ (m.site = some s.strap.siteId → m.partner = true) ∧ m.what = .sync t1 t2 (.p2p p1 p2 p3 p4) ∧
      (vget s.time.srcs net {}).master = some (m.src, set) ∧ bit (u8 s.timeCfg 9) net = true) ∧
    (∃ (s : State), ∃ (net : Fin 2), ∃ (m : PtpMsg), ∃ t, s.sys.mode = .run ∧ m.domain = u8 s.timeCfg 8 ∧ m.ieee8023 = bit (u8 s.timeCfg 9) (4 +
      net) ∧ (m.site = some s.strap.siteId → m.partner = true) ∧ m.what = .delayReq t ∧ s.ptpMaster net = true ∧ bit (u8 s.timeCfg 9) net = false) ∧
    (∃ (s : State), ∃ (net : Fin 2), ∃ (m : PtpMsg), ∃ t, s.sys.mode = .run ∧ m.domain = u8 s.timeCfg 8 ∧ m.ieee8023 = bit (u8 s.timeCfg 9) (4 +
      net) ∧ (m.site = some s.strap.siteId → m.partner = true) ∧ m.what = .pdelayReq t ∧ bit (u8 s.timeCfg 9) net = true) ∧
    (∃ (s : State), ∃ (net : Fin 2), ∃ (m : PtpMsg), s.sys.mode = .run ∧ m.domain = u8 s.timeCfg 8 ∧ m.ieee8023 = bit (u8 s.timeCfg 9) (4 + net) ∧
      m.site = some s.strap.siteId ∧ m.partner = false) ∧
    (∃ (s : State), ∃ (k : Fin 5), s.sys.mode = .run ∧ s.lossMet k = true ∧ (vget s.time.srcs k {}).state ≠ .disabled ∧ (vget s.time.srcs k
      {}).state ≠ .failed ∧ s.time.sel ≠ some k.val) ∧
    (∃ (s : State), ∃ (k : Fin 5), s.sys.mode = .run ∧ s.lossMet k = true ∧ (vget s.time.srcs k {}).state ≠ .disabled ∧ (vget s.time.srcs k
      {}).state ≠ .failed ∧ s.time.sel = some k.val ∧ s.time.quality = .locked) ∧
    (∃ (s : State), s.sys.mode = .run) ∧
    (∃ (s : State), ∃ e, s.sys.mode = .run ∧ s.time.ppsEdge = some e ∧ s.el < e + 900000000 ∧ s.time.ppsNamed = false) ∧
    (∃ (s : State), ∃ e, s.sys.mode = .run ∧ s.time.ppsEdge = some e ∧ s.el < e + 900000000 ∧ s.time.ppsNamed = true) ∧
    (∃ (s : State), ∃ e, s.sys.mode = .run ∧ s.time.ppsEdge = some e ∧ e + 900000000 ≤ s.el) ∧
    (∃ (s : State), ∃ j, ∃ k, s.sys.mode = .run ∧ s.time.sel = some j ∧ s.time.quality = .locked ∧ (s.timeList.takeWhile (· != j)).find? (fun n =>
      (vget s.time.srcs n {}).state == .locked && decide ((vget s.time.srcs n {}).lockedAt + 10000000000 ≤ s.el)) = some k) ∧
    (∃ (s : State), ∃ w, s.sys.mode = .run ∧ s.time.pend = some w ∧ w.endAt ≤ s.el) ∧
    (∃ (s : State), s.sys.mode = .run ∧ s.time.quality ≠ .invalid ∧ s.vbat.powered = true ∧ s.vbat.xtal = true ∧ s.vbat.rtcValid = false) :=
  ⟨⟨dev.store (fun c => { c with timeSource := some (fill 40 [(9, 1, 0)]) }), 1,
     { domain := 0, src := 0, ieee8023 := false, site := none, partner := false, what := .announce 0 [] }, 0, [], by decide +kernel⟩,
   ⟨(dev.store (fun c => { c with timeSource := some (fill 40 [(9, 1, 0)]) })).modTime (fun x =>
     { x with srcs := x.srcs.set 1 { master := some (0, []) } }), 1,
     { domain := 0, src := 0, ieee8023 := false, site := none, partner := false, what := .sync 1 2 (.e2e 3 4) }, [], 1, 2, 3, 4, by decide +kernel⟩,
   ⟨(dev.store (fun c => { c with timeSource := some (fill 40 [(9, 1, 2)]) })).modTime (fun x =>
     { x with srcs := x.srcs.set 1 { master := some (0, []) } }), 1,
     { domain := 0, src := 0, ieee8023 := false, site := some 0, partner := true, what := .sync 1 2 (.p2p 3 4 5 6) }, [], 1, 2, 3, 4, 5, 6,
     by decide +kernel⟩,
   ⟨dev.store (fun c => { c with timeSource := some (fill 40 [(9, 1, 8)]) }), 1,
     { domain := 0, src := 0, ieee8023 := false, site := none, partner := false, what := .delayReq 5 }, 5, by decide +kernel⟩,
   ⟨dev.store (fun c => { c with timeSource := some (fill 40 [(9, 1, 2)]) }), 1,
     { domain := 0, src := 0, ieee8023 := false, site := none, partner := false, what := .pdelayReq 5 }, 5, by decide +kernel⟩,
   ⟨dev, 1, { domain := 0, src := 0, ieee8023 := false, site := some 0, partner := false, what := .delayReq 0 }, by decide +kernel⟩,
   ⟨dev.modTime (fun x => { x with sel := none }), 4, by decide +kernel⟩,
   ⟨dev.modTime (fun x => { x with sel := some 4, quality := .locked }), 4, by decide +kernel⟩,
   ⟨dev, by decide +kernel⟩,
   ⟨dev.modTime (fun x => { x with ppsEdge := some (10 ^ 12 - 899999999), ppsNamed := false }), (10 ^ 12 - 899999999), by decide +kernel⟩,
   ⟨dev.modTime (fun x => { x with ppsEdge := some (10 ^ 12 - 899999999), ppsNamed := true }), (10 ^ 12 - 899999999), by decide +kernel⟩,
   ⟨dev.modTime (fun x => { x with ppsEdge := some (10 ^ 12 - 900000000), ppsNamed := true }), (10 ^ 12 - 900000000), by decide +kernel⟩,
   ⟨dev.modTime (fun x => { x with sel := some 1, quality := .locked, srcs := x.srcs.set 0 { state := .locked, lockedAt := 10 ^ 12 - 10 ^ 10 } }),
     1, 0, by decide +kernel⟩,
   ⟨dev.modTime (fun x => { x with pend := some { src := 0, offset := 5, endAt := 10 ^ 12 } }), { src := 0, offset := 5, endAt := 10 ^ 12 },
     by decide +kernel⟩,
   ⟨{ dev with vbat := { dev.vbat with powered := true, xtal := true, rtcValid := false } }, by decide +kernel⟩⟩

theorem witness_PwmRowsComplete :
    (∃ (s : State), ∃ (n : Fin 48), ∃ t, s.sys.mode = .run ∧ 40 ≤ t ∧ t ≤ 90 ∧ (n.val * 20000 + 18000) * 2 ^ 32 ≤ s.clk.fix % (1000000 * 2 ^ 32) ∧
      s.clk.fix % (1000000 * 2 ^ 32) - (n.val * 20000 + 18000) * 2 ^ 32 < 10737418240) ∧
    (∃ (s : State), ∃ (g : Fin 8), s.sys.mode = .run ∧ s.groups[g].pwm.running = true ∧ (s.groups[g].pwm.held = true ∨ s.groups[g].pwm.respace =
      true) ∧ s.anyArmed g = false ∧ s.inLeadWindow g = true) ∧
    (∃ (s : State), ∃ (n : Fin 48), ∃ (g : Fin 8), s.sys.mode = .run ∧ s.slotGroup n = some g ∧ s.groups[g].pwm.running = true ∧ n.val ∈ s.inService
      g ∧ (s.slot n).armed = true ∧ (s.slot n).next ≤ s.fine ∧ s.groups[g].pwm.leadStart ≤ (s.slot n).next) ∧
    (∃ (s : State), ∃ (n : Fin 48), ∃ (g : Fin 8), s.sys.mode = .run ∧ s.slotGroup n = some g ∧ s.groups[g].pwm.running = true ∧ n.val ∈ s.inService
      g ∧ (s.slot n).armed = false ∧ 0 < (s.slot n).len ∧ (s.slot n).next ≤ s.fine) ∧
    (∃ (s : State), ∃ (n : Fin 48), ∃ (g : Fin 8), s.sys.mode = .run ∧ s.slotGroup n = some g ∧ s.groups[g].pwm.running = true ∧ n.val ∈ s.inService
      g ∧ s.tripEn g n = true ∧ 0 < (s.slot n).len) ∧
    (∃ (s : State), ∃ (n : Fin 48), ∃ (g : Fin 8), s.sys.mode = .run ∧ s.slotGroup n = some g ∧ s.groups[g].pwm.running = true ∧ n.val ∈ s.inService
      g ∧ 0 < (s.slot n).len) ∧
    (∃ (s : State), ∃ (n : Fin 48), ∃ (g : Fin 8), s.sys.mode = .run ∧ s.slotGroup n = some g ∧ s.groups[g].pwm.running = true ∧ n.val ∈ s.inService
      g ∧ 0 < (s.slot n).len ∧ s.pwmAllowed = true) :=
  ⟨⟨at_ (10 ^ 12 + 958000), 47, 90, by decide +kernel⟩,
   ⟨((runG.modSlot 0 (fun x => { x with start := devFine + 64 })).modSlot 1 (fun x => { x with start := devFine, len := 64 })).modPwm 0 (fun w =>
     { w with held := true }), 0, by decide +kernel⟩,
   ⟨runG.modSlot 0 (fun x => { x with armed := true }), 0, 0, by decide +kernel⟩,
   ⟨runG.modSlot 0 (fun x => { x with len := 1 }), 0, 0, by decide +kernel⟩,
   ⟨runG.modSlot 0 (fun x => { x with len := 1 }), 0, 0, by decide +kernel⟩,
   ⟨runG.modSlot 0 (fun x => { x with len := 1 }), 0, 0, by decide +kernel⟩,
   ⟨runG.modSlot 0 (fun x => { x with len := 1 }), 0, 0, by decide +kernel⟩⟩

theorem witness_LoopRowsComplete :
    (∃ (s : State), ∃ (g : Fin 8), s.sys.mode = .run ∧ s.loopActive g = true ∧ s.groups[g].prot.stop = none ∧ s.atMultiple 1000 = true ∧
      s.groups[g].loop.stepped ≠ some (s.st / 1000)) ∧
    (∃ (s : State), s.sys.mode = .run ∧ s.atMultiple 50000 = true ∧ s.fabric.outer ≠ some (s.st / 50000)) ∧
    (∃ (s : State), ∃ (n : Fin 48), ∃ (g : Fin 8), ∃ q, s.sys.mode = .run ∧ s.slotGroup n = some g ∧ s.loopActive g = true ∧ s.groups[g].pwm.running
      = true ∧ n.val ∈ s.inService g ∧ q ∈ (s.slot n).points ∧ q ≤ s.fine ∧ s.fine < q + 64 ∧ s.isRetired (tgt 5 (s.gPhaseLane g n)) = false) ∧
    (∃ (s : State), ∃ (n : Fin 48), ∃ (g : Fin 8), ∃ j, ∃ l, s.sys.mode = .run ∧ s.slotGroup n = some g ∧ (s.slot n).jobs = j :: l ∧ s.loopActive g
      = true ∧ j.avail ≤ s.el ∧ s.el ≤ j.avail + 1800 ∧ (∀ q, (s.slot n).pick = some q → q.tick ≠ s.fine)) ∧
    (∃ (s : State), ∃ (n : Fin 48), ∃ (g : Fin 8), ∃ j, ∃ l, ∃ q, s.sys.mode = .run ∧ s.slotGroup n = some g ∧ (s.slot n).jobs = j :: l ∧
      s.loopActive g = true ∧ j.avail ≤ s.el ∧ s.el ≤ j.avail + 1800 ∧ (s.slot n).pick = some q ∧ q.tick = s.fine ∧ s.groups[g].pwm.running = true ∧ 0
      < (s.slot n).len) ∧
    (∃ (s : State), ∃ (n : Fin 48), ∃ (g : Fin 8), ∃ j, ∃ l, s.sys.mode = .run ∧ s.slotGroup n = some g ∧ (s.slot n).jobs = j :: l ∧ s.loopActive g
      = true ∧ j.avail + 1800 < s.el) ∧
    (∃ (s : State), ∃ (g : Fin 8), ∃ a, ∃ b, s.sys.mode = .run ∧ s.leadWindow g = some (a, b) ∧ s.loopActive g = true ∧ s.groups[g].pwm.running =
      true ∧ s.anyArmed g = false ∧ a ≤ s.fine ∧ s.fine < b ∧ s.fine < a + 65) :=
  ⟨⟨runG, 0, by decide +kernel⟩,
   ⟨dev, by decide +kernel⟩,
   ⟨runG.modSlot 0 (fun x => { x with points := [devFine] }), 0, 0, devFine, by decide +kernel⟩,
   ⟨runG.modSlot 0 (fun x => { x with jobs := [lateJob] }), 0, 0, lateJob, [], by decide +kernel⟩,
   ⟨runG.modSlot 0 (fun x => { x with jobs := [lateJob], len := 1, pick := some pickNow }), 0, 0, lateJob, [], pickNow, by decide +kernel⟩,
   ⟨runG.modSlot 0 (fun x => { x with jobs := [{ lateJob with avail := 10 ^ 12 - 1801 }] }), 0, 0, { lateJob with avail := 10 ^ 12 - 1801 }, [],
     by decide +kernel⟩,
   ⟨((runG.modSlot 0 (fun x => { x with start := devFine + 64 })).modSlot 1 (fun x => { x with start := devFine, len := 64 })), 0, devFine, (devFine
     + 64), by decide +kernel⟩⟩

theorem witness_WindowRowsComplete :
    (∃ (s : State), s.sys.mode = .run) ∧
    (∃ (s : State), ∃ code, s.sys.mode = .run ∧ code ≠ 0xEB#8 ∧ code ≠ 0x38#8 ∧ code ≠ 0x05#8 ∧ code ≠ 0x66#8) ∧
    (∃ (s : State), s.sys.mode = .run ∧ s.hio.serving = false ∧ s.sys.startAt + 50000000 ≤ s.el) ∧
    (∃ (s : State), ∃ (a : Word), ∃ (ws : List Word), ∃ c, s.sys.mode = .run ∧ s.hio.serving = true ∧ addressCause a.toNat ws.length = some c) ∧
    (∃ (s : State), ∃ (a : Word), ∃ (ws : List Word), s.sys.mode = .run ∧ s.hio.serving = true ∧ addressCause a.toNat ws.length = none ∧ readOnlyAt
      a.toNat = false) ∧
    (∃ (s : State), ∃ (a : Word), ∃ (n : Nat), ∃ c, s.sys.mode = .run ∧ s.hio.serving = true ∧ addressCause a.toNat n = some c) ∧
    (∃ (s : State), ∃ (a : Word), ∃ (n : Nat), s.sys.mode = .run ∧ s.hio.serving = true ∧ addressCause a.toNat n = none ∧ a.toNat < 0x100000) ∧
    (∃ (s : State), s.sys.mode = .run ∧ s.hio.serving = true) :=
  ⟨⟨dev, by decide +kernel⟩,
   ⟨dev, 0x9F#8, by decide +kernel⟩,
   ⟨{ dev with hio := { dev.hio with serving := false } }, by decide +kernel⟩,
   ⟨dev, 2#32, [0#32], 2, by decide +kernel⟩,
   ⟨dev, 0x200480#32, [0#32], by decide +kernel⟩,
   ⟨dev, 2#32, 1, 2, by decide +kernel⟩,
   ⟨dev, 0x40#32, 1, by decide +kernel⟩,
   ⟨dev, by decide +kernel⟩⟩

theorem witness_PrecheckRowsComplete :
    (∃ (s : State), ∃ (g : Fin 8), ∃ t, s.sys.mode = .run ∧ s.gState g = .precheck ∧ s.groups[g].prot.pre = some (.discharging t) ∧ t + 1000000000 ≤
      s.el) ∧
    (∃ (s : State), ∃ (g : Fin 8), ∃ t, ∃ v, s.sys.mode = .run ∧ s.gState g = .precheck ∧ s.groups[g].prot.pre = some (.settle t) ∧ t + 2000000 ≤
      s.el ∧ s.groups[g].loop.vin = some v) ∧
    (∃ (s : State), ∃ (g : Fin 8), ∃ t, s.sys.mode = .run ∧ s.gState g = .precheck ∧ s.groups[g].prot.pre = some (.settle t) ∧ t + 2000000 ≤ s.el ∧
      s.groups[g].loop.vin = none) ∧
    (∃ (s : State), ∃ (g : Fin 8), ∃ t, s.sys.mode = .run ∧ s.gState g = .precheck ∧ s.groups[g].prot.pre = some (.lowVin t) ∧ t + 100000000 ≤ s.el) ∧
    (∃ (s : State), ∃ (g : Fin 8), ∃ t, s.sys.mode = .run ∧ s.gState g = .precheck ∧ s.groups[g].prot.pre = some (.sampling t) ∧ t + 100000 ≤ s.el) ∧
    (∃ (s : State), ∃ (g : Fin 8), ∃ t, ∃ bad, s.sys.mode = .run ∧ s.gState g = .precheck ∧ s.groups[g].prot.pre = some (.resample t bad) ∧ t +
      100000 ≤ s.el) :=
  ⟨⟨grp.modProt 0 (fun p => { p with state := .precheck, pre := some (.discharging (10 ^ 12 - 10 ^ 9)) }), 0, (10 ^ 12 - 10 ^ 9), by decide +kernel⟩,
   ⟨(grp.modProt 0 (fun p => { p with state := .precheck, pre := some (.settle (10 ^ 12 - 2000000)) })).modLoop 0 (fun l =>
     { l with vin := some 5 }), 0, (10 ^ 12 - 2000000), 5, by decide +kernel⟩,
   ⟨grp.modProt 0 (fun p => { p with state := .precheck, pre := some (.settle (10 ^ 12 - 2000000)) }), 0, (10 ^ 12 - 2000000), by decide +kernel⟩,
   ⟨grp.modProt 0 (fun p => { p with state := .precheck, pre := some (.lowVin (10 ^ 12 - 10 ^ 8)) }), 0, (10 ^ 12 - 10 ^ 8), by decide +kernel⟩,
   ⟨grp.modProt 0 (fun p => { p with state := .precheck, pre := some (.sampling (10 ^ 12 - 100000)) }), 0, (10 ^ 12 - 100000), by decide +kernel⟩,
   ⟨grp.modProt 0 (fun p => { p with state := .precheck, pre := some (.resample (10 ^ 12 - 100000) []) }), 0, (10 ^ 12 - 100000), [],
     by decide +kernel⟩⟩

theorem witness_StopRowsComplete :
    (∃ (s : State), ∃ (g : Fin 8), ∃ t, s.sys.mode = .run ∧ s.gState g = .rampdown ∧ s.groups[g].prot.stop = some t ∧ s.groups[g].prot.zeroAt = none
      ∧ s.groups[g].prot.overrun = false ∧ t.bound ≤ s.el) ∧
    (∃ (s : State), ∃ (g : Fin 8), ∃ t, s.sys.mode = .run ∧ s.gState g = .rampdown ∧ s.groups[g].prot.zeroAt = some t ∧ s.groups[g].prot.waitRaised
      = false ∧ s.contactorClosed g = true ∧ t + 200000000 ≤ s.el) ∧
    (∃ (s : State), ∃ (g : Fin 8), ∃ t, s.sys.mode = .run ∧ s.gState g = .discharge ∧ s.groups[g].prot.below60 = some t ∧ t + 10000000 ≤ s.el) ∧
    (∃ (s : State), ∃ (g : Fin 8), ∃ t, s.sys.mode = .run ∧ s.gState g = .discharge ∧ s.groups[g].prot.discharge = some t ∧ s.groups[g].prot.below60
      = none ∧ t + 1000000000 ≤ s.el) ∧
    (∃ (s : State), ∃ (g : Fin 8), ∃ t, s.sys.mode = .run ∧ s.gState g = .faulted ∧ s.groups[g].prot.discharge = some t ∧ t + 5000000000 ≤ s.el) ∧
    (∃ (s : State), ∃ (n : Fin 48), ∃ (t : Int), ∃ (stamp : Nat), s.sys.mode = .run ∧ (s.slot n).burst = some (t, stamp) ∧ t + 1000000 ≤ s.el) :=
  ⟨⟨dev.modProt 0 (fun p => { p with state := .rampdown, stop := some lateStop }), 0, lateStop, by decide +kernel⟩,
   ⟨((dev.store (fun c => { c with group := c.group.set 0 (some (fill 64 [(2, 1, 1)])) })).modPort 0 (fun x => { x with reported := true })).modProt
     0 (fun p => { p with state := .rampdown, zeroAt := some (10 ^ 12 - 200000000) }), 0, (10 ^ 12 - 200000000), by decide +kernel⟩,
   ⟨dev.modProt 0 (fun p => { p with state := .discharge, below60 := some (10 ^ 12 - 10 ^ 7) }), 0, (10 ^ 12 - 10 ^ 7), by decide +kernel⟩,
   ⟨dev.modProt 0 (fun p => { p with state := .discharge, discharge := some (10 ^ 12 - 10 ^ 9) }), 0, (10 ^ 12 - 10 ^ 9), by decide +kernel⟩,
   ⟨dev.modProt 0 (fun p => { p with state := .faulted, discharge := some (10 ^ 12 - 5 * 10 ^ 9) }), 0, (10 ^ 12 - 5 * 10 ^ 9), by decide +kernel⟩,
   ⟨dev.modSlot 47 (fun x => { x with burst := some (10 ^ 12 - 1000000, 3) }), 47, (10 ^ 12 - 1000000), 3, by decide +kernel⟩⟩

theorem witness_VehicleLinkRowsComplete :
    (∃ (s : State), ∃ (p : Fin 8), ∃ l, ∃ v, s.sys.mode = .run ∧ (s.nv.cfg.port[p]).isSome = true ∧ s.atMultiple 1000000 = true ∧
      s.ports[p].pilotWin ≠ some (s.st / 1000000) ∧ 1000000 ≤ s.st ∧ s.plateaus p ((s.st / 1000000 - 1) * 1000000) l = (some v, none)) ∧
    (∃ (s : State), ∃ (p : Fin 8), ∃ (f : VlFrame), s.sys.mode = .run ∧ s.ports[p].linkOn = true ∧ s.sys.ready = true ∧ u8 (s.pCfg p) 1 = 0 ∧ (f.len
      = 0 ∨ 60 ≤ f.len ∧ f.len ≤ 1514) ∧ f.what = .other) ∧
    (∃ (s : State), ∃ (p : Fin 8), ∃ (f : VlFrame), ∃ d, s.sys.mode = .run ∧ s.ports[p].linkOn = true ∧ s.sys.ready = true ∧ u8 (s.pCfg p) 1 = 0 ∧
      (f.len = 0 ∨ 60 ≤ f.len ∧ f.len ≤ 1514) ∧ f.what = .matched (some d) ∧ s.ports[p].matching = true) ∧
    (∃ (s : State), ∃ (p : Fin 8), ∃ (f : VlFrame), s.sys.mode = .run ∧ s.ports[p].linkOn = true ∧ s.sys.ready = true ∧ u8 (s.pCfg p) 1 = 0 ∧ (f.len
      = 0 ∨ 60 ≤ f.len ∧ f.len ≤ 1514) ∧ f.what = .connect none ∧ s.ports[p].phys = true ∧ s.ports[p].tcp = false) ∧
    (∃ (s : State), ∃ (p : Fin 8), ∃ (f : VlFrame), ∃ h, s.sys.mode = .run ∧ s.ports[p].linkOn = true ∧ s.sys.ready = true ∧ u8 (s.pCfg p) 1 = 0 ∧
      (f.len = 0 ∨ 60 ≤ f.len ∧ f.len ≤ 1514) ∧ f.what = .connect (some h) ∧ s.ports[p].phys = true ∧ s.ports[p].tcp = false ∧ h.offered = true ∧
      s.nv.fw.secc.isSome = true) ∧
    (∃ (s : State), ∃ (p : Fin 8), ∃ (f : VlFrame), s.sys.mode = .run ∧ s.ports[p].linkOn = true ∧ s.sys.ready = true ∧ u8 (s.pCfg p) 1 ≠ 0 ∧
      f.chunk = 64 ∧ f.what = .other) ∧
    (∃ (s : State), ∃ (p : Fin 8), s.sys.mode = .run ∧ s.ports[p].phys = true ∧ s.sys.ready = true) ∧
    (∃ (s : State), ∃ (p : Fin 8), s.sys.mode = .run ∧ s.ports[p].link = true ∧ s.ports[p].tcp = true) ∧
    (∃ (s : State), ∃ (p : Fin 8), s.sys.mode = .run ∧ s.ports[p].link = true ∧ s.ports[p].linkOn = true ∧ s.ports[p].heardAt + 100000000 ≤ s.el) ∧
    (∃ (s : State), ∃ (p : Fin 8), s.sys.mode = .run ∧ s.ports[p].link = true ∧ u8 (s.pCfg p) 1 = 0 ∧ s.ports[p].phys = true) ∧
    (∃ (s : State), ∃ (p : Fin 8), s.sys.mode = .run ∧ s.ports[p].state = .connected ∧ s.ports[p].tcp = true ∧ s.ports[p].session = none ∧
      s.portServed p = true) ∧
    (∃ (s : State), ∃ (p : Fin 8), s.sys.mode = .run ∧ s.ports[p].session.isSome = true ∧ s.ports[p].tcp = true) :=
  ⟨⟨(dev.store (fun c => { c with port := c.port.set 7 (some portPay) })), 7, [(999999000000, 9000)], 9000, by decide +kernel⟩,
   ⟨((dev.store (fun c => { c with port := c.port.set 7 (some portPay) }))).modPort 7 (fun x => { x with linkOn := true }), 7,
     { len := 0, flags := 0, seq := 0, what := .other, chunk := 0 }, by decide +kernel⟩,
   ⟨((dev.store (fun c => { c with port := c.port.set 7 (some portPay) }))).modPort 7 (fun x => { x with linkOn := true, matching := true }), 7,
     { len := 60, flags := 0, seq := 0, what := .matched (some 3), chunk := 0 }, 3, by decide +kernel⟩,
   ⟨((dev.store (fun c => { c with port := c.port.set 7 (some portPay) }))).modPort 7 (fun x => { x with linkOn := true, phys := true }), 7,
     { len := 1514, flags := 0, seq := 0, what := .connect none, chunk := 0 }, by decide +kernel⟩,
   ⟨({ served with nv := { served.nv with fw := { served.nv.fw with secc := some [] } } } : State).modPort 7 (fun x =>
     { x with linkOn := true, phys := true }), 7, { len := 0, flags := 0, seq := 0, what := .connect (some hello), chunk := 0 }, hello,
     by decide +kernel⟩,
   ⟨((dev.store (fun c => { c with port := c.port.set 7 (some (fill 64 [(1, 1, 1), (2, 1, 4), (7, 1, 1)])) }))).modPort 7 (fun x =>
     { x with linkOn := true }), 7, { len := 0, flags := 0, seq := 0, what := .other, chunk := 64 }, by decide +kernel⟩,
   ⟨((dev.store (fun c => { c with port := c.port.set 7 (some portPay) }))).modPort 7 (fun x => { x with phys := true }), 7, by decide +kernel⟩,
   ⟨((dev.store (fun c => { c with port := c.port.set 7 (some portPay) }))).modPort 7 (fun x => { x with link := true, tcp := true }), 7,
     by decide +kernel⟩,
   ⟨((dev.store (fun c => { c with port := c.port.set 7 (some portPay) }))).modPort 7 (fun x =>
     { x with link := true, linkOn := true, heardAt := 10 ^ 12 - 10 ^ 8 }), 7, by decide +kernel⟩,
   ⟨((dev.store (fun c => { c with port := c.port.set 7 (some portPay) }))).modPort 7 (fun x => { x with link := true, phys := true }), 7,
     by decide +kernel⟩,
   ⟨served.modPort 7 (fun x => { x with tcp := true, state := .connected }), 7, by decide +kernel⟩,
   ⟨((dev.store (fun c => { c with port := c.port.set 7 (some portPay) }))).modPort 7 (fun x => { x with tcp := true, session := some {} }), 7,
     by decide +kernel⟩⟩

theorem witness_ChargingRowsComplete :
    (∃ (s : State), ∃ (p : Fin 8), ∃ (e : Session), ∃ (u : Ident), s.sys.mode = .run ∧ s.ports[p].session = some e ∧ s.ports[p].tcp = true ∧ s.ports[p].state = .negotiating ∧ e.authSt = none ∧ e.authAsked = none ∧ let pnc := u.plugAndCharge && bit (u8 (s.pCfg p) 2) 4 && decide (3 ≤ e.proto); (pnc = true → contractOk (u.chain.take 3800) s.st = true)) ∧
    (∃ (s : State), ∃ (p : Fin 8), ∃ (e : Session), s.sys.mode = .run ∧ s.ports[p].session = some e ∧ s.ports[p].tcp = true ∧ s.ports[p].state =
      .negotiating ∧ e.authSt = none ∧ e.authAsked.isSome = true) ∧
    (∃ (s : State), ∃ (p : Fin 8), ∃ (e : Session), s.sys.mode = .run ∧ s.ports[p].session = some e ∧ s.ports[p].tcp = true ∧ s.ports[p].state =
      .negotiating ∧ e.authSt.isSome = true) ∧
    (∃ (s : State), ∃ (p : Fin 8), ∃ (e : Session), s.sys.mode = .run ∧ s.ports[p].session = some e ∧ s.ports[p].tcp = true ∧ s.ports[p].state =
      .negotiating ∧ e.authSt.isSome = true ∧ e.check = .none) ∧
    (∃ (s : State), ∃ (p : Fin 8), ∃ (e : Session), s.sys.mode = .run ∧ s.ports[p].session = some e ∧ s.ports[p].tcp = true ∧ s.ports[p].state =
      .negotiating ∧ e.authSt.isSome = true ∧ (e.check = .rising ∨ (∃ t, e.check = .holding t) ∨ (∃ b, e.check = .ending b))) ∧
    (∃ (s : State), ∃ (p : Fin 8), ∃ (e : Session), s.sys.mode = .run ∧ s.ports[p].session = some e ∧ s.ports[p].tcp = true ∧ s.ports[p].state =
      .negotiating ∧ e.authSt.isSome = true ∧ e.check = .passed) ∧
    (∃ (s : State), ∃ (p : Fin 8), ∃ (e : Session), s.sys.mode = .run ∧ s.ports[p].session = some e ∧ s.ports[p].tcp = true ∧ (s.ports[p].state =
      .precharge ∨ (s.ports[p].state = .negotiating ∧ e.check = .passed ∧ e.authSt.isSome = true))) ∧
    (∃ (s : State), ∃ (p : Fin 8), ∃ (e : Session), s.sys.mode = .run ∧ s.ports[p].session = some e ∧ s.ports[p].tcp = true ∧ s.ports[p].state =
      .precharge ∧ s.ports[p].ending = none ∧ s.ports[p].closed = true ∧ s.ports[p].cdrive = true) ∧
    (∃ (s : State), ∃ (p : Fin 8), ∃ (e : Session), s.sys.mode = .run ∧ s.ports[p].session = some e ∧ s.ports[p].tcp = true ∧ s.ports[p].state =
      .precharge ∧ s.ports[p].ending = none ∧ (s.ports[p].closed = false ∨ s.ports[p].cdrive = false)) ∧
    (∃ (s : State), ∃ (p : Fin 8), ∃ (e : Session), s.sys.mode = .run ∧ s.ports[p].session = some e ∧ s.ports[p].tcp = true ∧ (s.ports[p].state =
      .charging ∨ s.ports[p].state = .discharging)) ∧
    (∃ (s : State), ∃ (p : Fin 8), ∃ (e : Session), s.sys.mode = .run ∧ s.ports[p].session = some e ∧ s.ports[p].tcp = true ∧ (s.ports[p].state =
      .rampdown ∨ (s.ports[p].state = .discharge ∧ s.ports[p].telling = true))) :=
  ⟨⟨((dev.store (fun c => { c with port := c.port.set 7 (some portPay) }))).modPort 7 (fun x =>
     { x with tcp := true, state := .negotiating, session := some { id := 1 } }), 7, { id := 1 },
     { plugAndCharge := false, emaid := [], chain := [] }, by dsimp only; decide +kernel⟩,
   ⟨((dev.store (fun c => { c with port := c.port.set 7 (some portPay) }))).modPort 7 (fun x =>
     { x with tcp := true, state := .negotiating, session := some { id := 1, authAsked := some 5 } }), 7, { id := 1, authAsked := some 5 },
     by decide +kernel⟩,
   ⟨((dev.store (fun c => { c with port := c.port.set 7 (some portPay) }))).modPort 7 (fun x =>
     { x with tcp := true, state := .negotiating, session := some { id := 1, authSt := some 5 } }), 7, { id := 1, authSt := some 5 },
     by decide +kernel⟩,
   ⟨((dev.store (fun c => { c with port := c.port.set 7 (some portPay) }))).modPort 7 (fun x =>
     { x with tcp := true, state := .negotiating, session := some { id := 1, authSt := some 5 } }), 7, { id := 1, authSt := some 5 },
     by decide +kernel⟩,
   ⟨((dev.store (fun c => { c with port := c.port.set 7 (some portPay) }))).modPort 7 (fun x =>
     { x with tcp := true, state := .negotiating, session := some { id := 1, authSt := some 5, check := .rising } }), 7,
     { id := 1, authSt := some 5, check := .rising }, by refine ⟨by decide +kernel, by decide +kernel, by decide +kernel, by decide +kernel, by
     decide, .inl rfl⟩⟩,
   ⟨((dev.store (fun c => { c with port := c.port.set 7 (some portPay) }))).modPort 7 (fun x =>
     { x with tcp := true, state := .negotiating, session := some { id := 1, authSt := some 5, check := .passed } }), 7,
     { id := 1, authSt := some 5, check := .passed }, by decide +kernel⟩,
   ⟨((dev.store (fun c => { c with port := c.port.set 7 (some portPay) }))).modPort 7 (fun x =>
     { x with tcp := true, state := .negotiating, session := some { id := 1, authSt := some 5, check := .passed } }), 7,
     { id := 1, authSt := some 5, check := .passed }, by decide +kernel⟩,
   ⟨((dev.store (fun c => { c with port := c.port.set 7 (some portPay) }))).modPort 7 (fun x =>
     { x with tcp := true, state := .precharge, session := some { id := 1 }, closed := true, cdrive := true }), 7, { id := 1 }, by decide +kernel⟩,
   ⟨((dev.store (fun c => { c with port := c.port.set 7 (some portPay) }))).modPort 7 (fun x =>
     { x with tcp := true, state := .precharge, session := some { id := 1 }, closed := true }), 7, { id := 1 }, by decide +kernel⟩,
   ⟨((dev.store (fun c => { c with port := c.port.set 7 (some portPay) }))).modPort 7 (fun x =>
     { x with tcp := true, state := .discharging, session := some { id := 1 } }), 7, { id := 1 }, by decide +kernel⟩,
   ⟨((dev.store (fun c => { c with port := c.port.set 7 (some portPay) }))).modPort 7 (fun x =>
     { x with tcp := true, state := .rampdown, session := some { id := 1 } }), 7, { id := 1 }, by decide +kernel⟩⟩

theorem witness_ContactorAndCoolingRowsComplete :
    (∃ (s : State), ∃ (p : Fin 8), ∃ e, ∃ t, s.sys.mode = .run ∧ s.ports[p].session = some e ∧ e.check = .holding t ∧ t + 1000000 * s.pField p 24
      2000 ≤ s.el) ∧
    (∃ (s : State), ∃ (p : Fin 8), ∃ e, ∃ t, s.sys.mode = .run ∧ s.ports[p].session = some e ∧ s.ports[p].state = .negotiating ∧ e.authAsked = some
      t ∧ e.authSt = none ∧ t + 1000000000 * s.pField p 28 55 ≤ s.el) ∧
    (∃ (s : State), ∃ (p : Fin 8), ∃ e, s.sys.mode = .run ∧ s.ports[p].session = some e ∧ (s.ports[p].state = .charging ∨ s.ports[p].state =
      .discharging) ∧ e.demandAt + 1000000 * s.pField p 30 1000 ≤ s.el) ∧
    (∃ (s : State), ∃ (p : Fin 8), ∃ e, s.sys.mode = .run ∧ s.ports[p].session = some e ∧ (s.ports[p].state = .negotiating ∨ s.ports[p].state =
      .precharge) ∧ s.ports[p].ending = none ∧ e.seqAt + 1000000000 * s.pField p 32 60 ≤ s.el) ∧
    (∃ (s : State), ∃ (p : Fin 8), s.sys.mode = .run ∧ s.ports[p].cFailed = false ∧ s.ports[p].cAt + 100000000 ≤ s.el ∧ s.ports[p].cdrive = true ∧
      s.ports[p].closed = false) ∧
    (∃ (s : State), ∃ (p : Fin 8), s.sys.mode = .run ∧ s.ports[p].cFailed = false ∧ s.ports[p].cAt + 100000000 ≤ s.el ∧ s.ports[p].cdrive = false ∧
      s.ports[p].reported = true) ∧
    (∃ (s : State), ∃ (p : Fin 8), s.sys.mode = .run ∧ s.ports[p].cWeld = false ∧ s.ports[p].cdrive = false ∧ s.ports[p].reported = true ∧
      s.ports[p].cAt + 1000000000 ≤ s.el) ∧
    (∃ (s : State), s.sys.mode = .run) ∧
    (∃ (s : State), ∃ (p : Fin 8), s.sys.mode = .run ∧ (s.coolCfg p).isSome = true ∧ s.cools[p].stale = false ∧ s.cools[p].freshAt + 60000000 ≤
      s.el) ∧
    (∃ (s : State), ∃ (p : Fin 8), ∃ t, s.sys.mode = .run ∧ s.cools[p].startWin = true ∧ s.cools[p].pumpAt = some t ∧ t + 2000000000 ≤ s.el) ∧
    (∃ (s : State), ∃ (p : Fin 8), ∃ b, ∃ t, s.sys.mode = .run ∧ s.coolCfg p = some b ∧ s.cools[p].leftAt = some t ∧ s.cools[p].active = true ∧ t +
      1000000000 * u16 b 58 ≤ s.el ∧ s.coolActive p b = false) :=
  ⟨⟨((dev.store (fun c => { c with port := c.port.set 7 (some portPay) }))).modPort 7 (fun x =>
     { x with tcp := true, state := .negotiating, session := some { id := 1, check := .holding (10 ^ 12 - 2 * 10 ^ 9) } }), 7,
     { id := 1, check := .holding (10 ^ 12 - 2 * 10 ^ 9) }, (10 ^ 12 - 2 * 10 ^ 9), by decide +kernel⟩,
   ⟨((dev.store (fun c => { c with port := c.port.set 7 (some portPay) }))).modPort 7 (fun x =>
     { x with tcp := true, state := .negotiating, session := some { id := 1, authAsked := some (10 ^ 12 - 55 * 10 ^ 9) } }), 7,
     { id := 1, authAsked := some (10 ^ 12 - 55 * 10 ^ 9) }, (10 ^ 12 - 55 * 10 ^ 9), by decide +kernel⟩,
   ⟨((dev.store (fun c => { c with port := c.port.set 7 (some portPay) }))).modPort 7 (fun x =>
     { x with tcp := true, state := .charging, session := some { id := 1, demandAt := 10 ^ 12 - 10 ^ 9 } }), 7,
     { id := 1, demandAt := 10 ^ 12 - 10 ^ 9 }, by decide +kernel⟩,
   ⟨((dev.store (fun c => { c with port := c.port.set 7 (some portPay) }))).modPort 7 (fun x =>
     { x with tcp := true, state := .precharge, session := some { id := 1, seqAt := 10 ^ 12 - 60 * 10 ^ 9 } }), 7,
     { id := 1, seqAt := 10 ^ 12 - 60 * 10 ^ 9 }, by decide +kernel⟩,
   ⟨dev.modPort 7 (fun y => { y with cAt := 10 ^ 12 - 10 ^ 8, cdrive := true }), 7, by decide +kernel⟩,
   ⟨dev.modPort 7 (fun y => { y with cAt := 10 ^ 12 - 10 ^ 8, reported := true }), 7, by decide +kernel⟩,
   ⟨dev.modPort 7 (fun y => { y with cAt := 10 ^ 12 - 10 ^ 9, reported := true }), 7, by decide +kernel⟩,
   ⟨dev, by decide +kernel⟩,
   ⟨(dev.store (fun c => { c with cool := c.cool.set 7 (some (fill 64 [(0, 3, 0xFFFFFF), (50, 2, 400), (58, 2, 3600)])) })).modCool 7 (fun x =>
     { x with freshAt := 10 ^ 12 - 60000000 }), 7, by decide +kernel⟩,
   ⟨dev.modCool 7 (fun x => { x with startWin := true, pumpAt := some (10 ^ 12 - 2 * 10 ^ 9) }), 7, (10 ^ 12 - 2 * 10 ^ 9), by decide +kernel⟩,
   ⟨(dev.store (fun c => { c with cool := c.cool.set 7 (some (fill 64 [(0, 3, 0xFFFFFF), (50, 2, 400), (58, 2, 900)])) })).modCool 7 (fun x =>
     { x with active := true, leftAt := some (10 ^ 12 - 900 * 10 ^ 9) }), 7, (fill 64 [(0, 3, 0xFFFFFF), (50, 2, 400), (58, 2, 900)]), (10 ^ 12 - 900
     * 10 ^ 9), by decide +kernel⟩⟩

theorem witness_MeteringRowsComplete :
    (∃ (s : State), s.sys.mode = .run ∧ s.sampleDue = true ∧ s.metro.stopped = none) ∧
    (∃ (s : State), s.sys.mode = .run ∧ s.sampleDue = true ∧ s.metro.stopped.isSome = true) ∧
    (∃ (s : State), s.sys.mode = .run ∧ s.metro.stopped = none) ∧
    (∃ (s : State), ∃ t, s.sys.mode = .run ∧ s.metro.stopped = some (t, false) ∧ t + 100000000 ≤ s.el ∧ bit s.fabric.clkLost 3 = false) ∧
    (∃ (s : State), s.sys.mode = .run ∧ s.metro.stopped = none ∧ s.bill.mirWin ≠ some (s.st / 100000000)) ∧
    (∃ (s : State), ∃ level, s.vbat.powered = true ∧ (if s.vbat.sealSample.1 = level then min 10 (s.vbat.sealSample.2 + 1) else 1) < 10) ∧
    (∃ (s : State), s.vbat.powered = true ∧ s.vbat.sealSample.1 = false ∧ 9 ≤ s.vbat.sealSample.2 ∧ s.vbat.sealLevel = true) :=
  ⟨⟨dev, by decide +kernel⟩,
   ⟨{ dev with metro := { dev.metro with stopped := some (0, false) } }, by decide +kernel⟩,
   ⟨dev, by decide +kernel⟩,
   ⟨{ dev with metro := { dev.metro with stopped := some (10 ^ 12 - 10 ^ 8, false) } }, (10 ^ 12 - 10 ^ 8), by decide +kernel⟩,
   ⟨dev, by decide +kernel⟩,
   ⟨{ dev with vbat := { dev.vbat with powered := true, sealSample := (true, 8) } }, true, by decide +kernel⟩,
   ⟨{ dev with vbat := { dev.vbat with powered := true, sealSample := (false, 9), sealLevel := true } }, by decide +kernel⟩⟩

theorem witness_BillingRowsComplete :
    (∃ (s : State), s.sys.mode = .run ∧ s.metro.stopped = none ∧ s.bill.restartDue = false ∧ s.sys.brownout = false ∧ s.bill.regSec ≠ some (s.st /
      1000000000) ∧ s.bookedBefore (s.st / 1000000000 * 1000000000) = true) ∧
    (∃ (s : State), s.sys.mode = .run ∧ s.metro.stopped = none ∧ s.bill.restartDue = false ∧ s.sys.brownout = true ∧ s.bill.gaspAt = none) ∧
    (∃ (s : State), s.sys.mode = .run ∧ s.metro.stopped = none ∧ s.bill.restartDue = true) ∧
    (∃ (s : State), ∃ c, s.sys.mode = .run ∧ s.metro.stopped = none ∧ s.dfltNow = some c ∧ s.bill.b.dflt = none) ∧
    (∃ (s : State), s.sys.mode = .run ∧ s.metro.stopped = none ∧ s.canCopies = []) ∧
    (∃ (s : State), s.sys.mode = .run ∧ s.metro.stopped = none) :=
  ⟨⟨{ dev with bill := { dev.bill with restartDue := false, regSec := none } }, by decide +kernel⟩,
   ⟨{ dev with sys := { dev.sys with brownout := true }, bill := { dev.bill with restartDue := false, gaspAt := none } }, by decide +kernel⟩,
   ⟨{ dev with bill := { dev.bill with restartDue := true } }, by decide +kernel⟩,
   ⟨dev.modTime (fun x => { x with quality := .invalid }), 1, by decide +kernel⟩,
   ⟨dev, by decide +kernel⟩,
   ⟨dev, by decide +kernel⟩⟩

theorem witness_ImageRowsComplete :
    (∃ (s : State), s.sys.mode = .run ∧ s.paired = true ∧ 2000 ≤ s.st % 50000 ∧ s.twin.captured ≠ some (s.st / 50000) ∧ s.twin.state ≠ .active) ∧
    (∃ (s : State), s.sys.mode = .run ∧ s.paired = true ∧ 2000 ≤ s.st % 50000 ∧ s.twin.captured ≠ some (s.st / 50000) ∧ s.twin.state = .active) ∧
    (∃ (s : State), s.sys.mode = .run ∧ s.paired = true ∧ s.twin.selfTest.isSome = true) ∧
    (∃ (s : State), s.sys.mode = .run ∧ s.paired = true ∧ s.twin.selfTest.isSome = true ∧ (s.twin.state = .standby ∨ s.twin.state = .syncing)) ∧
    (∃ (s : State), ∃ (r : PartnerReport), s.sys.mode = .run ∧ s.paired = true ∧ s.twin.hinge = true ∧ r.hash = none ∧ r.unfit = false) :=
  ⟨⟨((at_ (10 ^ 12 + 2000)).store (fun c => { c with twin := some (fill 32 [(1, 1, 1), (4, 4, 60)]) })).modTwin (fun t =>
     { t with state := .waiting }), by decide +kernel⟩,
   ⟨((at_ (10 ^ 12 + 2000)).store (fun c => { c with twin := some (fill 32 [(1, 1, 1), (4, 4, 60)]) })).modTwin (fun t =>
     { t with state := .active }), by decide +kernel⟩,
   ⟨(dev.store (fun c => { c with twin := some (fill 32 [(1, 1, 1), (4, 4, 60)]) })).modTwin (fun t => { t with selfTest := some 0 }),
     by decide +kernel⟩,
   ⟨(dev.store (fun c => { c with twin := some (fill 32 [(1, 1, 1), (4, 4, 60)]) })).modTwin (fun t =>
     { t with selfTest := some 0, state := .syncing }), by decide +kernel⟩,
   ⟨(dev.store (fun c => { c with twin := some (fill 32 [(1, 1, 1), (4, 4, 60)]) })).modTwin (fun t => { t with hinge := true }),
     { state := .standby, hash := none, cfgCrc := 0, roles := 0, unfit := false }, by decide +kernel⟩⟩

theorem witness_TwinLeaseRowsComplete :
    (∃ (s : State), s.sys.mode = .run ∧ s.paired = true ∧ s.twin.state = .active ∧ s.twin.renewedAt + 500000 ≤ s.el ∧ s.twin.leaseEnd = none ∧
      s.holdsTwin = true ∧ s.sys.fault = none) ∧
    (∃ (s : State), ∃ e, s.sys.mode = .run ∧ s.paired = true ∧ s.twin.state = .active ∧ s.twin.renewedAt + 500000 ≤ s.el ∧ s.twin.leaseEnd = some e
      ∧ s.el < e ∧ s.holdsTwin = true ∧ s.sys.fault = none) ∧
    (∃ (s : State), ∃ b, s.sys.mode = .run ∧ s.paired = true ∧ b.length = 32 ∧ u8 b 9 = s.strap.siteId ∧ u8 b 10 ≠ b01 s.strap.twinB ∧ u8 b 8 = 1 ∧
      s.twin.state ≠ .waiting) ∧
    (∃ (s : State), ∃ e, s.sys.mode = .run ∧ s.paired = true ∧ s.twin.state = .active ∧ s.twin.leaseEnd = some e ∧ e ≤ s.el) ∧
    (∃ (s : State), ∃ d, s.sys.mode = .run ∧ s.paired = true ∧ s.handoverDue = some d ∧ s.rolesDiffer = false ∧ s.sys.fault = none ∧ s.sys.ready =
      true) ∧
    (∃ (s : State), ∃ l, s.sys.mode = .run ∧ s.paired = true ∧ s.handoverDue = none ∧ s.waitEnd = some l ∧ l + 200000 ≤ s.el ∧ s.rolesDiffer = false
      ∧ s.sys.fault = none ∧ s.sys.ready = true) ∧
    (∃ (s : State), s.sys.mode = .run ∧ s.paired = true ∧ s.twin.leaseIn = false ∧ s.twin.leaseOut = true ∧ s.twin.state = .active) ∧
    (∃ (s : State), s.sys.mode = .run ∧ s.paired = true ∧ s.twin.leaseIn = true ∧ s.twin.state = .syncing) ∧
    (∃ (s : State), s.sys.mode = .run ∧ s.paired = true ∧ s.twin.leaseIn = true ∧ s.handoverNow = false ∧ s.twin.state = .standby) :=
  ⟨⟨(dev.store (fun c => { c with twin := some (fill 32 [(1, 1, 1), (4, 4, 60)]) })).modTwin (fun t =>
     { t with state := .active, renewedAt := 10 ^ 12 - 500000, leaseEnd := none }), by decide +kernel⟩,
   ⟨(dev.store (fun c => { c with twin := some (fill 32 [(1, 1, 1), (4, 4, 60)]) })).modTwin (fun t =>
     { t with state := .active, renewedAt := 10 ^ 12 - 500000, leaseEnd := some (10 ^ 12 + 1) }), (10 ^ 12 + 1), by decide +kernel⟩,
   ⟨(dev.store (fun c => { c with twin := some (fill 32 [(1, 1, 1), (4, 4, 60)]) })).modTwin (fun t => { t with state := .standby }), (fill 32 [(8,
     1, 1), (10, 1, 1)]), by decide +kernel⟩,
   ⟨(dev.store (fun c => { c with twin := some (fill 32 [(1, 1, 1), (4, 4, 60)]) })).modTwin (fun t =>
     { t with state := .active, leaseEnd := some (10 ^ 12) }), (10 ^ 12), by decide +kernel⟩,
   ⟨(dev.store (fun c => { c with twin := some (fill 32 [(1, 1, 1), (4, 4, 60)]) })).modTwin (fun t =>
     { t with state := .standby, handover := some { giver := false, q0 := 10 ^ 12 - 33000, accepted := true, switched := false, drill := 0 } }), 0,
     by decide +kernel⟩,
   ⟨(dev.store (fun c => { c with twin := some (fill 32 [(1, 1, 1), (4, 4, 60)]) })).modTwin (fun t =>
     { t with state := .waiting, waitFrom := some (10 ^ 12 - 200000) }), (10 ^ 12 - 200000), by decide +kernel⟩,
   ⟨(dev.store (fun c => { c with twin := some (fill 32 [(1, 1, 1), (4, 4, 60)]) })).modTwin (fun t =>
     { t with leaseOut := true, state := .active }), by decide +kernel⟩,
   ⟨(dev.store (fun c => { c with twin := some (fill 32 [(1, 1, 1), (4, 4, 60)]) })).modTwin (fun t =>
     { t with leaseIn := true, state := .syncing }), by decide +kernel⟩,
   ⟨(dev.store (fun c => { c with twin := some (fill 32 [(1, 1, 1), (4, 4, 60)]) })).modTwin (fun t =>
     { t with leaseIn := true, state := .standby }), by decide +kernel⟩⟩

theorem witness_HingeRowsComplete :
    (∃ (s : State), ∃ mask, s.sys.mode = .run ∧ 2 ≤ popcount 4 mask ∧ s.paired = true ∧ s.twin.hinge = false) ∧
    (∃ (s : State), ∃ mask, s.sys.mode = .run ∧ s.twin.hinge = true ∧ s.twin.handover = none ∧ let u := s.modTwin (fun t => { t with lanes := Vector.ofFn (fun (i : Fin 4) => ({ t.lanes[i] with up := t.lanes[i].up && bit mask i.val } : HingeLane)) }); ((∀ h, s.twin.hingeAt = some h → h + 50000 ≤ s.el) ∨ u.hingeLanes < 2) ∧ s.paired = true ∧ s.twin.state = .active) ∧
    (∃ (s : State), ∃ mask, s.sys.mode = .run ∧ s.twin.hinge = true ∧ s.twin.handover = none ∧ let u := s.modTwin (fun t => { t with lanes := Vector.ofFn (fun (i : Fin 4) => ({ t.lanes[i] with up := t.lanes[i].up && bit mask i.val } : HingeLane)) }); ((∀ h, s.twin.hingeAt = some h → h + 50000 ≤ s.el) ∨ u.hingeLanes < 2) ∧ s.twin.state = .standby) ∧
    (∃ (s : State), ∃ (n : Fin 4), s.sys.mode = .run ∧ s.twin.lanes[n].up = false ∧ s.twin.lanes[n].trainedAt + 10000000 ≤ s.el) ∧
    (∃ (s : State), s.sys.mode = .run ∧ s.paired = true ∧ s.twin.hinge = true ∧ s.twin.state = .active ∧ s.holdsTwin = true ∧ s.twin.timeMsgAt =
      none) ∧
    (∃ (s : State), s.sys.mode = .run ∧ s.paired = true ∧ s.twin.hinge = true ∧ s.twin.state ≠ .active) ∧
    (∃ (s : State), s.sys.mode = .run) ∧
    (∃ (s : State), s.sys.mode = .run ∧ s.isActive = true ∧ s.twin.partner = .standby) ∧
    (∃ (s : State), s.sys.mode = .run ∧ s.isActive = true ∧ s.twin.partner ≠ .standby) ∧
    (∃ (s : State), s.sys.mode = .run ∧ s.isOther = true ∧ s.twin.hinge = true) ∧
    (∃ (s : State), ∃ c, s.sys.mode = .run ∧ s.isOther = true ∧ s.twin.hinge = true ∧ s.st < c * 50000 + 30000) :=
  ⟨⟨(dev.store (fun c => { c with twin := some (fill 32 [(1, 1, 1), (4, 4, 60)]) })).modTwin (fun t => { t with hinge := false }), 3,
     by decide +kernel⟩,
   ⟨(dev.store (fun c => { c with twin := some (fill 32 [(1, 1, 1), (4, 4, 60)]) })).modTwin (fun t =>
     { t with hinge := true, state := .active, hingeAt := some (10 ^ 12 - 50000) }), 15, by dsimp only; decide +kernel⟩,
   ⟨(dev.store (fun c => { c with twin := some (fill 32 [(1, 1, 1), (4, 4, 60)]) })).modTwin (fun t => { t with hinge := true, state := .standby }),
     1, by dsimp only; decide +kernel⟩,
   ⟨(dev.store (fun c => { c with twin := some (fill 32 [(1, 1, 1), (4, 4, 60)]) })).modTwin (fun t =>
     { t with lanes := t.lanes.set 3 { up := false, trainedAt := 10 ^ 12 - 10 ^ 7 } }), 3, by decide +kernel⟩,
   ⟨(dev.store (fun c => { c with twin := some (fill 32 [(1, 1, 1), (4, 4, 60)]) })).modTwin (fun t => { t with hinge := true, state := .active }),
     by decide +kernel⟩,
   ⟨(dev.store (fun c => { c with twin := some (fill 32 [(1, 1, 1), (4, 4, 60)]) })).modTwin (fun t => { t with hinge := true, state := .standby }),
     by decide +kernel⟩,
   ⟨dev, by decide +kernel⟩,
   ⟨(dev.store (fun c => { c with twin := some (fill 32 [(1, 1, 1), (4, 4, 60)]) })).modTwin (fun t =>
     { t with state := .active, partner := .standby }), by decide +kernel⟩,
   ⟨(dev.store (fun c => { c with twin := some (fill 32 [(1, 1, 1), (4, 4, 60)]) })).modTwin (fun t =>
     { t with state := .active, partner := .unfit }), by decide +kernel⟩,
   ⟨(dev.store (fun c => { c with twin := some (fill 32 [(1, 1, 1), (4, 4, 60)]) })).modTwin (fun t => { t with state := .standby, hinge := true }),
     by decide +kernel⟩,
   ⟨(dev.store (fun c => { c with twin := some (fill 32 [(1, 1, 1), (4, 4, 60)]) })).modTwin (fun t => { t with state := .standby, hinge := true }),
     20000000, by decide +kernel⟩⟩

theorem witness_HandoverRowsComplete :
    (∃ (s : State), s.sys.mode = .run ∧ s.isOther = true ∧ s.twin.hinge = true) ∧
    (∃ (s : State), ∃ h, s.sys.mode = .run ∧ s.twin.handover = some h ∧ h.giver = true ∧ h.accepted = false) ∧
    (∃ (s : State), ∃ h, s.sys.mode = .run ∧ s.twin.handover = some h ∧ h.giver = true ∧ h.switched = false ∧ s.isActive = true ∧ h.q0 + 32000 ≤
      s.st ∧ s.sys.fault = none ∧ s.dues = []) ∧
    (∃ (s : State), ∃ h, s.sys.mode = .run ∧ s.twin.handover = some h ∧ h.giver = true ∧ h.switched = true ∧ h.q0 + 34000 ≤ s.st ∧ s.twin.leaseIn =
      false ∧ s.sys.fault = none) ∧
    (∃ (s : State), ∃ h, s.sys.mode = .run ∧ s.twin.handover = some h ∧ h.giver = true ∧ h.switched = true ∧ h.q0 + 34000 ≤ s.st ∧ s.twin.leaseIn =
      true ∧ s.sys.fault = none) ∧
    (∃ (s : State), s.sys.mode = .run ∧ s.isActive = true ∧ s.twin.partner = .standby ∧ s.twin.drillsOff = false ∧ s.twin.drillDue = none ∧
      s.drillFalls = true) ∧
    (∃ (s : State), ∃ t, ∃ ok, s.sys.mode = .run ∧ s.twin.drillHold = some (t, ok) ∧ s.isActive = true ∧ s.twin.handover = none ∧ t ≤ s.el) ∧
    (∃ (s : State), s.sys.mode = .run ∧ s.mastering = true ∧ s.contends = true ∧ s.holdsTwin = true ∧ s.sys.fault = none ∧ s.master.renewedAt =
      none) ∧
    (∃ (s : State), ∃ b, s.sys.mode = .run ∧ b.length = 32 ∧ u8 b 8 = 2 ∧ s.sys.fault = none ∧ s.mastering = true ∧ u8 b 9 < s.strap.siteId ∧ s.el <
      s.elOf (u64 b 16)) ∧
    (∃ (s : State), ∃ b, s.sys.mode = .run ∧ b.length = 32 ∧ u8 b 8 = 2 ∧ s.sys.fault = none ∧ s.mastering = false) ∧
    (∃ (s : State), ∃ e, s.sys.mode = .run ∧ s.sys.ready = true ∧ s.contends = true ∧ s.holdsTwin = true ∧ s.sys.fault = none ∧ s.mastering = false
      ∧ s.masterSite = none ∧ s.master.holderEnd = some e ∧ e + 1200000 + s.strap.siteId * 1000000 ≤ s.el) :=
  ⟨⟨(dev.store (fun c => { c with twin := some (fill 32 [(1, 1, 1), (4, 4, 60)]) })).modTwin (fun t => { t with state := .standby, hinge := true }),
     by decide +kernel⟩,
   ⟨(dev.store (fun c => { c with twin := some (fill 32 [(1, 1, 1), (4, 4, 60)]) })).modTwin (fun t =>
     { t with handover := some { giver := true, q0 := 10 ^ 12 - 0, accepted := false, switched := false, drill := 0 } }),
     { giver := true, q0 := 10 ^ 12 - 0, accepted := false, switched := false, drill := 0 }, by decide +kernel⟩,
   ⟨(dev.store (fun c => { c with twin := some (fill 32 [(1, 1, 1), (4, 4, 60)]) })).modTwin (fun t =>
     { t with state := .active, handover := some { giver := true, q0 := 10 ^ 12 - 32000, accepted := true, switched := false, drill := 0 } }),
     { giver := true, q0 := 10 ^ 12 - 32000, accepted := true, switched := false, drill := 0 }, by decide +kernel⟩,
   ⟨(dev.store (fun c => { c with twin := some (fill 32 [(1, 1, 1), (4, 4, 60)]) })).modTwin (fun t =>
     { t with leaseIn := false, handover := some { giver := true, q0 := 10 ^ 12 - 34000, accepted := true, switched := true, drill := 0 } }),
     { giver := true, q0 := 10 ^ 12 - 34000, accepted := true, switched := true, drill := 0 }, by decide +kernel⟩,
   ⟨(dev.store (fun c => { c with twin := some (fill 32 [(1, 1, 1), (4, 4, 60)]) })).modTwin (fun t =>
     { t with leaseIn := true, handover := some { giver := true, q0 := 10 ^ 12 - 34000, accepted := true, switched := true, drill := 0 } }),
     { giver := true, q0 := 10 ^ 12 - 34000, accepted := true, switched := true, drill := 0 }, by decide +kernel⟩,
   ⟨((at_ (960 * 10 ^ 9)).store (fun c => { c with twin := some (fill 32 [(1, 1, 1), (4, 4, 60)]) })).modTwin (fun t =>
     { t with state := .active, partner := .standby }), by decide +kernel⟩,
   ⟨(dev.store (fun c => { c with twin := some (fill 32 [(1, 1, 1), (4, 4, 60)]) })).modTwin (fun t =>
     { t with state := .active, drillHold := some (10 ^ 12, true) }), (10 ^ 12), true, by decide +kernel⟩,
   ⟨{ (dev.store (fun c => { c with role := some (fill 8 [(1, 1, 7)]) })) with master := { dev.master with held := true, leaseEnd := 10 ^ 12 + 1 } },
     by decide +kernel⟩,
   ⟨{ dev with strap := { dev.strap with siteId := 15 }, master := { dev.master with held := true, leaseEnd := 10 ^ 12 + 1 } }, (fill 32 [(8, 1, 2),
     (9, 1, 14), (16, 8, 10 ^ 12 + 1)]), by decide +kernel⟩,
   ⟨dev, (fill 32 [(8, 1, 2)]), by decide +kernel⟩,
   ⟨{ (dev.store (fun c => { c with role := some (fill 8 [(1, 1, 7)]) })) with master := { dev.master with holderEnd := some (10 ^ 12 - 1200000) } },
     (10 ^ 12 - 1200000), by decide +kernel⟩⟩

theorem witness_CanRowsComplete :
    (∃ (s : State), ∃ (n : Fin 8), s.sys.mode = .run ∧ s.cans[n].mode ≠ .off ∧ s.cans[n].state ≠ .busOff ∧ s.cans[n].rxErr ≤ 127) ∧
    (∃ (s : State), ∃ (n : Fin 8), s.sys.mode = .run ∧ s.cans[n].mode ≠ .off ∧ s.cans[n].state ≠ .busOff ∧ 127 < s.cans[n].rxErr) ∧
    (∃ (s : State), ∃ (n : Fin 8), ∃ (e : CanErr), s.sys.mode = .run ∧ s.cans[n].mode = .normal ∧ s.cans[n].state ≠ .busOff ∧ (e.own = true → s.sys.fault = none) ∧ e.type ≠ 0 ∧ bit (u8 (s.canCfg n) 1) 3 = false ∧ let u := (s.modCan n (fun c => { c with errType := e.type % 8, errField := e.field % 8 })).canCounters n e.tec e.rxe; bit (u8 (u.canCfg n) 1) 3 = false) ∧
    (∃ (s : State), ∃ (n : Fin 8), s.sys.mode = .run ∧ s.cans[n].state = .busOff ∧ s.cans[n].recovering = true ∧ s.isRetired (tgt 6 n) = false ∧ bit
      s.fabric.clkLost 5 = false) ∧
    (∃ (s : State), ∃ (n : Fin 8), ∃ m, ∃ cause, s.sys.mode = .run ∧ s.cans[n].next = some (m, cause)) ∧
    (∃ (s : State), ∃ (n : Fin 8), ∃ sof, ∃ k, ∃ f, s.sys.mode = .run ∧ s.canOffered n sof = some (k, f) ∧ s.cans[n].mode = .normal ∧
      s.cans[n].state ≠ .busOff ∧ s.sys.fault = none ∧ f.echo = false ∧ bit (u8 (s.canCfg n) 1) 4 = false) ∧
    (∃ (s : State), s.sys.mode = .run) ∧
    (∃ (s : State), ∃ (n : Fin 8), ∃ (k : Fin 8), ∃ ident, s.sys.mode = .run ∧ k.val < u8 (s.canStreams n) 1 ∧ 0 < u8 (s.canStreams n) (9 + 8 * k.val) ∧ s.st / 50000 % u8 (s.canStreams n) (9 + 8 * k.val) = 0 ∧ u8 (s.canStreams n) (10 + 8 * k.val) * 1000 ≤ s.st % 50000 ∧ (k.val, s.st / 50000) ∉ s.cans[n].sent ∧ let u := s.modCan n (fun x => { x with sent := (k.val, s.st / 50000) :: x.sent.filter (fun y => y.1 != k.val) }); u.streamIdent (u32 (s.canStreams n) (12 + 8 * k.val)) = some ident) :=
  ⟨⟨dev.modCan 7 (fun c => { c with mode := .normal, rxErr := 127 }), 7, by decide +kernel⟩,
   ⟨dev.modCan 7 (fun c => { c with mode := .normal, rxErr := 128 }), 7, by decide +kernel⟩,
   ⟨dev.modCan 7 (fun c => { c with mode := .normal }), 7, { type := 1, field := 0, phase := 0, tec := 1, rxe := 0, own := false },
     by dsimp only; decide +kernel⟩,
   ⟨dev.modCan 7 (fun c => { c with state := .busOff, recovering := true }), 7, by decide +kernel⟩,
   ⟨dev.modCan 7 (fun c => { c with next := some (.normal, 4) }), 7, .normal, 4, by decide +kernel⟩,
   ⟨dev.modCan 7 (fun c =>
     { c with mode := .normal, tx2 := [{ ident := 1, fd := false, brs := false, data := [], singleShot := false, echo := false, expiry := none, key := 0 }] }),
     7, (10 ^ 12), 2, { ident := 1, fd := false, brs := false, data := [], singleShot := false, echo := false, expiry := none, key := 0 },
     by decide +kernel⟩,
   ⟨dev, by decide +kernel⟩,
   ⟨dev.modCan 7 (fun c => { c with cfg1 := some (fill 72 [(1, 1, 8), (65, 1, 1)]) }), 7, 7, 0, by dsimp only; decide +kernel⟩⟩

theorem witness_FlinkRowsComplete :
    (∃ (s : State), ∃ z, ∃ q, ∃ m, ∃ fr, s.sys.mode = .run ∧ s.flCoord = true ∧ s.flMay = true ∧ s.nextBeacon = (z, q, m, fr) ∧ z ≤ s.st ∧ s.st < z
      + 3 ∧ s.flink.yielding = false) ∧
    (∃ (s : State), ∃ f, s.sys.mode = .run ∧ s.flHdrOk f = true ∧ u8 f.hdr 0 = 0 ∧ f.crcOk = true ∧ s.flink.yielding = false ∧ s.flCoord = false ∧
      u8 f.hdr 4 ≠ s.flAddr) ∧
    (∃ (s : State), ∃ a, ∃ b, s.sys.mode = .run ∧ s.flink.beaconAt = some a ∧ s.flink.since = some b ∧ s.flOn = true ∧ s.flink.lostRaised = false ∧
      max a b + 4 * ((s.flCycle).getD (4 * s.nominalP) : Nat) ≤ s.el) ∧
    (∃ (s : State), ∃ b, s.sys.mode = .run ∧ s.flink.beaconAt = none ∧ s.flink.since = some b ∧ s.flOn = true ∧ s.flink.lostRaised = false ∧ b + 4 *
      ((s.flCycle).getD (4 * s.nominalP) : Nat) ≤ s.el) ∧
    (∃ (s : State), ∃ f, s.sys.mode = .run ∧ s.flHdrOk f = true ∧ u8 f.hdr 0 = 1 ∧ u8 f.hdr 5 = s.flAddr ∧ s.flAddr ≠ 255 ∧ f.crcOk = true ∧ f.energy = [] ∧ let v := s.modFl (fun x => { x with erase := x.erase + 0#32 }); let w := v.setPeer { v.flPeer (u8 f.hdr 4) with snr := f.snr :: (v.flPeer (u8 f.hdr 4)).snr }; (w.flPeer (u8 f.hdr 4)).got = [] ∧ (w.flPeer (u8 f.hdr 4)).high = none) ∧
    (∃ (s : State), ∃ f, s.sys.mode = .run ∧ s.flHdrOk f = true ∧ u8 f.hdr 0 = 2 ∧ u8 f.hdr 5 = s.flAddr ∧ f.crcOk = true ∧ s.flink.queue = []) ∧
    (∃ (s : State), ∃ c, s.sys.mode = .run ∧ s.flCycle = some c ∧ s.holdsTwin = true) ∧
    (∃ (s : State), s.sys.mode = .run ∧ s.holdsTwin = true) ∧
    (∃ (s : State), s.sys.mode = .run) :=
  ⟨⟨((at_ (10 ^ 12)).store (fun c => { c with flink0 := some (fill 24 [(1, 1, 1), (4, 1, 2), (5, 1, 255), (6, 1, 50)]) })), (10 ^ 12), 20000000, 0,
     true, by decide +kernel⟩,
   ⟨((at_ (10 ^ 12)).store (fun c => { c with flink0 := some (fill 24 [(1, 1, 1), (4, 1, 0), (5, 1, 255), (6, 1, 50)]) })), (flFrame 0 3 255),
     by decide +kernel⟩,
   ⟨((at_ (10 ^ 12)).store (fun c => { c with flink0 := some (fill 24 [(1, 1, 1), (4, 1, 0), (5, 1, 255), (6, 1, 50)]) })).modFl (fun x =>
     { x with beacon := some { z := 10 ^ 12 - 8000000, p := 20000000, m := 0, zcFree := true, quality := 0, wake := 0, grants := [(0, 1, 15, 1, 0)], coord := 3 }, beaconAt := some (10 ^ 12 - 320000000), since := some 0 }),
     (10 ^ 12 - 320000000), 0, by decide +kernel⟩,
   ⟨((at_ (10 ^ 12)).store (fun c => { c with flink0 := some (fill 24 [(1, 1, 1), (4, 1, 0), (5, 1, 255), (6, 1, 50)]) })).modFl (fun x =>
     { x with beaconAt := none, since := some 0 }), 0, by decide +kernel⟩,
   ⟨((at_ (10 ^ 12)).store (fun c => { c with flink0 := some (fill 24 [(1, 1, 1), (4, 1, 0), (5, 1, 255), (6, 1, 50)]) })), (flFrame 1 3 0),
     by dsimp only; decide +kernel⟩,
   ⟨((at_ (10 ^ 12)).store (fun c => { c with flink0 := some (fill 24 [(1, 1, 1), (4, 1, 0), (5, 1, 255), (6, 1, 50)]) })), (flFrame 2 3 0),
     by decide +kernel⟩,
   ⟨((at_ (10 ^ 12)).store (fun c => { c with flink0 := some (fill 24 [(1, 1, 1), (4, 1, 0), (5, 1, 255), (6, 1, 50)]) })).modFl (fun x =>
     { x with beacon := some { z := 10 ^ 12 - 8000000, p := 20000000, m := 0, zcFree := true, quality := 0, wake := 0, grants := [(0, 1, 15, 1, 0)], coord := 3 } }),
     80000000, by decide +kernel⟩,
   ⟨dev, by decide +kernel⟩,
   ⟨dev, by decide +kernel⟩⟩

theorem witness_SiteRowsComplete :
    (∃ (s : State), ∃ (d : Dgram), s.sys.mode = .run ∧ s.siteStopped = false ∧ d.frag = none ∧ d.dstPort = s.ccpPort ∧ s.sys.startAt + 10000000 ≤
      s.el) ∧
    (∃ (s : State), ∃ (d : Dgram), s.sys.mode = .run ∧ s.siteStopped = false ∧ d.frag = none ∧ d.dstPort ≠ s.ccpPort ∧ d.dstPort ≠ 319 ∧ d.dstPort ≠
      320 ∧ s.sys.lee = true) ∧
    (∃ (s : State), ∃ (d : Dgram), ∃ (id : Nat), ∃ (off : Nat), ∃ (total : Nat), s.sys.mode = .run ∧ s.siteStopped = false ∧ d.frag = some (id, off,
      total)) ∧
    (∃ (s : State), s.sys.mode = .run) ∧
    (∃ (s : State), ∃ (net : Fin 2), s.sys.mode = .run ∧ s.sys.ethUp[net] = false) ∧
    (∃ (s : State), ∃ (net : Fin 2), s.sys.mode = .run ∧ s.sys.ethUp[net] = true) :=
  ⟨⟨dev, { net := 1, srcPort := 5, dstPort := 47320, addr := 9, stamp := 10 ^ 12, data := [], frag := none }, by decide +kernel⟩,
   ⟨{ dev with sys := { dev.sys with lee := true } },
     { net := 1, srcPort := 5, dstPort := 47321, addr := 9, stamp := 10 ^ 12, data := [], frag := none }, by decide +kernel⟩,
   ⟨dev, { net := 1, srcPort := 5, dstPort := 47321, addr := 9, stamp := 10 ^ 12, data := [], frag := some (1, 0, 10) }, 1, 0, 10,
     by decide +kernel⟩,
   ⟨dev, by decide +kernel⟩,
   ⟨{ dev with sys := { dev.sys with ethUp := dev.sys.ethUp.set 1 false } }, 1, by decide +kernel⟩,
   ⟨{ dev with sys := { dev.sys with ethUp := dev.sys.ethUp.set 1 true } }, 1, by decide +kernel⟩⟩

theorem witness_QueueRowsComplete :
    (∃ (s : State), ∃ (q : Fin 128), s.sys.mode = .run ∧ s.hio.serving = true ∧ s.queues[q].cfg.hostWrites = true ∧ s.queues[q].cfg.mode = .stream) ∧
    (∃ (s : State), ∃ (q : Fin 128), ∃ (w : Word), ∃ (o : HostOpen), s.sys.mode = .run ∧ s.hio.serving = true ∧ s.queues[q].cfg.hostWrites = true ∧ s.queues[q].cfg.mode = .packet ∧ s.queues[q].open_ = some o ∧ let y : Queue := { s.queues[q] with open_ := some { o with bytes := o.bytes ++ le 4 w.toNat, words := o.words + 1 } }; y.sramFill ≤ y.room (s.isRetired (tgt 7 q))) ∧
    (∃ (s : State), ∃ (q : Fin 128), s.sys.mode = .run ∧ s.hio.serving = true ∧ s.queues[q].cfg.hostWrites = true ∧ s.queues[q].cfg.mode = .packet ∧
      s.queues[q].open_ = none) ∧
    (∃ (s : State), ∃ (q : Fin 128), ∃ (v : Word), s.sys.mode = .run ∧ s.hio.serving = true ∧ v.toNat % 2 = 1 ∧ s.queues[q].cfg.hostWrites = true ∧
      s.queues[q].cfg.mode = .packet ∧ s.queues[q].open_ = none ∧ s.queueFits q 1 = true) ∧
    (∃ (s : State), ∃ (q : Fin 128), ∃ (v : Word), ∃ (o : HostOpen), s.sys.mode = .run ∧ s.hio.serving = true ∧ s.queues[q].cfg.hostWrites = true ∧
      s.queues[q].open_ = some o ∧ 0 < v.toNat % 65536 ∧ v.toNat % 65536 ≤ 4 * o.words ∧ 4 * o.words < v.toNat % 65536 + 4) ∧
    (∃ (s : State), ∃ (q : Fin 128), ∃ (v : Word), s.sys.mode = .run ∧ s.hio.serving = true ∧ v.toNat % 2 = 1 ∧ s.queues[q].cfg.firmware = false ∧
      s.queues[q].cfg.mode = .packet) ∧
    (∃ (s : State), ∃ (q : Fin 128), s.sys.mode = .run ∧ s.hio.serving = true ∧ s.queues[q].cfg.firmware = false) ∧
    (∃ (s : State), ∃ (q : Fin 128), s.sys.mode = .run ∧ s.hio.serving = true ∧ s.queues[q].cfg.firmware = true) ∧
    (∃ (s : State), ∃ (q : Fin 128), ∃ (o : HostOpen), s.sys.mode = .run ∧ s.queues[q].open_ = some o ∧ o.since + 100000000 ≤ s.el) ∧
    (∃ (s : State), ∃ (q : Fin 128), s.sys.mode = .run ∧ s.paused = false ∧ s.queues[q].cfg.mode ≠ .packet ∧ s.isRetired (tgt 7 q) = false) ∧
    (∃ (s : State), ∃ (q : Fin 128), ∃ b, s.sys.mode = .run ∧ s.sys.ready = true ∧ s.queues[q].boot = true ∧ 2 ≤ q.val ∧ s.queues[q].isEmpty = true
      ∧ s.nv.cfg.queue[q] = some b) :=
  ⟨⟨hostQueue .stream none, 127, by decide +kernel⟩,
   ⟨hostQueue .packet (some { bytes := [], words := 0, since := 10 ^ 12 - 10 ^ 8 }), 127, 7#32,
     { bytes := [], words := 0, since := 10 ^ 12 - 10 ^ 8 }, by dsimp only; decide +kernel⟩,
   ⟨hostQueue .packet none, 127, by decide +kernel⟩,
   ⟨hostQueue .packet none, 127, 1#32, by decide +kernel⟩,
   ⟨hostQueue .packet (some { bytes := [1, 2, 3, 4], words := 1, since := 0 }), 127, 4#32, { bytes := [1, 2, 3, 4], words := 1, since := 0 },
     by decide +kernel⟩,
   ⟨hostQueue .packet none, 127, 1#32, by decide +kernel⟩,
   ⟨dev, 127, by decide +kernel⟩,
   ⟨dev, 0, by decide +kernel⟩,
   ⟨dev.setQueue 0 { dev.queues[0] with open_ := some { bytes := [], words := 0, since := 10 ^ 12 - 10 ^ 8 } }, 0,
     { bytes := [], words := 0, since := 10 ^ 12 - 10 ^ 8 }, by decide +kernel⟩,
   ⟨dev, 127, by decide +kernel⟩,
   ⟨dev.store (fun c => { c with queue := c.queue.set 2 (some (fill 16 [])) }), 2, (fill 16 []), by decide +kernel⟩⟩

theorem witness_EventRowsComplete :
    (∃ (s : State), s.sys.mode = .run) ∧
    (∃ (s : State), ∃ (src : Fin 256), s.sys.mode = .run ∧ (vget s.evt.flood src {}).held ≠ 0 ∧ (vget s.evt.flood src {}).win ≠ s.st / 1000000) ∧
    (∃ (s : State), ∃ (src : Fin 256), ∃ (v : Word), s.sys.mode = .run ∧ s.hio.serving = true ∧ isSource src = true ∧ s.eventQueue (v.toNat % 256) =
      true) ∧
    (∃ (s : State), ∃ (src : Fin 256), s.sys.mode = .run ∧ s.hio.serving = true ∧ isSource src = false) ∧
    (∃ (s : State), s.sys.mode = .run ∧ s.hio.serving = true ∧ s.evt.pendTick ≠ s.el) ∧
    (∃ (s : State), s.sys.mode = .run ∧ s.hio.serving = true ∧ s.evt.pendTick = s.el) :=
  ⟨⟨dev, by decide +kernel⟩,
   ⟨dev.modFlood 255 (fun f => { f with held := 1, win := 999999 }), 255, by decide +kernel⟩,
   ⟨dev, 229, 0xFF#32, by decide +kernel⟩,
   ⟨dev, 255, by decide +kernel⟩,
   ⟨dev, by decide +kernel⟩,
   ⟨{ dev with evt := { dev.evt with pendTick := 10 ^ 12 } }, by decide +kernel⟩⟩

theorem witness_SwitchRowsComplete :
    (∃ (s : State), ∃ (n : Fin 24), s.seqr.vsLow = false ∧ (s.sws[n].state = .on ∨ s.sws[n].state = .inrush)) ∧
    (∃ (s : State), ∃ (n : Fin 24), ∃ cur, s.seqr.vsLow = false ∧ s.sws[n].state = .limiting ∧ cur < s.swLimit n) ∧
    (∃ (s : State), ∃ (n : Fin 24), s.seqr.vsLow = false ∧ s.sws[n].conducts = true ∧ s.latched = false) ∧
    (∃ (s : State), ∃ (n : Fin 24), ∃ temp, s.seqr.vsLow = false ∧ s.sws[n].state = .awaitRetry ∧ s.latched = false ∧ temp ≤ 1500 ∧ s.sws[n].offAt +
      1000000 * u16 (s.swCfg n) 12 ≤ s.el ∧ s.sys.fault = none ∧ (s.sws[n].cmd = .off ∨ s.driving = false)) ∧
    (∃ (s : State), ∃ (n : Fin 24), ∃ temp, s.seqr.vsLow = false ∧ s.sws[n].state = .awaitRetry ∧ s.latched = false ∧ temp ≤ 1500 ∧ s.sws[n].offAt + 1000000 * u16 (s.swCfg n) 12 ≤ s.el ∧ s.sys.fault = none ∧ s.sws[n].cmd ≠ .off ∧ let u := s.modSw n (fun c => { c with temp := temp }); u.driving = true ∧ u.budgetFigure ≤ u.budget.limit) ∧
    (∃ (s : State), ∃ (n : Fin 24), s.seqr.vsLow = false ∧ (s.sws[n].clamping = true ∨ s.sws[n].clampDue = true) ∧ s.sws[n].onAfterClamp = false) ∧
    (∃ (s : State), ∃ (n : Fin 24), ∃ e, s.seqr.vsLow = false ∧ s.sws[n].windowEnd = some e ∧ s.sws[n].slew = false ∧ e ≤ s.el ∧ s.sws[n].state =
      .inrush) ∧
    (∃ (s : State), ∃ (n : Fin 24), s.seqr.vsLow = false ∧ s.sws[n].slew = true ∧ s.sws[n].state = .inrush) :=
  ⟨⟨dev.modSw 23 (fun c => { c with state := .inrush }), 23, by decide +kernel⟩,
   ⟨dev.modSw 23 (fun c => { c with state := .limiting }), 23, 0, by decide +kernel⟩,
   ⟨dev.modSw 23 (fun c => { c with state := .on }), 23, by decide +kernel⟩,
   ⟨dev.modSw 23 (fun c => { c with state := .awaitRetry, cmd := .off }), 23, 1500, by decide +kernel⟩,
   ⟨dev.modSw 23 (fun c => { c with state := .awaitRetry, cmd := .on }), 23, 1500, by dsimp only; decide +kernel⟩,
   ⟨dev.modSw 23 (fun c => { c with clamping := true }), 23, by decide +kernel⟩,
   ⟨dev.modSw 23 (fun c => { c with windowEnd := some (10 ^ 12), state := .inrush }), 23, (10 ^ 12), by decide +kernel⟩,
   ⟨dev.modSw 23 (fun c => { c with slew := true, state := .inrush }), 23, by decide +kernel⟩⟩

theorem witness_BudgetRowsComplete :
    (∃ (s : State), s.sys.mode = .run ∧ s.budget.lastClamp ≠ some (s.st / 1000000000)) ∧
    (∃ (s : State), ∃ (n : Fin 24), ∃ (mv : Int), s.sys.mode = .run ∧ s.openLoadOn n = true ∧ s.sws[n].openLoad = false ∧ (u16 (s.swCfg n) 16 : Int)
      < mv) ∧
    (∃ (s : State), ∃ (n : Fin 24), s.sys.mode = .run ∧ s.sws[n].openLoad = true) ∧
    (∃ (s : State), s.sys.mode = .run ∧ s.budget.lastWin ≠ some (s.st / 100000000)) ∧
    (∃ (s : State), s.sys.mode = .run ∧ s.budget.lastRestore ≠ some (s.st / 1000000000) ∧ (∀ n : Fin 24, s.sws[n].state ≠ .shed) ∧ s.budget.episode
      = false) ∧
    (∃ (s : State), ∃ (n : Fin 24), s.sys.mode = .run ∧ s.budget.lastRestore ≠ some (s.st / 1000000000) ∧ let u : State := { s with budget := { s.budget with lastRestore := some (s.st / 1000000000) } }; minBy u.swRestoreKey ((List.finRange 24).filter (fun (k : Fin 24) => s.sws[k].state == .shed)) = some n ∧ s.latched = false ∧ s.driving = true ∧ s.sys.fault = none ∧ (u.budgetFigure + s.sws[n].shedMean) * 100 ≤ s.budget.limit * 85 ∧ s.budget.episode = false ∧ (((u.swState n .off).swTurnOn n true).raise (.swRestored n)).budget.episode = false) ∧
    (∃ (s : State), ∃ (n : Fin 24), s.sys.mode = .run ∧ minBy s.swRestoreKey ((List.finRange 24).filter (fun (k : Fin 24) => s.sws[k].restore)) = some n ∧ s.budget.dipAt = none ∧ let u := ({ s with budget := { s.budget with dipAt := some s.el } } : State).modSw n (fun c => { c with restore := false }); s.sws[n].state = .off ∧ s.sws[n].cmd ≠ .off ∧ u.driving = true ∧ u.latched = false) ∧
    (∃ (s : State), s.sys.mode = .run ∧ s.sys.keepDone = false) :=
  ⟨⟨dev, by decide +kernel⟩,
   ⟨(dev.store (fun c => { c with sw := c.sw.set 23 (some (fill 32 [(0, 1, 16)])) })).modSw 23 (fun c => { c with state := .off }), 23, 1,
     by decide +kernel⟩,
   ⟨dev.modSw 23 (fun c => { c with openLoad := true }), 23, by decide +kernel⟩,
   ⟨dev, by decide +kernel⟩,
   ⟨dev, by decide +kernel⟩,
   ⟨dev.modSw 23 (fun c => { c with state := .shed, cmd := .on }), 23, by dsimp only; decide +kernel⟩,
   ⟨dev.modSw 23 (fun c => { c with state := .off, cmd := .on, restore := true }), 23, by dsimp only; decide +kernel⟩,
   ⟨dev, by decide +kernel⟩⟩

theorem witness_ThermalRowsComplete :
    (∃ (s : State), s.sys.mode = .run ∧ 19600000 ≤ s.st % 20000000 ∧ s.hk.lastRound ≠ some (s.st / 20000000)) ∧
    (∃ (s : State), ∃ (temps : Vector Int 8), s.sys.mode = .run ∧ s.therm.lastConv ≠ some (s.st / 1000000) ∧ (∀ i : Fin 8, (dieNext temps i s.therm.dies[i]).failed = s.therm.dies[i].failed) ∧ let dies := Vector.ofFn (fun (i : Fin 8) => dieNext temps i s.therm.dies[i]); let top := (hottestOf ((List.range 8).zip dies.toList)).getD (s.therm.hottest, s.therm.tj); crossed s.therm.warn top.2 1100 = s.therm.warn ∧ crossed s.therm.hot top.2 1200 = s.therm.hot ∧ crossed s.therm.shut top.2 1350 = s.therm.shut ∧ (s.therm.hot || decide (2 ≤ (dies.toList.filter (·.failed)).length)) = s.therm.throttle) ∧
    (∃ (s : State), ∃ (i : Fin 8), s.sys.mode = .run ∧ s.therm.dies[i].cmpArmed = true) ∧
    (∃ (s : State), s.sys.mode = .run ∧ s.therm.throttle = true ∧ s.therm.workEnd = none ∧ s.st % 10000000 < 2000000) :=
  ⟨⟨at_ (10 ^ 12 + 19600000), by decide +kernel⟩,
   ⟨dev, (Vector.replicate 8 250), by dsimp only; decide +kernel⟩,
   ⟨dev, 7, by decide +kernel⟩,
   ⟨{ dev with therm := { dev.therm with throttle := true } }, by decide +kernel⟩⟩

theorem witness_FabricRowsComplete :
    (∃ (s : State), s.sys.mode = .run) ∧
    (∃ (s : State), ∃ (l : Fin 3), s.sys.mode = .run ∧ let i : Fin 4 := ⟨l.val, by omega⟩; s.fabric.streak[i] < 16) ∧
    (∃ (s : State), ∃ (l : Fin 3), s.sys.mode = .run ∧ let i : Fin 4 := ⟨l.val, by omega⟩; 16 ≤ s.fabric.streak[i]) ∧
    (∃ (s : State), s.sys.mode = .run ∧ 16 ≤ s.fabric.streak[(0 : Fin 4)]) ∧
    (∃ (s : State), ∃ (c : Fin 8), s.sys.mode = .run ∧ bit s.fabric.clkLost c = false) ∧
    (∃ (s : State), ∃ (c : Fin 8), s.sys.mode = .run ∧ bit s.fabric.clkLost c = true ∧ 3 ≤ c.val) ∧
    (∃ (s : State), ∃ t, s.sys.mode = .run ∧ isRetirable t = true) ∧
    (∃ (s : State), ∃ t, s.sys.mode = .run ∧ isRetirable t = true ∧ tType t ≠ 4 ∧ tType t ≠ 7) ∧
    (∃ (s : State), ∃ f, s.sys.mode = .run ∧ s.sys.fault = some f ∧ f.thermal = false ∧ f.rail = false ∧ f.at_ + 100000000 ≤ s.el) ∧
    (∃ (s : State), s.sys.mode = .run ∧ s.sys.ready = false ∧ s.sys.fault = none ∧ s.sys.wake = none ∧ s.sys.startAt + 350000000 ≤ s.el) ∧
    (∃ (s : State), s.sys.mode = .run ∧ s.sys.ready = false ∧ s.sys.lee = true ∧ s.hk.lastRound.isSome = true ∧ s.bill.restartDue = false ∧
      s.sys.fault = none) :=
  ⟨⟨dev, by decide +kernel⟩,
   ⟨{ dev with fabric := { dev.fabric with streak := dev.fabric.streak.set 2 15 } }, 2, by dsimp only; decide +kernel⟩,
   ⟨{ dev with fabric := { dev.fabric with streak := dev.fabric.streak.set 2 16 } }, 2, by dsimp only; decide +kernel⟩,
   ⟨{ dev with fabric := { dev.fabric with streak := dev.fabric.streak.set 0 16 } }, by decide +kernel⟩,
   ⟨dev, 7, by decide +kernel⟩,
   ⟨{ dev with fabric := { dev.fabric with clkLost := 128 } }, 7, by decide +kernel⟩,
   ⟨dev, 0x707F, by decide +kernel⟩,
   ⟨dev, 0x508F, by decide +kernel⟩,
   ⟨{ dev with sys := { dev.sys with fault := some { thermal := false, rail := false, level := 7, at_ := 10 ^ 12 - 10 ^ 8 } } },
     { thermal := false, rail := false, level := 7, at_ := 10 ^ 12 - 10 ^ 8 }, by decide +kernel⟩,
   ⟨{ dev with sys := { dev.sys with ready := false, startAt := 10 ^ 12 - 350000000 } }, by decide +kernel⟩,
   ⟨{ dev with sys := { dev.sys with ready := false, lee := true }, hk := { dev.hk with lastRound := some 0 }, bill := { dev.bill with restartDue := false } },
     by decide +kernel⟩⟩

theorem witness_PowerRowsComplete :
    (∃ (s : State), s.seqr.state = .off ∧ s.seqr.vsLow = false) ∧
    (∃ (s : State), ∃ n, s.seqr.state = .step n ∧ n < 6) ∧
    (∃ (s : State), ∃ n, s.seqr.state = .step n ∧ 6 ≤ n) ∧
    (∃ (s : State), ∃ n, s.seqr.state = .step n) ∧
    (∃ (s : State), s.seqr.state = .wait ∧ s.seqr.vsLow = false) ∧
    (∃ (s : State), s.seqr.state = .done ∧ s.sys.mode ≠ .inReset) ∧
    (∃ (s : State), s.seqr.vsLow = false ∧ s.sys.mode = .inReset) ∧
    (∃ (s : State), s.seqr.vsLow = true) ∧
    (∃ (s : State), s.sys.brownout = false) ∧
    (∃ (s : State), s.sys.mode = .inReset) ∧
    (∃ (s : State), s.sys.mode ≠ .inReset) ∧
    (∃ (s : State), s.sys.mode = .inReset ∧ s.seqr.state = .done ∧ s.sys.bootHold = false) ∧
    (∃ (s : State), s.sys.mode = .run ∧ s.vbat.powered = true ∧ s.vbat.xtal = true ∧ s.vbat.hb0 = none ∧ s.vbat.hb1 = none) ∧
    (∃ (s : State), ∃ h, s.sys.mode = .run ∧ s.vbat.powered = true ∧ s.vbat.xtal = true ∧ s.vbat.hb0 = some h ∧ s.vbat.hb1 = none ∧ h.st / 10000000
      ≠ s.st / 10000000) ∧
    (∃ (s : State), ∃ (src : Fin 5), s.sys.mode = .sleep ∧ bit s.sys.armed src = true ∧ src ≠ 4 ∧ (src = 0 → ∃ p : Fin 8, s.ports[p].doze.any
      (·.woke) = true) ∧ (src = 3 → s.flink.woke = true) ∧ (src = 1 → ∃ n : Fin 8, canModeOf ((s.nv.cfg.canMode[n]).getD 0) ≠ .off)) ∧
    (∃ (s : State), ∃ w, ∃ t, ∃ e, s.sys.mode = .sleep ∧ bit s.sys.armed 4 = true ∧ s.vbat.wakeAt = some w ∧ s.rtcNow e = some t ∧ w ≤ t) ∧
    (∃ (s : State), s.vbat.powered = true) :=
  ⟨⟨{ dev with seqr := { dev.seqr with state := .off }, sys := { dev.sys with mode := .inReset } }, by decide +kernel⟩,
   ⟨{ dev with seqr := { dev.seqr with state := .step 5 }, sys := { dev.sys with mode := .inReset } }, 5, by decide +kernel⟩,
   ⟨{ dev with seqr := { dev.seqr with state := .step 6 }, sys := { dev.sys with mode := .inReset } }, 6, by decide +kernel⟩,
   ⟨{ dev with seqr := { dev.seqr with state := .step 1 }, sys := { dev.sys with mode := .inReset } }, 1, by decide +kernel⟩,
   ⟨{ dev with seqr := { dev.seqr with state := .wait }, sys := { dev.sys with mode := .inReset } }, by decide +kernel⟩,
   ⟨{ dev with seqr := { dev.seqr with state := .done }, sys := { dev.sys with mode := .sleep } }, by decide +kernel⟩,
   ⟨{ dev with seqr := { dev.seqr with state := .off }, sys := { dev.sys with mode := .inReset } }, by decide +kernel⟩,
   ⟨{ dev with seqr := { dev.seqr with vsLow := true }, sys := { dev.sys with mode := .inReset } }, by decide +kernel⟩,
   ⟨dev, by decide +kernel⟩,
   ⟨{ dev with seqr := { dev.seqr with state := .done }, sys := { dev.sys with mode := .inReset } }, by decide +kernel⟩,
   ⟨{ dev with seqr := { dev.seqr with state := .done }, sys := { dev.sys with mode := .sleep } }, by decide +kernel⟩,
   ⟨{ dev with seqr := { dev.seqr with state := .done }, sys := { dev.sys with mode := .inReset } }, by decide +kernel⟩,
   ⟨{ dev with vbat := { dev.vbat with powered := true, xtal := true, hb0 := none, hb1 := none }, sys := { dev.sys with mode := .run, armed := 31 } },
     by decide +kernel⟩,
   ⟨{ dev with vbat := { dev.vbat with powered := true, xtal := true, hb0 := some { st := 10 ^ 12 - 10 ^ 7, seq := 1, flags := 0 }, hb1 := none }, sys := { dev.sys with mode := .run, armed := 31 } },
     { st := 10 ^ 12 - 10 ^ 7, seq := 1, flags := 0 }, by decide +kernel⟩,
   ⟨(({ dev with vbat := { dev.vbat with powered := true }, sys := { dev.sys with mode := .sleep, armed := 31 } } : State).store (fun c =>
     { c with canMode := c.canMode.set 7 (some 1) })), 1, by decide +kernel⟩,
   ⟨{ dev with vbat := { dev.vbat with powered := true, valid := true, rtcValid := true, xtal := true, rtc := 5, wakeAt := some 7 }, sys := { dev.sys with mode := .sleep, armed := 31 } },
     7, 7, 2, by decide +kernel⟩,
   ⟨{ dev with vbat := { dev.vbat with powered := true }, sys := { dev.sys with mode := .run, armed := 31 } }, by decide +kernel⟩⟩

/-- A holdover whose error has passed the limit; the rate of the error is free. -/
theorem witness_TimeRowsComplete_holdover : ∃ (s : State), s.sys.mode = .run ∧ s.time.quality = .holdover ∧ s.time.pend = none ∧ s.holdLimit ≤ s.errNow := by
  refine ⟨dev.modTime (fun x => { x with quality := .holdover, err := 5000000000, errAt := dev.el }), rfl, rfl, rfl, ?_⟩
  have : (dev.modTime (fun x => { x with quality := .holdover, err := 5000000000, errAt := dev.el })).errNow = 5000000000 := by
    simp only [State.errNow]
    show (5000000000 : Rat) + _ * (((dev.el - dev.el : Int) : Rat) / 1000000000) = _
    simp [Rat.add_zero, Rat.div_def, Rat.zero_mul, Rat.mul_zero]
  rw [this]; decide +kernel

theorem witness_TimeRowsComplete_zone : ∃ (s : State), s.sys.mode = .run ∧ s.zoneExpiring = true ∧ s.time.zoneWarnDay ≠ some (s.st / 86400000000000) :=
  ⟨{ dev with bill := { dev.bill with b := { dev.bill.b with cal := some (fill 2320 [(2290, 1, 1)]) } } }, by decide +kernel⟩

theorem witness_FlinkRowsComplete_slot : ∃ (s : State) (t e : Nat) (b : Beacon) (x : FlTx), s.sys.mode = .run ∧ s.slotNow = some (t, e) ∧ s.flink.beacon = some b ∧ s.flMay = true ∧ s.flink.mute = false ∧ s.flink.slotAt = none ∧ s.sys.readySt < t ∧ s.paused = false ∧ s.flink.queue = [x] ∧ x.again = true ∧ frameFits b ((s.modFl (fun y => { y with slotAt := some t })).flPeer x.dest) t e x.data.length = true :=
  let x : FlTx := { dest := 3, ack := true, data := [1, 2], seq := some 0, sends := 1, since := 0, sentIn := none, at_ := 0, sentAt := none, again := true, ccp := 0 }
  let b : Beacon := { z := 10 ^ 12 - 3333333, p := 20000000, m := 0, zcFree := true, quality := 0, wake := 0, grants := [(0, 1, 15, 1, 0)], coord := 3 }
  ⟨(dev.store (fun c => { c with flink0 := some (fill 24 [(1, 1, 1), (4, 1, 0), (5, 1, 255), (6, 1, 50)]) })).modFl (fun y => { y with beacon := some b, queue := [x], mute := false }),
    10 ^ 12, 10 ^ 12 + 50000000, b, x, by decide +kernel⟩

/-- Twins with one configuration and one set of roles. -/
theorem twinCompare_same (s : State) (p : s.paired = true) : s.twinCompare s.cfgCrc s.roles =
    s.modTwin (fun t => { t with partnerSet := some (s.cfgCrc, s.roles), cfgMismatch := false, roleMismatch := false }) := by
  have h : ∀ f, (s.modTwin f).cfgCrc = s.cfgCrc := fun _ => rfl
  have k : ∀ f, (s.modTwin f).roles = s.roles := fun _ => rfl
  have t : ∀ f, (s.modTwin f).twin = f s.twin := fun _ => rfl
  have q : ∀ f, (s.modTwin f).paired = s.paired := fun _ => rfl
  simp [State.twinCompare, State.twinRecheck, h, k, t, q, p]
  simp [State.modTwin]

/-- A standby at the deadline of a cycle whose image it holds. -/
def I0 : State := ((at_ (10 ^ 12 + 30000)).store (fun c => { c with twin := some (fill 32 [(1, 1, 1), (4, 4, 60)]) })).modTwin
  (fun t => { t with state := .standby, gotEnd := some (20000000, 5), ownHash := some (20000000, 5) })
/-- A waiting device at a deadline without an image. -/
theorem witness_ImageRowsComplete_waiting : ∃ s : State, s.sys.mode = .run ∧ s.paired = true ∧ s.isOther = true ∧ 30000 ≤ s.st % 50000 ∧ s.twin.deadline ≠ some (s.st / 50000) ∧
    s.twin.state = .waiting ∧ s.twin.handover = none ∧ ∀ h, s.twin.gotEnd ≠ some (s.st / 50000, h) :=
  ⟨I0.modTwin (fun t => { t with state := .waiting, gotEnd := none }), by decide +kernel, by decide +kernel, by decide +kernel, by decide +kernel,
    by decide +kernel, rfl, rfl, fun _ => nofun⟩

theorem witness_ImageRowsComplete_deadline : ∃ (s : State) (h : Nat), s.sys.mode = .run ∧ s.paired = true ∧ s.isOther = true ∧ 30000 ≤ s.st % 50000 ∧
    s.twin.deadline ≠ some (s.st / 50000) ∧ s.twin.handover = none ∧ s.twin.gotEnd = some (s.st / 50000, h) ∧ s.image.cycle = s.st / 50000 ∧ s.sys.fault = none ∧
    (let u := (s.modTwin (fun t => { t with deadline := some (s.st / 50000) })).twinCompare s.image.cfgCrc s.image.roles
     let v := ((u.modTwin (fun t => { t with lateRun := 0 })).modTwin (fun t => { t with
        goodImages := t.goodImages + 1, mismatchRun := 0 })).imageAdopt.recordFlush (fun _ => true)
     u.twin.state = .standby ∧ u.twin.gotEnd = some (s.st / 50000, h) ∧ u.twin.ownHash = some (s.st / 50000, h) ∧ v.twin.state = .standby) := by
  refine ⟨{ I0 with image := { I0.image with cfgCrc := I0.cfgCrc, roles := I0.roles, cycle := 20000000 } }, 5, by decide +kernel, by decide +kernel, by decide +kernel,
    by decide +kernel, by decide +kernel, by decide +kernel, by decide +kernel, by decide +kernel, by decide +kernel, ?_⟩
  intro u
  have h : u = _ := twinCompare_same (({ I0 with image := { I0.image with cfgCrc := I0.cfgCrc, roles := I0.roles, cycle := 20000000 } } : State).modTwin
    (fun t => { t with deadline := some 20000000 })) (by decide +kernel)
  rw [h]
  refine ⟨by decide +kernel, by decide +kernel, by decide +kernel, ?_⟩
  show (State.recordFlush (State.imageAdopt _) _).twin.state = .standby
  decide +kernel

/-- A contract chain whose validity has ended. -/
theorem witness_ChargingRowsComplete_contract : ∃ (s : State) (p : Fin 8) (e : Session) (u : Ident), s.sys.mode = .run ∧ s.ports[p].session = some e ∧ s.ports[p].tcp = true ∧
    s.ports[p].state = .negotiating ∧ e.authSt = none ∧ e.authAsked = none ∧ u.plugAndCharge = true ∧ bit (u8 (s.pCfg p) 2) 4 = true ∧
    3 ≤ e.proto ∧ contractOk (u.chain.take 3800) s.st = false := by
  let s : State := (dev.store (fun c => { c with port := c.port.set 7 (some (fill 64 [(2, 1, 20), (7, 1, 1)])) })).modPort 7
    (fun x => { x with tcp := true, state := .negotiating, session := some { id := 1, proto := 3 } })
  refine ⟨{ s with clk := { s.clk with fix := ((Config.contractDates []).2 + 1) * 2 ^ 32 } }, 7, { id := 1, proto := 3 },
    { plugAndCharge := true, emaid := [], chain := [] }, by decide +kernel, by decide +kernel, by decide +kernel, by decide +kernel, rfl, rfl, rfl,
    by decide +kernel, by decide, ?_⟩
  have h : ({ s with clk := { s.clk with fix := ((Config.contractDates []).2 + 1) * 2 ^ 32 } } : State).st = (Config.contractDates []).2 + 1 := by
    simp [State.st]
  rw [h]; simp [contractOk]

/-- A log read past the work window of a throttling device. -/
theorem witness_SysCommandsComplete_paused : ∃ (s t : State) (p : Pkt) (r : Req) (arr : Arrival), s.sys.mode = .run ∧ s.takes p.via = true ∧ 4 ≤ p.raw.length ∧ p.code = 0x0105 ∧
    (s.received p).intake p = (.run r, some arr, t) ∧ t.paused = true ∧ r.pauses = true := by
  let s : State := { dev with therm := { dev.therm with throttle := true, workEnd := some (10 ^ 12) } }
  let p := host 0 0x0105 0 (fill 16 [(12, 2, 4064)])
  have h : (match (s.received p).intake p with
      | (.run r, some _, t) => decide (s.sys.mode = .run ∧ s.takes p.via = true ∧ 4 ≤ p.raw.length ∧ p.code = 0x0105 ∧ t.paused = true ∧ r.pauses = true)
      | _ => false) = true := by decide +kernel
  split at h
  · next hi => simp at h; exact ⟨_, _, _, _, _, h.1, h.2.1, h.2.2.1, h.2.2.2.1, hi, h.2.2.2.2⟩
  · cases h

end Sys2Proof.Tests
end

/-! What falls due takes effect in the order of its time: `State.dues` is an insertion sort by an order that is total and transitive. -/

namespace Sys2Proof.Machine

/-! ### The model's sort -/

theorem insertBy_perm {α : Type} (le : α → α → Bool) (a : α) (l : List α) : (insertBy le a l).Perm (a :: l) := by
  induction l with
  | nil => exact .refl _
  | cons b l ih =>
    rw [insertBy]
    split
    · exact .refl _
    · exact (ih.cons b).trans (.swap a b l)

theorem sortBy_perm {α : Type} (le : α → α → Bool) (l : List α) : (sortBy le l).Perm l := by
  induction l with
  | nil => exact .refl _
  | cons a l ih => exact (insertBy_perm le a _).trans (ih.cons a)

/-- Inserting into a sorted list gives a sorted list: the element goes before the first one it is not above, and after
those it is above, which are below it since the order is total. -/
theorem insertBy_pairwise {α : Type} {le : α → α → Bool} (total : ∀ a b, le a b = true ∨ le b a = true)
    (trans : ∀ a b c, le a b = true → le b c = true → le a c = true) (a : α) (l : List α)
    (h : l.Pairwise (fun x y => le x y = true)) : (insertBy le a l).Pairwise (fun x y => le x y = true) := by
  induction l with
  | nil => exact List.pairwise_singleton _ a
  | cons b l ih =>
    obtain ⟨hb, hl⟩ := List.pairwise_cons.mp h
    rw [insertBy]
    split
    next hab =>
      refine List.pairwise_cons.mpr ⟨fun c hc => ?_, h⟩
      rcases List.mem_cons.mp hc with rfl | hc
      · exact hab
      · exact trans a b c hab (hb c hc)
    next hab =>
      have hba : le b a = true := (total a b).resolve_left hab
      refine List.pairwise_cons.mpr ⟨fun c hc => ?_, ih hl⟩
      rcases List.mem_cons.mp ((insertBy_perm le a l).mem_iff.mp hc) with rfl | hc
      · exact hba
      · exact hb c hc

theorem sortBy_pairwise {α : Type} {le : α → α → Bool} (total : ∀ a b, le a b = true ∨ le b a = true)
    (trans : ∀ a b c, le a b = true → le b c = true → le a c = true) (l : List α) :
    (sortBy le l).Pairwise (fun x y => le x y = true) := by
  induction l with
  | nil => exact .nil
  | cons a l ih => exact insertBy_pairwise total trans a _ ih

/-! ### The order of what falls due (R111, R145) -/

/-- The lexicographic order of time, order of acceptance and place within a packet. -/
theorem Due.before_iff {a b : Due} : a.before b = true ↔
    a.key.1 < b.key.1 ∨ (a.key.1 = b.key.1 ∧ (a.key.2.1 < b.key.2.1 ∨ (a.key.2.1 = b.key.2.1 ∧ a.key.2.2 ≤ b.key.2.2))) := by
  simp [Due.before]

theorem Due.before_total (a b : Due) : a.before b = true ∨ b.before a = true := by
  simp only [Due.before_iff]; omega

theorem Due.before_trans (a b c : Due) (h : a.before b = true) (k : b.before c = true) : a.before c = true := by
  simp only [Due.before_iff] at *; omega

/-! ### What falls due -/

/-- The launch that falls due, when it is one. -/
def Due.asLead : Due → Option Launch
  | .lead a => some a
  | .trail .. => none

/-- The trailing time that falls due, when it is one. -/
def Due.asTrail : Due → Option Trailing
  | .trail _ t => some t
  | .lead _ => none

/-- Launches and trailing times, each with some order of acceptance, are sorted together. -/
theorem State.dues_eq_sortBy (s : State) : ∃ order : Trailing → Nat, s.dues = sortBy Due.before
    ((s.launches.filter (fun a => !a.trailing && decide (a.at_ ≤ s.st))).map Due.lead ++
      (s.alloc.trailing.filter (fun t => decide (t.at_ ≤ s.st))).map (fun t => Due.trail (order t) t)) :=
  ⟨_, rfl⟩

theorem State.dues_pairwise_before (s : State) : s.dues.Pairwise (fun a b => a.before b = true) :=
  sortBy_pairwise Due.before_total Due.before_trans _

theorem filterMap_asLead_append (leads : List Launch) (trails : List Trailing) (order : Trailing → Nat) :
    (leads.map Due.lead ++ trails.map (fun t => Due.trail (order t) t)).filterMap Due.asLead = leads := by
  simp [List.filterMap_append, List.filterMap_map, Function.comp_def, Due.asLead]

theorem filterMap_asTrail_append (leads : List Launch) (trails : List Trailing) (order : Trailing → Nat) :
    (leads.map Due.lead ++ trails.map (fun t => Due.trail (order t) t)).filterMap Due.asTrail = trails := by
  simp [List.filterMap_append, List.filterMap_map, Function.comp_def, Due.asTrail]

/-- The launches of `dues` are those whose time has come and whose leading part is still to run. -/
theorem State.dues_leads_perm (s : State) : (s.dues.filterMap Due.asLead).Perm
    (s.launches.filter (fun a => !a.trailing && decide (a.at_ ≤ s.st))) := by
  obtain ⟨order, h⟩ := s.dues_eq_sortBy
  rw [h]
  exact ((sortBy_perm _ _).filterMap _).trans (.of_eq (filterMap_asLead_append _ _ order))

/-- The trailing times of `dues` are those that have come. -/
theorem State.dues_trails_perm (s : State) : (s.dues.filterMap Due.asTrail).Perm
    (s.alloc.trailing.filter (fun t => decide (t.at_ ≤ s.st))) := by
  obtain ⟨order, h⟩ := s.dues_eq_sortBy
  rw [h]
  exact ((sortBy_perm _ _).filterMap _).trans (.of_eq (filterMap_asTrail_append _ _ order))

/-! ### The row that runs them (R36, R110) -/

/-- Without a device fault, or in a thermal one, all that is due is run in its order. -/
theorem State.launchExecute_of_thermal {s : State} (h : ∀ f, s.sys.fault = some f → f.thermal = true) :
    s.launchExecute = (s.dues.foldl State.dueRun s).freeSlots := by
  unfold State.launchExecute
  cases hf : s.sys.fault with
  | none => rfl
  | some f => exact if_pos (h f hf)

/-- In any other device-fault state nothing is run. -/
theorem State.launchExecute_of_not_thermal {s : State} {f : DevFault} (hf : s.sys.fault = some f) (h : f.thermal = false) :
    s.launchExecute = s := by
  simp [State.launchExecute, hf, h]

theorem exec_launchExecute_of_run {s : State} (h : s.sys.mode = .run) : exec .launchExecute s = .next s.launchExecute :=
  live_run h State.launchExecute

end Sys2Proof.Machine

namespace Sys2Proof.Proofs

open Sys2Proof Sys2Proof.Machine

/-- Settles O59: the list is the model's own `dues`, a permutation of what is due, sorted by `Due.before`. -/
theorem launchesExecuteInOrder : Obligations.LaunchesExecuteInOrder := by
  intro s
  have hsorted := s.dues_pairwise_before.imp Due.before_iff.mp
  refine ⟨s.dues, s.dues_leads_perm, s.dues_trails_perm, hsorted, ?_, ?_, fun _ _ => rfl,
    fun r => ⟨s.pushLaunch_launches r, s.pushLaunch_launchCount r⟩⟩
  · intro hrun hthermal
    rw [exec_launchExecute_of_run hrun, State.launchExecute_of_thermal hthermal]
  · rintro hrun ⟨f, hf, hnot⟩
    rw [exec_launchExecute_of_run hrun, State.launchExecute_of_not_thermal hf hnot]

end Sys2Proof.Proofs

/-! The command interface at HOSTIO: the status byte bit by bit, the response byte of a window access, and what the two violation
logs are after a reset. -/

namespace Sys2Proof.Machine

/-! ### The status byte (R610) -/

theorem b01_le_one (b : Bool) : b01 b ≤ 1 := by cases b <;> decide

theorem bit_b01_add_zero (b : Bool) (n : Nat) : bit (b01 b + 2 * n) 0 = b := by
  cases b <;> simp [bit, b01]

theorem bit_b01_add_succ (b : Bool) (n k : Nat) : bit (b01 b + 2 * n) (k + 1) = bit n k := by
  have half : (b01 b + 2 * n) / 2 = n := by
    have := b01_le_one b
    omega
  simp [bit, Nat.testBit_succ, half]

/-- The status byte as five flags above each other, and nothing above them. -/
theorem State.hostStatus_eq (s : State) : s.hostStatus =
    b01 s.hio.serving + 2 * (b01 s.hio.lastWriteBad + 2 * (b01 s.hio.violSeen +
      2 * (b01 (!(s.queues[1].words.isEmpty && s.queues[1].spilled.isEmpty)) + 2 * (b01 s.sys.lee + 2 * 0)))) := by
  unfold State.hostStatus
  omega

theorem State.hostStatus_lt (s : State) : s.hostStatus < 256 := by
  have hserving := b01_le_one s.hio.serving
  have hbad := b01_le_one s.hio.lastWriteBad
  have hseen := b01_le_one s.hio.violSeen
  have hreply := b01_le_one (!(s.queues[1].words.isEmpty && s.queues[1].spilled.isEmpty))
  have hlee := b01_le_one s.sys.lee
  unfold State.hostStatus
  omega

theorem exec_hostioStatusRead_of_run {s : State} (h : s.sys.mode = .run) : exec .hostioStatusRead s = .next s.statusRead :=
  live_run h State.statusRead

/-! ### Window accesses (R608, R609, R613) -/

/-- A read that begins at a read port of a queue whose consumer is not the host (R642). -/
def State.readMisused (s : State) (a : Nat) : Bool :=
  inRun a 0x100000 0x100000 && readPort (a % 0x2000) && s.queues[(Fin.ofNat 128 ((a - 0x100000) / 0x2000) : Fin 128)].cfg.firmware

theorem State.readWords_length (bad : Nat → State → State) (n a : Nat) (s : State) :
    (State.readWords bad n a s).1.length = n := by
  induction n generalizing a s with
  | zero => rfl
  | succ n ih => simp [State.readWords, ih]

theorem State.windowRead_of_not_serving {s : State} (h : s.hio.serving = false) (a n : Nat) (part : Bool) :
    s.windowRead a n part = s.emit (.window 2 (List.replicate n 0)) := by
  simp [State.windowRead, h]

theorem State.windowRead_of_addressCause {s : State} {a n c : Nat} (h : s.hio.serving = true) (hc : addressCause a n = some c)
    (part : Bool) : s.windowRead a n part = (s.violate a false c n 0).emit (.window 1 (List.replicate n 0)) := by
  simp [State.windowRead, h, hc]

theorem State.windowRead_of_readMisused {s : State} {a n : Nat} (h : s.hio.serving = true) (hc : addressCause a n = none)
    (hm : s.readMisused a = true) (part : Bool) :
    s.windowRead a n part = (s.violate a false 4 n 0).emit (.window 1 (List.replicate n 0)) := by
  unfold State.readMisused at hm
  simp only [State.windowRead, h, hc, hm, Bool.not_true, Bool.false_eq_true, if_true, if_false]

/-- A valid read answers its words; a violation that one of them makes on the way is recorded and voids nothing (R609). -/
theorem State.windowRead_of_valid {s : State} {a n : Nat} (h : s.hio.serving = true) (hc : addressCause a n = none)
    (hm : s.readMisused a = false) :
    s.windowRead a n false =
      (State.readWords (fun c w => w.violate a false c n 0) n a s).2.emit
        (.window 0 (State.readWords (fun c w => w.violate a false c n 0) n a s).1) := by
  unfold State.readMisused at hm
  simp only [State.windowRead, h, hc, hm, Bool.not_true, Bool.false_eq_true, if_false, whenDo_false]

theorem State.windowWrite_of_not_serving {s : State} (h : s.hio.serving = false) (a : Nat) (ws : List Nat) (part : Bool) :
    s.windowWrite a ws part = s := by
  simp [State.windowWrite, h]

theorem exec_windowRead_of_run {s : State} (h : s.sys.mode = .run) (a : Word) (n : Nat) (part : Bool) :
    exec (.windowRead a n part) s = .next (s.windowRead a.toNat n part) :=
  live_run h (fun s => s.windowRead a.toNat n part)

theorem exec_windowWrite_of_run {s : State} (h : s.sys.mode = .run) (a : Word) (ws : List Word) (part : Bool) :
    exec (.windowWrite a ws part) s = .next (s.windowWrite a.toNat (ws.map (·.toNat)) part) :=
  live_run h (fun s => s.windowWrite a.toNat (ws.map BitVec.toNat) part)

/-- HOSTIO begins to serve, where 50 ms have passed since the start and it does not serve yet. -/
theorem exec_hostioServingStart_of_run {s : State} (h : s.sys.mode = .run) : exec .hostioServingStart s =
    .next (whenDo (!s.hio.serving && decide (s.sys.startAt + 50000000 ≤ s.el))
      (fun s => { s with hio := { s.hio with serving := true } }) s) :=
  live_run h _

/-! ### The window log and its ring (R615)

What an operation other than a violation does to them is told by `State.violLogs`: the operations that enter reset and start from it
leave the pair, save `State.bootClear`, which empties the window log. -/

/-- The window log and the ring of its copies. -/
def State.violLogs (s : State) : List Viol × List Viol := (s.hio.vlog, s.nv.violRing)

theorem State.raise_violLogs (s : State) (e : Ev) (p1 p2 fl : Nat) : (s.raise e p1 p2 fl).violLogs = s.violLogs := rfl

/-- What both branches of a choice leave, the choice leaves. -/
theorem violLogs_ite {c : Prop} [Decidable c] {t u : State} {x : List Viol × List Viol} (ht : t.violLogs = x) (hu : u.violLogs = x) :
    (if c then t else u).violLogs = x := by
  split
  · exact ht
  · exact hu

/-- A fold leaves a projection that none of its steps changes. -/
theorem foldl_eq {σ α β : Type} {π : σ → β} {f : σ → α → σ} (hf : ∀ s a, π (f s a) = π s) (l : List α) (s : σ) :
    π (l.foldl f s) = π s := by
  induction l generalizing s with
  | nil => rfl
  | cons a l ih => exact (ih (f s a)).trans (hf s a)

/-- A loop over numbers leaves a projection that none of its steps changes. -/
theorem forNums_eq {σ α : Type} {π : σ → α} {l : List Nat} {f : σ → Nat → σ} (hf : ∀ s i, π (f s i) = π s) (s : σ) :
    π (forNums l s f) = π s :=
  foldl_eq hf l s

/-! #### Entering reset -/

theorem State.edgeNote_violLogs (s : State) (n ev stamp : Nat) : (s.edgeNote n ev stamp).violLogs = s.violLogs := by
  unfold State.edgeNote
  split <;> rfl

theorem State.modSlot_violLogs (s : State) (n : Nat) (f : Slot → Slot) : (s.modSlot n f).violLogs = s.violLogs := by
  unfold State.modSlot
  dsimp only
  refine (violLogs_ite rfl (State.edgeNote_violLogs _ _ _ _)).trans ?_
  exact violLogs_ite rfl (State.edgeNote_violLogs _ _ _ _)

theorem State.pwmStop_violLogs (s : State) (g : Fin 8) : (s.pwmStop g).violLogs = s.violLogs :=
  forNums_eq (π := State.violLogs) (fun t n => t.modSlot_violLogs n _) s

theorem State.loopIdle_violLogs (s : State) (g : Fin 8) : (s.loopIdle g).violLogs = s.violLogs :=
  forNums_eq (π := State.violLogs) (fun t n => t.modSlot_violLogs n _) s

theorem State.groupLow_violLogs (s : State) (g : Fin 8) : (s.groupLow g).violLogs = s.violLogs :=
  ((s.pwmStop g).loopIdle_violLogs g).trans (s.pwmStop_violLogs g)

theorem State.commitCut_violLogs (s : State) : s.commitCut.violLogs = s.violLogs := by
  unfold State.commitCut
  split
  · dsimp only
    split <;> rfl
  · rfl

theorem State.enterReset_violLogs (s : State) (cause : Nat) : (s.enterReset cause).violLogs = s.violLogs :=
  (State.commitCut_violLogs _).trans (forFin_eq (π := State.violLogs) State.groupLow_violLogs s)

/-! #### Reset release -/

theorem State.swState_violLogs (s : State) (n : Fin 24) (st : SwState) : (s.swState n st).violLogs = s.violLogs := by
  unfold State.swState
  dsimp only
  split <;> rfl

theorem State.swTurnOff_violLogs (s : State) (n : Fin 24) (st : SwState) : (s.swTurnOff n st).violLogs = s.violLogs := by
  unfold State.swTurnOff
  dsimp only
  split
  · rfl
  · exact State.swState_violLogs _ n st

theorem State.nonKeepOff_violLogs (s : State) : s.nonKeepOff.violLogs = s.violLogs := by
  refine forFin_eq (π := State.violLogs) (fun t n => ?_) s
  exact violLogs_ite rfl (violLogs_ite (t.swTurnOff_violLogs n _) (violLogs_ite rfl (t.swState_violLogs n _)))

@[simp] theorem State.mrec_hio (s : State) (code p1 p2 st : Nat) : (s.mrec code p1 p2 st).hio = s.hio := by
  unfold State.mrec
  dsimp only
  split <;> rfl

@[simp] theorem State.mrec_nv (s : State) (code p1 p2 st : Nat) : (s.mrec code p1 p2 st).nv = s.nv := by
  unfold State.mrec
  dsimp only
  split <;> rfl

theorem State.mrec_violLogs (s : State) (code p1 p2 st : Nat) : (s.mrec code p1 p2 st).violLogs = s.violLogs := by
  simp [State.violLogs]

theorem State.dfltUpdate_violLogs (s : State) : s.dfltUpdate.violLogs = s.violLogs := by
  unfold State.dfltUpdate
  dsimp only
  split <;> simp [State.violLogs]

theorem State.tellBilling_violLogs {f : State → State} (hf : ∀ t : State, (f t).violLogs = t.violLogs) (s : State) :
    (s.tellBilling f).violLogs = s.violLogs := by
  unfold State.tellBilling whenDo
  split
  · exact hf s
  · rfl

theorem State.modTime_violLogs (s : State) (f : TimeS → TimeS) : (s.modTime f).violLogs = s.violLogs := rfl

theorem State.srcInit_violLogs (s : State) (clear : Bool) : (s.srcInit clear).violLogs = s.violLogs := rfl

/-- Taking the level told at the start of time, stored or free (entry 222). -/
theorem State.storedLevel_violLogs (s : State) :
    (if s.vbat.levelKept then (s.vbat.quality.code, s) else s.free).2.violLogs = s.violLogs := by
  split <;> rfl

theorem State.loadTime_violLogs (s : State) (elapsed : Nat) (wake : Bool) : (s.loadTime elapsed wake).violLogs = s.violLogs := by
  unfold State.loadTime
  refine (State.tellBilling_violLogs State.dfltUpdate_violLogs _).trans ?_
  refine (violLogs_ite rfl (State.raise_violLogs _ _ _ _ _)).trans ?_
  refine (State.srcInit_violLogs _ _).trans ?_
  refine (violLogs_ite rfl (State.raise_violLogs _ _ _ _ _)).trans ?_
  refine (violLogs_ite rfl (State.modTime_violLogs _ _)).trans ?_
  exact s.storedLevel_violLogs

theorem State.sealRecord_violLogs (s : State) (powered : Bool) : (s.sealRecord powered).violLogs = s.violLogs := by
  refine foldl_eq (π := State.violLogs) (fun t _ => ?_) _ _
  refine (violLogs_ite (State.raise_violLogs _ _ _ _ _) rfl).trans ?_
  exact violLogs_ite rfl (t.mrec_violLogs _ _ _ _)

theorem State.tamperRecords_violLogs (s : State) (late : Bool) : (s.tamperRecords late).violLogs = s.violLogs :=
  foldl_eq (π := State.violLogs) (fun t _ => (State.raise_violLogs _ _ _ _ _).trans (t.mrec_violLogs _ _ _ _)) _ _

theorem State.sealAtPower_violLogs (s : State) (powered : Bool) : (s.sealAtPower powered).violLogs = s.violLogs :=
  (State.tamperRecords_violLogs _ _).trans (s.sealRecord_violLogs powered)

theorem State.bootMetro_violLogs (s : State) (cause : Nat) : (s.bootMetro cause).violLogs = s.violLogs := by
  unfold State.bootMetro
  dsimp only
  split
  · exact State.mrec_violLogs _ _ _ _ _
  · rfl

theorem State.faultRecords_violLogs (s : State) (sramLost : Bool) (cause : Nat) :
    (s.faultRecords sramLost cause).violLogs = s.violLogs := by
  unfold State.faultRecords
  extract_lets t
  have ht : t.violLogs = s.violLogs := by
    refine foldl_eq (π := State.violLogs) (fun u x => ?_) _ _
    split <;> rfl
  clear_value t
  split <;> exact ht

theorem State.thermClear_violLogs (s : State) (throughReset : Bool) : (s.thermClear throughReset).violLogs = s.violLogs := rfl

theorem State.swLose_violLogs (s : State) : s.swLose.violLogs = s.violLogs := by
  simp only [State.swLose, State.violLogs]

theorem State.swapImages_violLogs (s : State) : s.swapImages.violLogs = s.violLogs := by
  unfold State.swapImages
  dsimp only
  split <;> rfl

theorem State.bootNv_violLogs (s : State) : s.bootNv.violLogs = s.violLogs := by
  unfold State.bootNv
  dsimp only
  split
  · exact s.swapImages_violLogs
  · rfl

/-- What a reset forgets includes the window log and not the ring. -/
theorem State.bootClear_violLogs (s : State) (powerOn : Bool) : (s.bootClear powerOn).violLogs = ([], s.violLogs.2) := by
  simp only [State.bootClear, State.violLogs]

theorem State.restart_violLogs (s : State) (site : Fin 16) (twinB tcxo : Bool) (e : Nat) :
    (s.restart site twinB tcxo e).violLogs = ([], s.violLogs.2) := by
  unfold State.restart
  extract_lets asked cause lostSw lost strap bill strapped timed seqr vbat started found recorded raised
  have hlost : lostSw.violLogs = s.violLogs := violLogs_ite s.swLose_violLogs rfl
  have htimed : timed.violLogs = ([], s.violLogs.2) := by
    calc timed.violLogs
      _ = ([], strapped.bootNv.violLogs.2) := by rw [State.loadTime_violLogs, State.bootClear_violLogs]
      _ = ([], lostSw.violLogs.2) := by rw [State.bootNv_violLogs]; rfl
      _ = ([], s.violLogs.2) := by rw [hlost]
  have hfound : found.violLogs = ([], s.violLogs.2) := by
    rw [State.sealAtPower_violLogs, State.bootMetro_violLogs, State.nonKeepOff_violLogs]
    exact htimed
  have hrecorded : recorded.violLogs = ([], s.violLogs.2) := (State.faultRecords_violLogs _ _ _).trans hfound
  have hraised : raised.violLogs = ([], s.violLogs.2) := violLogs_ite hrecorded hrecorded
  exact violLogs_ite ((State.thermClear_violLogs _ _).trans hraised) hraised

/-! #### A violation -/

/-- The entry that a violation leaves (R614). -/
def State.violEntry (s : State) (addr : Nat) (write : Bool) (cause words data : Nat) : Viol :=
  { st := s.st, addr, write, cause, words := min words 0xFFFF, seq := (s.hio.vseq + 1) % 2 ^ 32, data }

/-- A violation puts its entry behind the window log, which loses its oldest one when it is full, and before the ring. -/
theorem State.violate_violLogs (s : State) (addr : Nat) (write : Bool) (cause words data : Nat) :
    (s.violate addr write cause words data).violLogs =
      ((if 64 ≤ s.hio.vlog.length then s.hio.vlog.drop 1 else s.hio.vlog) ++ [s.violEntry addr write cause words data],
        (s.violEntry addr write cause words data :: s.nv.violRing).take 256) := by
  unfold State.violate
  extract_lets seq v due full lostOne hio nv recorded
  refine (violLogs_ite (State.raise_violLogs recorded _ _ _ _) rfl).trans ?_
  simp only [State.violLogs, State.violEntry, recorded, full, v, seq, decide_eq_true_eq]

end Sys2Proof.Machine

namespace Sys2Proof.Proofs

open Sys2Proof Sys2Proof.Machine

/-- Settles O53: the byte is its five flags, each at its place. -/
theorem statusByteBits : Obligations.StatusByteBits := by
  intro s hrun
  refine ⟨s.hostStatus, s.hostStatus_lt, exec_hostioStatusRead_of_run hrun, ?_⟩
  rw [s.hostStatus_eq]
  simp only [bit_b01_add_zero, bit_b01_add_succ]
  simp [bit]

/-- Settles O54: the four ways a read goes, and the condition under which HOSTIO begins to serve. -/
theorem windowReadResponses : Obligations.WindowReadResponses := by
  intro s a n hrun q misused
  refine ⟨fun hserve hcause hok => ?_, fun c part hserve hcause => ?_, fun part hserve hcause hmisused => ?_,
    fun part hserve => ?_, fun ws part hserve => ?_, fun hserve hearly => ?_, fun hdue => ?_⟩
  · rw [exec_windowRead_of_run hrun, State.windowRead_of_valid hserve hcause hok]
    exact ⟨_, _, State.readWords_length _ n a.toNat s, rfl⟩
  · rw [exec_windowRead_of_run hrun, State.windowRead_of_addressCause hserve hcause]
  · rw [exec_windowRead_of_run hrun, State.windowRead_of_readMisused hserve hcause hmisused]
  · rw [exec_windowRead_of_run hrun, State.windowRead_of_not_serving hserve]
  · rw [exec_windowWrite_of_run hrun, State.windowWrite_of_not_serving hserve]
  · have hnot : decide (s.sys.startAt + 50000000 ≤ s.el) = false := decide_eq_false (by omega)
    rw [exec_hostioServingStart_of_run hrun, hnot, Bool.and_false, whenDo_false]
  · rw [exec_hostioServingStart_of_run hrun, decide_eq_true hdue, Bool.and_true]
    cases hserve : s.hio.serving
    · exact ⟨_, rfl, rfl⟩
    · exact ⟨s, rfl, hserve⟩

/-- Settles O56: of what a reset does, only `State.bootClear` touches the logs, and it empties the window log alone. -/
theorem windowLogThroughReset : Obligations.WindowLogThroughReset := by
  refine ⟨fun s site twinB tcxo e => ?_, fun s cause => ?_, fun s addr write cause words data => ?_⟩
  · exact Prod.mk.inj (s.restart_violLogs site twinB tcxo e)
  · exact congrArg Prod.snd (s.enterReset_violLogs cause)
  · obtain ⟨hlog, hring⟩ := Prod.mk.inj (s.violate_violLogs addr write cause words data)
    exact ⟨s.violEntry addr write cause words data, by rw [hlog, List.getLast?_concat], hring⟩

end Sys2Proof.Proofs

/-! Words of the hardware queues: what packing puts into them, and what a stream, a partial read and an event record make of it. -/

namespace Sys2Proof.Machine

/-! ### Reading bytes and writing them again (R9) -/

theorem le_length (n v : Nat) : (le n v).length = n := by
  induction n generalizing v with
  | zero => rfl
  | succ n ih => exact congrArg (· + 1) (ih (v / 256))

theorem le_zero_eq_replicate (n : Nat) : le n 0 = List.replicate n 0 := by
  induction n with
  | zero => rfl
  | succ n ih => rw [le, Nat.zero_div, ih]; rfl

theorem u8_cons_zero (b : Byte) (bs : Bytes) : u8 (b :: bs) 0 = b.toNat := rfl

theorem u8_lt (bs : Bytes) (o : Nat) : u8 bs o < 256 := BitVec.isLt _

/-- Past the end the bytes read are zero. -/
theorem uN_nil (n o : Nat) : uN n [] o = 0 := by
  induction n generalizing o with
  | zero => rfl
  | succ n ih => rw [uN, ih, u8, List.getD_nil]; rfl

theorem uN_cons_succ (n : Nat) (b : Byte) (bs : Bytes) (o : Nat) : uN n (b :: bs) (o + 1) = uN n bs o := by
  induction n generalizing o with
  | zero => rfl
  | succ n ih => rw [uN, uN, ih, u8, u8, List.getD_cons_succ]

theorem uN_lt (n : Nat) (bs : Bytes) (o : Nat) : uN n bs o < 256 ^ n := by
  induction n generalizing o with
  | zero => exact Nat.one_pos
  | succ n ih =>
    have hhead := u8_lt bs o
    have htail := ih (o + 1)
    rw [uN, Nat.pow_succ]
    omega

/-- Bytes read as a number and written again are themselves, padded with zero bytes. -/
theorem le_uN {bs : Bytes} {m n : Nat} (hm : bs.length ≤ m) (hn : bs.length ≤ n) :
    le n (uN m bs 0) = bs ++ List.replicate (n - bs.length) 0 := by
  induction bs generalizing m n with
  | nil => rw [uN_nil, le_zero_eq_replicate]; rfl
  | cons b bs ih =>
    obtain ⟨m, rfl⟩ : ∃ k, m = k + 1 := ⟨m - 1, by simp at hm; omega⟩
    obtain ⟨n, rfl⟩ : ∃ k, n = k + 1 := ⟨n - 1, by simp at hn; omega⟩
    have hhead : BitVec.ofNat 8 (b.toNat + 256 * uN m bs 0) = b := by
      apply BitVec.eq_of_toNat_eq
      have := b.isLt
      simp only [BitVec.toNat_ofNat]
      omega
    have htail : (b.toNat + 256 * uN m bs 0) / 256 = uN m bs 0 := by
      have := b.isLt
      omega
    rw [uN, u8_cons_zero, uN_cons_succ, le, hhead, htail, ih (Nat.le_of_succ_le_succ hm) (Nat.le_of_succ_le_succ hn),
      List.length_cons, Nat.add_sub_add_right, List.cons_append]

/-! ### One word (R636) -/

/-- The valid bytes of a word, in order. -/
def QWord.bytes (w : QWord) : Bytes := (le 8 w.data).take w.valid

/-- A word has 1 to 8 valid bytes in 64 bits, and zero bytes above them. -/
def QWord.Padded (w : QWord) : Prop :=
  1 ≤ w.valid ∧ w.valid ≤ 8 ∧ w.data < 2 ^ 64 ∧ (le 8 w.data).drop w.valid = List.replicate (8 - w.valid) 0

theorem QWord.bytes_of_whole {w : QWord} (h : w.valid = 8) : w.bytes = le 8 w.data := by
  rw [QWord.bytes, h]
  exact List.take_of_length_le (Nat.le_of_eq (le_length 8 _))

/-- The word that packing makes of up to 8 bytes. -/
def QWord.pack (h : Bytes) (last : Bool) : QWord := { data := uN 8 h 0, valid := h.length, last }

theorem QWord.pack_data_bytes {h : Bytes} (hle : h.length ≤ 8) (last : Bool) :
    le 8 (QWord.pack h last).data = h ++ List.replicate (8 - h.length) 0 :=
  le_uN hle hle

theorem QWord.pack_bytes {h : Bytes} (hle : h.length ≤ 8) (last : Bool) : (QWord.pack h last).bytes = h := by
  rw [QWord.bytes, QWord.pack_data_bytes hle]
  exact List.take_left

theorem QWord.pack_padded {h : Bytes} (hne : h ≠ []) (hle : h.length ≤ 8) (last : Bool) : (QWord.pack h last).Padded := by
  refine ⟨List.length_pos_iff.mpr hne, hle, uN_lt 8 h 0, ?_⟩
  rw [QWord.pack_data_bytes hle]
  exact List.drop_left

/-! ### The words of a packet (R636, R637) -/

theorem packWords_nil (n : Nat) : packWords n [] = [] := by cases n <;> rfl

theorem packWords_succ {bs : Bytes} (h : bs ≠ []) (n : Nat) :
    packWords (n + 1) bs = QWord.pack (bs.take 8) (decide (bs.length ≤ 8)) :: packWords n (bs.drop 8) := by
  cases bs with
  | nil => exact absurd rfl h
  | cons b bs => rfl

/-- Packing recurses 8 bytes at a time, while there are bytes and words for them. -/
theorem packWords_induction {motive : ∀ n (bs : Bytes), bs.length ≤ 8 * n → Prop} (nil : ∀ n h, motive n [] h)
    (cons : ∀ n bs h hdrop, bs ≠ [] → motive n (bs.drop 8) hdrop → motive (n + 1) bs h) (n : Nat) (bs : Bytes)
    (h : bs.length ≤ 8 * n) : motive n bs h := by
  induction n generalizing bs with
  | zero =>
    obtain rfl := List.eq_nil_of_length_eq_zero (Nat.le_zero.mp h)
    exact nil 0 h
  | succ n ih =>
    by_cases hbs : bs = []
    · subst hbs; exact nil _ h
    · exact cons n bs h (by rw [List.length_drop]; omega) hbs (ih _ _)

theorem packWords_flatMap_bytes {n : Nat} {bs : Bytes} (h : bs.length ≤ 8 * n) : (packWords n bs).flatMap QWord.bytes = bs := by
  induction n, bs, h using packWords_induction with
  | nil n h => rw [packWords_nil]; rfl
  | cons n bs h hdrop hne ih =>
    rw [packWords_succ hne, List.flatMap_cons, ih, QWord.pack_bytes (List.length_take_le 8 bs), List.take_append_drop]

theorem packWords_padded {n : Nat} {bs : Bytes} (h : bs.length ≤ 8 * n) : ∀ w ∈ packWords n bs, w.Padded := by
  induction n, bs, h using packWords_induction with
  | nil n h => rw [packWords_nil]; exact nofun
  | cons n bs h hdrop hne ih =>
    have htake : bs.take 8 ≠ [] := by simpa using hne
    rw [packWords_succ hne]
    exact List.forall_mem_cons.mpr ⟨QWord.pack_padded htake (List.length_take_le 8 bs) _, ih⟩

/-- Only the last word can be incomplete: before it 8 bytes were there to take. -/
theorem packWords_dropLast_valid {n : Nat} {bs : Bytes} (h : bs.length ≤ 8 * n) : ∀ w ∈ (packWords n bs).dropLast, w.valid = 8 := by
  induction n, bs, h using packWords_induction with
  | nil n h => rw [packWords_nil]; exact nofun
  | cons n bs h hdrop hne ih =>
    rw [packWords_succ hne]
    by_cases hmore : bs.drop 8 = []
    · rw [hmore, packWords_nil]; exact nofun
    · have hlen : 8 ≤ bs.length := Nat.le_of_not_le fun hle => hmore (List.drop_eq_nil_of_le hle)
      by_cases hws : packWords n (bs.drop 8) = []
      · rw [hws]; exact nofun
      · rw [List.dropLast_cons_of_ne_nil hws]
        exact List.forall_mem_cons.mpr ⟨List.length_take_of_le hlen, ih⟩

/-! ### The words of an event record (R640) -/

/-- Whole words are all complete, and none of them is tagged as a first word. -/
theorem packWords_tags_of_whole {n : Nat} {bs : Bytes} (h : bs.length = 8 * n) :
    (packWords n bs).map (fun w => (w.valid, w.first)) = List.replicate n (8, false) := by
  induction n generalizing bs with
  | zero => rfl
  | succ n ih =>
    have hne : bs ≠ [] := List.ne_nil_of_length_pos (by omega)
    have hhead : (bs.take 8).length = 8 := List.length_take_of_le (by omega)
    have htail := ih (bs := bs.drop 8) (by rw [List.length_drop]; omega)
    rw [packWords_succ hne, List.map_cons, htail, List.replicate_succ, QWord.pack, hhead]

/-- The first-word tag changes no byte of a record. -/
theorem recordWords_flatMap_bytes {bs : Bytes} (h : bs.length ≤ 24) : (recordWords bs).flatMap QWord.bytes = bs := by
  have hpack := packWords_flatMap_bytes (n := 3) h
  unfold recordWords
  cases hws : packWords 3 bs with
  | nil => rwa [hws] at hpack
  | cons w ws => rwa [hws] at hpack

theorem recordWords_tags {bs : Bytes} (h : bs.length = 24) :
    (recordWords bs).map (fun w => (w.valid, w.first)) = [(8, true), (8, false), (8, false)] := by
  have htags := packWords_tags_of_whole (n := 3) h
  unfold recordWords
  cases hws : packWords 3 bs with
  | nil => rw [hws] at htags; cases htags
  | cons w ws =>
    rw [hws, List.map_cons] at htags
    obtain ⟨hhead, htail⟩ := List.cons.inj htags
    rw [List.map_cons, htail, (Prod.mk.inj hhead).1]
    rfl

theorem recordWords_valid {bs : Bytes} (h : bs.length = 24) : ∀ w ∈ recordWords bs, w.valid = 8 := by
  intro w hw
  have hmem := List.mem_map_of_mem (f := fun w : QWord => (w.valid, w.first)) hw
  rw [recordWords_tags h] at hmem
  simp only [List.mem_cons, List.not_mem_nil, or_false, Prod.mk.injEq] at hmem
  omega

theorem EvRec.bytes_length (r : EvRec) : r.bytes.length = 24 := by
  simp [EvRec.bytes, le_length]

/-! ### The words of a stream (R636, R639) -/

theorem tagLost_length (lost : Bool) (ws : List QWord) : (tagLost lost ws).length = ws.length := by
  cases ws <;> rfl

/-- Words appended where SRAM holds them, with nothing open, spilled or behind, follow those that stand there. -/
theorem Queue.append_of_room {q : Queue} {ws : List QWord} (hopen : q.open_ = none) (hspilled : q.spilled = [])
    (hbehind : q.behind = []) (hroom : q.sramFill + ws.length ≤ q.cfg.capacity) (stay : Bool) :
    q.append ws stay = { q with words := q.words ++ tagLost q.lostNext ws, lostNext := false, dropRaised := false } := by
  have hclosed : ¬ q.open_.isSome = true := by simp [hopen]
  have hordered : ¬ (q.spilled ≠ [] ∨ q.behind ≠ []) := by simp [hspilled, hbehind]
  have hfree : ¬ (q.spilled ≠ [] ∨ q.behind ≠ [] ∨ q.cfg.capacity < q.sramFill + (tagLost q.lostNext ws).length) := by
    simpa [hspilled, hbehind, tagLost_length] using hroom
  unfold Queue.append
  exact (if_neg hclosed).trans ((if_neg (fun ⟨_, _, h⟩ => hordered h)).trans (if_neg (fun ⟨_, _, _, h⟩ => hfree h)))

/-- A partial word gives up the place it holds in SRAM when it is completed. -/
theorem Queue.sramFill_of_part {q : Queue} (h : q.part ≠ []) : ({ q with part := [] } : Queue).sramFill + 1 = q.sramFill := by
  unfold Queue.sramFill Queue.openWords
  rw [if_neg h]
  rfl

/-- An item that leaves the word incomplete joins the partial word, and changes of its queue no more than the watermark state. -/
theorem State.offerItem_of_incomplete {s : State} {i : Fin 128} {bs : Bytes} (hlen : s.queues[i].part.length + bs.length < 8)
    (hfits : s.queues[i].part ≠ [] ∨ s.queueFits i 1 = true) :
    ∃ b, (s.offerItem i bs).queues[i] = { s.queues[i] with part := s.queues[i].part ++ bs, isHigh := b } := by
  have htaken : (decide (s.queues[i].part = []) && !s.queueFits i 1) = false := by
    rcases hfits with hpart | hroom
    · rw [decide_eq_false hpart, Bool.false_and]
    · rw [hroom, Bool.not_true, Bool.and_false]
  have hshort : (s.queues[i].part ++ bs).length < 8 := by rwa [List.length_append]
  simp only [State.offerItem, htaken, hshort, Bool.false_eq_true, if_true, if_false]
  split
  · exact s.putQueue_words i _
  · exact ⟨s.queues[i].isHigh, by simp⟩

/-- An item that completes the partial word puts it behind the words that stand there. -/
theorem State.offerItem_of_complete {s : State} {i : Fin 128} {bs : Bytes} (hlen : s.queues[i].part.length + bs.length = 8)
    (hpart : s.queues[i].part ≠ []) (hopen : s.queues[i].open_ = none) (hspilled : s.queues[i].spilled = [])
    (hbehind : s.queues[i].behind = []) (hroom : s.queues[i].sramFill ≤ s.queues[i].cfg.capacity) :
    ∃ b, (s.offerItem i bs).queues[i] = { s.queues[i] with
      part := []
      words := s.queues[i].words ++ [{ data := uN 8 (s.queues[i].part ++ bs) 0, valid := 8, lost := s.queues[i].lostNext }]
      lostNext := false, dropRaised := false, isHigh := b } := by
  have hlong : ¬ (s.queues[i].part ++ bs).length < 8 := by rw [List.length_append]; omega
  have hplace := Nat.le_trans (Nat.le_of_eq (Queue.sramFill_of_part hpart)) hroom
  have hput : s.offerItem i bs = s.putQueue i (({ s.queues[i] with part := [] } : Queue).append
      [{ data := uN 8 (s.queues[i].part ++ bs) 0 }] s.paused) := by
    simp only [State.offerItem, hpart, hlong, decide_false, Bool.false_and, Bool.false_eq_true, if_false]
  rw [hput.trans (congrArg (s.putQueue i)
    (Queue.append_of_room (q := { s.queues[i] with part := [] }) (ws := [_]) hopen hspilled hbehind hplace s.paused))]
  exact s.putQueue_words i _

/-- A read that finds only a partial word takes it. -/
theorem Queue.pop_of_part {q : Queue} (hwords : q.words = []) (hspilled : q.spilled = []) (hbehind : q.behind = [])
    (hpart : q.part ≠ []) :
    q.pop = (some { data := uN q.part.length q.part 0, valid := q.part.length, lost := q.lostNext },
      { q with part := [], lostNext := false, dropRaised := false }) := by
  unfold Queue.pop
  rw [hwords, hspilled, hbehind]
  cases q.open_ <;> exact if_neg hpart

end Sys2Proof.Machine

namespace Sys2Proof.Proofs

open Sys2Proof Sys2Proof.Machine

/-- Settles O58: a record has 24 bytes, which pack into three complete words. -/
theorem eventRecordIsThreeWords : Obligations.EventRecordIsThreeWords := by
  intro r
  refine ⟨recordWords_tags r.bytes_length, ?_⟩
  calc (recordWords r.bytes).flatMap (fun w => le 8 w.data)
    _ = (recordWords r.bytes).flatMap QWord.bytes := by
      have hbytes : ∀ w ∈ recordWords r.bytes, le 8 w.data = w.bytes := fun w hw =>
        (QWord.bytes_of_whole (recordWords_valid r.bytes_length w hw)).symm
      rw [List.flatMap_def, List.flatMap_def, List.map_congr_left hbytes]
    _ = r.bytes := recordWords_flatMap_bytes (Nat.le_of_eq r.bytes_length)

/-- Settles O57: of packets and records by induction along the packing, of streams and partial reads by what `offerItem`
and `pop` do. -/
theorem wordsArePackedInOrder : Obligations.WordsArePackedInOrder := by
  refine ⟨fun bs => ?_, fun bs h => recordWords_flatMap_bytes (Nat.le_of_eq h), fun s i bs _ hlen hfits => ?_,
    fun s i bs hlen hpart hopen hspilled hbehind hroom => ?_, fun q hwords hspilled hbehind hpart hlen => ?_⟩
  · have hfuel : bs.length ≤ 8 * bs.length := by omega
    exact ⟨packWords_flatMap_bytes hfuel, packWords_padded hfuel, packWords_dropLast_valid hfuel⟩
  · obtain ⟨b, h⟩ := State.offerItem_of_incomplete hlen hfits
    rw [h]
    exact ⟨rfl, rfl⟩
  · obtain ⟨b, h⟩ := State.offerItem_of_complete hlen hpart hopen hspilled hbehind hroom
    rw [h]
    exact ⟨rfl, rfl⟩
  · rw [Queue.pop_of_part hwords hspilled hbehind hpart]
    exact ⟨_, rfl, rfl, le_uN (Nat.le_refl _) (Nat.le_of_lt hlen), rfl⟩

end Sys2Proof.Proofs

/-! A packet read back: the header of R593 lies before the payload, the CRC of R594 and a tag behind it, and each is found at its offset. -/

namespace Sys2Proof.Machine

/-! ### Fields at their offsets (R9) -/

theorem u8_append_right (as bs : Bytes) (o : Nat) : u8 (as ++ bs) (as.length + o) = u8 bs o := by
  rw [u8, u8, List.getD_eq_getElem?_getD, List.getD_eq_getElem?_getD, List.getElem?_append_right (Nat.le_add_right ..),
    Nat.add_sub_cancel_left]

theorem uN_append_right (n : Nat) (as bs : Bytes) (o : Nat) : uN n (as ++ bs) (as.length + o) = uN n bs o := by
  induction n generalizing o with
  | zero => rfl
  | succ n ih => rw [uN, uN, u8_append_right, Nat.add_assoc, ih]

/-- A number written in enough bytes is read back from the front. -/
theorem uN_le_append {n v : Nat} (h : v < 256 ^ n) (bs : Bytes) : uN n (le n v ++ bs) 0 = v := by
  induction n generalizing v with
  | zero => rw [uN]; rw [Nat.pow_zero] at h; omega
  | succ n ih =>
    have htail : v / 256 < 256 ^ n := Nat.div_lt_of_lt_mul (by rwa [Nat.pow_succ, Nat.mul_comm] at h)
    rw [le, List.cons_append, uN, u8_cons_zero, uN_cons_succ, ih htail, BitVec.toNat_ofNat]
    omega

/-- A number written in enough bytes is read back at the offset where it stands. -/
theorem uN_field {n v o : Nat} (h : v < 256 ^ n) (pre post : Bytes) (ho : pre.length = o) :
    uN n (pre ++ (le n v ++ post)) o = v := by
  rw [← ho]
  exact (uN_append_right n pre _ 0).trans (uN_le_append h post)

theorem u8_field {v o : Nat} (h : v < 256) (pre post : Bytes) (ho : pre.length = o) : u8 (pre ++ (le 1 v ++ post)) o = v := by
  have := uN_field (n := 1) h pre post ho
  rwa [uN, uN, Nat.mul_zero, Nat.add_zero] at this

theorem sub_field {o n : Nat} (pre bs post : Bytes) (ho : pre.length = o) (hn : bs.length = n) :
    sub (pre ++ (bs ++ post)) o n = bs := by
  rw [sub, ← ho, ← hn, List.drop_left, List.take_left]

/-! ### The CRC fits its four bytes (R594) -/

theorem crcBitR_lt {c : Nat} (h : c < 2 ^ 32) : crcBitR 0x82F63B78 c < 2 ^ 32 := by
  have half : c / 2 < 2 ^ 32 := by omega
  unfold crcBitR
  split
  · exact Nat.xor_lt_two_pow half (by decide)
  · exact half

theorem crcByteR_lt {c : Nat} (h : c < 2 ^ 32) (b : Byte) : crcByteR 0x82F63B78 c b < 2 ^ 32 := by
  have hb : b.toNat < 2 ^ 32 := Nat.lt_trans b.isLt (by decide)
  exact crcBitR_lt (crcBitR_lt (crcBitR_lt (crcBitR_lt (crcBitR_lt (crcBitR_lt (crcBitR_lt (crcBitR_lt
    (Nat.xor_lt_two_pow h hb))))))))

theorem foldl_crcByteR_lt (bs : Bytes) {c : Nat} (h : c < 2 ^ 32) : bs.foldl (crcByteR 0x82F63B78) c < 2 ^ 32 := by
  induction bs generalizing c with
  | nil => exact h
  | cons b bs ih => exact ih (crcByteR_lt h b)

theorem crc32c_lt (bs : Bytes) : crc32c bs < 2 ^ 32 :=
  Nat.xor_lt_two_pow (foldl_crcByteR_lt bs (by decide)) (by decide)

/-! ### The header of R593 -/

theorem ccpHeader_length (flags code seq len target : Nat) : (ccpHeader flags code seq len target).length = 16 := by
  simp [ccpHeader, le_length]

section

variable {flags code seq len target : Nat} (rest : Bytes)

theorem u8_ccpHeader_version : u8 (ccpHeader flags code seq len target ++ rest) 0 = 3 := rfl

theorem u8_ccpHeader_flags (h : flags < 256) : u8 (ccpHeader flags code seq len target ++ rest) 1 = flags := by
  simp only [ccpHeader, List.append_assoc]
  exact u8_field h [3] _ rfl

theorem u16_ccpHeader_code (h : code < 2 ^ 16) : u16 (ccpHeader flags code seq len target ++ rest) 2 = code := by
  simp only [ccpHeader, List.append_assoc]
  exact uN_field (n := 2) h ([3] ++ le 1 flags) _ rfl

theorem u32_ccpHeader_seq (h : seq < 2 ^ 32) : u32 (ccpHeader flags code seq len target ++ rest) 4 = seq := by
  simp only [ccpHeader, List.append_assoc]
  exact uN_field (n := 4) h ([3] ++ le 1 flags ++ le 2 code) _ rfl

theorem u16_ccpHeader_len (h : len < 2 ^ 16) : u16 (ccpHeader flags code seq len target ++ rest) 8 = len := by
  simp only [ccpHeader, List.append_assoc]
  exact uN_field (n := 2) h ([3] ++ le 1 flags ++ le 2 code ++ le 4 seq) _ rfl

theorem u16_ccpHeader_target (h : target < 2 ^ 16) : u16 (ccpHeader flags code seq len target ++ rest) 10 = target := by
  simp only [ccpHeader, List.append_assoc]
  exact uN_field (n := 2) h ([3] ++ le 1 flags ++ le 2 code ++ le 4 seq ++ le 2 len) _ rfl

theorem zeros_ccpHeader_reserved : zeros (ccpHeader flags code seq len target ++ rest) 12 4 = true := by
  have hsub : sub (ccpHeader flags code seq len target ++ rest) 12 4 = List.replicate 4 0 := by
    simp only [ccpHeader, List.append_assoc]
    exact sub_field ([3] ++ le 1 flags ++ le 2 code ++ le 4 seq ++ le 2 len ++ le 2 target) _ rest rfl rfl
  rw [zeros, ← sub, hsub]
  decide

end

/-! ### A packet as built -/

theorem packetBytes_length (flags code seq target : Nat) (payload : Bytes) :
    (packetBytes flags code seq target payload).length = 20 + payload.length := by
  simp only [packetBytes, withCrc, List.length_append, ccpHeader_length, le_length]
  omega

/-- Where header, payload, CRC and tag of a packet stand. -/
theorem packetBytes_append (flags code seq target : Nat) (payload tag : Bytes) :
    packetBytes flags code seq target payload ++ tag = ccpHeader flags code seq payload.length target ++
      (payload ++ (le 4 (crc32c (ccpHeader flags code seq payload.length target ++ payload)) ++ tag)) := by
  simp only [packetBytes, withCrc, List.append_assoc]

section

variable {flags code seq target src port : Nat} {payload tag : Bytes} {via : Via}

/-- A packet of a given transport and sender, as built. -/
def builtPacket (flags code seq target : Nat) (payload tag : Bytes) (src port : Nat) (via : Via) : Pkt :=
  { via, src, port, raw := packetBytes flags code seq target payload ++ tag }

theorem builtPacket_flags (h : flags < 16) : (builtPacket flags code seq target payload tag src port via).flags = flags := by
  rw [Pkt.flags, builtPacket, packetBytes_append]
  exact u8_ccpHeader_flags _ (Nat.lt_trans h (by decide))

theorem builtPacket_code (h : code < 2 ^ 16) : (builtPacket flags code seq target payload tag src port via).code = code := by
  rw [Pkt.code, builtPacket, packetBytes_append]
  exact u16_ccpHeader_code _ h

theorem builtPacket_seq (h : seq < 2 ^ 32) : (builtPacket flags code seq target payload tag src port via).seq = seq := by
  rw [Pkt.seq, builtPacket, packetBytes_append]
  exact u32_ccpHeader_seq _ h

theorem builtPacket_target (h : target < 2 ^ 16) : (builtPacket flags code seq target payload tag src port via).target = target := by
  rw [Pkt.target, builtPacket, packetBytes_append]
  exact u16_ccpHeader_target _ h

theorem builtPacket_plen (h : payload.length ≤ 4080) :
    (builtPacket flags code seq target payload tag src port via).plen = payload.length := by
  rw [Pkt.plen, builtPacket, packetBytes_append]
  exact u16_ccpHeader_len _ (by omega)

theorem builtPacket_payload (h : payload.length ≤ 4080) :
    (builtPacket flags code seq target payload tag src port via).payload = payload := by
  rw [Pkt.payload, builtPacket_plen h, builtPacket, packetBytes_append]
  exact sub_field _ payload _ (ccpHeader_length ..) rfl

theorem builtPacket_lengthOk (h : payload.length ≤ 4080) (htag : tag.length = if via = .hostio then 0 else 16) :
    (builtPacket flags code seq target payload tag src port via).lengthOk = true := by
  have hraw : (builtPacket flags code seq target payload tag src port via).raw.length = 20 + payload.length + tag.length := by
    rw [builtPacket, List.length_append, packetBytes_length]
  rw [Pkt.lengthOk, hraw, builtPacket_plen h]
  by_cases hvia : via = .hostio
  · simp [builtPacket, htag, hvia]
  · simp [builtPacket, htag, hvia]; omega

theorem builtPacket_crcOk (h : payload.length ≤ 4080) :
    (builtPacket flags code seq target payload tag src port via).crcOk = true := by
  have hlen : (ccpHeader flags code seq payload.length target ++ payload).length = 16 + payload.length := by
    rw [List.length_append, ccpHeader_length]
  rw [Pkt.crcOk, builtPacket_plen h, builtPacket, packetBytes_append, ← List.append_assoc, u32,
    uN_field (n := 4) (crc32c_lt _) _ _ hlen, ← hlen, List.take_left]
  exact beq_self_eq_true _

theorem builtPacket_tagOk (h : payload.length ≤ 4080) (key : Bytes) :
    (builtPacket flags code seq target payload tag src port via).tagOk key =
      (cmac key (packetBytes flags code seq target payload) ==
        sub (builtPacket flags code seq target payload tag src port via).raw (20 + payload.length) 16) := by
  have htake : (builtPacket flags code seq target payload tag src port via).raw.take (20 + payload.length) =
      packetBytes flags code seq target payload := by
    rw [← packetBytes_length flags code seq target payload]
    exact List.take_left
  rw [Pkt.tagOk, builtPacket_plen h, htake]

theorem builtPacket_timed (h : flags < 16) :
    (builtPacket flags code seq target payload tag src port via).timed = decide (flags % 2 = 1) := by
  rw [Pkt.timed, builtPacket_flags h, bit, Nat.testBit_zero]

/-- A timed packet carries its launch ST before its body (R593). -/
theorem builtPacket_req_of_timed {l : Nat} {body : Bytes} (hf : flags < 16) (ht : flags % 2 = 1) (hp : payload.length ≤ 4080)
    (hl : l < 2 ^ 64) (hpay : payload = le 8 l ++ body) (from_ : Sender) :
    ((builtPacket flags code seq target payload tag src port via).req from_).launch = l ∧
      ((builtPacket flags code seq target payload tag src port via).req from_).body = body := by
  have htimed := (builtPacket_timed (code := code) (seq := seq) (target := target) (src := src) (port := port) (payload := payload)
    (tag := tag) (via := via) hf).trans (decide_eq_true ht)
  simp only [Pkt.req, Pkt.body, htimed, if_true, builtPacket_payload hp]
  rw [hpay]
  exact ⟨uN_le_append (n := 8) hl body, List.drop_left' (le_length 8 l)⟩

theorem builtPacket_req_of_untimed (hf : flags < 16) (ht : flags % 2 = 0) (hp : payload.length ≤ 4080) (from_ : Sender) :
    ((builtPacket flags code seq target payload tag src port via).req from_).launch = 0 ∧
      ((builtPacket flags code seq target payload tag src port via).req from_).body = payload := by
  have hnot : ¬ flags % 2 = 1 := by omega
  have htimed := (builtPacket_timed (code := code) (seq := seq) (target := target) (src := src) (port := port) (payload := payload)
    (tag := tag) (via := via) hf).trans (decide_eq_false hnot)
  simp only [Pkt.req, Pkt.body, htimed, Bool.false_eq_true, if_false, builtPacket_payload hp, and_self]

end

end Sys2Proof.Machine

namespace Sys2Proof.Proofs

open Sys2Proof Sys2Proof.Machine

/-- Settles O50: every field is found at its offset in the bytes as built. -/
theorem packetReadsBackAsBuilt : Obligations.PacketReadsBackAsBuilt := by
  intro flags code seq target payload tag src port via hflags hcode hseq htarget hpayload htag p
  have hp : p = builtPacket flags code seq target payload tag src port via := rfl
  rw [hp]
  refine ⟨builtPacket_flags hflags, builtPacket_code hcode, builtPacket_seq hseq, builtPacket_plen hpayload,
    builtPacket_target htarget, builtPacket_payload hpayload, ?_, ?_, builtPacket_lengthOk hpayload htag,
    builtPacket_crcOk hpayload, builtPacket_tagOk hpayload,
    fun l body from_ ht hl hpay => builtPacket_req_of_timed hflags ht hpayload hl hpay from_,
    fun from_ ht => builtPacket_req_of_untimed hflags ht hpayload from_⟩
  · rw [builtPacket, packetBytes_append]
    exact u8_ccpHeader_version _
  · rw [builtPacket, packetBytes_append]
    exact zeros_ccpHeader_reserved _

end Sys2Proof.Proofs

/-! What a CCP command that runs comes to: from the packet to the state that its own table leaves, and from there to the reply. -/

namespace Sys2Proof.Machine

/-! ### Tables (R600, R604) -/

@[simp] theorem row_status (c : Bool) (st off : Nat) : (row c st off).2.1 = st := rfl

@[simp] theorem retRow_status (s : State) (target : Nat) : (retRow s target).2.1 = stRetired := rfl

@[simp] theorem paramRow_status (l : List (Bool × Nat)) : (paramRow l).2.1 = stParam := by
  unfold paramRow
  split <;> rfl

@[simp] theorem retiredRow_status (s : State) (l : List (Nat × Nat)) : (retiredRow s l).2.1 = stRetired := by
  unfold retiredRow
  split <;> rfl

/-! Every status but OK and PENDING is an error. -/

@[simp] theorem one_lt_stLength : 1 < stLength := by decide
@[simp] theorem one_lt_stParam : 1 < stParam := by decide
@[simp] theorem one_lt_stTarget : 1 < stTarget := by decide
@[simp] theorem one_lt_stStale : 1 < stStale := by decide
@[simp] theorem one_lt_stNotHolder : 1 < stNotHolder := by decide
@[simp] theorem one_lt_stConflict : 1 < stConflict := by decide
@[simp] theorem one_lt_stPast : 1 < stPast := by decide
@[simp] theorem one_lt_stTooFar : 1 < stTooFar := by decide
@[simp] theorem one_lt_stRetired : 1 < stRetired := by decide
@[simp] theorem one_lt_stFaulted : 1 < stFaulted := by decide
@[simp] theorem one_lt_stSealed : 1 < stSealed := by decide
@[simp] theorem one_lt_stDenied : 1 < stDenied := by decide
@[simp] theorem one_lt_stBusy : 1 < stBusy := by decide
@[simp] theorem one_lt_stThermal : 1 < stThermal := by decide

/-- The status of the first row that matches is that of one of the rows. -/
theorem firstRow_mem {rows : List (Bool × Nat × Nat)} {x : Nat × Nat} (h : firstRow rows = some x) : ∃ y ∈ rows, y.2 = x := by
  induction rows with
  | nil => cases h
  | cons y rows ih =>
    rw [firstRow] at h
    split at h
    · exact ⟨y, .head _, Option.some.inj h⟩
    · obtain ⟨z, hz, hx⟩ := ih h
      exact ⟨z, .tail _ hz, hx⟩

/-- A table whose rows are all of errors runs its effect where it answers OK. -/
theorem Ans.table_of_ok {s : State} {rows : List (Bool × Nat × Nat)} {f : State → Ans} (h : (Ans.table s rows f).status = 0)
    (hrows : ∀ y ∈ rows, 1 < y.2.1) : Ans.table s rows f = f s := by
  refine Ans.table_ok h fun x hx => ?_
  obtain ⟨y, hy, rfl⟩ := firstRow_mem hx
  exact Nat.ne_of_gt (Nat.lt_trans Nat.one_pos (hrows y hy))

/-- A table whose rows are all of errors answers PENDING only where its effect does. -/
theorem Ans.table_not_pending {s : State} {rows : List (Bool × Nat × Nat)} {f : State → Ans} (hrows : ∀ y ∈ rows, 1 < y.2.1)
    (hf : (f s).status ≠ 1) : (Ans.table s rows f).status ≠ 1 := by
  unfold Ans.table
  split
  next st o hx =>
    obtain ⟨y, hy, he⟩ := firstRow_mem hx
    have hlt := hrows y hy
    rw [he] at hlt
    exact Nat.ne_of_gt hlt
  next => exact hf

theorem Ans.ok_rest {a : Ans} {u : State} {x : Bytes} (h : a = .ok u x) : a = .ok u a.rest := by rw [h]; rfl

/-- What a table leaves whose rows are all of errors, where it answers OK. -/
theorem Ans.table_leaves {s u : State} {rows : List (Bool × Nat × Nat)} {f : State → Ans} (h : (Ans.table s rows f).status = 0)
    (hrows : ∀ y ∈ rows, 1 < y.2.1) (hf : f s = .ok u (f s).rest) : Ans.table s rows f = .ok u (Ans.table s rows f).rest := by
  rw [Ans.table_of_ok h hrows]
  exact hf

/-! ### From the packet to the reply (R600 to R603) -/

/-- Is an opcode one of those whose reply something follows (R621, R622, R729)? -/
def followsReply (code : Nat) : Bool := code == 0x0103 || code == 0x0104 || code == 0x1004

theorem State.afterReply_of_code {r : Req} {code : Nat} (hc : r.code = code) (s : State) (h : followsReply code = false := by rfl) :
    s.afterReply r = s := by
  simp only [followsReply, Bool.or_eq_false_iff, beq_eq_false_iff_ne] at h
  obtain ⟨⟨h1, h2⟩, h3⟩ := h
  simp [State.afterReply, hc, h1, h2, h3]

section

variable {s t u : State} {code : Nat} {p : Pkt} {r : Req} {arr : Arrival} {rest : Bytes}

/-- The row of a command that is accepted answers what it leaves. -/
theorem State.accepts_live (h : s.accepts code p r arr t) : live s (·.command code p) = .next (t.finish p arr r) := by
  rw [live_run h.1]
  exact congrArg _ (State.command_of_accepts h).1

theorem State.accepts_code (h : s.accepts code p r arr t) : r.code = code := (State.command_of_accepts h).2

variable (body : Req → State → Ans)

/-- The body that an opcode has is the one that a request which carries it runs. -/
theorem bodyOf_of_code (hbody : ∀ x : Req, bodyOf { x with code } = body { x with code }) (hc : r.code = code) :
    bodyOf r = body r := by
  subst hc
  exact hbody r

/-- An untimed command that answers OK: what it leaves, then its reply where one is sent at all, then what comes after that. -/
theorem live_command_status_ok (h : s.accepts code p r arr t) (hu : r.timed = false) (h4 : code = 0x0304 → u8 r.body 8 = 0)
    (h5 : code = 0x0305 → u8 r.body 8 = 2) (hok : (body r t).status = 0)
    (hbody : ∀ x : Req, bodyOf { x with code } = body { x with code } := by exact fun _ => rfl) :
    live s (·.command code p) =
      .next (((body r t).s.replied p arr 0 (body r t).rest (body r t).silent).afterReply r) := by
  have hc := State.accepts_code h
  have hrun : execute r t = body r t := by
    rw [State.execute_untimed hu (fun e => h4 (hc ▸ e)) (fun e => h5 (hc ▸ e)), bodyOf_of_code body hbody hc]
  rw [State.accepts_live h, State.finish_ok (by rw [hrun]; exact hok), hrun]

theorem live_command_late (h : s.accepts code p r arr t) (hu : r.timed = false) (h4 : code = 0x0304 → u8 r.body 8 = 0)
    (h5 : code = 0x0305 → u8 r.body 8 = 2) (hok : body r t = .ok u rest)
    (hbody : ∀ x : Req, bodyOf { x with code } = body { x with code } := by exact fun _ => rfl) :
    live s (·.command code p) = .next ((u.replied p arr 0 rest).afterReply r) := by
  rw [live_command_status_ok body h hu h4 h5 (by rw [hok]; rfl) hbody, hok]
  rfl

/-- An untimed command that answers OK, of an opcode whose reply nothing follows. -/
theorem live_command_checked (h : s.accepts code p r arr t) (hu : r.timed = false) (h4 : code = 0x0304 → u8 r.body 8 = 0)
    (h5 : code = 0x0305 → u8 r.body 8 = 2) (hok : body r t = .ok u rest)
    (hbody : ∀ x : Req, bodyOf { x with code } = body { x with code } := by exact fun _ => rfl)
    (hlate : followsReply code = false := by rfl) : live s (·.command code p) = .next (u.replied p arr 0 rest) := by
  rw [live_command_late body h hu h4 h5 hok hbody, State.afterReply_of_code (State.accepts_code h) _ hlate]

/-- An untimed command that answers OK, of an opcode of which, too, no message is checked for this device's SITE_ID (R6). -/
theorem live_command_ok (h : s.accepts code p r arr t) (hu : r.timed = false) (hok : body r t = .ok u rest)
    (hbody : ∀ x : Req, bodyOf { x with code } = body { x with code } := by exact fun _ => rfl)
    (hlate : followsReply code = false := by rfl) (h4 : code ≠ 0x0304 := by decide) (h5 : code ≠ 0x0305 := by decide) :
    live s (·.command code p) = .next (u.replied p arr 0 rest) :=
  live_command_checked body h hu (fun e => absurd e h4) (fun e => absurd e h5) hok hbody hlate

end

end Sys2Proof.Machine

/-! The SYS commands: what each body leaves where its own table answers OK. -/

namespace Sys2Proof.Machine

variable {r : Req} {t : State}

theorem bodySysRole_ok (h : (bodySysRole r t).status = 0) : bodySysRole r t = .ok
    ((t.store (fun c => if u8 r.body 0 = 0 then { c with role := some r.body } else { c with net := some r.body })).twinRecheck) :=
  Ans.table_of_ok h (by simp)

theorem bodySysReset_ok (h : (bodySysReset r t).status = 0) : bodySysReset r t = .ok t :=
  Ans.table_of_ok h (by simp)

/-- What follows the reply of SYS_RESET. -/
theorem State.afterReply_sysReset (hc : r.code = 0x0103) (s : State) : s.afterReply r = s.sysReset (u8 r.body 0 = 1) := by
  simp [State.afterReply, hc]

/-- What follows the reply of SYS_SLEEP. -/
theorem State.afterReply_sysSleep (hc : r.code = 0x0104) (s : State) :
    s.afterReply r = s.sleepEnter (u16 r.body 0) (u64 r.body 8) := by
  simp [State.afterReply, hc]

theorem bodySysSleep_ok (h : (bodySysSleep r t).status = 0) : bodySysSleep r t = .ok t :=
  Ans.table_of_ok h (by simp)

/-- Reading a log leaves the state as it is. -/
theorem bodySysLogRead_ok (h : (bodySysLogRead r t).status = 0) : bodySysLogRead r t = .ok t (bodySysLogRead r t).rest := by
  refine Ans.table_leaves h (by simp) ?_
  dsimp only
  split <;> rfl

/-! ### SYS_VIOLATION_READ (R625) -/

/-- The entries of the window log that a read from a sequence on answers. -/
def State.violRead (s : State) (sel : Nat) : List Viol :=
  (if sel = 0 then s.hio.vlog else s.hio.vlog.dropWhile (fun v => decide (v.seq < sel))).take 64

/-- What a read of the window log leaves: emptied by one that clears, else read up to the newest entry answered. -/
def State.violReadLeaves (s : State) (sel : Nat) (clear : Bool) : State :=
  { s with hio := { s.hio with
    vlog := if clear then [] else s.hio.vlog
    vread := if clear then s.hio.vseq else match (s.violRead sel).getLast? with
      | some v => max s.hio.vread v.seq
      | none => s.hio.vread } }

/-- A read of the ring leaves the state as it is. -/
theorem bodySysViolationRead_ring (h : (bodySysViolationRead r t).status = 0) (h1 : u8 r.body 0 = 1) :
    bodySysViolationRead r t = .ok t (bodySysViolationRead r t).rest := by
  refine Ans.table_leaves h (by simp) ?_
  simp only [h1, if_true]
  rfl

theorem bodySysViolationRead_log (h : (bodySysViolationRead r t).status = 0) (h0 : u8 r.body 0 = 0) :
    bodySysViolationRead r t = .ok (t.violReadLeaves (u32 r.body 4) (bit (u8 r.body 1) 0)) (bodySysViolationRead r t).rest := by
  refine Ans.table_leaves h (by simp) ?_
  simp only [h0, Nat.zero_ne_one, if_false]
  rfl

/-! ### SYS_FW_UPDATE (R626, R628) -/

/-- The object of a transfer after a chunk. -/
def State.fwObject (s : State) (b : Bytes) : Bytes :=
  if u32 b 8 = 0 then sub b 16 (u16 b 12)
  else (match s.nv.fw.transfer with | some x => x.bytes | none => []) ++ sub b 16 (u16 b 12)

/-- What a chunk, an arming or a query leaves (R628). -/
def State.fwTake (s : State) (b : Bytes) : State :=
  match u8 b 0 with
  | 0 =>
    if bit (u8 b 2) 0 then s.modFw (fun f => { f with
      transfer := none, alt := some (u32 (s.fwObject b) 8, u32 (s.fwObject b) 24)
      done := some ((s.fwObject b).length, crc32c (s.fwObject b)), armed := false })
    else s.modFw (fun f => { f with
      transfer := some { kind := 0, id := 0, gen := u32 b 4, bytes := s.fwObject b }, alt := if u32 b 8 = 0 then none else f.alt
      done := none })
  | 1 =>
    if bit (u8 b 2) 0 then
      (s.modFw (fun f => { f with transfer := none, done := some ((s.fwObject b).length, crc32c (s.fwObject b)) })).credential
        (u8 b 1) ((s.fwObject b).take ((s.fwObject b).length - 4))
    else s.modFw (fun f => { f with
      transfer := some { kind := 1, id := u8 b 1, gen := u32 b 4, bytes := s.fwObject b }, done := none })
  | 2 => s.modFw (fun f => { f with armed := true })
  | _ => s

section

variable {b : Bytes}

theorem State.fwTake_of_arm (h : u8 b 0 = 2) : t.fwTake b = t.modFw (fun f => { f with armed := true }) := by
  simp only [State.fwTake, h]

theorem State.fwTake_of_query (h : u8 b 0 = 3) : t.fwTake b = t := by
  simp only [State.fwTake, h]

/-- A chunk that is not the last is added to the object; the first one of an image drops the alternate one. -/
theorem State.fwTake_of_chunk (h : u8 b 0 ≤ 1) (hlast : bit (u8 b 2) 0 = false) : t.fwTake b = t.modFw (fun f => { f with
    transfer := some { kind := u8 b 0, id := if u8 b 0 = 0 then 0 else u8 b 1, gen := u32 b 4, bytes := t.fwObject b }
    alt := if u8 b 0 = 0 ∧ u32 b 8 = 0 then none else f.alt
    done := none }) := by
  rcases Nat.le_one_iff_eq_zero_or_eq_one.mp h with h | h <;> simp [State.fwTake, h, hlast]

/-- With its last chunk an image becomes the alternate one, and a credential is taken into use. -/
theorem State.fwTake_of_last (h : u8 b 0 ≤ 1) (hlast : bit (u8 b 2) 0 = true) :
    t.fwTake b =
      (let u := t.modFw (fun f => { f with transfer := none, done := some ((t.fwObject b).length, crc32c (t.fwObject b)) })
      if u8 b 0 = 0 then u.modFw (fun f => { f with alt := some (u32 (t.fwObject b) 8, u32 (t.fwObject b) 24), armed := false })
      else u.credential (u8 b 1) ((t.fwObject b).take ((t.fwObject b).length - 4))) := by
  rcases Nat.le_one_iff_eq_zero_or_eq_one.mp h with h | h <;> simp [State.fwTake, h, hlast, State.modFw]

end

theorem bodySysFwUpdate_ok (h : (bodySysFwUpdate r t).status = 0) :
    bodySysFwUpdate r t = .ok (t.fwTake r.body) (t.fwTake r.body).fwReply := by
  unfold bodySysFwUpdate at h ⊢
  extract_lets at h ⊢
  rename_i k _ _ _ _ _ _ _ _ _ _ _ bad a
  by_cases hbad : bad.1 = true
  · rw [if_pos hbad] at h
    exact absurd h (show stParam ≠ 0 by decide)
  · rw [if_neg hbad] at h ⊢
    have ha : a.status = 0 := by
      split at h <;> exact h
    have hden : ¬ (decide (k = 0) && decide (a.status = stDenied)) = true := by
      rw [ha]; simp [stDenied]
    rw [if_neg hden]
    exact Ans.table_of_ok ha (by simp)

/-- A command that pauses waits for the next work window (R716). -/
theorem live_command_paused {s t : State} {code : Nat} {p : Pkt} {r : Req} {arr : Arrival} (hrun : s.sys.mode = .run)
    (htakes : s.takes p.via = true) (hlen : 4 ≤ p.raw.length) (hcode : p.code = code)
    (hin : (s.received p).intake p = (.run r, some arr, t)) (hpaused : t.paused = true) (hpauses : r.pauses = true) :
    live s (·.command code p) = .next { t with ccp := { t.ccp with delayed := t.ccp.delayed ++ [(p, arr, r)] } } := by
  rw [live_run hrun]
  simp only [State.command, State.take, State.handle, hlen, hcode, htakes, hin, and_self, if_true, Bool.not_true,
    Bool.false_eq_true, if_false, State.complete_paused hpaused hpauses]

end Sys2Proof.Machine

namespace Sys2Proof.Proofs

open Sys2Proof Sys2Proof.Machine

/-- Settles O2: what each body leaves, then the reply; a command that pauses does not reach its body. -/
theorem sysCommandsComplete : Obligations.SysCommandsComplete := by
  intro s t p r arr hu
  refine ⟨fun h => ?_, fun h => ?_, fun h hok => ?_, fun h hok => ?_, fun h hok => ?_, fun h hok => ?_, fun h hok hring => ?_,
    fun h hok hlog hclear => ?_, fun h hok hlog hclear => ?_, fun h hok hk => ?_, fun h hok hk => ?_, fun h hok hk hlast => ?_,
    fun h hok hk hlast => ?_, fun x hx hrun htakes hlen hcode hin hpaused hpauses => ?_⟩
  · exact live_command_ok bodySysPing h hu rfl
  · exact live_command_ok bodySysSummary h hu rfl
  · exact live_command_ok bodySysRole h hu (bodySysRole_ok hok)
  · rw [← State.afterReply_sysReset (State.accepts_code h)]
    exact live_command_late bodySysReset h hu nofun nofun (bodySysReset_ok hok)
  · rw [← State.afterReply_sysSleep (State.accepts_code h)]
    exact live_command_late bodySysSleep h hu nofun nofun (bodySysSleep_ok hok)
  · exact live_command_ok bodySysLogRead h hu (bodySysLogRead_ok hok)
  · exact live_command_ok bodySysViolationRead h hu (bodySysViolationRead_ring hok hring)
  · have hleaves := bodySysViolationRead_log hok hlog
    rw [hclear] at hleaves
    exact live_command_ok bodySysViolationRead h hu hleaves
  · have hleaves := bodySysViolationRead_log hok hlog
    rw [hclear] at hleaves
    exact live_command_ok bodySysViolationRead h hu hleaves
  · have hleaves := bodySysFwUpdate_ok hok
    rw [State.fwTake_of_arm hk] at hleaves
    exact live_command_ok bodySysFwUpdate h hu hleaves
  · have hleaves := bodySysFwUpdate_ok hok
    rw [State.fwTake_of_query hk] at hleaves
    exact live_command_ok bodySysFwUpdate h hu hleaves
  · have hleaves := Ans.ok_rest (bodySysFwUpdate_ok hok)
    rw [State.fwTake_of_chunk hk hlast] at hleaves
    exact live_command_ok bodySysFwUpdate h hu hleaves
  · have hleaves := Ans.ok_rest (bodySysFwUpdate_ok hok)
    rw [State.fwTake_of_last hk hlast] at hleaves
    exact live_command_ok bodySysFwUpdate h hu hleaves
  · simp only [List.mem_cons, List.not_mem_nil, or_false] at hx
    rcases hx with rfl | rfl | rfl | rfl <;> exact live_command_paused hrun htakes hlen hcode hin hpaused hpauses

end Sys2Proof.Proofs

/-! Timed commands: what acceptance leaves of one that is to run at its launch (R106 to R109), and which bodies could not answer PENDING
on their own. -/

namespace Sys2Proof.Machine

-- Proofs one after the other: side by side, each waits on a thread of its own for what they all need, at the cost of the check's memory.
set_option Elab.async false

/-! ### Acceptance (R109, R602) -/

/-- The reply's bytes after the status of a timed packet that is accepted. -/
def timedRest (r : Req) (s : State) : Bytes :=
  if r.code = 0x0C02 then [0, 0] ++ le 4 (s.pushLaunch r).free.1
  else if r.code = 0x0A05 then (bodyOf r s).rest
  else List.replicate (bodyOf r s).rest.length 0

/-- A table whose rows are all of errors runs its effect where it answers PENDING. -/
theorem Ans.table_of_pending {s : State} {rows : List (Bool × Nat × Nat)} {f : State → Ans} (h : (Ans.table s rows f).status = 1)
    (hrows : ∀ y ∈ rows, 1 < y.2.1) : Ans.table s rows f = f s := by
  unfold Ans.table at h ⊢
  split at h
  next st o hx =>
    obtain ⟨y, hy, he⟩ := firstRow_mem hx
    have hlt := hrows y hy
    rw [he] at hlt
    exact absurd h (Nat.ne_of_gt hlt)
  next => rfl

theorem launchRows_err (s : State) (t : Nat) : ∀ y ∈ s.launchRows t ++ [s.slotsRow], 1 < y.2.1 := by
  simp [State.launchRows, State.slotsRow]

/-- A timed packet that is accepted, whose body does not answer PENDING itself: that body would answer OK, and the packet takes a
launch slot. -/
theorem acceptTimed_of_pending {r : Req} {s : State} (h : (acceptTimed r s).status = 1) (hbody : (bodyOf r s).status ≠ 1) :
    (bodyOf r s).status = 0 ∧ acceptTimed r s = { status := 1, off := 0xFFFF, rest := timedRest r s, s :=
      if r.code = 0x0C02 then (s.pushLaunch r).free.2 else s.pushLaunch r } := by
  unfold acceptTimed at h ⊢
  dsimp only at h ⊢
  by_cases hok : (bodyOf r s).status = stOk
  · rw [if_neg (fun h => h hok)] at h ⊢
    refine ⟨hok, ?_⟩
    rw [Ans.table_of_pending h (launchRows_err s r.launch)]
    by_cases hc : r.code = 0x0C02
    · simp only [timedRest, hc, if_true, stPending]
    · simp only [timedRest, hc, if_false, stPending]
  · rw [if_pos hok] at h
    exact absurd h hbody

/-- Only the codes of the allocation are checked for this device's SITE_ID (R6). -/
theorem State.conflictSeen_of_other {t : State} {r : Req} (h4 : r.code ≠ 0x0304) (h5 : r.code ≠ 0x0305) : t.conflictSeen r = t := by
  simp only [State.conflictSeen, h4, h5, decide_false, Bool.false_and, Bool.or_false, Bool.and_false, Bool.false_eq_true, if_false]
  split <;> rfl

section

variable {s t : State} {code : Nat} {p : Pkt} {r : Req} {arr : Arrival} (body : Req → State → Ans)

/-- A timed command that is accepted answers PENDING and takes a launch slot. -/
theorem live_command_pending (h : s.accepts code p r arr t) (hu : r.timed = true) (hst : (acceptTimed r t).status = 1)
    (hbody : (body r t).status ≠ 1) (hof : ∀ x : Req, bodyOf { x with code } = body { x with code } := by exact fun _ => rfl)
    (h4 : code ≠ 0x0304 := by decide) (h5 : code ≠ 0x0305 := by decide) :
    (body r t).status = 0 ∧ live s (·.command code p) = .next
      ((if code = 0x0C02 then (t.pushLaunch r).free.2 else t.pushLaunch r).replied p arr 1 (timedRest r t)) := by
  have hc := State.accepts_code h
  have heq := bodyOf_of_code body hof hc
  obtain ⟨hok, hacc⟩ := acceptTimed_of_pending hst (by rw [heq]; exact hbody)
  have hrun : execute r t = acceptTimed r t := by
    simp only [execute, State.conflictSeen_of_other (hc ▸ h4) (hc ▸ h5), hu, if_true, hc, h5, if_false]
  refine ⟨by rw [← heq]; exact hok, ?_⟩
  rw [State.accepts_live h, State.finish_pending (by rw [hrun]; exact hst), hrun, hacc, hc]

end

/-! ### Bodies that never answer PENDING -/

section

variable (r : Req) (s : State)

theorem bodyTimeCapture_not_pending : (bodyTimeCapture r s).status ≠ 1 :=
  Ans.table_not_pending (by simp) Nat.zero_ne_one

theorem bodyAllocLimit_not_pending : (bodyAllocLimit r s).status ≠ 1 := by
  unfold bodyAllocLimit
  extract_lets
  split
  exact Ans.table_not_pending (by simp) Nat.zero_ne_one

theorem bodyGroupEnable_not_pending : (bodyGroupEnable r s).status ≠ 1 :=
  Ans.table_not_pending (by simp) Nat.zero_ne_one

theorem State.setpointRefused_err {g : Fin 8} {current restart : Bool} {st : Nat} (h : s.setpointRefused g current restart = some st) :
    1 < st := by
  unfold State.setpointRefused at h
  dsimp only at h
  repeat' split at h
  all_goals cases h <;> decide

/-- The row of a set point that the group's state refuses. -/
theorem setpointRow_err (g : Fin 8) (current restart : Bool) : 1 < (match s.setpointRefused g current restart with
    | some st => (true, st, 0xFFFF)
    | none => row false stConflict).2.1 := by
  split
  next st h => exact s.setpointRefused_err h
  next => decide

theorem bodyGroupSetpoint_not_pending : (bodyGroupSetpoint r s).status ≠ 1 :=
  Ans.table_not_pending (List.forall_mem_cons.mpr ⟨by simp, List.forall_mem_cons.mpr ⟨by simp,
    List.forall_mem_singleton.mpr (setpointRow_err s _ _ _)⟩⟩) Nat.zero_ne_one

theorem bodyPwmGroup_not_pending : (bodyPwmGroup r s).status ≠ 1 :=
  Ans.table_not_pending (by simp) Nat.zero_ne_one

theorem bodyPwmSlot_not_pending : (bodyPwmSlot r s).status ≠ 1 :=
  Ans.table_not_pending (by simp) Nat.zero_ne_one

theorem bodyPwmWrite_not_pending : (bodyPwmWrite r s).status ≠ 1 := by
  refine Ans.table_not_pending (by simp) ?_
  split
  · exact bodyPwmGroup_not_pending r s
  · exact bodyPwmSlot_not_pending r s

theorem bodyPwmLoadall_not_pending : (bodyPwmLoadall r s).status ≠ 1 := by
  refine Ans.table_not_pending (by simp) ?_
  split <;> exact Nat.zero_ne_one

theorem bodyLoopParam_not_pending : (bodyLoopParam r s).status ≠ 1 :=
  Ans.table_not_pending (by simp) Nat.zero_ne_one

theorem bodyLoopProfile_not_pending : (bodyLoopProfile r s).status ≠ 1 :=
  Ans.table_not_pending (by simp) Nat.zero_ne_one

theorem bodyPortLimit_not_pending : (bodyPortLimit r s).status ≠ 1 :=
  Ans.table_not_pending (by simp) Nat.zero_ne_one

theorem State.billRows_err : ∀ y ∈ s.billRows, 1 < y.2.1 := by simp [State.billRows]

theorem bodyBillClosePeriod_not_pending : (bodyBillClosePeriod r s).status ≠ 1 :=
  Ans.table_not_pending s.billRows_err Nat.zero_ne_one

theorem State.yieldRows_err (planned : Bool) : ∀ y ∈ s.yieldRows planned, 1 < y.2.1 := by simp [State.yieldRows]

theorem bodyTwinYield_not_pending : (bodyTwinYield r s).status ≠ 1 :=
  Ans.table_not_pending (List.forall_mem_cons.mpr ⟨by simp, s.yieldRows_err true⟩) Nat.zero_ne_one

theorem bodyCanSend_not_pending : (bodyCanSend r s).status ≠ 1 :=
  Ans.table_not_pending (by simp) Nat.zero_ne_one

theorem bodySwSet_not_pending : (bodySwSet r s).status ≠ 1 := by
  refine Ans.table_not_pending (by simp) ?_
  split <;> exact Nat.zero_ne_one

end

end Sys2Proof.Machine

namespace Sys2Proof.Proofs

open Sys2Proof Sys2Proof.Machine

/-- What O16 says of one command. -/
theorem timedCommandIsHeld {s t : State} {code : Nat} {p : Pkt} {r : Req} {arr : Arrival} (body : Req → State → Ans)
    (h : s.accepts code p r arr t) (hu : r.timed = true) (hst : (acceptTimed r t).status = 1) (hbody : (body r t).status ≠ 1)
    (hof : ∀ x : Req, bodyOf { x with code } = body { x with code } := by exact fun _ => rfl)
    (h4 : code ≠ 0x0304 := by decide) (h5 : code ≠ 0x0305 := by decide) :
    ∃ rest, live s (·.command code p) = .next (({ t with
      launches := t.launches ++ [{ at_ := r.launch, order := t.launchCount, req := r }]
      launchCount := t.launchCount + 1
      freeCount := t.freeCount + b01 (r.code = 0x0C02) } : State).replied p arr 1 rest) := by
  refine ⟨timedRest r t, (live_command_pending body h hu hst hbody hof h4 h5).2.trans ?_⟩
  rw [← State.accepts_code h]
  by_cases hc : r.code = 0x0C02 <;> simp [hc, State.pushLaunch, State.free, b01]

/-- Settles O16: each of the commands has a body that answers OK or an error, and acceptance pushes the launch. -/
theorem timedCommandsAreHeld : Obligations.TimedCommandsAreHeld := by
  intro s t p r arr hu x hx h hst
  simp only [List.mem_cons, List.not_mem_nil, or_false] at hx
  rcases hx with rfl | rfl | rfl | rfl | rfl | rfl | rfl | rfl | rfl | rfl | rfl | rfl
  · exact timedCommandIsHeld bodyAllocLimit h hu hst (bodyAllocLimit_not_pending r t)
  · exact timedCommandIsHeld bodyGroupEnable h hu hst (bodyGroupEnable_not_pending r t)
  · exact timedCommandIsHeld bodyGroupSetpoint h hu hst (bodyGroupSetpoint_not_pending r t)
  · exact timedCommandIsHeld bodyPwmWrite h hu hst (bodyPwmWrite_not_pending r t)
  · exact timedCommandIsHeld bodyPwmLoadall h hu hst (bodyPwmLoadall_not_pending r t)
  · exact timedCommandIsHeld bodyLoopParam h hu hst (bodyLoopParam_not_pending r t)
  · exact timedCommandIsHeld bodyLoopProfile h hu hst (bodyLoopProfile_not_pending r t)
  · exact timedCommandIsHeld bodyPortLimit h hu hst (bodyPortLimit_not_pending r t)
  · exact timedCommandIsHeld bodyBillClosePeriod h hu hst (bodyBillClosePeriod_not_pending r t)
  · exact timedCommandIsHeld bodyTwinYield h hu hst (bodyTwinYield_not_pending r t)
  · exact timedCommandIsHeld bodyCanSend h hu hst (bodyCanSend_not_pending r t)
  · exact timedCommandIsHeld bodySwSet h hu hst (bodySwSet_not_pending r t)

end Sys2Proof.Proofs

/-! The TIME and ALLOC commands: what each body leaves where its own table answers OK. -/

namespace Sys2Proof.Machine

-- Proofs one after the other: side by side, each waits on a thread of its own for what they all need, at the cost of the check's memory.
set_option Elab.async false

variable {r : Req} {t : State}

/-! ### TIME (R90, R117 to R120) -/

theorem bodyTimeSet_of_no_pend (h : (bodyTimeSet r t).status = 0) (hp : t.pendEnd.time.pend = none) : bodyTimeSet r t = .ok
    (withSel (fun u => ((u.stepClock (u64 r.body 0)).modTime (fun x => { x with attack := false })).setQuality .free) t.pendEnd) := by
  refine (Ans.table_of_ok h (by simp)).trans ?_
  simp only [hp]

theorem bodyTimeSet_of_pend {w : PendStep} (h : (bodyTimeSet r t).status = 0) (hp : t.pendEnd.time.pend = some w) :
    bodyTimeSet r t = .ok (withSel (fun u => ((u.modTime (fun x => { x with sel := some w.src, pend := none })).stepClock
      ((u.st : Int) + w.offset).toNat).setQuality .locked) t.pendEnd) := by
  refine (Ans.table_of_ok h (by simp)).trans ?_
  simp only [hp]

/-- A pending step that has not run out stands. -/
theorem State.pendEnd_of_running {w : PendStep} (hp : t.time.pend = some w) (hel : t.el < w.endAt) : t.pendEnd = t := by
  have hnot : ¬ w.endAt ≤ t.el := by omega
  simp only [State.pendEnd, hp, hnot, if_false]

theorem bodyTimeSource_ok (h : (bodyTimeSource r t).status = 0) : bodyTimeSource r t = .ok (withSel (·.timeSourceTake r.body) t) :=
  Ans.table_of_ok h (by simp)

/-- A capture is accepted with no more than its status in the reply. -/
theorem bodyTimeCapture_rest (h : (bodyTimeCapture r t).status = 0) : (bodyTimeCapture r t).rest = [0, 0] := by
  rw [show bodyTimeCapture r t = _ from Ans.table_of_ok h (by simp)]
  rfl

/-! ### ALLOC (R164 to R169) -/

theorem bodyAllocLimit_ok (h : (bodyAllocLimit r t).status = 0) : bodyAllocLimit r t = .ok
    ((t.addLimits { since := t.st, limp := u32 r.body 0, lexp := u32 r.body 4, reserve := u32 r.body 8 }).store
      (fun c => { c with allocLimit := some r.body })) := by
  unfold bodyAllocLimit at h ⊢
  extract_lets at h ⊢
  split at h
  exact Ans.table_of_ok h (by simp)

theorem bodyAllocPolicy_ok (h : (bodyAllocPolicy r t).status = 0) : bodyAllocPolicy r t = .ok
    (if u8 r.body 0 = 0 then
      ({ t with alloc := { t.alloc with policyWas := t.wasNote t.alloc.policyWas t.nv.cfg.allocPolicy } } : State).store
        (fun c => { c with allocPolicy := some r.body })
    else
      ({ t with alloc := { t.alloc with feedersWas := t.wasNote t.alloc.feedersWas t.nv.cfg.allocFeeders } } : State).store
        (fun c => { c with allocFeeders := some r.body })) := by
  unfold bodyAllocPolicy at h ⊢
  by_cases h0 : u8 r.body 0 = 0
  · simp only [h0, if_true] at h ⊢
    exact Ans.table_of_ok h (by simp)
  · simp only [h0, if_false] at h ⊢
    exact Ans.table_of_ok h (by simp)

theorem bodyAllocFallback_ok (h : (bodyAllocFallback r t).status = 0) : bodyAllocFallback r t = .ok
    (if t.alloc.fallback then (t.store (fun c => { c with allocFallback := some r.body })).reshare
      else t.store (fun c => { c with allocFallback := some r.body })) :=
  Ans.table_of_ok h (by simp)

/-- A query leaves the state as it is. -/
theorem bodyAllocStatus_query (h : (bodyAllocStatus r t).status = 0) (h0 : u8 r.body 8 = 0) :
    bodyAllocStatus r t = .ok t (bodyAllocStatus r t).rest := by
  unfold bodyAllocStatus at h ⊢
  simp only [h0, Nat.zero_ne_one, if_false] at h ⊢
  exact Ans.table_leaves h (by simp) rfl

theorem bodyAllocStatus_report (h : (bodyAllocStatus r t).status = 0) (h1 : u8 r.body 8 = 1) :
    bodyAllocStatus r t = .ok (t.takeReport (reportOf r.body)) := by
  unfold bodyAllocStatus at h ⊢
  simp only [h1, if_true] at h ⊢
  exact Ans.table_of_ok h (by simp)

theorem State.targetsRows1_err (t : State) (r : Req) : ∀ y ∈ t.targetsRows1 r, 1 < y.2.1 := by
  simp [State.targetsRows1]

theorem State.targetsRows2_err (t : State) (r : Req) : ∀ y ∈ t.targetsRows2 r, 1 < y.2.1 := by
  simp [State.targetsRows2]

theorem bodyAllocTargets_ok (h : (bodyAllocTargets r t).status = 0) : bodyAllocTargets r t = .ok (t.allocRelease (u64 r.body 0)) :=
  Ans.table_of_ok h (List.forall_mem_append.mpr ⟨t.targetsRows1_err r, t.targetsRows2_err r⟩)

/-- Moving the offsets of rows past a launch ST leaves their statuses. -/
theorem afterLaunch_err {l : List (Bool × Nat × Nat)} (h : ∀ y ∈ l, 1 < y.2.1) : ∀ y ∈ afterLaunch l, 1 < y.2.1 := by
  intro y hy
  obtain ⟨x, hx, rfl⟩ := List.mem_map.mp hy
  exact h x hx

theorem acceptTargets_of_pending (h : (acceptTargets r t).status = 1) : acceptTargets r t =
    { status := 1, off := 0xFFFF, rest := [0, 0], s := (t.allocAccept r.launch r.body).pushLaunch r } := by
  have hrows : ∀ y ∈ afterLaunch (t.targetsRows1 r) ++ t.launchRows r.launch ++ afterLaunch (t.targetsRows2 r) ++ [t.slotsRow],
      1 < y.2.1 := by
    obtain ⟨hlaunch, hslots⟩ := List.forall_mem_append.mp (launchRows_err t r.launch)
    exact List.forall_mem_append.mpr ⟨List.forall_mem_append.mpr ⟨List.forall_mem_append.mpr
      ⟨afterLaunch_err (t.targetsRows1_err r), hlaunch⟩, afterLaunch_err (t.targetsRows2_err r)⟩, hslots⟩
  exact Ans.table_of_pending h hrows

section

variable {s : State} {p : Pkt} {arr : Arrival}

/-- A report is answered after the check of its SITE_ID (R6). -/
theorem live_allocReport (h : s.accepts 0x0304 p r arr t) (hu : r.timed = false)
    (hok : (bodyAllocStatus r (t.conflictSeen r)).status = 0) (h1 : u8 r.body 8 = 1) :
    live s (·.command 0x0304 p) = .next (((t.conflictSeen r).takeReport (reportOf r.body)).replied p arr 0 [0, 0]) := by
  have hc := State.accepts_code h
  have hrun : execute r t = .ok ((t.conflictSeen r).takeReport (reportOf r.body)) := by
    simp only [execute, hu, Bool.false_eq_true, if_false]
    rw [bodyOf_of_code bodyAllocStatus (fun _ => rfl) hc]
    exact bodyAllocStatus_report hok h1
  rw [State.accepts_live h, State.finish_ok (by rw [hrun]; rfl), hrun, State.afterReply_of_code hc]
  rfl

/-- Targets are accepted after the check of their SITE_ID (R6), and take a launch slot. -/
theorem live_allocTargets_pending (h : s.accepts 0x0305 p r arr t) (hu : r.timed = true)
    (hst : (acceptTargets r (t.conflictSeen r)).status = 1) :
    live s (·.command 0x0305 p) =
      .next ((((t.conflictSeen r).allocAccept r.launch r.body).pushLaunch r).replied p arr 1 [0, 0]) := by
  have hc := State.accepts_code h
  have hrun : execute r t = acceptTargets r (t.conflictSeen r) := by
    simp only [execute, hu, hc, if_true]
  rw [State.accepts_live h, State.finish_pending (by rw [hrun]; exact hst), hrun, acceptTargets_of_pending hst]

end

end Sys2Proof.Machine

namespace Sys2Proof.Proofs

open Sys2Proof Sys2Proof.Machine

/-- Settles O3: what each body leaves, then the reply; a capture is a timed command like the others. -/
theorem timeCommandsComplete : Obligations.TimeCommandsComplete := by
  intro s t p r arr
  refine ⟨fun h hu hok => ⟨fun hp => ?_, fun w hp => ?_⟩, fun w hp hel => State.pendEnd_of_running hp hel, fun h hu hok => ?_,
    fun h hu => ?_, fun h hu hst => ?_⟩
  · exact live_command_ok bodyTimeSet h hu (bodyTimeSet_of_no_pend hok hp)
  · exact live_command_ok bodyTimeSet h hu (bodyTimeSet_of_pend hok hp)
  · exact live_command_ok bodyTimeSource h hu (bodyTimeSource_ok hok)
  · exact live_command_ok bodyTimeStatus h hu rfl
  · obtain ⟨hok, hrun⟩ := live_command_pending bodyTimeCapture h hu hst (bodyTimeCapture_not_pending r t)
    have hrest : timedRest r t = [0, 0] := by
      have hc := State.accepts_code h
      rw [timedRest, hc, if_neg (by decide), if_neg (by decide), bodyOf_of_code bodyTimeCapture (fun _ => rfl) hc,
        bodyTimeCapture_rest hok]
      rfl
    rw [hrest] at hrun
    exact hrun

/-- Settles O4: what each body leaves, then the reply; reports and targets come after the check of their SITE_ID. -/
theorem allocCommandsComplete : Obligations.AllocCommandsComplete := by
  intro s t p r arr
  refine ⟨fun h hu hok => ?_, fun h hu hok => ?_, fun h hu hok => ?_, fun h hu hok h0 => ?_, fun h hu hok h1 => ?_,
    fun h hu hok h2 => ?_, fun h hu hst => live_allocTargets_pending h hu hst⟩
  · exact live_command_ok bodyAllocLimit h hu (bodyAllocLimit_ok hok)
  · exact live_command_ok bodyAllocPolicy h hu (bodyAllocPolicy_ok hok)
  · exact live_command_ok bodyAllocFallback h hu (bodyAllocFallback_ok hok)
  · exact live_command_checked bodyAllocStatus h hu (fun _ => h0) nofun (bodyAllocStatus_query hok h0)
  · exact live_allocReport h hu hok h1
  · exact live_command_checked bodyAllocTargets h hu nofun (fun _ => h2) (bodyAllocTargets_ok hok)

end Sys2Proof.Proofs

/-! The GROUP, PHASE, FAULT, PWM and LOOP commands: what each body leaves where its own table answers OK. -/

namespace Sys2Proof.Machine

-- Proofs one after the other: side by side, each waits on a thread of its own for what they all need, at the cost of the check's memory.
set_option Elab.async false

variable {r : Req} {t : State}

/-! ### GROUP and PHASE (R257, R292 to R298) -/

theorem bodyGroupConfig_ok (h : (bodyGroupConfig r t).status = 0) : bodyGroupConfig r t = .ok
    ((t.store (fun c => { c with group := Vector.ofFn (fun (h : Fin 8) => if h = r.g then some r.body
      else c.group[h].map (fun o => if u8 r.body 0 = 0xFF || u8 o 0 != u8 r.body 0 then o else 0xFF :: o.drop 1)) })).modLoop r.g
        (fun l => { l with vout := none, iout := none, vin := none })) :=
  Ans.table_of_ok h (by simp)

theorem bodyGroupEnable_ok (h : (bodyGroupEnable r t).status = 0) : bodyGroupEnable r t = .ok
    (if u8 r.body 0 = 2 then t.startGroup r.g else t.modProt r.g (fun x => { x with permit := u8 r.body 0 == 1 })) :=
  Ans.table_of_ok h (by simp)

theorem bodyGroupSetpoint_ok (h : (bodyGroupSetpoint r t).status = 0) : bodyGroupSetpoint r t = .ok
    (t.setpointTake r.g (u8 r.body 0 == 1) (bit (u8 r.body 1) 0) (i32 r.body 4) (i32 r.body 8)) (bodyGroupSetpoint r t).rest :=
  Ans.table_leaves h (List.forall_mem_cons.mpr ⟨by simp, List.forall_mem_cons.mpr ⟨by simp,
    List.forall_mem_singleton.mpr (setpointRow_err t _ _ _)⟩⟩) rfl

theorem bodyGroupStop_of_test (h : (bodyGroupStop r t).status = 0) (htest : t.groups[r.g].pwm.test = true) :
    bodyGroupStop r t = .ok (t.pwmStop r.g) (bodyGroupStop r t).rest := by
  refine Ans.table_leaves h (by simp) ?_
  rw [if_pos htest]
  rfl

theorem bodyGroupStop_of_no_test (h : (bodyGroupStop r t).status = 0) (htest : t.groups[r.g].pwm.test = false) :
    bodyGroupStop r t = .ok (t.stopGroup r.g (u8 r.body 0) 0).1 (bodyGroupStop r t).rest := by
  refine Ans.table_leaves h (by simp) ?_
  rw [htest]
  rfl

theorem bodyPhaseRetire_ok (h : t.isRetired r.target = false) :
    bodyPhaseRetire r t = .ok (t.chargeAs 1 r.target 0x41 t.st true) := by
  simp [bodyPhaseRetire, Ans.table, firstRow, retRow, row, h]

theorem bodyPhaseRestore_ok (h : (bodyPhaseRestore r t).status = 0) :
    bodyPhaseRestore r t = .ok ((t.clearHistory r.target).unretire r.target) :=
  Ans.table_of_ok h (by simp)

/-- A read of a group without records takes a free value for the oldest sequence. -/
theorem bodyGroupFaultRead_ok (h : (bodyGroupFaultRead r t).status = 0) : bodyGroupFaultRead r t = .ok
    (if t.groupRecs[r.g].recs = [] then t.free.2 else t) (bodyGroupFaultRead r t).rest := by
  refine Ans.table_leaves h (by simp) ?_
  by_cases hnone : t.groupRecs[r.g].recs = []
  · simp only [hnone, if_true]
    rfl
  · simp only [hnone, if_false]
    rfl

/-! ### FAULT_CLEAR (R300) -/

theorem bodyFaultClear_ok (h : (bodyFaultClear r t).status = 0) : bodyFaultClear r t = .ok
    (whenDo (bit (u8 r.body 0) 0) (fun u => (u.modProt r.g (fun x => { x with laneFault := false, pending := none })).toOff r.g 0)
      (whenDo (bit (u8 r.body 0) 1) (fun u =>
          if tType r.target = 1 && ((u.clearHistory r.target).gPort r.g).isNone then
            (u.clearHistory r.target).modProt r.g (fun x => { x with retries := [] })
          else u.clearHistory r.target)
        (whenDo (bit (u8 r.body 0) 2) (·.restoreResource r.target) t))) :=
  Ans.table_of_ok h (by simp)

/-! ### PWM (R213 to R217) -/

/-- A pickup that is not at this tick takes nothing. -/
theorem State.pickTaken_of_other_tick {u : State} {k : Nat} (h : ∀ x, (u.slot k).pick = some x → x.tick ≠ u.fine) :
    u.pickTaken k = u := by
  have hnone : ∀ on : PickNote → Bool, (u.slot k).pick.filter (fun p => decide (p.tick = u.fine) && on p) = none := by
    intro on
    cases hp : (u.slot k).pick with
    | none => rfl
    | some x => simp [h x hp]
  unfold State.pickTaken State.shadowWrite
  split
  · rfl
  · simp only [Bool.and_assoc]
    rw [hnone]
    rfl

/-- A write of the compares of a slot runs that slot's own table. -/
theorem bodyPwmWrite_eq_slot (h : (bodyPwmWrite r t).status = 0) (hsec : u8 r.body 0 = 1) : bodyPwmWrite r t = bodyPwmSlot r t := by
  refine (Ans.table_of_ok h (by simp)).trans ?_
  simp only [hsec, Nat.one_ne_zero, if_false]

theorem bodyPwmWrite_slot (h : (bodyPwmWrite r t).status = 0) (hsec : u8 r.body 0 = 1) : bodyPwmWrite r t = .ok
    ((t.modSlot (tIndex r.target) (fun x => { x with shadow := comparesOf r.body })).pickTaken (tIndex r.target)) := by
  have heq := bodyPwmWrite_eq_slot h hsec
  rw [heq] at h ⊢
  exact Ans.table_of_ok h (by simp)

/-- A write of a group's section runs the group's own table. -/
theorem bodyPwmWrite_eq_group (h : (bodyPwmWrite r t).status = 0) (hsec : u8 r.body 0 = 0) : bodyPwmWrite r t = bodyPwmGroup r t := by
  refine (Ans.table_of_ok h (by simp)).trans ?_
  simp only [hsec, if_true]

/-- The group's section taken, and the test mode that it asks for. -/
def State.pwmGroupTake (t : State) (g : Fin 8) (b : Bytes) : State :=
  let u := t.store (fun c => { c with pwm := c.pwm.set g (some b) })
  (if u.groups[g].pwm.test && decide (u8 b 1 = 0) then u.pwmStop g else u).modPwm g (fun w => { w with test := decide (u8 b 1 = 1) })

theorem bodyPwmWrite_group (h : (bodyPwmWrite r t).status = 0) (hsec : u8 r.body 0 = 0) : bodyPwmWrite r t = .ok
    (forNums ((t.pwmGroupTake r.g r.body).gSlots r.g) (t.pwmGroupTake r.g r.body) (fun w k =>
      (if w.tripEn r.g k && !t.tripEn r.g k then
        w.modSlot k (fun x => { x with trips := [], tripRun := 0, tripRunWas := 0, tripped := false }) else w).pickTaken k)) := by
  have heq := bodyPwmWrite_eq_group h hsec
  rw [heq] at h ⊢
  exact Ans.table_of_ok h (by simp)

theorem bodyPwmLoadall_ok (h : (bodyPwmLoadall r t).status = 0) : bodyPwmLoadall r t = .ok
    (if t.groups[r.g].pwm.running then t.loadAll r.g false else t.pwmStart r.g) (bodyPwmLoadall r t).rest := by
  refine Ans.table_leaves h (by simp) ?_
  dsimp only
  split <;> rfl

/-! ### LOOP (R254 to R258) -/

theorem bodyLoopParam_ok (h : (bodyLoopParam r t).status = 0) : bodyLoopParam r t = .ok
    (t.store (fun c => if u8 r.body 0 = 0 then { c with loop0 := c.loop0.set r.g (some r.body) }
      else if u8 r.body 0 = 1 then { c with loop1 := c.loop1.set r.g (some r.body) }
      else { c with loop2 := c.loop2.set r.g (some r.body) })) := by
  refine (Ans.table_of_ok h (by simp)).trans ?_
  refine congrArg (fun f => Ans.ok (t.store f)) (funext fun c => ?_)
  split
  next h0 => rw [if_pos h0]
  next h1 => rw [if_neg (by omega), if_pos h1]
  next h0 h1 => rw [if_neg h0, if_neg h1]

theorem bodyLoopProfile_ok (h : (bodyLoopProfile r t).status = 0) : bodyLoopProfile r t = .ok
    ((t.store (fun c => { c with profile := c.profile.set r.g (some r.body) })).modLoop r.g
      (fun l => { l with limits := limitsOf r.body })) :=
  Ans.table_of_ok h (by simp)

/-- A read of the counters clears them where it asks to. -/
theorem bodyLoopTrace_counters (h : (bodyLoopTrace r t).status = 0) (hk : u8 r.body 0 = 2) : bodyLoopTrace r t = .ok
    (if bit (u8 r.body 1) 0 then t.modLoop r.g (fun l => { l with
      sat := 0, clMax := 0, effMax := 0, effMin := none, super := 0, cReplans := 0, cClamps := 0, cArrests := 0
      cAbandoned := 0, clearSt := t.st }) else t) (bodyLoopTrace r t).rest := by
  refine Ans.table_leaves h (by simp) ?_
  rw [if_pos hk]
  rfl

/-- A read of an empty ring of latencies takes a free value for the oldest of them. -/
theorem bodyLoopTrace_latencies (h : (bodyLoopTrace r t).status = 0) (hk : u8 r.body 0 = 0) : bodyLoopTrace r t = .ok
    ((if t.groups[r.g].loop.lats = [] then t.free.2 else t).modLoop r.g (fun l => { l with latLost := false }))
      (bodyLoopTrace r t).rest := by
  refine Ans.table_leaves h (by simp) ?_
  simp only [hk, if_true, Nat.reduceEqDiff, if_false]
  by_cases hnone : t.groups[r.g].loop.lats = []
  · simp only [hnone, if_true, List.reverse_nil]
    rfl
  · simp only [hnone, if_false]
    split
    · rfl
    next hrev => exact absurd (List.reverse_eq_nil_iff.mp hrev) hnone

theorem bodyLoopTrace_replans (h : (bodyLoopTrace r t).status = 0) (hk : u8 r.body 0 = 1) : bodyLoopTrace r t = .ok
    ((if t.groups[r.g].loop.replans = [] then t.free.2 else t).modLoop r.g (fun l => { l with replanLost := false }))
      (bodyLoopTrace r t).rest := by
  refine Ans.table_leaves h (by simp) ?_
  simp only [hk, Nat.reduceEqDiff, Nat.one_ne_zero, if_false]
  by_cases hnone : t.groups[r.g].loop.replans = []
  · simp only [hnone, if_true, List.reverse_nil]
    rfl
  · simp only [hnone, if_false]
    split
    · rfl
    next hrev => exact absurd (List.reverse_eq_nil_iff.mp hrev) hnone

end Sys2Proof.Machine

namespace Sys2Proof.Proofs

open Sys2Proof Sys2Proof.Machine

/-- Settles O5: what each body leaves, then the reply. -/
theorem groupCommandsComplete : Obligations.GroupCommandsComplete := by
  intro s t p r arr hu
  refine ⟨fun h hok => ?_, fun h hok => ?_, fun h hok => ?_, fun h hok htest => ?_, fun h hok htest => ?_, fun h => ?_,
    fun h hnot => ?_, fun h hok => ?_, fun h hok => ?_⟩
  · exact live_command_ok bodyGroupConfig h hu (bodyGroupConfig_ok hok)
  · exact live_command_ok bodyGroupEnable h hu (bodyGroupEnable_ok hok)
  · exact live_command_ok bodyGroupSetpoint h hu (bodyGroupSetpoint_ok hok)
  · exact live_command_ok bodyGroupStop h hu (bodyGroupStop_of_no_test hok htest)
  · exact live_command_ok bodyGroupStop h hu (bodyGroupStop_of_test hok htest)
  · exact live_command_ok bodyGroupStatus h hu rfl
  · exact live_command_ok bodyPhaseRetire h hu (bodyPhaseRetire_ok hnot)
  · exact live_command_ok bodyPhaseRestore h hu (bodyPhaseRestore_ok hok)
  · exact live_command_ok bodyGroupFaultRead h hu (bodyGroupFaultRead_ok hok)

/-- Settles O6: what each body leaves, then the reply. -/
theorem faultCommandsComplete : Obligations.FaultCommandsComplete := by
  intro s t p r arr hu
  refine ⟨fun h => ?_, fun h hok => ?_, fun h => ?_⟩
  · exact live_command_ok bodyFaultRead h hu rfl
  · exact live_command_ok bodyFaultClear h hu (bodyFaultClear_ok hok)
  · exact live_command_ok bodyResourceList h hu rfl

/-- Settles O7: what each body leaves, then the reply. -/
theorem stageCommandsComplete : Obligations.StageCommandsComplete := by
  intro s t p r arr hu
  refine ⟨fun h hok hsec => ?_, fun h hok hsec => ?_, fun u k hpick => State.pickTaken_of_other_tick hpick, fun h hok => ?_, fun h => ?_,
    fun h hok => ?_, fun h hok => ?_, fun h hok hk => ?_, fun h hok hk => ?_, fun h hok hk => ?_⟩
  · exact live_command_ok bodyPwmWrite h hu (bodyPwmWrite_slot hok hsec)
  · exact live_command_ok bodyPwmWrite h hu (bodyPwmWrite_group hok hsec)
  · exact live_command_ok bodyPwmLoadall h hu (bodyPwmLoadall_ok hok)
  · exact live_command_ok bodyPwmCalStatus h hu rfl
  · exact live_command_ok bodyLoopParam h hu (bodyLoopParam_ok hok)
  · exact live_command_ok bodyLoopProfile h hu (bodyLoopProfile_ok hok)
  · exact live_command_ok bodyLoopTrace h hu (bodyLoopTrace_counters hok hk)
  · exact live_command_ok bodyLoopTrace h hu (bodyLoopTrace_latencies hok hk)
  · exact live_command_ok bodyLoopTrace h hu (bodyLoopTrace_replans hok hk)

end Sys2Proof.Proofs

/-! The PORT, COOL, METER and BILL commands: what each body leaves where its own table answers OK. -/

namespace Sys2Proof.Machine

-- Proofs one after the other: side by side, each waits on a thread of its own for what they all need, at the cost of the check's memory.
set_option Elab.async false

variable {r : Req} {t : State}

/-! ### PORT and COOL (R348 to R354, R380) -/

theorem bodyPortConfig_ok (h : (bodyPortConfig r t).status = 0) : bodyPortConfig r t = .ok
    (if t.sys.ready then (t.store (fun c => { c with port := c.port.set r.g (some r.body) })).linkRelease r.g
      else t.store (fun c => { c with port := c.port.set r.g (some r.body) })) :=
  Ans.table_of_ok h (by simp)

theorem bodyPortAuthorize_ok (h : (bodyPortAuthorize r t).status = 0) : bodyPortAuthorize r t = .ok
    (if u8 r.body 4 = 0 then t.portBack r.g 6 else t.modSession r.g (fun e => { e with
      authSt := some t.st, dischOk := bit (u8 r.body 5) 0, proto := if e.bpt && bit (u8 r.body 5) 0 then 4 else e.proto
      account := u16 r.body 6, chargeCeil := u32 r.body 8, dischCeil := u32 r.body 12 })) := by
  refine (Ans.table_of_ok h (by simp)).trans ?_
  split <;> rfl

theorem bodyPortLimit_ok (h : (bodyPortLimit r t).status = 0) : bodyPortLimit r t = .ok
    (((t.store (fun c => { c with portLimit := c.portLimit.set r.g (some r.body) })).modPort r.g
      (fun x => { x with limits := limitsOfPort r.body, dirty := true })).refreshEff r.g) :=
  Ans.table_of_ok h (by simp)

theorem bodyPortStop_ok (h : (bodyPortStop r t).status = 0) : bodyPortStop r t = .ok
    (t.portStop r.g (u8 r.body 0) 1 (1 + u8 r.body 0)) :=
  Ans.table_of_ok h (by simp)

theorem bodyPortClear_ok (h : (bodyPortClear r t).status = 0) : bodyPortClear r t = .ok
    ((t.portSet r.g .idle).modPort r.g (fun x => { x with retries := [] })) :=
  Ans.table_of_ok h (by simp)

/-- The read of a port's session records takes a free value for the oldest one where there is none, and another for the reason of a
session that has not ended. -/
def State.sessionRead (t : State) (g : Fin 8) (b : Bytes) : State :=
  let u := if (vget t.portRecs g {}).recs = [] then t.free.2 else t
  if (t.ports[g].session.filter (fun e => u8 b 4 == 1 && e.id == u32 b 0)).isSome && t.ports[g].ending.isNone then u.free.2 else u

theorem bodyPortSessionRead_ok (h : (bodyPortSessionRead r t).status = 0) : bodyPortSessionRead r t = .ok
    (t.sessionRead r.g r.body) (bodyPortSessionRead r t).rest := by
  refine Ans.table_leaves h (by simp) ?_
  have hold : ∀ l : List Bytes, (match l.reverse with
      | y :: _ => (u32 y 0, t)
      | [] => t.free).2 = if l = [] then t.free.2 else t := by
    intro l
    split
    next y ys hl => rw [if_neg (fun e => by rw [e] at hl; cases hl)]
    next hl => rw [if_pos (List.reverse_eq_nil_iff.mp hl)]
  unfold State.sessionRead
  dsimp only
  rw [← hold]
  split
  next e hsome =>
    rw [hsome]
    split
    next n hend => rw [hend]; rfl
    next hend => rw [hend]; rfl
  next hnone => rw [hnone]; rfl

theorem bodyCoolConfig_ok (h : (bodyCoolConfig r t).status = 0) : bodyCoolConfig r t = .ok
    ((t.store (fun c => { c with cool := c.cool.set r.g (some r.body) })).modCool r.g (fun c =>
      (if (t.coolCfg r.g).any (fun o => u8 o 0 == u8 r.body 0) then id else Cool.stop)
        { c.afresh with sens := Vector.replicate 7 {}, freshAt := t.el, stale := false })) :=
  Ans.table_of_ok h (by simp)

/-! ### METER (R432 to R435) -/

theorem State.keyRows_err (t : State) (r : Req) (area : Bool) : ∀ y ∈ t.keyRows r area, 1 < y.2.1 := by simp [State.keyRows]

/-- The rows of METER_CONFIG, whatever their conditions. -/
theorem meterRows_err (area c1 c2 c3 c4 : Bool) (l1 l2 : List (Bool × Nat)) (l3 : List (Nat × Nat)) (o : Nat) :
    ∀ y ∈ t.keyRows r area ++ [row c1 stParam 0, row c2 stTarget, paramRow l1, paramRow l2, row c3 stParam o, retRow t r.target,
      retiredRow t l3, row c4 stConflict], 1 < y.2.1 :=
  List.forall_mem_append.mpr ⟨t.keyRows_err r area, by simp⟩

theorem bodyMeterConfig_meter {k : Fin 12} (h : (bodyMeterConfig r t).status = 0) (hm : meterOfTarget r.target = some k) :
    bodyMeterConfig r t = .ok ((t.mrec 3 r.target (crc32c r.body)).modMeter k (fun x => { x with next := some r.body })) := by
  refine (Ans.table_of_ok h (meterRows_err _ _ _ _ _ _ _ _ _)).trans ?_
  simp only [hm]

theorem bodyMeterConfig_clocks (h : (bodyMeterConfig r t).status = 0) (hm : meterOfTarget r.target = none) :
    bodyMeterConfig r t = .ok
      (let u := (t.mrec 3 r.target (crc32c r.body)).filterRestart (fun l => decide (l < 128) &&
        u8 r.body (4 + l / 8) != (t.mrec 3 r.target (crc32c r.body)).mclkDiv (l / 8))
      { u with metro := { u.metro with divs := Vector.ofFn (fun (k : Fin 16) => u8 r.body (4 + k.val)) } }) := by
  refine (Ans.table_of_ok h (meterRows_err _ _ _ _ _ _ _ _ _)).trans ?_
  simp only [hm]

/-- The calibration table after a chunk. -/
def State.calTransfer (t : State) (b : Bytes) : Bytes :=
  (if u32 b 4 = 0 then [] else (match t.metro.xfer with | some y => y.2 | none => [])) ++ sub b 16 (u16 b 8)

/-- An answer that is OK does not come from an error row. -/
theorem Ans.of_ite_err {c : Prop} [Decidable c] {a b : Ans} (ha : a.status ≠ 0) (h : (if c then a else b).status = 0) :
    ¬ c ∧ b.status = 0 := by
  split at h
  · exact absurd h ha
  next hc => exact ⟨hc, h⟩

/-- A chunk is added to the table, which the last one makes the next to be used. -/
theorem bodyMeterCalTable_ok (h : (bodyMeterCalTable r t).status = 0) : bodyMeterCalTable r t =
    if bit (u8 r.body 10) 0 then
      .ok (({ t with metro := { t.metro with xfer := none, calNext := some (t.calTransfer r.body) } } : State).mrec 4 (u32 r.body 0)
          (u32 (t.calTransfer r.body) ((t.calTransfer r.body).length - 4)))
        ([1, 0] ++ le 4 (t.calTransfer r.body).length ++ le 4 (u32 (t.calTransfer r.body) ((t.calTransfer r.body).length - 4)))
    else .ok { t with metro := { t.metro with xfer := some (u32 r.body 0, t.calTransfer r.body) } }
      ([0, 0] ++ le 4 (t.calTransfer r.body).length ++ le 4 0) := by
  have htable : t.calTransfer r.body = if u32 r.body 4 = 0 then sub r.body 16 (u16 r.body 8)
      else (match t.metro.xfer with | some (_, x) => x | none => []) ++ sub r.body 16 (u16 r.body 8) := by
    unfold State.calTransfer
    split
    · rfl
    · cases t.metro.xfer <;> rfl
  rw [htable]
  unfold bodyMeterCalTable at h ⊢
  extract_lets at h ⊢
  split at h
  next st o hx =>
    obtain ⟨y, hy, he⟩ := firstRow_mem hx
    have hlt := t.keyRows_err r true y hy
    rw [he] at hlt
    exact absurd h (Nat.ne_of_gt (Nat.lt_trans Nat.one_pos hlt))
  next =>
    obtain ⟨hfields, h⟩ := Ans.of_ite_err (show stParam ≠ 0 by decide) h
    obtain ⟨hbad, h⟩ := Ans.of_ite_err (show stParam ≠ 0 by decide) h
    refine (if_neg hfields).trans ((if_neg hbad).trans ?_)
    by_cases hlast : bit (u8 r.body 10) 0 = true
    · replace h := (congrArg Ans.status (if_pos hlast)).symm.trans h
      split at h
      next htable => exact (if_pos hlast).trans ((if_pos htable).trans (if_pos hlast).symm)
      next => exact absurd h (show stParam ≠ 0 by decide)
    · exact (if_neg hlast).trans (if_neg hlast).symm

theorem bodyMeterRead_ok (h : (bodyMeterRead r t).status = 0) : bodyMeterRead r t = .ok t (bodyMeterRead r t).rest := by
  refine Ans.table_leaves h (by simp) ?_
  dsimp only
  split <;> rfl

theorem bodyMeterSeal_ok (h : (bodyMeterSeal r t).status = 0) : bodyMeterSeal r t = .ok
    ((({ t with metro := { t.metro with sealed := true, fwCrc := t.nv.fw.metroCrc } } : State).mrec 5 t.calCrc t.nv.fw.metroCrc).raise
      .meterSealed) :=
  Ans.table_of_ok h (List.forall_mem_append.mpr ⟨t.keyRows_err r false, by simp⟩)

/-! ### BILL (R483 to R488) -/

theorem bodyBillTariffLoad_ok (h : (bodyBillTariffLoad r t).status = 0) : bodyBillTariffLoad r t = .ok
    ((t.modB (fun x => { x with pricesNext := some (t.activation (u64 r.body 8), r.body) })).mrec 0x41 (u32 r.body 0) (crc32c r.body)) :=
  Ans.table_of_ok h (List.forall_mem_append.mpr ⟨t.billRows_err, by simp⟩)

theorem bodyBillCalendarLoad_ok (h : (bodyBillCalendarLoad r t).status = 0) : bodyBillCalendarLoad r t = .ok
    ((t.modB (fun x => { x with calNext := some (t.activation (u64 r.body 8), r.body) })).mrec 0x42 (u32 r.body 4) (crc32c r.body)) :=
  Ans.table_of_ok h (List.forall_mem_append.mpr ⟨t.billRows_err, by simp⟩)

theorem bodyBillRead_ok (h : (bodyBillRead r t).status = 0) : bodyBillRead r t = .ok t (bodyBillRead r t).rest :=
  Ans.table_leaves h (List.forall_mem_append.mpr ⟨t.billRows_err, by simp⟩) rfl

/-- The token that a packet spells. -/
def State.tokenOf (t : State) (r : Req) : TokenResult × State :=
  t.token true (digitsVal (((r.body.take 20).map (fun x => x.toNat)).map (· - 48))) (tIndex r.target) r.via.path 0

theorem bodyBillTokenEnter_ok (h : (bodyBillTokenEnter r t).status = 0) : (bodyBillTokenEnter r t).s = (t.tokenOf r).2 ∧
    (bodyBillTokenEnter r t).silent = (t.tokenOf r).1.abandoned := by
  rw [show bodyBillTokenEnter r t = _ from Ans.table_of_ok h (List.forall_mem_append.mpr ⟨t.billRows_err, by simp⟩)]
  exact ⟨rfl, rfl⟩

theorem bodyBillClosePeriod_ok (h : (bodyBillClosePeriod r t).status = 0) : bodyBillClosePeriod r t = .ok
    (if t.bill.b.opened = (t.st + 99999999) / 100000000 * 100000000 ∧ 1 < t.bill.b.period then t else
      t.modB (fun b => { b with closeAt := b.closeAt ++ [(t.st + 99999999) / 100000000 * 100000000] }))
    (bodyBillClosePeriod r t).rest := by
  refine Ans.table_leaves h t.billRows_err ?_
  simp only [Bool.and_eq_true, beq_iff_eq, decide_eq_true_eq]
  rfl

/-- The rows of BILL_ACCOUNT, whatever their conditions. -/
theorem accountRows_err (c1 c2 c3 c4 : Bool) (l : List (Bool × Nat)) :
    ∀ y ∈ t.billRows ++ [row c1 stParam 0, row c2 stTarget, paramRow l, row c3 stTarget, row c4 stConflict], 1 < y.2.1 :=
  List.forall_mem_append.mpr ⟨t.billRows_err, by simp⟩

theorem bodyBillAccount_load (h : (bodyBillAccount r t).status = 0) (hop : u8 r.body 0 = 0) : bodyBillAccount r t = .ok
    ((t.modB (fun z => { z with accounts := vset z.accounts (tIndex r.target) { vget z.accounts (tIndex r.target) {} with
      loaded := true, cls := u8 r.body 1, ceil := u32 r.body 4, low := u32 r.body 8 } })).mrec 0x4C (tIndex r.target) 0) := by
  refine (Ans.table_of_ok h (accountRows_err _ _ _ _ _)).trans ?_
  simp only [hop]
  rfl

theorem bodyBillAccount_read (h : (bodyBillAccount r t).status = 0) (hop : u8 r.body 0 = 1) :
    bodyBillAccount r t = .ok t (bodyBillAccount r t).rest := by
  refine Ans.table_leaves h (accountRows_err _ _ _ _ _) ?_
  simp only [hop]
  rfl

theorem bodyBillAccount_remove (h : (bodyBillAccount r t).status = 0) (hop : u8 r.body 0 = 2) : bodyBillAccount r t = .ok
    ((t.modB (fun z => { z with
      accounts := vset z.accounts (tIndex r.target) ({ life := (vget z.accounts (tIndex r.target) {}).life + 1 } : Account) })).mrec 0x4C (tIndex r.target) 2) := by
  refine (Ans.table_of_ok h (accountRows_err _ _ _ _ _)).trans ?_
  simp only [hop]
  rfl

theorem bodyBillAccount_keypads (h : (bodyBillAccount r t).status = 0) (hop : u8 r.body 0 = 3) : bodyBillAccount r t = .ok
    (({ t with bill := { t.bill with keypads := (List.range (u8 r.body 1)).map (fun k =>
      (u8 r.body (4 + 12 * k), u32 r.body (8 + 12 * k), u32 r.body (12 + 12 * k))) } } : State).mrec 0x4C (tIndex r.target) 3) := by
  refine (Ans.table_of_ok h (accountRows_err _ _ _ _ _)).trans ?_
  have hentry : (fun k => (u8 r.body (4 + 12 * k), u32 r.body (8 + 12 * k), u32 r.body (12 + 12 * k))) =
      fun k => (u8 r.body (4 + 12 * k), u32 r.body (4 + 12 * k + 4), u32 r.body (4 + 12 * k + 8)) := by
    funext k
    rw [show 4 + 12 * k + 4 = 8 + 12 * k by omega, show 4 + 12 * k + 8 = 12 + 12 * k by omega]
  rw [hentry]
  simp only [hop]

end Sys2Proof.Machine

namespace Sys2Proof.Proofs

open Sys2Proof Sys2Proof.Machine

/-- Settles O8: what each body leaves, then the reply. -/
theorem portCommandsComplete : Obligations.PortCommandsComplete := by
  intro s t p r arr hu
  refine ⟨fun h hok => ?_, fun h hok => ?_, fun h hok => ?_, fun h hok => ?_, fun h => ?_, fun h hok => ?_, fun h hok => ?_,
    fun h hok => ?_, fun h => ?_⟩
  · exact live_command_ok bodyPortConfig h hu (bodyPortConfig_ok hok)
  · exact live_command_ok bodyPortAuthorize h hu (bodyPortAuthorize_ok hok)
  · exact live_command_ok bodyPortLimit h hu (bodyPortLimit_ok hok)
  · exact live_command_ok bodyPortStop h hu (bodyPortStop_ok hok)
  · exact live_command_ok bodyPortStatus h hu rfl
  · exact live_command_ok bodyPortSessionRead h hu (bodyPortSessionRead_ok hok)
  · exact live_command_ok bodyPortClear h hu (bodyPortClear_ok hok)
  · exact live_command_ok bodyCoolConfig h hu (bodyCoolConfig_ok hok)
  · exact live_command_ok bodyCoolStatus h hu rfl

/-- Settles O9: what each body leaves, then the reply. -/
theorem meterCommandsComplete : Obligations.MeterCommandsComplete := by
  intro s t p r arr hu
  refine ⟨fun k h hok hm => ?_, fun h hok hm => ?_, fun h hok => ?_, fun h hok => ?_, fun h hok => ?_⟩
  · exact live_command_ok bodyMeterConfig h hu (bodyMeterConfig_meter hok hm)
  · exact live_command_ok bodyMeterConfig h hu (bodyMeterConfig_clocks hok hm)
  · have hrun := bodyMeterCalTable_ok hok
    intro x
    split
    next hlast => exact live_command_ok bodyMeterCalTable h hu (hrun.trans (if_pos hlast))
    next hmore => exact live_command_ok bodyMeterCalTable h hu (hrun.trans (if_neg hmore))
  · exact live_command_ok bodyMeterRead h hu (bodyMeterRead_ok hok)
  · exact live_command_ok bodyMeterSeal h hu (bodyMeterSeal_ok hok)

/-- Settles O10: what each body leaves, then the reply, which a token that is abandoned does not get. -/
theorem billCommandsComplete : Obligations.BillCommandsComplete := by
  intro s t p r arr hu
  refine ⟨fun h hok => ?_, fun h hok => ?_, fun h hok => ?_, fun h hok => ?_, fun h hok => ?_, fun h hok hop => ?_, fun h hok hop => ?_,
    fun h hok hop => ?_, fun h hok hop => ?_⟩
  · exact live_command_ok bodyBillTariffLoad h hu (bodyBillTariffLoad_ok hok)
  · exact live_command_ok bodyBillCalendarLoad h hu (bodyBillCalendarLoad_ok hok)
  · exact live_command_ok bodyBillRead h hu (bodyBillRead_ok hok)
  · obtain ⟨hs, hsilent⟩ := bodyBillTokenEnter_ok hok
    have hrun := live_command_status_ok bodyBillTokenEnter h hu nofun nofun hok
    rwa [State.afterReply_of_code (State.accepts_code h), hs, hsilent] at hrun
  · exact live_command_ok bodyBillClosePeriod h hu (bodyBillClosePeriod_ok hok)
  · exact live_command_ok bodyBillAccount h hu (bodyBillAccount_load hok hop)
  · exact live_command_ok bodyBillAccount h hu (bodyBillAccount_remove hok hop)
  · exact live_command_ok bodyBillAccount h hu (bodyBillAccount_keypads hok hop)
  · exact live_command_ok bodyBillAccount h hu (bodyBillAccount_read hok hop)

end Sys2Proof.Proofs

/-! The TWIN, CAN, FLINK, QUEUE, EVENT, SW, HK and THERM commands: what each body leaves where its own table answers OK. -/

namespace Sys2Proof.Machine

-- Proofs one after the other: side by side, each waits on a thread of its own for what they all need, at the cost of the check's memory.
set_option Elab.async false

variable {r : Req} {t : State}

/-! ### TWIN (R513, R526 to R528) -/

theorem bodyTwinConfig_sites (h : (bodyTwinConfig r t).status = 0) (hk : u8 r.body 0 = 1) :
    bodyTwinConfig r t = .ok (t.store (fun c => { c with sites := some r.body })) := by
  refine (Ans.table_of_ok h (by simp)).trans ?_
  simp only [hk, Nat.one_ne_zero, if_false]

theorem bodyTwinConfig_same (h : (bodyTwinConfig r t).status = 0) (hk : u8 r.body 0 = 0) (hon : (u8 r.body 1 == 1) = t.paired) :
    bodyTwinConfig r t = .ok (t.store (fun c => { c with twin := some r.body })) := by
  refine (Ans.table_of_ok h (by simp)).trans ?_
  simp only [hk, hon, bne_self_eq_false, Bool.and_false, Bool.false_eq_true, if_true, if_false]

theorem bodyTwinConfig_change (h : (bodyTwinConfig r t).status = 0) (hk : u8 r.body 0 = 0) (hon : (u8 r.body 1 == 1) ≠ t.paired) :
    bodyTwinConfig r t = .ok ((t.store (fun c => { c with twin := some r.body })).pairingChange (u8 r.body 1 == 1)) := by
  refine (Ans.table_of_ok h (by simp)).trans ?_
  have hne : ((u8 r.body 1 == 1) != t.paired) = true := bne_iff_ne.mpr hon
  simp only [hk, hne, beq_self_eq_true, Bool.and_self, if_true]

theorem bodyTwinStatus_query (h : (bodyTwinStatus r t).status = 0) (hk : u8 r.body 8 = 0) :
    bodyTwinStatus r t = .ok t (bodyTwinStatus r t).rest := by
  refine Ans.table_leaves h (by simp) ?_
  simp only [hk]
  rfl

theorem bodyTwinStatus_twin (h : (bodyTwinStatus r t).status = 0) (hk : u8 r.body 8 = 1) :
    bodyTwinStatus r t = .ok (t.twinRenewal r.body) := by
  refine (Ans.table_of_ok h (by simp)).trans ?_
  simp only [hk]

theorem bodyTwinStatus_master (h : (bodyTwinStatus r t).status = 0) (hk : u8 r.body 8 = 2) :
    bodyTwinStatus r t = .ok (t.masterRenewal r.body) := by
  refine (Ans.table_of_ok h (by simp)).trans ?_
  simp only [hk]

theorem bodyTwinDrill_ok (h : (bodyTwinDrill r t).status = 0) : bodyTwinDrill r t = .ok
    (if u8 r.body 0 = 0 then t.drillStart else t.modTwin (fun x => { x with drillsOff := u8 r.body 0 == 1 }))
    (List.replicate 6 0 ++ le 8 (if u8 r.body 0 = 0 then t.nextQ0 else 0)) := by
  refine (Ans.table_of_ok h (List.forall_mem_cons.mpr ⟨by simp, t.yieldRows_err _⟩)).trans ?_
  split <;> rfl

theorem bodyTwinYield_ok (h : (bodyTwinYield r t).status = 0) (hl : r.launch = 0) :
    bodyTwinYield r t = .ok (t.offerHandover t.nextQ0 0) (List.replicate 6 0 ++ le 8 t.nextQ0) := by
  refine (Ans.table_of_ok h (List.forall_mem_cons.mpr ⟨by simp, t.yieldRows_err _⟩)).trans ?_
  simp only [hl, if_true]

/-! ### CAN (R553 to R555) -/

theorem bodyCanConfig_controller (h : (bodyCanConfig r t).status = 0) (hk : u8 r.body 0 = 0) : bodyCanConfig r t = .ok
    ((t.store (fun c => { c with can0 := c.can0.set r.can (some r.body) })).modCan r.can (fun c => { c with cfg0 := some r.body })) := by
  refine (Ans.table_of_ok h (by simp)).trans ?_
  simp only [hk, if_true]

theorem bodyCanConfig_streams (h : (bodyCanConfig r t).status = 0) (hk : u8 r.body 0 = 1) : bodyCanConfig r t = .ok
    ((t.store (fun c => { c with can1 := c.can1.set r.can (some r.body) })).modCan r.can (fun c => { c with
      cfg1 := some (t.canStreams r.can), next1 := some (t.st / 50000 + 1, r.body) })) := by
  refine (Ans.table_of_ok h (by simp)).trans ?_
  simp only [hk, Nat.one_ne_zero, if_false]

theorem bodyCanMode_recover (h : (bodyCanMode r t).status = 0) (hk : u8 r.body 0 = 4) :
    bodyCanMode r t = .ok (t.modCan r.can (fun c => { c with recovering := true })) := by
  refine (Ans.table_of_ok h (by simp)).trans ?_
  simp only [hk, if_true]

theorem bodyCanMode_ask (h : (bodyCanMode r t).status = 0) (hk : u8 r.body 0 ≠ 4) : bodyCanMode r t = .ok
    ((if bit (u8 r.body 1) 0 then t.store (fun x => { x with canMode := x.canMode.set r.can (some (u8 r.body 0)) }) else t).canAskMode
      r.can (canModeOf (u8 r.body 0)) 4) := by
  refine (Ans.table_of_ok h (by simp)).trans ?_
  simp only [hk, if_false]

/-- Does a frame of CAN_SEND end in the tag of the twin pair? -/
def canTagged (b : Bytes) : Bool := bit (u8 b 4) 4 && !bit (u8 b 4) 2

/-- The state whose tag counter has moved for a frame that takes a tag. -/
def State.canSendTag (t : State) (b : Bytes) : State := if canTagged b then t.twinTag.2 else t

/-- The data bytes of the frame of CAN_SEND. -/
def State.canSendData (t : State) (b : Bytes) : Bytes :=
  if bit (u8 b 4) 2 then [] else if canTagged b then (sub b 16 (u8 b 5)).take (u8 b 5 - 4) ++ t.twinTag.1 else sub b 16 (u8 b 5)

/-- The frame of CAN_SEND, in the state after its tag. -/
def State.canSendFrame (u : State) (b d : Bytes) : TxFrame :=
  let copy := canTagged b && !u.holdsTwin
  { at_ := u.st, copy
    ident := (if copy then u.copyIdent (u32 b 0) else u32 b 0) + 2 ^ 30 * b01 (bit (u8 b 4) 2)
    fd := bit (u8 b 4) 0, brs := bit (u8 b 4) 0 && bit (u8 b 4) 1, data := d
    singleShot := bit (u8 b 4) 3, echo := bit (u8 b 4) 5, key := 0, rlen := u8 b 5
    expiry := if u16 b 6 = 0 then none else some (u.el + 1000000 * u16 b 6) }

/-- A frame sent joins the frames of its class. -/
def State.canSendQueue (t : State) (n : Fin 8) (b : Bytes) : State :=
  (t.canSendTag b).modCan n (fun c => { c with tx2 := c.tx2 ++ [(t.canSendTag b).canSendFrame b (t.canSendData b)] })

theorem bodyCanSend_ok (h : (bodyCanSend r t).status = 0) : bodyCanSend r t = .ok (t.canSendQueue r.can r.body)
    ([0, 0] ++ le 4 (t.canSendQueue r.can r.body).cans[r.can].tx2.length) := by
  refine (Ans.table_of_ok h (by simp)).trans ?_
  unfold State.canSendQueue State.canSendFrame State.canSendData State.canSendTag canTagged
  cases h2 : bit (u8 r.body 4) 2 <;> cases h4 : bit (u8 r.body 4) 4 <;>
    simp only [Bool.not_true, Bool.not_false, Bool.and_true, Bool.and_false, Bool.true_and, Bool.false_and,
      Bool.false_eq_true, if_true, if_false]

/-! ### FLINK (R587, R588) -/

theorem bodyFlinkConfig_ok (h : (bodyFlinkConfig r t).status = 0) : bodyFlinkConfig r t = .ok
    (if u8 r.body 0 = 0 then
      (if bit (u8 r.body 1) 0 && !t.flOn then t.modFl (fun x => { x with since := some t.el }) else t).store
        (fun c => { c with flink0 := some r.body })
    else t.store (fun c => { c with flink1 := some r.body })) := by
  refine (Ans.table_of_ok h (by simp)).trans ?_
  split <;> rfl

theorem bodyFlinkSend_ok (h : (bodyFlinkSend r t).status = 0) : bodyFlinkSend r t = .ok
    (t.modFl (fun x => { x with queue := x.queue ++ [{
      dest := u8 r.body 0, ack := bit (u8 r.body 1) 0, data := r.body.drop 8, seq := none, sends := 0
      since := (match t.flink.beacon with | some b => b.m | none => 0), sentIn := none, at_ := t.el, sentAt := none, again := false
      ccp := r.seq }] })) (le 2 (t.flink.queue.length + 1) ++ le 4 0) := by
  refine (Ans.table_of_ok h (by simp)).trans ?_
  simp only [State.modFl, List.length_append, List.length_singleton] <;> rfl

/-! ### QUEUE and EVENT (R667 to R670) -/

theorem bodyQueueConfig_ok (h : (bodyQueueConfig r t).status = 0) : bodyQueueConfig r t = .ok
    ((t.store (fun k => { k with queue := k.queue.set r.q (some r.body) })).queueApply r.q r.body) :=
  Ans.table_of_ok h (by simp)

theorem bodyQueueDropPacket_ok (h : (bodyQueueDropPacket r t).status = 0) : bodyQueueDropPacket r t = .ok
    (t.putQueue r.q t.queues[r.q].dropCurrent.1) ([0, 0] ++ le 4 t.queues[r.q].dropCurrent.2) :=
  Ans.table_of_ok h (by simp)

theorem bodyQueueStatus_ok (r : Req) (t : State) : bodyQueueStatus r t = .ok t (bodyQueueStatus r t).rest := by
  unfold bodyQueueStatus
  split <;> rfl

theorem bodyEventRoute_ok (h : (bodyEventRoute r t).status = 0) : bodyEventRoute r t = .ok
    (((List.range (u16 r.body 0)).map (fun j => 4 + 4 * j)).foldl (fun (u : State) (o : Nat) =>
      { u.store (fun c => { c with route := vset c.route (u8 r.body o) (some (u8 r.body (o + 1), u8 r.body (o + 2))) }) with
        evt := { u.evt with routeQ := vset u.evt.routeQ (u8 r.body o) (u8 r.body (o + 1))
                            routeIrq := vset u.evt.routeIrq (u8 r.body o) (u8 r.body (o + 2)) } }) t) :=
  Ans.table_of_ok h (by simp)

/-! ### SW, HK and THERM (R704, R705, R726 to R729) -/

theorem bodySwConfig_ok (h : (bodySwConfig r t).status = 0) :
    bodySwConfig r t = .ok (t.store (fun c => { c with sw := c.sw.set r.ch (some r.body) })) :=
  Ans.table_of_ok h (by simp)

theorem bodySwSet_ok (h : (bodySwSet r t).status = 0) : bodySwSet r t = .ok
    (if u8 r.body 0 = 3 then (t.modSw r.ch (fun c => { c with retries := 0, cmd := .off, lost := false })).swState r.ch .off
      else t.swCommand r.ch (if u8 r.body 0 = 0 then .off else if u8 r.body 0 = 1 then .on else .pwm (u16 r.body 2))
        (bit (u8 r.body 1) 0) false) := by
  refine (Ans.table_of_ok h (by simp)).trans ?_
  split <;> rfl

/-- Taking the entries of HK_CONFIG, each at its offset. -/
theorem bodyHkConfig_ok (h : (bodyHkConfig r t).status = 0) : bodyHkConfig r t = .ok
    (((List.range (u8 r.body 0)).map (fun j => 8 + 16 * j)).foldl (fun (u : State) (o : Nat) =>
      if h : u8 r.body o < 64 then
        ({ u with hk := { u.hk with
            inForce := u.hk.inForce.set (u8 r.body o) (u.hkCfg ⟨u8 r.body o, h⟩ (t.st / 20000000))
            since := u.hk.since.set (u8 r.body o) (t.st / 20000000 + 1) } } : State).store
          (fun g => { g with hk := g.hk.set (u8 r.body o) (some (sub r.body o 16)) })
      else u) t) :=
  Ans.table_of_ok h (by simp)

theorem bodyHkRead_ok (h : (bodyHkRead r t).status = 0) : bodyHkRead r t = .ok t (bodyHkRead r t).rest :=
  Ans.table_leaves h (by simp) rfl

theorem bodyThermConfig_ok (h : (bodyThermConfig r t).status = 0) :
    bodyThermConfig r t = .ok (t.store (fun c => { c with therm := some r.body })) :=
  Ans.table_of_ok h (by simp)

/-- A latch of the thresholds is released before the reply. -/
theorem bodyThermRelease_of_soft (h : (bodyThermRelease r t).status = 0) (hhw : t.nv.tlatch.hw = false) :
    bodyThermRelease r t = .ok t.thermRelease := by
  refine (Ans.table_of_ok h (by simp)).trans ?_
  rw [hhw]
  rfl

end Sys2Proof.Machine

namespace Sys2Proof.Proofs

open Sys2Proof Sys2Proof.Machine

/-- Settles O11: what each body leaves, then the reply. -/
theorem twinCommandsComplete : Obligations.TwinCommandsComplete := by
  intro s t p r arr hu
  refine ⟨fun h hok hk => ?_, fun h hok hk hon => ?_, fun h hok hk hon => ?_, fun h hok hk => ?_, fun h hok hk => ?_, fun h hok hk => ?_,
    fun h hok => ?_, fun h hok hl => ?_⟩
  · exact live_command_ok bodyTwinConfig h hu (bodyTwinConfig_sites hok hk)
  · exact live_command_ok bodyTwinConfig h hu (bodyTwinConfig_same hok hk hon)
  · exact live_command_ok bodyTwinConfig h hu (bodyTwinConfig_change hok hk hon)
  · exact live_command_ok bodyTwinStatus h hu (bodyTwinStatus_query hok hk)
  · exact live_command_ok bodyTwinStatus h hu (bodyTwinStatus_twin hok hk)
  · exact live_command_ok bodyTwinStatus h hu (bodyTwinStatus_master hok hk)
  · exact live_command_ok bodyTwinDrill h hu (bodyTwinDrill_ok hok)
  · exact live_command_ok bodyTwinYield h hu (bodyTwinYield_ok hok hl)

/-- Settles O12: what each body leaves, then the reply. -/
theorem canCommandsComplete : Obligations.CanCommandsComplete := by
  intro s t p r arr hu
  refine ⟨fun h hok hk => ?_, fun h hok hk => ?_, fun h hok => ?_, fun h hok hk => ?_, fun h hok hk => ?_, fun h => ?_⟩
  · exact live_command_ok bodyCanConfig h hu (bodyCanConfig_controller hok hk)
  · exact live_command_ok bodyCanConfig h hu (bodyCanConfig_streams hok hk)
  · exact live_command_ok bodyCanSend h hu (bodyCanSend_ok hok)
  · exact live_command_ok bodyCanMode h hu (bodyCanMode_recover hok hk)
  · exact live_command_ok bodyCanMode h hu (bodyCanMode_ask hok hk)
  · exact live_command_ok bodyCanStatus h hu rfl

/-- Settles O13: what each body leaves, then the reply. -/
theorem flinkCommandsComplete : Obligations.FlinkCommandsComplete := by
  intro s t p r arr hu
  refine ⟨fun h hok => ?_, fun h hok => ?_, fun h => ?_⟩
  · exact live_command_ok bodyFlinkConfig h hu (bodyFlinkConfig_ok hok)
  · exact live_command_ok bodyFlinkSend h hu (bodyFlinkSend_ok hok)
  · exact live_command_ok bodyFlinkStatus h hu rfl

/-- Settles O14: what each body leaves, then the reply. -/
theorem queueCommandsComplete : Obligations.QueueCommandsComplete := by
  intro s t p r arr hu
  refine ⟨fun h hok => ?_, fun h hok => ?_, fun h => ?_, fun h hok => ?_⟩
  · exact live_command_ok bodyQueueConfig h hu (bodyQueueConfig_ok hok)
  · exact live_command_ok bodyQueueDropPacket h hu (bodyQueueDropPacket_ok hok)
  · exact live_command_ok bodyQueueStatus h hu (bodyQueueStatus_ok r t)
  · exact live_command_ok bodyEventRoute h hu (bodyEventRoute_ok hok)

/-- Settles O15: what each body leaves, then the reply; a latch that the hardware limit did not set needs no reset after it. -/
theorem supplyCommandsComplete : Obligations.SupplyCommandsComplete := by
  intro s t p r arr hu
  refine ⟨fun h hok => ?_, fun h hok => ?_, fun h => ?_, fun h hok => ?_, fun h hok => ?_, fun h hok => ?_, fun h hok hhw hafter => ?_⟩
  · exact live_command_ok bodySwConfig h hu (bodySwConfig_ok hok)
  · exact live_command_ok bodySwSet h hu (bodySwSet_ok hok)
  · exact live_command_ok bodySwStatus h hu rfl
  · exact live_command_ok bodyHkConfig h hu (bodyHkConfig_ok hok)
  · exact live_command_ok bodyHkRead h hu (bodyHkRead_ok hok)
  · exact live_command_ok bodyThermConfig h hu (bodyThermConfig_ok hok)
  · have hrun := live_command_late bodyThermRelease h hu nofun nofun (bodyThermRelease_of_soft hok hhw)
    have hc := State.accepts_code h
    have hstay : (t.thermRelease.replied p arr 0 [0, 0]).afterReply r = t.thermRelease.replied p arr 0 [0, 0] := by
      simp only [State.afterReply, hc, hafter]
      rfl
    rwa [hstay] at hrun

end Sys2Proof.Proofs

/-!
The tier 1 statements: the step, the tick, the held device, and the state at reset.
-/

namespace Sys2Proof.Machine

/-! ### The tick (R72) and what leaves with it (R85) -/

/-- PTP messages have left the device, and nothing else has changed. -/
def SendsPtp (s t : State) : Prop :=
  ∃ sent : List Out, (∀ o ∈ sent, ∃ net who m, o = .ptp net who m) ∧ t = { s with out := s.out ++ sent }

theorem SendsPtp.refl (s : State) : SendsPtp s s := ⟨[], by simp, by simp⟩

theorem SendsPtp.trans {a b c : State} (hab : SendsPtp a b) (hbc : SendsPtp b c) : SendsPtp a c := by
  obtain ⟨l, hl, rfl⟩ := hab
  obtain ⟨m, hm, rfl⟩ := hbc
  exact ⟨l ++ m, fun o ho => (List.mem_append.1 ho).elim (hl o) (hm o), by simp⟩

theorem SendsPtp.whenDo {s t : State} {f : State → State} (h : SendsPtp s t) (hf : SendsPtp t (f t)) (b : Bool) :
    SendsPtp s (whenDo b f t) := by
  cases b
  · exact h
  · exact h.trans hf

theorem State.emit_sendsPtp (s : State) (net : Nat) (who : Nat) (m : PtpOut) : SendsPtp s (s.emit (.ptp net who m)) := by
  unfold State.emit
  split
  · exact .refl s
  · exact ⟨[.ptp net who m], by simp, rfl⟩

/-- PTP messages are sent in ready and out of a device-fault state (R36, R85). -/
theorem State.ptpSend_of_silent {s : State} (h : s.sys.ready = false ∨ s.sys.fault.isSome = true) (t : Int) : s.ptpSend t = s := by
  unfold State.ptpSend
  rw [if_pos]
  obtain h | h := h <;> simp [h]

theorem State.ptpSend_sendsPtp (s : State) (t : Int) : SendsPtp s (s.ptpSend t) := by
  unfold State.ptpSend
  extract_lets passed
  split
  · exact .refl s
  · refine forFin_keeps (P := SendsPtp s) (fun u net hu => ?_) (.refl s)
    split
    · exact hu
    · extract_lets u'
      exact (hu.whenDo (u.emit_sendsPtp ..) _).trans (State.emit_sendsPtp ..)

/-- A tick adds the nominal increment, give or take 500 ppm, and exactly the nominal one with nothing to correct. -/
theorem State.tick_increment (s : State) : ∃ (i : Nat) (resid dev : Int), 10737418240 - 5368709 ≤ i ∧ i ≤ 10737418240 + 5368709 ∧
    (s.clk.freq = 0 → s.clk.resid = 0 → i = 10737418240) ∧
    s.tick = { s with clk := { s.clk with fix := s.clk.fix + i, incr := i, resid := resid, dev := dev } } := by
  refine ⟨_, _, _, ?_, ?_, fun hf hr => ?_, rfl⟩
  · simp only [clampI]; omega
  · simp only [clampI]; omega
  · have hnone : clampI (-1073741) 1073741 ((0 : Int).tdiv 800000000) = 0 := by decide
    have hstays : (10737418240 + clampI (-5368709) 5368709 (0 + 0)).toNat = 10737418240 := by decide
    rw [hf, hr, hnone, ite_self, hstays]

theorem State.reset_queue (q : Fin 128) :
    State.reset.queues[q] = if q.val < 14 then { cfg := bootLayout q, boot := true } else {} := by
  simp [State.reset]

/-! ### The held device (R344, R583, R743, R754) -/

/-- A running sleeper's pilot touches its ports alone. -/
theorem State.dozePeriod_ports (s : State) (p : Fin 8) (l : List (Nat × Int)) : ∃ ports, s.dozePeriod p l = { s with ports } := by
  unfold State.dozePeriod
  split
  · exact ⟨_, rfl⟩
  · exact ⟨_, rfl⟩

theorem State.dozeBeacon_flink (s : State) (f : FlRx) : ∃ flink, s.dozeBeacon f = { s with flink } := by
  unfold State.dozeBeacon
  split
  · exact ⟨_, rfl⟩
  · exact ⟨s.flink, rfl⟩

end Sys2Proof.Machine

namespace Sys2Proof.Proofs

open Sys2Proof.Machine

/-- Settles O1, from the step's own equation. -/
theorem stepRunsFront : Obligations.StepRunsFront := by
  intro s i rest h
  simp only [step, h]

/-- Settles O45: the tick's increment, then the PTP messages of ports that act as master. -/
theorem anEmptyQueueIsATick : Obligations.AnEmptyQueueIsATick := by
  intro s h
  refine ⟨fun hm => by simp [step, h, State.idle, hm], fun hm => ?_⟩
  obtain ⟨i, resid, dev, hlo, hhi, hnom, htick⟩ := s.tick_increment
  obtain ⟨sent, hsent, hsend⟩ := s.tick.ptpSend_sendsPtp s.el
  have hstep : step s = .next (s.tick.ptpSend s.el) := by simp [step, h, State.idle, hm]
  by_cases hquiet : s.sys.ready = false ∨ s.sys.fault.isSome = true
  · refine ⟨i, resid, dev, [], hlo, hhi, hnom, by simp, fun _ => rfl, ?_⟩
    rw [hstep, State.ptpSend_of_silent (s := s.tick) hquiet, htick]
    simp
  · refine ⟨i, resid, dev, sent, hlo, hhi, hnom, hsent, fun hq => absurd hq hquiet, ?_⟩
    rw [hstep, hsend, htick]

/-- Settles O46: every other command is `live`, which a held device ignores. -/
theorem heldDeviceIgnoresCommands : Obligations.HeldDeviceIgnoresCommands := by
  refine ⟨fun i s hm hi => ?_, fun s hm => ⟨fun p l => ?_, fun f => ?_⟩, fun s hm => ⟨fun p l => ?_, fun f => ?_⟩⟩
  · cases i
    case sealNChange | vsQualified | sequencerStep | pgTimeout | sequencerRetry | pgFall | vsBelow3v | vsRestore | brownoutAssert |
      brownoutClear | heartbeatWrite | vbatDomainLoss | vbatDomainReturn | resetNAssert | resetRelease | wake | thermHwLimit | swLimiting |
      swLimitingEnd | swOvertemp | swRetry | clampComplete | inrushWindowEnd | slewTurnOnComplete | pilotPeriodClassify | beaconReceive =>
      simp [Instr.actsAlways] at hi
    all_goals
      unfold exec
      exact live_held hm _
  · simp only [exec, execPilotPeriodClassify, hm]
  · simp only [exec, execBeaconReceive, hm]
  · simpa only [exec, execPilotPeriodClassify, hm, Host.Outcome.next.injEq] using s.dozePeriod_ports p l
  · simpa only [exec, execBeaconReceive, hm, Host.Outcome.next.injEq] using s.dozeBeacon_flink f

/-- Settles O47, by evaluation of the reset state; what is said of every queue, slot, group and port is checked at each. -/
theorem resetState : Obligations.ResetState := by
  refine ⟨by decide, rfl, rfl, rfl, rfl, fun n => ?_, rfl, rfl, rfl, rfl, rfl, rfl, fun q => ⟨?_, fun hq => ?_, fun hq => ?_⟩,
    fun g => ?_, fun p => ?_, rfl⟩
  · simp [State.reset]
  · rw [State.reset_queue]
    split <;> rfl
  · rw [State.reset_queue, if_pos hq]
  · rw [State.reset_queue, if_neg (by omega)]
  · simp [State.reset, State.gState]
  · simp [State.reset]

/-- Settles O48: every log is empty at reset. -/
theorem logsBoundedAtReset : Obligations.LogsBoundedAtReset := by
  refine ⟨?_, ?_, ?_, ?_, ?_⟩ <;> exact Nat.zero_le _

end Sys2Proof.Proofs

/-!
What a violation leaves (R613 to R615).
-/

namespace Sys2Proof.Machine
/-- What a violation records, whether it raises an event or not (R613 to R615). -/
def State.violRecorded (s : State) (v : Viol) (due : Bool) : State :=
  { s with
    hio := { s.hio with
      vlog := (if 64 ≤ s.hio.vlog.length then s.hio.vlog.drop 1 else s.hio.vlog) ++ [v]
      vseq := s.hio.vseq + 1
      vlost := s.hio.vlost + b01 (decide (64 ≤ s.hio.vlog.length) && decide (s.hio.vread < (s.hio.vlog.headD v).seq))
      violSeen := true, violCnt := s.hio.violCnt + 1
      lastWriteBad := v.write || s.hio.lastWriteBad
      violEvt := if due then some s.el else s.hio.violEvt }
    nv := { s.nv with violRing := (v :: s.nv.violRing).take 256 } }

/-- A violation less than 1 ms after the last one raised raises no event (R613). -/
theorem State.violate_of_recent {s : State} {x : Int} (hx : s.hio.violEvt = some x) (h : s.el < x + 1000000) (addr : Nat) (write : Bool)
    (cause words data : Nat) :
    s.violate addr write cause words data = s.violRecorded (s.violEntry addr write cause words data) false := by
  have hdue : decide (x + 1000000 ≤ s.el) = false := decide_eq_false (by omega)
  simp only [State.violate, hx, hdue, State.violRecorded, State.violEntry, decide_eq_true_eq, Bool.false_eq_true, if_false] <;> rfl

theorem State.violate_of_due {s : State} (h : ∀ x, s.hio.violEvt = some x → x + 1000000 ≤ s.el) (addr : Nat) (write : Bool)
    (cause words data : Nat) :
    s.violate addr write cause words data =
      (s.violRecorded (s.violEntry addr write cause words data) true).raise .windowViolation (cause + 16 * b01 write) addr := by
  cases hx : s.hio.violEvt with
  | none =>
    simp only [State.violate, hx, State.violRecorded, State.violEntry, decide_eq_true_eq, if_true] <;> rfl
  | some x =>
    simp only [State.violate, hx, decide_eq_true (h x hx), State.violRecorded, State.violEntry, decide_eq_true_eq, if_true] <;> rfl
end Sys2Proof.Machine

namespace Sys2Proof.Proofs

open Sys2Proof.Machine
/-- Settles O55: the record, and with it the event unless one was raised within the last ms. -/
theorem violationIsRecorded : Obligations.ViolationIsRecorded := by
  intro s addr write cause words data hlen
  have hdrop : (if 64 ≤ s.hio.vlog.length then s.hio.vlog.drop 1 else s.hio.vlog) =
      s.hio.vlog.drop (if s.hio.vlog.length = 64 then 1 else 0) := by
    split
    · rw [if_pos (by omega)]
    · rw [if_neg (by omega)]; rfl
  by_cases hdue : ∀ x, s.hio.violEvt = some x → x + 1000000 ≤ s.el
  · rw [State.violate_of_due hdue]
    refine ⟨?_, rfl, rfl, rfl, rfl, fun ⟨x, hx, hlt⟩ => ?_, fun _ => rfl, rfl⟩
    · rw [← hdrop]; rfl
    · exact absurd (hdue x hx) (by omega)
  · obtain ⟨x, hx, hlt⟩ : ∃ x, s.hio.violEvt = some x ∧ s.el < x + 1000000 := by simpa using hdue
    rw [State.violate_of_recent hx hlt]
    refine ⟨?_, rfl, rfl, rfl, rfl, fun _ => rfl, fun h => ?_, rfl⟩
    · rw [← hdrop]; rfl
    · exact absurd (h x hx) (by omega)
end Sys2Proof.Proofs

/-!
The sequence windows (R518, R597): what a window has delivered it holds as a mark until its H has passed it by the window's 1024.
-/

namespace Sys2Proof.Machine

/-- How far the window's H stands past a sequence, mod 2^32. -/
def SeqWin.past (w : SeqWin) (n : Nat) : Nat := (w.h + 2 ^ 32 - n) % 2 ^ 32

/-- The window has a sequence behind it: out of its reach, or marked. -/
def SeqWin.Behind (w : SeqWin) (n : Nat) : Prop := w.valid = true ∧ w.h < 2 ^ 32 ∧ (1024 ≤ w.past n ∨ n ∈ w.marks)

/-- What `receive` can do: begin with the sequence, advance to it, leave the window as it is, or mark it (R597). -/
theorem SeqWin.receive_cases (w : SeqWin) (n : Nat) :
    (w.valid = false ∧ w.receive n = (.deliver, { valid := true, h := n, marks := [n] })) ∨
    (w.valid = true ∧ 0 < (n + 2 ^ 32 - w.h) % 2 ^ 32 ∧ (n + 2 ^ 32 - w.h) % 2 ^ 32 < 2 ^ 31 ∧
      w.receive n = (.deliver, { w with h := n, marks := n :: w.marks.filter (fun k => decide ((n + 2 ^ 32 - k) % 2 ^ 32 ≤ 1023)) })) ∨
    (w.valid = true ∧ (1024 ≤ w.past n ∨ n ∈ w.marks) ∧ (w.receive n).1 ≠ .deliver ∧ (w.receive n).2 = w) ∨
    (w.valid = true ∧ w.past n < 1024 ∧ n ∉ w.marks ∧ w.receive n = (.deliver, { w with marks := n :: w.marks })) := by
  unfold SeqWin.receive SeqWin.past
  extract_lets m ahead
  cases hv : w.valid
  · simp
  · simp only [Bool.not_true, Bool.false_eq_true, if_false, List.contains_iff_mem, m, ahead]
    split
    · next h => exact .inr (.inl ⟨trivial, h.1, h.2, rfl⟩)
    · split
      · next h => exact .inr (.inr (.inl ⟨trivial, .inl h, nofun, rfl⟩))
      · next hnear =>
        split
        · next h => exact .inr (.inr (.inl ⟨trivial, .inr h, nofun, rfl⟩))
        · next hnew => exact .inr (.inr (.inr ⟨trivial, by omega, hnew, rfl⟩))

theorem SeqWin.behind_of_deliver {w : SeqWin} {n : Nat} (hw : w.fits) (hn : n < 2 ^ 32) (h : (w.receive n).1 = .deliver) :
    (w.receive n).2.Behind n := by
  obtain ⟨-, e⟩ | ⟨hv, -, -, e⟩ | ⟨-, -, hnot, -⟩ | ⟨hv, -, -, e⟩ := w.receive_cases n
  · rw [e]; exact ⟨rfl, hn, .inr (by simp)⟩
  · rw [e]; exact ⟨hv, hn, .inr (by simp)⟩
  · exact absurd h hnot
  · rw [e]; exact ⟨hv, hw.1, .inr (by simp)⟩

/-- Any sequence may come: while H stays less than 2^31 past `n`, the window keeps `n` behind it. -/
theorem SeqWin.receive_behind {w : SeqWin} {n k : Nat} (hn : n < 2 ^ 32) (hk : k < 2 ^ 32) (h : w.Behind n)
    (hpast : w.past n < 2 ^ 31) : (w.receive k).2.Behind n := by
  obtain ⟨hv, hh, hb⟩ := h
  obtain ⟨hv', -⟩ | ⟨-, h0, h1, e⟩ | ⟨-, -, -, e⟩ | ⟨-, -, -, e⟩ := w.receive_cases k
  · rw [hv] at hv'; exact nomatch hv'
  · rw [e]
    refine ⟨hv, hk, ?_⟩
    simp only [SeqWin.past, List.mem_cons, List.mem_filter, decide_eq_true_eq] at hb hpast ⊢
    obtain hb | hb := hb
    · omega
    · by_cases hnear : (k + 2 ^ 32 - n) % 2 ^ 32 ≤ 1023
      · exact .inr (.inr ⟨hb, hnear⟩)
      · exact .inl (by omega)
  · rw [e]; exact ⟨hv, hh, hb⟩
  · rw [e]; exact ⟨hv, hh, hb.imp_right (List.mem_cons_of_mem k)⟩

theorem SeqWin.after_behind {n : Nat} (hn : n < 2 ^ 32) {l : List Nat} (hl : ∀ m ∈ l, m < 2 ^ 32) {w : SeqWin} (h : w.Behind n)
    (hpast : ∀ k ≤ l.length, (w.after (l.take k)).past n < 2 ^ 31) : (w.after l).Behind n := by
  induction l generalizing w with
  | nil => exact h
  | cons m l ih =>
    refine ih (fun x hx => hl x (List.mem_cons_of_mem m hx)) (w.receive_behind hn (hl m (by simp)) h (hpast 0 (by simp))) (fun k hk => ?_)
    exact hpast (k + 1) (by simpa using hk)

theorem SeqWin.not_deliver_of_behind {w : SeqWin} {n : Nat} (hn : n < 2 ^ 32) (h : w.Behind n) (hpast : w.past n < 2 ^ 31) :
    (w.receive n).1 ≠ .deliver := by
  obtain ⟨hv, hh, hb⟩ := h
  unfold SeqWin.past at hpast
  obtain ⟨hv', -⟩ | ⟨-, h0, h1, -⟩ | ⟨-, -, hnot, -⟩ | ⟨-, hnear, hnew, -⟩ := w.receive_cases n
  · rw [hv] at hv'; exact nomatch hv'
  · omega
  · exact hnot
  · exact absurd hb (by simp [hnew]; omega)

end Sys2Proof.Machine

namespace Sys2Proof.Proofs

open Sys2Proof.Machine

/-- Settles O51, by induction on what the window receives in between. -/
theorem sequenceIsDeliveredOnce : Obligations.SequenceIsDeliveredOnce := by
  intro w n l hw hn hl hd hpast
  have hb := SeqWin.after_behind hn hl (SeqWin.behind_of_deliver hw hn hd) hpast
  exact SeqWin.not_deliver_of_behind hn hb (by simpa [SeqWin.past] using hpast l.length (Nat.le_refl _))

end Sys2Proof.Proofs

/-!
Intake of a packet and its reply touch the command interface only (R590, R592, R596, R597): what each of their steps leaves as it is.
-/

namespace Sys2Proof.Machine

/-! ### Intake -/

/-- Only the sequence windows have changed. -/
def SameButWindows (s t : State) : Prop :=
  ({ t with ccp := s.ccp, nv := { t.nv with hostH := s.nv.hostH } } : State) = s

theorem SameButWindows.queue {s t : State} (h : SameButWindows s t) (q : Fin 128) : t.queues[q] = s.queues[q] := by
  have hq := congrArg (fun u : State => u.queues[q]) h
  exact hq

theorem State.window_same (s : State) (from_ : Sender) (n : Nat) : SameButWindows s (s.window from_ n).2 := by
  unfold State.window
  split <;> rfl

theorem State.lateChecks_same (s : State) (p : Pkt) (from_ : Sender) : SameButWindows s (s.lateChecks p from_).2.2 := by
  have hw := s.window_same from_ p.seq
  unfold State.lateChecks
  generalize s.window from_ p.seq = d at hw
  obtain ⟨f, u⟩ := d
  split
  · rfl
  · split
    · rfl
    · split
      · rfl
      · cases f <;> dsimp only <;> repeat' split
        all_goals exact hw

theorem State.intake_same {s t : State} {p : Pkt} {v : Verdict} {a : Option Arrival} (h : s.intake p = (v, a, t)) : SameButWindows s t := by
  have ht : t = (s.intake p).2.2 := by rw [h]
  subst ht
  unfold State.intake
  split
  · rfl
  · next from_ _ =>
    have hl := s.lateChecks_same p from_
    split
    · split
      · rfl
      · exact hl
    · split
      · rfl
      · split
        · rfl
        · exact hl

theorem SameButQueues.ccp {s t : State} (h : SameButQueues s t) : t.ccp = s.ccp := by
  have hc := congrArg State.ccp h
  exact hc

theorem SameButQueues.nv {s t : State} (h : SameButQueues s t) : t.nv = s.nv := by
  have hn := congrArg State.nv h
  exact hn

theorem State.received_same (s : State) (p : Pkt) : SameButQueues s (s.received p) := by
  unfold State.received State.fromQueue0
  dsimp only
  repeat' split
  · exact s.putQueue_same 0 _
  · rfl
  · rfl

theorem State.received_other (s : State) (p : Pkt) {q : Fin 128} (h : q ≠ 0) : (s.received p).queues[q] = s.queues[q] := by
  unfold State.received State.fromQueue0
  dsimp only
  repeat' split
  · exact s.putQueue_other _ h
  · rfl
  · rfl

/-! ### The reply -/

/-- Only what a reply goes to has changed: queue 1, what leaves the device, replies held, free values. -/
def OnlyReplied (s t : State) : Prop :=
  ({ t with ccp := s.ccp, out := s.out, queues := s.queues, evt := s.evt, freeCount := s.freeCount } : State) = s ∧
  t.ccp.rx = s.ccp.rx ∧ t.ccp.err = s.ccp.err ∧ ∀ q : Fin 128, q ≠ 1 → t.queues[q] = s.queues[q]

theorem OnlyReplied.refl (s : State) : OnlyReplied s s := ⟨rfl, rfl, rfl, fun _ _ => rfl⟩

theorem OnlyReplied.trans {a b c : State} (hab : OnlyReplied a b) (hbc : OnlyReplied b c) : OnlyReplied a c := by
  obtain ⟨h1, hrx1, herr1, hq1⟩ := hab
  obtain ⟨h2, hrx2, herr2, hq2⟩ := hbc
  exact ⟨by rw [← h1, ← h2], hrx2.trans hrx1, herr2.trans herr1, fun q hq => (hq2 q hq).trans (hq1 q hq)⟩

theorem State.emit_onlyReplied (s : State) (o : Out) : OnlyReplied s (s.emit o) := by
  unfold State.emit
  split
  · exact .refl s
  · exact ⟨rfl, rfl, rfl, fun _ _ => rfl⟩

theorem State.queueDrop_other (s : State) {i q : Fin 128} (n : Nat) (h : q ≠ i) : (s.queueDrop i n).queues[q] = s.queues[q] := by
  have hv : i.val ≠ q.val := fun e => h (Fin.ext e.symm)
  unfold State.queueDrop
  dsimp only
  split <;> simp [State.setQueue, State.raise, State.raiseAt, hv]

theorem State.offer_other (s : State) {i q : Fin 128} (ws : List QWord) (h : q ≠ i) : (s.offer i ws).1.queues[q] = s.queues[q] := by
  unfold State.offer
  split
  · exact s.putQueue_other _ h
  · exact s.queueDrop_other 1 h

theorem State.offer_onlyReplied (s : State) (ws : List QWord) : OnlyReplied s (s.offer 1 ws).1 := by
  have hsame := s.offer_same 1 ws
  have hccp := hsame.ccp
  refine ⟨?_, by rw [hccp], by rw [hccp], fun q hq => s.offer_other ws hq⟩
  exact congrArg (fun u : State => { u with ccp := s.ccp, out := s.out, freeCount := s.freeCount }) hsame

theorem State.replyHost_onlyReplied (s : State) (bs : Bytes) : OnlyReplied s (s.replyHost bs) := by
  unfold State.replyHost
  dsimp only
  split
  · exact s.offer_onlyReplied _
  · split
    · exact ⟨rfl, rfl, rfl, fun _ _ => rfl⟩
    · exact .refl s

theorem State.sendReply_onlyReplied (s : State) (p : Pkt) (a : Arrival) (raw : Bytes) : OnlyReplied s (s.sendReply p a raw) := by
  unfold State.sendReply
  extract_lets bs
  split
  · exact s.replyHost_onlyReplied bs
  · have hu := s.emit_onlyReplied (.ccp p.via p.src p.port bs)
    split
    · exact hu.trans ⟨rfl, rfl, rfl, fun _ _ => rfl⟩
    · exact hu
  · split
    · exact List.foldlRecOn _ _ (.refl s) (fun u hu e _ => hu.trans (u.emit_onlyReplied _))
    · exact s.emit_onlyReplied _

theorem State.reply_onlyReplied (s : State) (p : Pkt) (a : Arrival) (payload : Bytes) : OnlyReplied s (s.reply p a payload) := by
  unfold State.reply
  dsimp only
  split <;> split
  all_goals
    refine .trans ?_ (State.sendReply_onlyReplied ..)
    exact ⟨rfl, rfl, rfl, fun _ _ => rfl⟩

/-- The state after a packet: one more received, and the reply where one is wanted. -/
theorem State.replied_touches (s : State) (p : Pkt) (arr : Arrival) (st : Nat) (rest : Bytes) (silent : Bool) :
    let t := s.replied p arr st rest silent
    ({ t with ccp := s.ccp, out := s.out, queues := s.queues, evt := s.evt, freeCount := s.freeCount } : State) = s ∧
    t.ccp.rx = s.ccp.rx + 1 ∧ t.ccp.err = s.ccp.err ∧ (∀ q : Fin 128, q ≠ 1 → t.queues[q] = s.queues[q]) ∧
    (p.wants = false ∨ silent = true → t = { s with ccp := { s.ccp with rx := s.ccp.rx + 1 } }) := by
  intro t
  let u : State := { s with ccp := { s.ccp with rx := s.ccp.rx + 1 } }
  by_cases h : (p.wants && !silent) = true
  · have ht : t = u.reply p arr (le 2 st ++ rest) := if_pos h
    rw [ht]
    obtain ⟨hsame, hrx, herr, hq⟩ := u.reply_onlyReplied p arr (le 2 st ++ rest)
    refine ⟨?_, hrx, herr, hq, fun hs => ?_⟩
    · exact congrArg (fun v : State => { v with ccp := s.ccp }) hsame
    · obtain hs | hs := hs <;> simp [hs] at h
  · have ht : t = u := if_neg h
    rw [ht]
    exact ⟨rfl, rfl, rfl, fun _ _ => rfl, fun _ => rfl⟩

end Sys2Proof.Machine

namespace Sys2Proof.Proofs

open Sys2Proof.Machine

/-- Settles O52: intake changes windows and queue 0, the reply the counter and what a reply goes to. -/
theorem intakeAndReplyTouchOnlyTheInterface : Obligations.IntakeAndReplyTouchOnlyTheInterface := by
  refine ⟨fun s t p r arr code ⟨hrun, htakes, hlen, hcode, hin, hlive⟩ => ?_, fun s p arr st rest silent => ?_⟩
  · have hwin := State.intake_same hin
    have hrec := s.received_same p
    refine ⟨?_, fun q hq => ?_⟩
    · unfold SameButWindows at hwin
      rw [hrec.ccp, hrec.nv] at hwin
      exact Eq.trans (congrArg (fun u : State => { u with queues := s.queues, evt := s.evt }) hwin) hrec
    · exact (hwin.queue q).trans (s.received_other p hq)
  · exact s.replied_touches p arr st rest silent

end Sys2Proof.Proofs

/-!
Rows of firmware and captures, of power allocation and of intake and launches: what each leaves where its conditions are met.
-/

namespace Sys2Proof.Machine

/-! ### A row of a running device -/

/-- A command that a running device alone takes leaves what its state function gives. -/
theorem exec_of_live {s t : State} {i : Instr} {f : State → State} (hi : exec i s = live s f) (hrun : s.sys.mode = .run)
    (hf : f s = t) : exec i s = .next t := by
  rw [hi, live_run hrun, hf]

@[simp] theorem whenDo_of {c : Bool} {f : State → State} {s : State} (h : c = true) : whenDo c f s = f s := if_pos h

/-! ### Captures (R115) -/

/-- A capture that records, and whose last edge may be behind the present time. -/
def Capture.ended (st : Nat) (c : Capture) : Bool := c.state == 1 && decide (c.launch + c.post ≤ st)

/-- A capture as its end leaves it: what it recorded, ready to be read. -/
def Capture.close (st : Nat) (log : List CapRec) (first : Nat) (c : Capture) : Capture :=
  if c.ended st then { c with state := 2, bytes := (captureBytes c log first).1, truncated := (captureBytes c log first).2 } else c

@[simp] theorem Capture.close_id (st : Nat) (log : List CapRec) (first : Nat) (c : Capture) : (c.close st log first).id = c.id := by
  unfold Capture.close; split <;> rfl

theorem Capture.close_recording {st : Nat} {log : List CapRec} {first : Nat} {c : Capture} (h : (c.close st log first).state = 1) :
    st < (c.close st log first).launch + (c.close st log first).post := by
  unfold Capture.close Capture.ended at *
  split at h
  · exact nomatch h
  · next hn => rw [if_neg hn]; simpa [h] using hn

theorem State.captures_foldl_raise (l : List Nat) (e : Ev) (s : State) : (l.foldl (fun s i => s.raise e i) s).captures = s.captures := by
  induction l generalizing s with
  | nil => rfl
  | cons i l ih => exact ih (s.raise e i)

theorem State.held_foldl_raise (l : List Nat) (e : Ev) (s : State) :
    (l.foldl (fun s i => s.raise e i) s).evt.held.length = s.evt.held.length + l.length := by
  induction l generalizing s with
  | nil => rfl
  | cons i l ih => rw [List.foldl_cons, ih (s.raise e i)]; simp [State.raise, State.raiseAt]; omega

theorem State.captureDone_of_paused {s : State} (h : s.paused = true) : s.captureDone = s := by simp [State.captureDone, h]

/-- Every capture whose end has passed is closed, with an event each. -/
theorem State.captureDone_closes {s : State} (h : s.paused = false) :
    ∃ first, s.captureDone.captures = s.captures.map (Capture.close s.st s.capLog first) ∧
      s.captureDone.evt.held.length = s.evt.held.length + (s.captures.filter (Capture.ended s.st)).length := by
  unfold State.captureDone
  rw [h, Bool.false_or]
  split
  · next hall =>
    have hnone : ∀ c ∈ s.captures, c.ended s.st = false := fun c hc => by
      have hc := List.all_eq_true.1 hall c hc
      by_cases h1 : c.state = 1 <;> simp_all [Capture.ended]
    refine ⟨0, ?_, ?_⟩
    · exact (List.map_id s.captures).symm.trans (List.map_congr_left fun c hc => by simp [Capture.close, hnone c hc])
    · rw [List.filter_eq_nil_iff.2 (by simpa using hnone)]; rfl
  · refine ⟨s.free.1 % 2 ^ 64, ?_, ?_⟩
    · exact State.captures_foldl_raise _ _ _
    · exact (State.held_foldl_raise _ _ _).trans (by rw [List.length_map]; rfl)

/-! ### Power allocation -/

/-- The key period that overlaps is over: its key is no longer accepted (R629). -/
theorem State.prevKey_of_over {s : State} {k : Bytes} {t : Int} (h : s.ccp.prevKey = some (k, t)) (ht : t ≤ s.el) : s.prevKey = none := by
  simp only [State.prevKey, h]
  rw [if_neg (by omega)]

/-- An issue whose acknowledgements are overdue, as an epoch that is withheld marks it (R139). -/
def Issued.withhold (epochs : List Nat) (x : Issued) : Issued := if x.epoch ∈ epochs then { x with withheld := true } else x

def Issued.overdue (st : Nat) (x : Issued) : Bool := !x.released && !x.withheld && decide (x.t ≤ st + x.wait * 1000)

theorem Issued.withhold_singleton (e : Nat) (x : Issued) :
    x.withhold [e] = if x.epoch = e then { x with withheld := true } else x := by simp [Issued.withhold]

theorem Issued.withhold_withhold (e : Nat) (es : List Nat) (x : Issued) : (x.withhold [e]).withhold es = x.withhold (e :: es) := by
  by_cases h : x.epoch = e <;> by_cases hs : x.epoch ∈ es <;> simp [Issued.withhold, h, hs]

theorem Issued.withhold_same (es : List Nat) (x : Issued) :
    ((x.withhold es).epoch, (x.withhold es).t, (x.withhold es).released) = (x.epoch, x.t, x.released) := by
  unfold Issued.withhold; split <;> rfl

/-- Once every overdue issue has withheld its epoch, an issue is released, withheld or still in time. -/
theorem Issued.withhold_settled {st : Nat} {l : List Issued} (x : Issued) (hx : x ∈ l) :
    let y := x.withhold ((l.filter (Issued.overdue st)).map (·.epoch))
    y.released = true ∨ y.withheld = true ∨ st + y.wait * 1000 < y.t := by
  intro y
  cases hr : x.released
  · cases hw : x.withheld
    · by_cases hd : x.overdue st = true
      · have hmem : x.epoch ∈ (l.filter (Issued.overdue st)).map (·.epoch) :=
          List.mem_map_of_mem (List.mem_filter.2 ⟨hx, hd⟩)
        exact .inr (.inl (by simp only [y, Issued.withhold, if_pos hmem]))
      · have hlt : st + x.wait * 1000 < x.t := by simpa [Issued.overdue, hr, hw] using hd
        refine .inr (.inr ?_)
        simp only [y, Issued.withhold]
        split <;> exact hlt
    · refine .inr (.inl ?_)
      simp only [y, Issued.withhold]
      split
      · rfl
      · exact hw
  · refine .inl ?_
    simp only [y, Issued.withhold]
    split <;> exact hr

/-- One issue at a time, the overdue ones withhold their epoch (R139). -/
def State.withholdOverdue (s : State) (i : Issued) : State :=
  if i.overdue s.st then
    ({ s with alloc := { s.alloc with
      withhelds := s.alloc.withhelds + 1
      issued := s.alloc.issued.map (fun (x : Issued) => if x.epoch = i.epoch then { x with withheld := true } else x) } }).raise .allocWithheld
  else s

theorem State.withholdOverdue_issued (l : List Issued) (s : State) :
    (l.foldl State.withholdOverdue s).alloc.issued =
      s.alloc.issued.map (Issued.withhold ((l.filter (Issued.overdue s.st)).map (·.epoch))) := by
  induction l generalizing s with
  | nil => exact (List.map_id _).symm.trans (List.map_congr_left fun x _ => by simp [Issued.withhold])
  | cons i l ih =>
    rw [List.foldl_cons, ih]
    unfold State.withholdOverdue
    split
    · next h =>
      rw [List.filter_cons_of_pos h, List.map_cons]
      refine (List.map_map).trans (List.map_congr_left fun x _ => ?_)
      exact (congrArg _ (Issued.withhold_singleton i.epoch x).symm).trans (Issued.withhold_withhold ..)
    · next h => rw [List.filter_cons_of_neg h]

theorem State.ackWaitEnd_issued {s : State} (h : s.allocates = true) :
    s.ackWaitEnd.alloc.issued =
      s.alloc.issued.map (Issued.withhold ((s.alloc.issued.filter (Issued.overdue s.st)).map (·.epoch))) := by
  refine Eq.trans ?_ (State.withholdOverdue_issued s.alloc.issued s)
  simp only [State.ackWaitEnd, h, Bool.not_true, Bool.false_eq_true, if_false]
  rfl

end Sys2Proof.Machine

namespace Sys2Proof.Proofs

open Sys2Proof.Machine

/-- Settles O17, row by row. -/
theorem firmwareAndCaptureRowsComplete : Obligations.FirmwareAndCaptureRowsComplete := by
  intro s hrun
  refine ⟨fun htrial hready hdue => ?_, fun k t hkey ht => ?_, fun hp => ?_, fun hp => ?_⟩
  · exact exec_of_live rfl hrun (by simp [htrial, hready, hdue])
  · exact exec_of_live rfl hrun (by simp [State.prevKey_of_over hkey ht])
  · exact exec_of_live (f := State.captureDone) rfl hrun (State.captureDone_of_paused hp)
  · obtain ⟨first, hcap, hheld⟩ := State.captureDone_closes hp
    refine ⟨_, exec_of_live (f := State.captureDone) rfl hrun rfl, by simp [hcap], fun c hc hst => ?_, hheld⟩
    obtain ⟨c0, -, rfl⟩ := List.mem_map.1 (hcap ▸ hc)
    exact Capture.close_recording hst

/-- Settles O18, row by row. -/
theorem allocRowsComplete : Obligations.AllocRowsComplete := by
  intro s hrun
  refine ⟨fun m hready hslot hnew => ?_, fun ha hq hslot hran => ?_, fun ha => ?_, ?_, fun hst hready hwait hnone => ?_,
    fun f b hcopies hkind hlen => ?_, fun f t hkind hready hat hlate htold => ?_, fun f hkind hready hat htold hr hc => ?_, fun f hkind hsent => ?_⟩
  · intro u hm
    refine exec_of_live (f := State.reportSend) rfl hrun ?_
    simp only [State.reportSend, hready, Nat.not_lt.2 hslot, hnew, Bool.not_true, decide_false, Bool.or_self, Bool.false_eq_true, if_false]
    simp only [u] at hm
    rw [hm]
  · refine exec_of_live (f := State.epochRun) rfl hrun ?_
    simp only [State.epochRun, ha, hq, Nat.not_lt.2 hslot, hran, Bool.not_true, Bool.false_or, beq_iff_eq, Bool.false_eq_true, if_false,
      Bool.or_eq_true, decide_eq_true_eq] <;> rfl
  · refine ⟨_, exec_of_live (f := State.ackWaitEnd) rfl hrun rfl, ?_, fun x hx => ?_⟩
    · rw [State.ackWaitEnd_issued ha, List.map_map]
      exact List.map_congr_left fun x _ => x.withhold_same _
    · rw [State.ackWaitEnd_issued ha] at hx
      obtain ⟨y, hy, rfl⟩ := List.mem_map.1 hx
      exact y.withhold_settled hy
  · exact exec_of_live (f := State.trailDue) rfl hrun rfl
  · refine exec_of_live (f := State.missedCheck) rfl hrun ?_
    have h2 : ¬ s.st / 1000000 < 2 := by omega
    simp only [State.missedCheck, hready, Int.not_lt.2 hwait, hnone, h2, Bool.not_true, decide_false, Bool.or_self, Bool.false_eq_true, if_false,
      List.contains_eq_mem, decide_eq_true_eq]
  · refine exec_of_live (f := (·.storeCopy f b)) rfl hrun ?_
    simp [State.storeCopy, hcopies, State.storeStatus, hkind, hlen]
  · refine exec_of_live (f := (·.storeLate f)) rfl hrun ?_
    simp [State.storeLate, hkind, hready, hat, hlate, State.storeStale, htold, -Fin.getElem_fin]
  · refine exec_of_live (f := (·.storeLate f)) rfl hrun ?_
    have hlate : max s.sys.readyAt s.alloc.feeders[f].cfgAt + 100000000 ≤ s.el := by omega
    simp [State.storeLate, hkind, hready, hat, hlate, State.storeStale, htold, -Fin.getElem_fin]
  · refine exec_of_live (f := (·.storeRepeat f)) rfl hrun ?_
    simp [State.storeRepeat, hkind, hsent, -Fin.getElem_fin]

/-- Settles O19, row by row. -/
theorem intakeRowsComplete : Obligations.IntakeRowsComplete := by
  intro s t p arr hrun
  refine ⟨fun ht hbit hin => ?_, fun st always ht hrej hin => ?_, fun ht hrej hin => ?_, fun ht hrej hin => ?_, fun bs ht hrej hin => ?_,
    fun bs hst hact hhigh hfits => ?_, fun hf => ?_, fun f hf hth => ?_⟩
  · exact exec_of_live rfl hrun (by simp [hbit, State.take, ht, State.handle, hin])
  · exact exec_of_live rfl hrun (by simp [hrej, State.take, ht, State.handle, hin])
  · exact exec_of_live rfl hrun (by simp [hrej, State.take, ht, State.handle, hin])
  · exact exec_of_live rfl hrun (by simp [hrej, State.take, ht, State.handle, hin])
  · exact exec_of_live rfl hrun (by simp [hrej, State.take, ht, State.handle, hin])
  · exact exec_of_live (f := State.intakeResume) rfl hrun (by simp [State.intakeResume, hst, hact, hhigh, hfits])
  · exact exec_of_live (f := State.launchExecute) rfl hrun (by simp [State.launchExecute, hf])
  · exact exec_of_live (f := State.launchExecute) rfl hrun (by simp [State.launchExecute, hf, hth])

end Sys2Proof.Proofs

/-!
Rows of site time (R75, R80 to R104).
-/

namespace Sys2Proof.Machine

/-- A message of the device's domain and network, of no other site, is taken by what it is (R80 to R85). -/
theorem State.ptp_of_own {s : State} {net : Fin 2} {m : PtpMsg} (hd : m.domain = u8 s.timeCfg 8)
    (hi : m.ieee8023 = bit (u8 s.timeCfg 9) (4 + net)) (hs : m.site = some s.strap.siteId → m.partner = true) {t : State}
    (h : (match m.what with
      | .announce i set => s.ptpAnnounce net m.src i set
      | .sync t1 t2 d =>
        if (match (vget s.time.srcs net {}).master with | some x => x.1 == m.src | none => false) && s.ptpChosen net d then
          s.sourceOffset net (s.ptpOffset net t1 t2 d)
        else s
      | .delayReq t =>
        if s.ptpMaster net && !bit (u8 s.timeCfg 9) net then s.emit (.ptp net m.src (.delayResp (t - u16 s.timeCfg (28 + 4 * net)))) else s
      | .pdelayReq t =>
        if bit (u8 s.timeCfg 9) net then
          s.emit (.ptp net m.src (.pdelayResp (t - u16 s.timeCfg (28 + 4 * net)) ((s.st : Int) + u16 s.timeCfg (30 + 4 * net))))
        else s) = t) : s.ptp net m = t := by
  have h1 : ¬(m.domain ≠ u8 s.timeCfg 8 || m.ieee8023 != bit (u8 s.timeCfg 9) (4 + net)) = true := by simp [hd, hi]
  have h2 : ¬(m.site = some s.strap.siteId && !m.partner) = true := by simpa using hs
  unfold State.ptp
  simp only
  rw [if_neg h1, if_neg h2]
  exact h

@[simp] theorem State.sourceSeen_pps (s : State) (k : Nat) :
    (s.sourceSeen k).time.ppsNamed = s.time.ppsNamed ∧ (s.sourceSeen k).time.ppsEdge = s.time.ppsEdge := by
  unfold State.sourceSeen
  dsimp only
  split <;> exact ⟨rfl, rfl⟩

/-- Periods that a PPS edge has skipped since the last one (R83). -/
def State.ppsMissed (s : State) : Nat :=
  match s.time.ppsEdge with
  | some e => ((s.el - i32 s.timeCfg 24 - e) + 500000000).toNat / 1000000000 - 1
  | none => 0

/-- A PPS edge keeps the offsets of an unbroken, named row of edges only; three skipped are a loss (R83). -/
theorem State.pps_eq (s : State) :
    s.pps = (((if 3 ≤ s.ppsMissed then s.sourceLost 2 else s).sourceSeen 2).modSrc 2 (fun x => { x with
        offs := if s.ppsMissed = 0 ∧ (s.time.ppsNamed = true ∨ s.time.ppsEdge = none) then x.offs else [] })).modTime
        (fun x => { x with ppsEdge := some (s.el - i32 s.timeCfg 24), ppsNamed := false }) := by
  have h : s.pps = (((if 3 ≤ s.ppsMissed then s.sourceLost 2 else s).sourceSeen 2).modSrc 2 (fun x => { x with
        offs := if (decide (s.ppsMissed = 0) && (((if 3 ≤ s.ppsMissed then s.sourceLost 2 else s).sourceSeen 2).time.ppsNamed ||
          ((if 3 ≤ s.ppsMissed then s.sourceLost 2 else s).sourceSeen 2).time.ppsEdge.isNone)) = true then x.offs else [] })).modTime
        (fun x => { x with ppsEdge := some (s.el - i32 s.timeCfg 24), ppsNamed := false }) := rfl
  rw [h]
  by_cases hm : s.ppsMissed = 0
  · simp [hm, State.sourceSeen_pps]
  · simp [hm]

end Sys2Proof.Machine

namespace Sys2Proof.Proofs

open Sys2Proof.Machine

/-- Settles O20, row by row. -/
theorem timeRowsComplete : Obligations.TimeRowsComplete := by
  intro s hrun
  refine ⟨fun net m hd hi hs => ⟨fun n set hw => ?_, fun set t1 t2 t3 t4 hw hm hb => ?_, fun set t1 t2 p1 p2 p3 p4 hw hm hb => ?_,
    fun t hw hm hb => ?_, fun t hw hb => ?_⟩, fun net m hd hi hs hp => ?_, fun k hl hnd hnf hsel => ?_, fun k hl hnd hnf hsel hq => ?_, ?_,
    fun utc e he hlt hn => ?_, fun utc e he hlt hn => ?_, fun utc e he hle => ?_, fun utc => ?_, fun j k hsel hq hfind => ?_,
    fun w hw hle => ?_, fun hq hp hle => ?_, fun hq hp hx hv => ?_, fun hz hd => ?_⟩
  · exact exec_of_live (f := (·.ptp net m)) rfl hrun (State.ptp_of_own hd hi hs (by rw [hw]))
  · exact exec_of_live (f := (·.ptp net m)) rfl hrun (State.ptp_of_own hd hi hs (by
      simp [hw, hm, hb, State.ptpChosen, State.ptpOffset]))
  · exact exec_of_live (f := (·.ptp net m)) rfl hrun (State.ptp_of_own hd hi hs (by
      simp [hw, hm, hb, State.ptpChosen, State.ptpOffset]))
  · exact exec_of_live (f := (·.ptp net m)) rfl hrun (State.ptp_of_own hd hi hs (by simp [hw, hm, hb]))
  · exact exec_of_live (f := (·.ptp net m)) rfl hrun (State.ptp_of_own hd hi hs (by simp [hw, hb]))
  · exact exec_of_live (f := (·.ptp net m)) rfl hrun (by simp [State.ptp, hd, hi, hs, hp])
  · exact exec_of_live (f := fun s => whenDo (s.lossMet k) (·.sourceLost k) s) rfl hrun (by simp [hl, State.sourceLost, hnd, hnf, State.modSrc, hsel])
  · exact exec_of_live (f := fun s => whenDo (s.lossMet k) (·.sourceLost k) s) rfl hrun (by simp [hl, State.sourceLost, hnd, hnf, State.modSrc, hsel, hq])
  · intro stamp miss
    refine exec_of_live (f := State.pps) rfl hrun ?_
    exact s.pps_eq
  · exact exec_of_live (f := (·.gnss utc true)) rfl hrun (by simp [State.gnss, he, hlt, hn])
  · exact exec_of_live (f := (·.gnss utc true)) rfl hrun (by simp [State.gnss, he, hlt, hn])
  · exact exec_of_live (f := (·.gnss utc true)) rfl hrun (by simp [State.gnss, he, Int.not_lt.2 hle])
  · exact exec_of_live (f := (·.gnss utc false)) rfl hrun (by cases he : s.time.ppsEdge <;> simp [State.gnss, he])
  · exact exec_of_live (f := State.dwellEnd) rfl hrun (by simp [State.dwellEnd, hsel, hfind, hq])
  · exact exec_of_live (f := State.pendEnd) rfl hrun (by simp [State.pendEnd, hw, hle])
  · exact exec_of_live rfl hrun (by simp [hq, hp, hle])
  · exact exec_of_live (f := State.rtcCopy) rfl hrun (by simp [State.rtcCopy, hq, hp, hx, hv])
  · exact exec_of_live (f := State.zoneWarn) rfl hrun (by simp [State.zoneWarn, hz, hd])

end Sys2Proof.Proofs

/-!
Rows of the PWM generator (R176, R179, R186 to R203).
-/

namespace Sys2Proof.Machine

/-! ### What a change of a slot leaves -/

/-- Only slots and the capture log have changed. -/
def SameButSlots (s t : State) : Prop := ({ t with slots := s.slots, capLog := s.capLog } : State) = s

theorem SameButSlots.refl (s : State) : SameButSlots s s := rfl

theorem SameButSlots.trans {a b c : State} (h : SameButSlots a b) (k : SameButSlots b c) : SameButSlots a c := by
  unfold SameButSlots at *
  rw [← h, ← k]

theorem SameButSlots.clk {s t : State} (h : SameButSlots s t) : t.clk = s.clk := by
  have hc := congrArg State.clk h
  exact hc

theorem SameButSlots.st {s t : State} (h : SameButSlots s t) : t.st = s.st := by
  unfold State.st
  rw [h.clk]

theorem State.edgeNote_sameButSlots (s : State) (n ev stamp : Nat) : SameButSlots s (s.edgeNote n ev stamp) := by
  unfold State.edgeNote
  split <;> rfl

theorem State.modSlot_sameButSlots (s : State) (n : Nat) (f : Slot → Slot) : SameButSlots s (s.modSlot n f) := by
  unfold State.modSlot
  extract_lets a b u v
  have hu : SameButSlots s u := rfl
  have hv : SameButSlots s v := by
    simp only [v]
    split
    · exact hu
    · exact hu.trans (u.edgeNote_sameButSlots ..)
  split
  · exact hv
  · exact hv.trans (v.edgeNote_sameButSlots ..)

theorem State.mapTurn_sameButSlots (s : State) (n : Nat) : SameButSlots s (s.mapTurn n) := by
  unfold State.mapTurn
  extract_lets x now
  split
  · exact .refl s
  · exact s.modSlot_sameButSlots n _

/-- The slots' taps take their turn before the one slot is calibrated (R186). -/
theorem State.clk_turns (s : State) : (forNums (List.range 48) s (fun w k => w.mapTurn k)).clk = s.clk :=
  forNums_eq (π := State.clk) (fun w k => (w.mapTurn_sameButSlots k).clk) s

/-- Slot `n` is calibrated in its own turn of the ms, also after the other slots have mapped (R186). -/
theorem State.calTurn {s m : State} (hclk : m.clk = s.clk) {n : Fin 48} (hlo : (n.val * 20000 + 18000) * 2 ^ 32 ≤ s.clk.fix % (1000000 * 2 ^ 32))
    (hhi : s.clk.fix % (1000000 * 2 ^ 32) - (n.val * 20000 + 18000) * 2 ^ 32 < 10737418240) :
    (decide (m.clk.fix % (1000000 * 2 ^ 32) - (n.val * 20000 + 18000) * 2 ^ 32 < 10737418240) &&
      decide ((n.val * 20000 + 18000) * 2 ^ 32 ≤ m.clk.fix % (1000000 * 2 ^ 32))) = true := by
  rw [hclk, Bool.and_eq_true]
  exact ⟨decide_eq_true hhi, decide_eq_true hlo⟩

section Calibration
variable {s m : State} (hm : forNums (List.range 48) s (fun w k => w.mapTurn k) = m) {n : Fin 48}
  (hlo : (n.val * 20000 + 18000) * 2 ^ 32 ≤ s.clk.fix % (1000000 * 2 ^ 32))
  (hhi : s.clk.fix % (1000000 * 2 ^ 32) - (n.val * 20000 + 18000) * 2 ^ 32 < 10737418240)
include hm hlo hhi

/-- A slot in its turn takes the bias of the present temperature; the last slot's turn ends the round (R186). -/
theorem State.delayLineCal_of_taps {t : Nat} (h40 : 40 ≤ t) (h90 : t ≤ 90) :
    let v := m.modSlot n (fun x => { x with bias := m.hk.bias })
    let u := if n.val = 47 then { v with fabric := { v.fabric with calRound := v.st / 1000000 * 1000000 } } else v
    s.delayLineCal n (some t) =
      (u.modSlot n (fun x => { x with taps := t, coarse := false, calFailed := false, calSt := u.st, mapWait := 15 })).mapTurn n := by
  have hclk : m.clk = s.clk := hm ▸ s.clk_turns
  have hin : (some t).filter (fun t => decide (40 ≤ t) && decide (t ≤ 90)) = some t := by simp [h40, h90]
  simp only [State.delayLineCal, hm, hin]
  exact if_pos (State.calTurn hclk hlo hhi)

theorem State.delayLineCal_of_none :
    let v := m.modSlot n (fun x => { x with bias := m.hk.bias })
    let u := if n.val = 47 then { v with fabric := { v.fabric with calRound := v.st / 1000000 * 1000000 } } else v
    s.delayLineCal n none =
      ((u.modSlot n (fun x => { x with coarse := true, calFailed := true, calFaults := min 255 (x.calFaults + 1) })).raise
        (.pwmCalFault n) n).classify (tgt 2 n) 0x23 u.st false := by
  have hclk : m.clk = s.clk := hm ▸ s.clk_turns
  simp only [State.delayLineCal, hm, Option.filter_none, (State.modSlot_sameButSlots _ _ _).st]
  exact if_pos (State.calTurn hclk hlo hhi)

end Calibration

end Sys2Proof.Machine

namespace Sys2Proof.Proofs

open Sys2Proof.Machine

/-- Settles O21, row by row. -/
theorem pwmRowsComplete : Obligations.PwmRowsComplete := by
  intro s n g hrun
  refine ⟨fun t h40 h90 hlo hhi => ?_, fun hr hheld ha hw => ?_, fun hg hr hin ha hn hl => ?_, fun hg hr hin ha hlen hn => ?_,
    fun hg hr hin hen hlen => ?_, fun high hg hr hin hlen => ⟨?_, fun hal => ?_⟩⟩
  · generalize hm : forNums (List.range 48) s (fun w k => w.mapTurn k) = m
    refine ⟨exec_of_live (f := (·.delayLineCal n (some t))) rfl hrun ?_, exec_of_live (f := (·.delayLineCal n none)) rfl hrun ?_⟩
    · exact State.delayLineCal_of_taps hm hlo hhi h40 h90
    · exact State.delayLineCal_of_none hm hlo hhi
  · exact exec_of_live (f := (·.loadallTakeEffect g)) rfl hrun (by simp [State.loadallTakeEffect, hr, hheld, ha, hw, -Fin.getElem_fin])
  · exact exec_of_live (f := (·.slotPickup n)) rfl hrun (by simp [State.slotPickup, hg, hr, hin, ha, hn, hl, -Fin.getElem_fin])
  · exact exec_of_live (f := (·.slotPeriodStart n)) rfl hrun (by simp [State.slotPeriodStart, hg, hr, hin, ha, hlen, hn, -Fin.getElem_fin])
  · have h640 : s.fine - 512 - 128 = s.fine - 640 := by omega
    have h576 : s.fine - 512 - 64 = s.fine - 576 := by omega
    exact exec_of_live (f := (·.tripRegistered n)) rfl hrun (by simp [State.tripRegistered, hg, hr, hin, hlen, hen, h640, h576, -Fin.getElem_fin] <;> rfl)
  · exact exec_of_live (f := (·.pwmCompareEdge n high false)) rfl hrun (by simp [State.pwmCompareEdge, hg, hr, hin, hlen, -Fin.getElem_fin])
  · exact exec_of_live (f := (·.pwmCompareEdge n high true)) rfl hrun (by simp [State.pwmCompareEdge, hg, hr, hin, hlen, hal, -Fin.getElem_fin])

end Sys2Proof.Proofs

/-!
Rows of the loop engine (R226 to R251).
-/

namespace Sys2Proof.Machine

/-! ### Reading a slot after a write -/

theorem SameButSlots.nv {s t : State} (h : SameButSlots s t) : t.nv = s.nv := by
  have hn := congrArg State.nv h
  exact hn

theorem SameButSlots.groups {s t : State} (h : SameButSlots s t) : t.groups = s.groups := by
  have hn := congrArg State.groups h
  exact hn

theorem SameButSlots.freeCount {s t : State} (h : SameButSlots s t) : t.freeCount = s.freeCount := by
  have hn := congrArg State.freeCount h
  exact hn

theorem State.edgeNote_slots (s : State) (n ev stamp : Nat) : (s.edgeNote n ev stamp).slots = s.slots := by
  unfold State.edgeNote
  split <;> rfl

theorem State.modSlot_slots (s : State) (n : Nat) (f : Slot → Slot) : (s.modSlot n f).slots = vset s.slots n (f (s.slot n)) := by
  unfold State.modSlot
  extract_lets a b u v
  have hv : v.slots = vset s.slots n (f (s.slot n)) := by
    simp only [v]
    split
    · rfl
    · exact u.edgeNote_slots ..
  split
  · exact hv
  · exact (v.edgeNote_slots ..).trans hv

@[simp] theorem State.slot_modSlot_self (s : State) (n : Fin 48) (f : Slot → Slot) : (s.modSlot n f).slot n = f (s.slot n) := by
  rw [State.slot, State.modSlot_slots, vset_fin, vget_fin]
  simp

theorem State.slot_modSlot_ne (s : State) {n k : Nat} (h : k ≠ n) (f : Slot → Slot) : (s.modSlot n f).slot k = s.slot k := by
  rw [State.slot, State.modSlot_slots]
  unfold vset State.slot vget
  split
  · split
    · exact Vector.getElem_set_ne (h := Ne.symm h) ..
    · rfl
  · rfl

/-! ### The trace of a sample -/

/-- Only groups and events have changed. -/
def SameButGroups (s t : State) : Prop := ({ t with groups := s.groups, evt := s.evt } : State) = s

theorem SameButGroups.clk {s t : State} (h : SameButGroups s t) : t.clk = s.clk := by
  have hc := congrArg State.clk h
  exact hc

theorem SameButGroups.nv {s t : State} (h : SameButGroups s t) : t.nv = s.nv := by
  have hn := congrArg State.nv h
  exact hn

theorem SameButGroups.slots {s t : State} (h : SameButGroups s t) : t.slots = s.slots := by
  have hn := congrArg State.slots h
  exact hn

theorem SameButGroups.st {s t : State} (h : SameButGroups s t) : t.st = s.st := by
  unfold State.st
  rw [h.clk]

theorem SameButGroups.el {s t : State} (h : SameButGroups s t) : t.el = s.el := by
  unfold State.el
  rw [h.st, h.clk]

theorem State.setSat_sameButGroups (s : State) (g : Fin 8) (l : List (Nat × Bool)) : SameButGroups s (s.setSat g l) := by
  unfold State.setSat
  extract_lets new
  cases new with
  | nil => rfl
  | cons k _ =>
    dsimp only
    split <;> rfl

@[simp] theorem State.modSlot_st (s : State) (n : Nat) (f : Slot → Slot) : (s.modSlot n f).st = s.st := (s.modSlot_sameButSlots n f).st

@[simp] theorem State.setSat_st (s : State) (g : Fin 8) (l : List (Nat × Bool)) : (s.setSat g l).st = s.st := (s.setSat_sameButGroups g l).st

@[simp] theorem State.setSat_el (s : State) (g : Fin 8) (l : List (Nat × Bool)) : (s.setSat g l).el = s.el := (s.setSat_sameButGroups g l).el

/-- The lane that samples a phase is configuration. -/
theorem State.gPhaseLane_congr {s t : State} (h : t.nv = s.nv) (g : Fin 8) (n : Nat) : t.gPhaseLane g n = s.gPhaseLane g n := by
  simp only [State.gPhaseLane, State.gCfg, State.slotIndex, State.gSlots, State.gMask, h]

theorem State.modSlot_congr {s : State} {n : Nat} {f f' : Slot → Slot} (h : f (s.slot n) = f' (s.slot n)) : s.modSlot n f = s.modSlot n f' := by
  unfold State.slot at h
  simp only [State.modSlot, h]

/-! ### The inner result, and a pickup of the same instant (R240, R241) -/

/-- What the inner stage leaves in a slot: the jobs still waiting, the result's stamp and duty, and the duty in force. -/
def Slot.result (x : Slot) : List InnerJob × Nat × Int × Int := (x.jobs, x.resStamp, x.duty, x.dutyForce)

theorem Slot.fallH_result (x : Slot) (e p : Int) : (x.fallH e p).result = x.result := by
  unfold Slot.fallH; split <;> rfl

theorem Slot.fallL_result (x : Slot) (e p : Int) : (x.fallL e p).result = x.result := by
  unfold Slot.fallL; split <;> rfl

theorem Slot.settle_result (x : Slot) (mode : Nat) (now : Int) : (x.settle mode now).result = x.result := by
  unfold Slot.settle
  extract_lets at_ y
  have hy : y.result = x.result := by
    simp only [y]
    split
    · exact x.fallH_result ..
    · split <;> rfl
  split
  · exact (y.fallL_result ..).trans hy
  · split <;> exact hy

/-- The duty that the inner stage computes for a job of slot `n` (R232 to R236). -/
def State.innerDuty (s : State) (g : Fin 8) (n : Nat) (j : InnerJob) : Int :=
  (innerStage s.groups[g].loop (s.slot n).trim (s.sampleFor g j).1 (s.slot n).integ (s.groups[g].loop.vout.getD 0)
    (s.groups[g].loop.vin.getD 0)).1

theorem State.sampleFor_frame (s : State) (g : Fin 8) (j : InnerJob) :
    (s.sampleFor g j).2.slots = s.slots ∧ (s.sampleFor g j).2.groups = s.groups := by
  unfold State.sampleFor
  split
  · exact ⟨rfl, rfl⟩
  · split <;> exact ⟨rfl, rfl⟩

theorem State.slot_congr {s t : State} (h : t.slots = s.slots) (k : Nat) : t.slot k = s.slot k := by rw [State.slot, h]; rfl

@[simp] theorem State.slot_setSat (s : State) (g : Fin 8) (l : List (Nat × Bool)) (k : Nat) : (s.setSat g l).slot k = s.slot k :=
  State.slot_congr (s.setSat_sameButGroups g l).slots k

@[simp] theorem State.loop_modLoop (s : State) (g : Fin 8) (f : Loop → Loop) : (s.modLoop g f).groups[g].loop = f s.groups[g].loop := by
  simp [State.modLoop, State.modG]

@[simp] theorem State.slot_modLoop (s : State) (g : Fin 8) (f : Loop → Loop) (k : Nat) : (s.modLoop g f).slot k = s.slot k := rfl

theorem State.resultWrite_slot (s : State) (g : Fin 8) (n : Fin 48) (j : InnerJob) :
    ((s.resultWrite g n j).slot n).jobs = (s.slot n).jobs.tail ∧ ((s.resultWrite g n j).slot n).fresh = true ∧
    ((s.resultWrite g n j).slot n).resStamp = j.stamp ∧ ((s.resultWrite g n j).slot n).duty = s.innerDuty g n j := by
  unfold State.resultWrite State.innerDuty
  obtain ⟨hsl, hgr⟩ := s.sampleFor_frame g j
  generalize s.sampleFor g j = d at hsl hgr
  obtain ⟨i, u⟩ := d
  simp only at hsl hgr
  simp only [State.slot_setSat, State.slot_modLoop, State.slot_modSlot_self, State.slot_congr hsl, hgr]
  trivial

theorem State.shadowWrite_of_free {s : State} {n : Nat} {write : State → State}
    (h : ∀ q, (s.slot n).pick = some q → q.tick ≠ s.fine) : s.shadowWrite n write = write s := by
  have hnone (b : Bool) : (s.slot n).pick.filter (fun p => decide (p.tick = s.fine) && b) = none := by
    cases hp : (s.slot n).pick with
    | none => rfl
    | some q => simp [h q hp]
  unfold State.shadowWrite
  split
  · rfl
  · simp only [Bool.and_assoc, hnone]

theorem State.shadowWrite_of_pick {s : State} {n : Nat} {g : Fin 8} {q : PickNote} (hg : s.slotGroup n = some g)
    (hq : (s.slot n).pick = some q) (ht : q.tick = s.fine) (hr : s.groups[g].pwm.running = true) (hlen : 0 < (s.slot n).len)
    (write : State → State) : s.shadowWrite n write = s.pickAgain g n q write := by
  simp [State.shadowWrite, hg, hq, ht, hr, hlen, Option.filter, -Fin.getElem_fin]

theorem State.notePoint_result (s : State) (g : Fin 8) (n : Fin 48) : ((s.notePoint g n).slot n).result = (s.slot n).result := by
  unfold State.notePoint
  split
  · rfl
  · extract_lets x b off k div at_
    rw [State.slot_modSlot_self]
    rfl

theorem State.latencyTrace_slots (s : State) (g : Fin 8) (n : Nat) : (s.latencyTrace g n).slots = s.slots := by
  unfold State.latencyTrace
  extract_lets x
  split <;> rfl

/-- A pickup taken again takes the new duty into force, and keeps what the result left (R240). -/
theorem State.retake_result (s : State) (g : Fin 8) (n : Fin 48) (p : PickNote) :
    ((s.retake g n p).slot n).result = ((s.slot n).jobs, (s.slot n).resStamp, (s.slot n).duty, (s.slot n).duty) := by
  unfold State.retake
  extract_lets w per change ref u t len
  have hu : u.slot n = s.slot n := by simp only [u]; split <;> rfl
  rw [State.slot_modSlot_self, hu]
  exact Slot.settle_result _ _ _

/-- What `pickAgain` shows the write: the slot as it was before the pickup, the group without that pickup's latency. -/
def State.beforePick (s : State) (g : Fin 8) (n : Nat) (p : PickNote) : State :=
  let mine := fun (r : Bytes) => u8 r 24 == n && u64 r 16 == s.st
  let u := { s with capLog := (s.capLog.reverse.eraseP (fun (r : CapRec) => r.kind == 0 && r.group == g.val && mine r.bytes)).reverse }
  (u.modLoop g (fun l =>
    let cleared := decide (l.clearSt = s.st)
    { l with lats := l.lats.eraseP mine, effMax := if cleared then 0 else p.effMax, effMin := if cleared then none else p.effMin })).modSlot n
      (fun x => { x with fresh := p.fresh, superseded := p.superseded })

theorem State.pickAgain_slot (s : State) (g : Fin 8) (n : Fin 48) (p : PickNote) (write : State → State) :
    let v := (write (s.beforePick g n p)).slot n
    ((s.pickAgain g n p write).slot n).result = (v.jobs, v.resStamp, v.duty, v.duty) ∧ ((s.pickAgain g n p write).slot n).fresh = false := by
  intro v
  have hr := (write (s.beforePick g n p)).retake_result g n p
  unfold State.pickAgain
  extract_lets mine s1 s2 s3 s4
  have h4 : s4 = (write (s.beforePick g n p)).retake g n p := rfl
  rw [← h4] at hr
  split
  · rw [State.slot_modSlot_self]
    exact ⟨hr, rfl⟩
  · rw [State.slot_modSlot_self]
    refine ⟨Eq.trans ?_ hr, rfl⟩
    refine (congrArg Slot.result (State.slot_congr (State.latencyTrace_slots ..) n)).trans ((State.notePoint_result ..).trans ?_)
    rw [State.slot_modSlot_self]
    rfl

/-- What the mean of the group's valid samples is taken from (R231). -/
def Slot.measured (x : Slot) : Bool × Option Int × Nat × Int × Bool := (x.valid, x.sampledAt, x.vals.period, x.current, x.suspended)

/-- A slot whose sample is still of its last period. -/
def Slot.isFresh (now : Int) (x : Slot) : Bool :=
  x.valid && (match x.sampledAt with | none => false | some t => decide (now < t + 64 * x.vals.period))

theorem Slot.isFresh_congr {x y : Slot} (h : x.measured = y.measured) (now : Int) : x.isFresh now = y.isFresh now := by
  simp only [Slot.measured, Prod.mk.injEq] at h
  obtain ⟨hv, ha, hp, -⟩ := h
  simp only [Slot.isFresh, hv, ha, hp]

theorem State.validMean_eq (s : State) (g : Fin 8) :
    s.validMean g =
      let cs := ((s.inService g).filter (fun k => (s.slot k).isFresh s.fine)).map (fun k => (s.slot k).current)
      if cs = [] then none else some (rdiv cs.sum cs.length) := by
  have hl : ((s.inService g).map s.slot).filter (Slot.isFresh s.fine) =
      ((s.inService g).filter (fun k => (s.slot k).isFresh s.fine)).map s.slot := List.filter_map
  have heq : s.validMean g = (let l := ((s.inService g).map s.slot).filter (Slot.isFresh s.fine)
    if l = [] then none else some (rdiv (l.map (·.current)).sum l.length)) := rfl
  rw [heq]
  rw [hl]
  simp only [List.map_eq_nil_iff, List.map_map, List.length_map]
  rfl

/-- The mean reads only what was measured, the configuration and the time. -/
theorem State.validMean_congr {s t : State} (hslot : ∀ k, (t.slot k).measured = (s.slot k).measured) (hclk : t.clk = s.clk)
    (hnv : t.nv = s.nv) (g : Fin 8) : t.validMean g = s.validMean g := by
  have hfine : t.fine = s.fine := by rw [State.fine, hclk]; rfl
  have hcur : ∀ k, (t.slot k).current = (s.slot k).current := fun k => congrArg (·.2.2.2.1) (hslot k)
  have hsusp : ∀ k, t.slotSuspended k = s.slotSuspended k := fun k => congrArg (·.2.2.2.2) (hslot k)
  have hfresh : ∀ k, (t.slot k).isFresh s.fine = (s.slot k).isFresh s.fine := fun k => Slot.isFresh_congr (hslot k) _
  have hserv : t.inService g = s.inService g := by
    simp only [State.inService, State.gSlots, State.gMask, State.gCfg, State.slotRetired, State.isRetired, hnv, hsusp]
  simp only [State.validMean_eq, hserv, hfine, hcur, hfresh]

theorem State.slot_beforePick (s : State) (g : Fin 8) (n : Fin 48) (p : PickNote) :
    (s.beforePick g n p).slot n = { s.slot n with fresh := p.fresh, superseded := p.superseded } := by
  unfold State.beforePick
  extract_lets mine u
  rw [State.slot_modSlot_self]
  rfl

theorem State.measured_beforePick (s : State) (g : Fin 8) (n : Fin 48) (p : PickNote) (k : Nat) :
    ((s.beforePick g n p).slot k).measured = (s.slot k).measured := by
  by_cases hk : k = n
  · rw [hk, State.slot_beforePick]
    rfl
  · unfold State.beforePick
    extract_lets mine u
    rw [State.slot_modSlot_ne _ hk]
    rfl

theorem State.sampleFor_beforePick (s : State) (g : Fin 8) (n : Fin 48) (p : PickNote) (j : InnerJob) :
    ((s.beforePick g n p).sampleFor g j).1 = (s.sampleFor g j).1 := by
  have hmean : (s.beforePick g n p).validMean g = s.validMean g :=
    State.validMean_congr (s.measured_beforePick g n p) (State.modSlot_sameButSlots _ _ _).clk (State.modSlot_sameButSlots _ _ _).nv g
  have hfree : (s.beforePick g n p).free.1 = s.free.1 := congrArg Config.freeValue (State.modSlot_sameButSlots _ _ _).freeCount
  unfold State.sampleFor
  split
  · rfl
  · rw [hmean]
    split
    · rfl
    · exact congrArg Int.ofNat hfree

theorem State.innerDuty_beforePick (s : State) (g : Fin 8) (n : Fin 48) (p : PickNote) (j : InnerJob) :
    (s.beforePick g n p).innerDuty g n j = s.innerDuty g n j := by
  have hgr : (s.beforePick g n p).groups = _ := (State.modSlot_sameButSlots _ _ _).groups
  simp only [State.innerDuty, State.sampleFor_beforePick, State.slot_beforePick, hgr, State.loop_modLoop]
  rfl

end Sys2Proof.Machine

namespace Sys2Proof.Proofs

open Sys2Proof.Machine

/-- Settles O22, row by row. -/
theorem loopRowsComplete : Obligations.LoopRowsComplete := by
  intro s n g hrun
  refine ⟨fun ha hstop hm hnew => ?_, fun lanes hm hnew => ?_, fun code q hg ha hr hin hq hle hlt hret => ?_,
    fun j l hg hj ha hav hin => ?_, fun j l hg hj ha hlate => ?_, fun a b hw ha hr harm hle hlt hnear => ?_⟩
  · refine exec_of_live (f := (·.profileTick g)) rfl hrun ?_
    simp [State.profileTick, ha, hstop, hm, hnew, -Fin.getElem_fin] <;> rfl
  · refine exec_of_live (f := (·.outerCycle lanes)) rfl hrun ?_
    simp [State.outerCycle, hm, hnew]
  · intro c u
    refine exec_of_live (f := (·.triggeredSample n code true)) rfl hrun ?_
    have hpoint : ((s.slot n).points.find? (fun p => decide (p ≤ s.fine) && decide (s.fine < p + 64))).isNone = false := by
      rw [Option.isNone_eq_false_iff, List.find?_isSome]
      exact ⟨q, hq, by simp [hle, hlt]⟩
    have hserved : (s.inService g).contains n.val = true := List.contains_iff_mem.2 hin
    have hlane : u.gPhaseLane g n = s.gPhaseLane g n := 
      State.gPhaseLane_congr ((State.modSlot_sameButSlots _ _ _).nv.trans (s.setSat_sameButGroups _ _).nv) g n
    rw [hlane]
    simp only [State.triggeredSample, hg, ha, hr, hret, hpoint, hserved, Bool.and_self, Bool.not_true, Bool.or_self, Bool.false_eq_true, if_false,
      Bool.not_false, if_true]
    simp only [u, State.modSlot_st, State.setSat_st, State.setSat_el]
    rfl
  · intro d
    have hwrite : s.innerResult n = s.shadowWrite n (·.resultWrite g n j) := by simp [State.innerResult, hg, hj, ha, hav, hin]
    refine ⟨fun hfree => ⟨_, exec_of_live (f := (·.innerResult n)) rfl hrun rfl, ?_⟩,
      fun q hq ht hr hlen => ⟨_, exec_of_live (f := (·.innerResult n)) rfl hrun rfl, ?_⟩⟩
    · rw [hwrite, State.shadowWrite_of_free hfree]
      obtain ⟨hjobs, hfresh, hstamp, hduty⟩ := s.resultWrite_slot g n j
      exact ⟨hjobs.trans (by rw [hj]; rfl), hfresh, hstamp, hduty⟩
    · rw [hwrite, State.shadowWrite_of_pick hg hq ht hr hlen]
      obtain ⟨hres, hfresh⟩ := s.pickAgain_slot g n q (·.resultWrite g n j)
      obtain ⟨hjobs, -, hstamp, hduty⟩ := (s.beforePick g n q).resultWrite_slot g n j
      rw [hjobs, hstamp, hduty, State.innerDuty_beforePick, State.slot_beforePick] at hres
      simp only [Slot.result, Prod.mk.injEq] at hres
      obtain ⟨hjobs', hstamp', hduty', hforce⟩ := hres
      exact ⟨hjobs'.trans (by rw [hj]; rfl), hfresh, hstamp', hduty', hforce⟩
  · refine exec_of_live (f := (·.loopOverrun n)) rfl hrun ?_
    have htail : s.modSlot n (fun x => { x with jobs := x.jobs.tail }) = s.modSlot n (fun x => { x with jobs := l }) :=
      State.modSlot_congr (by rw [hj]; rfl)
    have hst := (s.modSlot_sameButSlots n (fun x => { x with jobs := l })).st
    simp only [State.loopOverrun, hg, hj, ha, hlate, htail, decide_true, Bool.and_self, if_true]
    rw [← hst]
    rfl
  · refine exec_of_live (f := (·.loopLoadall g)) rfl hrun ?_
    simp [State.loopLoadall, hw, ha, hr, harm, hle, hlt, hnear, -Fin.getElem_fin]

end Sys2Proof.Proofs

/-!
HOSTIO and the direct window (R607 to R616).
-/

namespace Sys2Proof.Machine

theorem State.readMisused_of_mirror (s : State) {a : Nat} (h : a < 0x100000) : s.readMisused a = false := by
  simp [State.readMisused, inRun, Nat.not_le.2 h]

/-- A read of one mirror word answers it, and latches what goes with it (R611, R612). -/
theorem State.windowRead_mirror {s t : State} {a w : Nat} (hserve : s.hio.serving = true) (ha : a % 4 = 0) (hlt : a + 4 ≤ 0x100000)
    (hw : s.mirrorWord a % 2 ^ 32 = w) (ht : s.mirrorLatch a = t) : s.windowRead a 1 false = t.emit (.window 0 [w]) := by
  have hin : a < 0x100000 := by omega
  have hc : addressCause a 1 = none := by
    simp [addressCause, rangeEnd, ha, hin]
    omega
  rw [State.windowRead_of_valid hserve hc (s.readMisused_of_mirror hin)]
  simp only [State.readWords, State.readWord, if_pos hin, hw, ht]

theorem State.mirrorWord_refLo (s : State) (g : Fin 8) : s.mirrorWord (0x1018 + 0x40 * g.val) = loWord (s.refBoundary g) := by
  match g with
  | 0 | 1 | 2 | 3 | 4 | 5 | 6 | 7 => rfl

theorem State.mirrorLatch_refLo (s : State) (g : Fin 8) :
    s.mirrorLatch (0x1018 + 0x40 * g.val) = s.modPwm g (fun w => { w with refHi := hiWord (s.refBoundary g) }) := by
  match g with
  | 0 | 1 | 2 | 3 | 4 | 5 | 6 | 7 => rfl

theorem State.windowWrite_of_addressCause {s : State} {a c : Nat} {ws : List Nat} (h : s.hio.serving = true)
    (hc : addressCause a ws.length = some c) (part : Bool) :
    s.windowWrite a ws part =
      ({ s with hio := { s.hio with lastWriteBad := false } } : State).violate a true c ws.length (ws.headD 0) := by
  simp [State.windowWrite, h, hc]

theorem State.windowWrite_of_valid {s : State} {a : Nat} {ws : List Nat} (h : s.hio.serving = true)
    (hc : addressCause a ws.length = none) (hw : readOnlyAt a = false) :
    s.windowWrite a ws false = State.writeWords (fun c w => w.violate a true c ws.length (ws.headD 0)) ws a
      { s with hio := { s.hio with lastWriteBad := false } } := by
  simp [State.windowWrite, h, hc, hw]

end Sys2Proof.Machine

namespace Sys2Proof.Proofs

open Sys2Proof.Machine

/-- Settles O23: accesses by the cause that voids them or none, then the word and the latch of each register. -/
theorem windowRowsComplete : Obligations.WindowRowsComplete := by
  intro s hrun
  have hlo (n : Nat) : loWord n % 2 ^ 32 = loWord n := Nat.mod_mod _ _
  refine ⟨exec_of_live (f := State.statusRead) rfl hrun (by simp [State.statusRead]), exec_of_live (f := State.interfaceReset) rfl hrun rfl, fun code h1 h2 h3 h4 => ?_,
    fun hs hdue => ?_, fun hs => ?_, fun hs a n => ⟨fun c hc => ?_, fun hc hlt => ?_⟩, fun hs => ⟨?_, ?_, fun g => ?_, ?_, ?_, ?_, ?_⟩⟩
  · refine exec_of_live (f := (·.unknownInstruction code)) rfl hrun ?_
    simp [State.unknownInstruction, h1, h2, h3, h4]
  · rw [exec_hostioServingStart_of_run hrun, hs, decide_eq_true hdue]
    rfl
  · intro u a ws
    refine ⟨fun c hc => ?_, fun hc hw => ?_⟩
    · rw [exec_windowWrite_of_run hrun, State.windowWrite_of_addressCause hs (by rwa [List.length_map]), List.length_map]
    · rw [exec_windowWrite_of_run hrun, State.windowWrite_of_valid hs (by rwa [List.length_map]) hw, List.length_map]
  · rw [exec_windowRead_of_run hrun, State.windowRead_of_addressCause hs hc]
  · rw [exec_windowRead_of_run hrun, State.windowRead_of_valid hs hc (s.readMisused_of_mirror hlt)]
  · exact exec_of_live (f := (·.windowRead 0x40 1 false)) rfl hrun (State.windowRead_mirror hs rfl (by decide) (hlo s.st) rfl)
  · exact exec_of_live (f := (·.windowRead 0x10 1 false)) rfl hrun (State.windowRead_mirror hs rfl (by decide) (hlo s.sys.readySt) rfl)
  · exact exec_of_live (f := (·.windowRead (0x1018 + 0x40 * g.val) 1 false)) rfl hrun (State.windowRead_mirror hs (by omega) (by omega)
      (by rw [State.mirrorWord_refLo, hlo]) (s.mirrorLatch_refLo g))
  · exact exec_of_live (f := (·.windowRead 0x2C0C 1 false)) rfl hrun (State.windowRead_mirror hs rfl (by decide) (hlo s.metro.mirrorSt) rfl)
  · exact exec_of_live (f := (·.windowRead 0x3408 1 false)) rfl hrun (State.windowRead_mirror hs rfl (by decide) (hlo s.bill.mirCommit) rfl)
  · exact exec_of_live (f := (·.windowRead 0x4808 1 false)) rfl hrun (State.windowRead_mirror hs rfl (by decide) (hlo s.leaseEndSt) rfl)
  · exact exec_of_live (f := (·.windowRead 0x6418 1 false)) rfl hrun (State.windowRead_mirror hs rfl (by decide) (hlo s.nv.tlatch.st) rfl)

end Sys2Proof.Proofs

/-!
Rows of the pre-start check, of a stop and of a discharge (R260 to R278).
-/

namespace Sys2Proof.Proofs

open Sys2Proof.Machine

/-- Settles O24, row by row. -/
theorem precheckRowsComplete : Obligations.PrecheckRowsComplete := by
  intro s g hrun hg
  refine ⟨fun t hp ht => ?_, fun t v hp ht hv => ?_, fun t hp ht hv => ?_, fun t hp ht => ?_, fun t l hp ht => ?_, fun t l bad hp ht => ?_⟩
  · exact exec_of_live (f := (·.precheckDischargeTimeout g)) rfl hrun (by simp [State.precheckDischargeTimeout, hp, hg, ht, -Fin.getElem_fin])
  · refine exec_of_live (f := (·.precheckSettleEnd g)) rfl hrun ?_
    by_cases hlow : v < s.vinMin g <;> simp [State.precheckSettleEnd, hp, hg, ht, hv, hlow, -Fin.getElem_fin]
  · exact exec_of_live (f := (·.precheckSettleEnd g)) rfl hrun (by simp [State.precheckSettleEnd, hp, hg, ht, hv, -Fin.getElem_fin])
  · exact exec_of_live (f := (·.precheckVinTimeout g)) rfl hrun (by simp [State.precheckVinTimeout, hp, hg, ht, -Fin.getElem_fin])
  · intro bad
    refine exec_of_live (f := (·.precheckMidEnd g l)) rfl hrun ?_
    simp only [State.precheckMidEnd, hp, hg, ht, decide_true, Bool.and_self, if_true]
    split
    · next h => rw [if_pos h]
    · next h => rw [if_neg h]
  · intro u
    refine exec_of_live (f := (·.precheckResample g l)) rfl hrun ?_
    simp only [State.precheckResample, hp, hg, ht, decide_true, Bool.and_self, if_true] <;> rfl

/-- A standby of a pair, in run, with a burst of slot 0 suspended 1 ms ago (R278, R263). -/
def shadowBurst : State :=
  ({ State.reset with
    nv := { State.reset.nv with cfg := { State.reset.nv.cfg with twin := some [0, 1] } }
    twin := { State.reset.twin with state := .standby } } : State).modSlot 0 (fun x => { x with burst := some (-1000000, 0) })

/-- A standby does not charge the burst. -/
theorem shadowBurst_tripBurstCharge : (shadowBurst.tripBurstCharge 0).fabric.transients = 0 := by
  decide +kernel

theorem shadowBurst_classify :
    ((shadowBurst.modSlot 0 (fun x => { x with burst := none })).classify (tgt 2 0) 0x12 0 false).fabric.transients = 1 := by
  decide +kernel

/-- Refutes O25: a standby, which runs in shadow (R263), ends a suspended burst without charging it. -/
theorem not_stopRowsComplete : ¬ Obligations.StopRowsComplete := by
  intro h
  obtain ⟨-, -, -, -, -, hburst⟩ := h shadowBurst 0 rfl
  have hrun := exec_of_live (s := shadowBurst) (i := .tripBurstCharge 0) (f := (·.tripBurstCharge 0)) rfl rfl rfl
  have heq := hrun.symm.trans (hburst 0 (-1000000) 0 (by decide +kernel) (by decide +kernel))
  have htrans := congrArg (fun t : State => t.fabric.transients) (Host.Outcome.next.inj heq)
  exact absurd (shadowBurst_tripBurstCharge.symm.trans (htrans.trans shadowBurst_classify)) (by decide)

end Sys2Proof.Proofs

/-!
Rows of the pilot and of the vehicle link (R307 to R319, R339).
-/

namespace Sys2Proof.Machine

@[simp] theorem State.portServed_overLink (s : State) (p : Fin 8) : (s.overLink p).portServed p = s.portServed p := by
  obtain h | h := State.overLink_cases (s := s) (p := p) <;> rw [h] <;> rfl

@[simp] theorem State.portEnergy_overLink (s : State) (p : Fin 8) : (s.overLink p).portEnergy p = s.portEnergy p := by
  obtain h | h := State.overLink_cases (s := s) (p := p) <;> rw [h] <;> rfl

@[simp] theorem State.overLink_frame (s : State) (p : Fin 8) :
    (s.overLink p).sessionSeq = s.sessionSeq ∧ (s.overLink p).time = s.time ∧ (s.overLink p).metro = s.metro := by
  obtain h | h := State.overLink_cases (s := s) (p := p) <;> rw [h] <;> exact ⟨rfl, rfl, rfl⟩

@[simp] theorem State.protoOn_overLink (s : State) (p : Fin 8) : (s.overLink p).protoOn p = s.protoOn p := by
  obtain h | h := State.overLink_cases (s := s) (p := p) <;> rw [h]
  funext c
  simp [State.protoOn, State.pCfg]

/-- A framed transfer of a length that R314 admits, taken at its port. -/
theorem State.vlFrame_of_framed {s : State} {p : Fin 8} {f : VlFrame} (hon : s.ports[p].linkOn = true) (hready : s.sys.ready = true)
    (hk : u8 (s.pCfg p) 1 = 0) (hlen : f.len = 0 ∨ 60 ≤ f.len ∧ f.len ≤ 1514) :
    s.vlFrame p f =
      let u := s.modPort p (fun x => { x with
        heardAt := s.el, modemReady := bit f.flags 0, modemMore := bit f.flags 1, modemOverflow := bit f.flags 2, linkSeq := f.seq % 256 })
      match f.what with
      | .other => u
      | .matched a => whenDo u.ports[p].matching (·.matchEnd p a) u
      | .connect h => u.connect p h
      | .request =>
        u.request p (fun s =>
          if s.ports[p].session.isSome && s.ports[p].tcp then
            match s.ports[p].state with
            | .precharge | .charging | .discharging => (s.heard p).loopAnswer p
            | .negotiating => s.heard p
            | _ => s
          else s) := by
  have hok : (f.len == 0 || (decide (60 ≤ f.len) && decide (f.len ≤ 1514))) = true := by simpa using hlen
  simp only [State.vlFrame, State.vlHeard, hon, hready, hk, hok, Bool.not_true, Bool.or_self, Bool.false_eq_true, if_false, if_true,
    beq_self_eq_true, Bool.true_and] <;> rfl

end Sys2Proof.Machine

/-!
The requests of a charging session (R316, R321 to R342): heard over the link, then answered by their own rule or as in a stop.
-/

namespace Sys2Proof.Machine

variable {s : State} {p : Fin 8}

/-- Only RAMPDOWN and DISCHARGE answer a request as a stop (R340). -/
theorem State.stopTold_of_state (h1 : s.ports[p].state ≠ .rampdown) (h2 : s.ports[p].state ≠ .discharge) : s.stopTold p = false := by
  simp [State.stopTold, beq_eq_false_iff_ne.2 h1, beq_eq_false_iff_ne.2 h2, -Fin.getElem_fin]

theorem State.stopTold_of_stop {e : Session} (hses : s.ports[p].session = some e) (htcp : s.ports[p].tcp = true)
    (h : s.ports[p].state = .rampdown ∨ (s.ports[p].state = .discharge ∧ s.ports[p].telling = true)) : s.stopTold p = true := by
  obtain h | ⟨h, ht⟩ := h <;> simp_all [State.stopTold]

/-- A request outside a stop goes to its own rule, over the link (R316). -/
theorem exec_request {t : State} {i : Instr} {f : State → State} (hi : exec i s = live s (fun s => s.request p f)) (hrun : s.sys.mode = .run)
    (h1 : s.ports[p].state ≠ .rampdown) (h2 : s.ports[p].state ≠ .discharge) (hf : f (s.overLink p) = t) : exec i s = .next t :=
  exec_of_live hi hrun ((State.request_own (State.stopTold_of_state h1 h2) f).trans hf)

@[simp] theorem State.modSession_st (f : Session → Session) : (s.modSession p f).st = s.st := rfl

@[simp] theorem State.modSession_el (f : Session → Session) : (s.modSession p f).el = s.el := rfl

@[simp] theorem State.modSession_pCfg (f : Session → Session) : (s.modSession p f).pCfg p = s.pCfg p := rfl

@[simp] theorem State.heard_st : (s.heard p).st = s.st := rfl

@[simp] theorem State.heard_el : (s.heard p).el = s.el := rfl

@[simp] theorem State.heard_pCfg : (s.heard p).pCfg p = s.pCfg p := rfl

@[simp] theorem State.portSet_state (st : PState) (r : Nat) : (s.portSet p st r).ports[(p : Nat)].state = st := by
  unfold State.portSet
  dsimp only
  split
  · assumption
  · split <;> rw [State.modPort_self]

@[simp] theorem State.refreshEff_state : (s.refreshEff p).ports[(p : Nat)].state = s.ports[(p : Nat)].state := by
  unfold State.refreshEff
  dsimp only
  rw [State.modPort_self]

end Sys2Proof.Machine

namespace Sys2Proof.Proofs

open Sys2Proof.Machine

/-- Settles O27, request by request. -/
theorem chargingRowsComplete : Obligations.ChargingRowsComplete := by
  intro s p e hrun hses htcp w o
  have hses' : s.ports[(p : Nat)].session = some e := hses
  have htcp' : s.ports[(p : Nat)].tcp = true := htcp
  refine ⟨fun u hst hauth hask => ?_, fun u hst hauth hask hpnc hb h3 hbad => ?_, fun u hst hauth hask => ?_, fun u hst hauth => ?_,
    fun hst hauth hck => ?_, fun hst hauth hck => ?_, fun hst hauth hck => ?_, fun v hst => ?_, fun iReq iDreq vTarget vMin hst hend => ?_,
    fun iReq iDreq vTarget vMin hst => ?_, fun hstop => ?_⟩
  · intro pnc hok
    have hst' : s.ports[(p : Nat)].state = .negotiating := hst
    refine exec_request (f := (·.authorizationReq p u)) rfl hrun (by rw [hst]; nofun) (by rw [hst]; nofun) ?_
    have hpass : (pnc && !contractOk (u.chain.take 3800) s.st) = false := by
      cases hp : pnc
      · rfl
      · simp [hok hp]
    simp only [pnc] at hpass
    simp [State.authorizationReq, hses', hst', htcp', hauth, hask, hpass, w, o, pnc]
  · have hst' : s.ports[(p : Nat)].state = .negotiating := hst
    refine exec_request (f := (·.authorizationReq p u)) rfl hrun (by rw [hst]; nofun) (by rw [hst]; nofun) ?_
    simp [State.authorizationReq, hses', hst', htcp', hauth, hask, hpnc, hb, h3, hbad, w, o]
  · have hst' : s.ports[(p : Nat)].state = .negotiating := hst
    refine exec_request (f := (·.authorizationReq p u)) rfl hrun (by rw [hst]; nofun) (by rw [hst]; nofun) ?_
    simp [State.authorizationReq, hses', hst', htcp', hauth, hask, w, o]
  · have hst' : s.ports[(p : Nat)].state = .negotiating := hst
    refine exec_request (f := (·.authorizationReq p u)) rfl hrun (by rw [hst]; nofun) (by rw [hst]; nofun) ?_
    simp [State.authorizationReq, hses', hst', htcp', hauth, w, o]
  · intro v q
    have hst' : s.ports[(p : Nat)].state = .negotiating := hst
    refine exec_request (f := (·.cableCheckReq p)) rfl hrun (by rw [hst]; nofun) (by rw [hst]; nofun) ?_
    simp [State.cableCheckReq, hses', hst', htcp', Option.isSome_iff_ne_none.1 hauth, hck]
    split <;> rfl
  · have hst' : s.ports[(p : Nat)].state = .negotiating := hst
    refine exec_request (f := (·.cableCheckReq p)) rfl hrun (by rw [hst]; nofun) (by rw [hst]; nofun) ?_
    obtain hck | ⟨t, hck⟩ | ⟨b, hck⟩ := hck <;>
      simp [State.cableCheckReq, hses', hst', htcp', Option.isSome_iff_ne_none.1 hauth, hck, w, o]
  · have hst' : s.ports[(p : Nat)].state = .negotiating := hst
    refine exec_request (f := (·.cableCheckReq p)) rfl hrun (by rw [hst]; nofun) (by rw [hst]; nofun) ?_
    simp [State.cableCheckReq, hses', hst', htcp', Option.isSome_iff_ne_none.1 hauth, hck, w, o]
  · intro a b q r
    have h1 : s.ports[p].state ≠ .rampdown := by obtain h | ⟨h, -⟩ := hst <;> rw [h] <;> nofun
    have h2 : s.ports[p].state ≠ .discharge := by obtain h | ⟨h, -⟩ := hst <;> rw [h] <;> nofun
    have hmay : ((s.ports[(p : Nat)].state == .negotiating && e.check == .passed && e.authSt.isSome) || s.ports[(p : Nat)].state == .precharge) = true := by
      obtain h | ⟨h, hck, hauth⟩ := hst
      · have h' : s.ports[(p : Nat)].state = .precharge := h
        simp [h']
      · have h' : s.ports[(p : Nat)].state = .negotiating := h
        simp [h', hck, hauth]
    refine exec_request (f := (·.prechargeReq p v)) rfl hrun h1 h2 ?_
    simp only [State.prechargeReq, Fin.getElem_fin, State.overLink_session, State.overLink_tcp, State.overLink_state, State.overLink_ending, hses',
      htcp', hmay, Bool.not_true, Bool.false_eq_true, if_false, if_true]
    rfl
  · intro u probe
    have hst' : s.ports[(p : Nat)].state = .precharge := hst
    have hend' : s.ports[(p : Nat)].ending = none := hend
    have hu : u.ports[(p : Nat)] = { w.ports[(p : Nat)] with session := some { e with
        seqAt := s.el, iReq, iDreq, vTarget, vMin, demandAt := s.el, started := true } } := by
      simp [u, o, State.heard, State.modSession, hses', w]
    have hstart : w.powerStart p iReq iDreq vTarget vMin =
        (u.powerGo p).tell p (if (u.powerGo p).ports[(p : Nat)].state.live then .ok else .ongoing) [] := by
      simp [State.powerStart, hses', hst', htcp', hend', u, o, w]
    refine ⟨fun hc hd => ?_, fun hcd => ?_⟩
    · refine exec_request (f := (·.powerStart p iReq iDreq vTarget vMin)) rfl hrun (by rw [hst]; nofun) (by rw [hst]; nofun) ?_
      simp only [Fin.getElem_fin] at hc hd
      have hgo : u.powerGo p = (u.portSet p (if (probe.portCurrent p).1 < 0 then .discharging else .charging)).refreshEff p := by
        simp [State.powerGo, hu, hst', hc, hd, hend', w, probe]
      have hlive : (u.powerGo p).ports[(p : Nat)].state.live = true := by
        rw [hgo, State.refreshEff_state, State.portSet_state]
        split <;> rfl
      exact hstart.trans (by rw [hlive, hgo, if_pos rfl])
    · refine exec_request (f := (·.powerStart p iReq iDreq vTarget vMin)) rfl hrun (by rw [hst]; nofun) (by rw [hst]; nofun) ?_
      simp only [Fin.getElem_fin] at hcd
      have hgo : u.powerGo p = u := by
        obtain h | h := hcd <;> simp [State.powerGo, hu, h, w]
      have hlive : (u.powerGo p).ports[(p : Nat)].state.live = false := by
        rw [hgo, hu]
        simp [hst', w, PState.live]
      exact hstart.trans (by rw [hlive, hgo, if_neg nofun])
  · have h1 : s.ports[p].state ≠ .rampdown := by obtain h | h := hst <;> rw [h] <;> nofun
    have h2 : s.ports[p].state ≠ .discharge := by obtain h | h := hst <;> rw [h] <;> nofun
    refine exec_request (f := (·.currentDemand p iReq iDreq vTarget vMin)) rfl hrun h1 h2 ?_
    simp only [Fin.getElem_fin] at hst
    obtain h | h := hst <;> simp [State.currentDemand, hses', htcp', h, w, o]
  · have htold := State.stopTold_of_stop hses htcp hstop
    exact ⟨fun u => exec_of_live (f := fun s => s.request p (·.authorizationReq p u)) rfl hrun (State.request_told htold _),
      exec_of_live (f := fun s => s.request p (·.cableCheckReq p)) rfl hrun (State.request_told htold _),
      fun v => exec_of_live (f := fun s => s.request p (·.prechargeReq p v)) rfl hrun (State.request_told htold _),
      fun iReq iDreq vTarget vMin => exec_of_live (f := fun s => s.request p (·.powerStart p iReq iDreq vTarget vMin)) rfl hrun
        (State.request_told htold _),
      fun iReq iDreq vTarget vMin => exec_of_live (f := fun s => s.request p (·.currentDemand p iReq iDreq vTarget vMin)) rfl hrun
        (State.request_told htold _)⟩

end Sys2Proof.Proofs

/-!
Rows of the session's timeouts, of the contactor and of the cooling loop (R322 to R374).
-/

namespace Sys2Proof.Proofs

open Sys2Proof.Machine

/-- Settles O28, row by row. -/
theorem contactorAndCoolingRowsComplete : Obligations.ContactorAndCoolingRowsComplete := by
  intro s p hrun
  refine ⟨fun e t hs hc ht => ?_, fun e t hs hst ha hb ht => ?_, fun e hs hst ht => ?_, fun e hs hst he ht => ?_, fun hf ht hd hc => ?_,
    fun hf ht hd hr => ?_, fun hw hd hr ht => ?_, ?_, fun hc hst ht => ?_, fun t hw hp ht => ?_, fun b t hc hl ha ht hno => ?_⟩
  · exact exec_of_live (f := (·.cableCheckEnd p)) rfl hrun (by simp [State.cableCheckEnd, hs, hc, ht, -Fin.getElem_fin])
  · exact exec_of_live (f := (·.authTimeout p)) rfl hrun (by simp [State.authTimeout, hs, hst, ha, hb, ht, -Fin.getElem_fin])
  · refine exec_of_live (f := (·.demandGap p)) rfl hrun ?_
    obtain h | h := hst <;> simp [State.demandGap, hs, h, PState.live, ht, -Fin.getElem_fin]
  · refine exec_of_live (f := (·.seqTimeout p)) rfl hrun ?_
    obtain h | h := hst <;> simp [State.seqTimeout, hs, h, he, ht, -Fin.getElem_fin]
  · exact exec_of_live (f := (·.contactorFails p)) rfl hrun (by simp [State.contactorFails, hf, ht, hd, hc, -Fin.getElem_fin])
  · exact exec_of_live (f := (·.contactorFails p)) rfl hrun (by simp [State.contactorFails, hf, ht, hd, hr, -Fin.getElem_fin])
  · exact exec_of_live (f := (·.contactorWelds p)) rfl hrun (by simp [State.contactorWelds, hw, hd, hr, ht, -Fin.getElem_fin])
  · unfold exec
    exact live_run hrun _
  · exact exec_of_live rfl hrun (by simp [hc, hst, ht, -Fin.getElem_fin])
  · exact exec_of_live rfl hrun (by simp [hw, hp, ht, -Fin.getElem_fin])
  · exact exec_of_live (f := (·.coolRunOnEnd p)) rfl hrun (by simp [State.coolRunOnEnd, hc, hl, ha, ht, hno, -Fin.getElem_fin])

end Sys2Proof.Proofs

/-!
A row of billing that the model answers otherwise than stated: the default tariff while a restart is due (R475).
-/

namespace Sys2Proof.Proofs

open Sys2Proof.Machine

/-- A device after its first power-on reset, site time INVALID, with billing's restart still due. -/
def restartDue : State := { State.reset with bill := { State.reset.bill with restartDue := true } }

/-- While the restart is due the default tariff does not begin by its hold's expiry. -/
theorem restartDue_defaultTariffHoldExpiry : exec .defaultTariffHoldExpiry restartDue = .next restartDue :=
  exec_of_live rfl rfl (by simp [restartDue])

/-- Refutes O30: with billing's restart due the hold's expiry begins no default tariff, though site time is INVALID and none is in force. -/
theorem not_billingRowsComplete : ¬ Obligations.BillingRowsComplete := by
  intro h
  obtain ⟨-, -, -, hdflt, -⟩ := h restartDue rfl rfl
  have heq := restartDue_defaultTariffHoldExpiry.symm.trans (hdflt 1 rfl rfl)
  have htariff := congrArg (fun t : State => t.bill.b.dflt) (Host.Outcome.next.inj heq)
  exact nomatch htariff

end Sys2Proof.Proofs

/-!
Rows of the image and of the partner's reports (R495 to R498, R517).
-/

namespace Sys2Proof.Machine

theorem State.recordFlush_sys (s : State) (keep : Fin 8 → Bool) : (s.recordFlush keep).sys = s.sys := by
  unfold State.recordFlush
  refine List.foldlRecOn (motive := fun (t : State) => t.sys = s.sys) _ _ rfl (fun t ht x _ => ?_)
  split
  · split <;> exact ht
  · exact ht

theorem State.twinEnter_sys (s : State) (t : TwinState) : (s.twinEnter t).sys = s.sys := by
  unfold State.twinEnter
  dsimp only
  split
  · rfl
  · split
    · exact s.recordFlush_sys _
    · rfl

theorem State.twinCompare_sys (s : State) (crc roles : Nat) : (s.twinCompare crc roles).sys = s.sys := by
  unfold State.twinCompare State.twinRecheck
  extract_lets c r a b
  have hb : b.sys = s.sys := by
    simp only [b, a]
    repeat' split
    all_goals rfl
  split
  · rfl
  · split
    · exact (State.twinEnter_sys _ _).trans hb
    · exact hb

@[simp] theorem State.paired_modTwin (s : State) (f : Twin → Twin) : (s.modTwin f).paired = s.paired := rfl

end Sys2Proof.Machine

namespace Sys2Proof.Proofs

open Sys2Proof.Machine

/-- Settles O31, row by row. -/
theorem imageRowsComplete : Obligations.ImageRowsComplete := by
  intro s hrun hpaired
  refine ⟨fun hst hnew => ?_, fun ho hst hnew hw hh hg => ?_, fun h ho hst hnew hh hg hc hf => ?_, fun ht => ?_, fun ht hst => ?_,
    fun r hh hr hu => ?_⟩
  · intro u v sec w
    have hcap : ¬ (s.st % 50000 < 2000 || s.twin.captured = some (s.st / 50000)) = true := by simp [Nat.not_lt.2 hst, hnew]
    refine ⟨fun hst' => ?_, fun hst' => ?_⟩
    · refine exec_of_live (f := State.imageCapture) rfl hrun ?_
      simp only [State.imageCapture, hcap, if_false, State.paired_modTwin, hpaired, Bool.not_true, Bool.false_eq_true]
      exact if_neg hst'
    · refine exec_of_live (f := State.imageCapture) rfl hrun ?_
      simp only [State.imageCapture, hcap, if_false, State.paired_modTwin, hpaired, Bool.not_true, Bool.false_eq_true]
      exact if_pos hst'
  · have hgate : ¬ (!s.isOther || s.st % 50000 < 30000 || s.twin.deadline = some (s.st / 50000)) = true := by simp [ho, Nat.not_lt.2 hst, hnew]
    refine exec_of_live (f := State.imageDeadline) rfl hrun ?_
    cases he : s.twin.gotEnd with
    | none => simp [State.imageDeadline, hgate, hh, hw, he]
    | some x =>
      have hk : x.1 ≠ s.st / 50000 := fun hx => hg x.2 (by rw [he, ← hx])
      simp [State.imageDeadline, hgate, hh, hw, he, hk]
  · intro u v hu hgot hown hv
    have hfault : u.sys.fault = none := by
      rw [State.twinCompare_sys]
      exact hf
    refine exec_of_live (f := State.imageDeadline) rfl hrun ?_
    have hgate : ¬ (!s.isOther || s.st % 50000 < 30000 || s.twin.deadline = some (s.st / 50000)) = true := by simp [ho, Nat.not_lt.2 hst, hnew]
    simp only [State.imageDeadline, hgate, State.modTwin_twin, State.modTwin_image, hh, hg, hc, beq_self_eq_true, Bool.and_self, if_true]
    simp only [v, u] at hu hgot hown hfault hv
    simp [hu, hgot, hown, hfault, hv, v, u] <;> rfl
  · exact exec_of_live (f := (·.twinSelfTest true)) rfl hrun (by simp [State.twinSelfTest, Option.isSome_iff_ne_none.1 ht])
  · refine exec_of_live (f := (·.twinSelfTest false)) rfl hrun ?_
    simp [State.twinSelfTest, Option.isSome_iff_ne_none.1 ht, State.modTwin, hst]
  · refine exec_of_live (f := (·.partnerReport r)) rfl hrun ?_
    simp [State.partnerReport, hpaired, hh, hr, hu]

end Sys2Proof.Proofs

/-!
The rows of the twin lease (R501 to R509): the guards of each row, and what the change of LEASE_IN moves.
-/

namespace Sys2Proof.Machine

variable {s : State}

/-- A change of LEASE_IN outside CARRY is its moves alone: the recheck of R505 is one of CARRY. -/
theorem State.leaseInChange_of_ne_carry {level : Bool} (h : s.twin.state ≠ .carry) : s.leaseInChange level = s.leaseInMoves level := by
  simp [State.leaseInChange, h]

end Sys2Proof.Machine

namespace Sys2Proof.Proofs

open Sys2Proof.Machine

/-- Settles O32, row by row. -/
theorem twinLeaseRowsComplete : Obligations.TwinLeaseRowsComplete := by
  intro s hrun hpaired
  refine ⟨fun hst hdue hend hheld hf => ?_, fun e hst hdue hend hlt hheld hf => ?_, fun b hlen hsite htwin hkind hst => ?_,
    fun e hst hend hle => ?_, fun d hd hr hf hready => ?_, fun l hd hw hl hr hf hready => ?_, fun hin hout hst => ?_,
    fun hin hst => ?_, fun hin hnow hst => ?_⟩
  · exact exec_of_live rfl hrun (by simp [State.isActive, hpaired, hst, hdue, hend, hheld, hf])
  · exact exec_of_live rfl hrun (by simp [State.isActive, hpaired, hst, hdue, hend, hlt, hheld, hf])
  · exact exec_of_live rfl hrun (by simp [State.twinRenewal, hpaired, hlen, hsite, htwin, hkind, hst] <;> rfl)
  · exact exec_of_live rfl hrun (by simp [State.isActive, hpaired, hst, hend, hle])
  · exact exec_of_live (f := (·.leaseWait)) rfl hrun (by simp [State.leaseWait, hpaired, hd, hr, hf, hready])
  · exact exec_of_live (f := (·.leaseWait)) rfl hrun (by simp [State.leaseWait, hpaired, hd, hw, Int.not_lt.2 hl, hr, hf, hready])
  · refine exec_of_live (f := (·.leaseInChange true)) rfl hrun ?_
    rw [State.leaseInChange_of_ne_carry (by simp [hst])]
    simp [State.leaseInMoves, hpaired, hin, hout]
  · refine exec_of_live (f := (·.leaseInChange false)) rfl hrun ?_
    rw [State.leaseInChange_of_ne_carry (by simp [hst])]
    simp [State.leaseInMoves, hpaired, hin, hst]
  · refine exec_of_live (f := (·.leaseInChange false)) rfl hrun ?_
    rw [State.leaseInChange_of_ne_carry (by simp [hst])]
    have hnow' : ((s.modTwin (fun t => { t with leaseIn := false })).modTwin (fun t => { t with partition := false })).handoverNow = false := hnow
    simp [State.leaseInMoves, hpaired, hin, hst, hnow']

end Sys2Proof.Proofs

/-!
### What site time, metering and billing leave as it is

A step of site time, a change of its quality and the closing of metering blocks reach far into metering and billing. Everything
beyond those, `State.beyond`, they leave: one lemma per operation, in the order in which they call each other.
-/

namespace Sys2Proof.Machine

/-- The parts of a state that are not of site time, metering, billing or allocation. -/
structure Beyond where
  strap : Strap
  nv : Nv
  hio : HostIo
  ccp : Ccp
  sys : Sys
  twin : Twin
  image : Image
  master : Master
  copies : List (Nat × Nat × Nat × Bytes)
  pending : List Instr

/-- The parts of a state that site time, metering and billing leave. -/
def State.beyond (s : State) : Beyond where
  strap := s.strap
  nv := s.nv
  hio := s.hio
  ccp := s.ccp
  sys := s.sys
  twin := s.twin
  image := s.image
  master := s.master
  copies := s.canCopies
  pending := s.pending

/-- The parts of a state, put together again. -/
theorem State.beyond_fold (s : State) :
    Beyond.mk s.strap s.nv s.hio s.ccp s.sys s.twin s.image s.master s.canCopies s.pending = s.beyond := rfl

/-- The parts of a state given by its fields, as record updates give it. -/
theorem State.beyond_mk {strap clk time launches launchCount captures capLog ccp hio queues evt nv sys seqr vbat hk therm sws budget
    fabric groups slots groupRecs ports portRecs sessionSeq cools alloc metro bill cans canCopies flink twin
    image master seqCtr out freeCount pending} :
    (State.mk strap clk time launches launchCount captures capLog ccp hio queues evt nv sys seqr vbat hk therm sws budget
      fabric groups slots groupRecs ports portRecs sessionSeq cools alloc metro bill cans canCopies flink twin
      image master seqCtr out freeCount pending).beyond =
      Beyond.mk strap nv hio ccp sys twin image master canCopies pending := rfl

theorem beyond_ite {c : Prop} [Decidable c] (s t : State) : (if c then s else t).beyond = if c then s.beyond else t.beyond :=
  apply_ite State.beyond c s t

theorem beyond_dite {c : Prop} [Decidable c] (s : c → State) (t : ¬c → State) :
    (if h : c then s h else t h).beyond = if h : c then (s h).beyond else (t h).beyond :=
  apply_dite State.beyond c s t

theorem forFin_beyond {n : Nat} {s : State} {f : State → Fin n → State} (h : ∀ u i, (f u i).beyond = u.beyond) : (forFin n s f).beyond = s.beyond :=
  forFin_eq (π := State.beyond) h s

theorem forNums_beyond {l : List Nat} {s : State} {f : State → Nat → State} (h : ∀ u i, (f u i).beyond = u.beyond) :
    (forNums l s f).beyond = s.beyond :=
  forNums_eq (π := State.beyond) h s

theorem foldl_beyond {α : Type} {l : List α} {s : State} {f : State → α → State} (h : ∀ u i, (f u i).beyond = u.beyond) :
    (l.foldl f s).beyond = s.beyond :=
  foldl_eq (π := State.beyond) h l s

theorem State.free_beyond (s : State) : s.free.2.beyond = s.beyond := by
  rfl

theorem State.modTime_beyond (s : State) (f : TimeS → TimeS) : (s.modTime f).beyond = s.beyond := by
  rfl

theorem whenDo_beyond (c : Bool) (f : State → State) (s : State) (hf : ∀ u, (f u).beyond = u.beyond) :
    (whenDo c f s).beyond = s.beyond := by
  simp only [whenDo, beyond_ite, ite_self, hf]

theorem State.modPort_beyond (s : State) (p : Fin 8) (f : Port → Port) : (s.modPort p f).beyond = s.beyond := by
  rfl

theorem State.modSession_beyond (s : State) (p : Fin 8) (f : Session → Session) : (s.modSession p f).beyond = s.beyond := by
  simp only [State.modSession, State.modPort_beyond]

theorem State.markSessions_beyond (s : State) (b : Nat) : (s.markSessions b).beyond = s.beyond := by
  simp only [State.markSessions, State.modSession_beyond, forFin_beyond, implies_true]

theorem State.tellBilling_beyond (s : State) (f : State → State) (hf : ∀ u, (f u).beyond = u.beyond) :
    (s.tellBilling f).beyond = s.beyond := by
  simp only [State.tellBilling, whenDo_beyond, implies_true, hf]

theorem State.raiseAt_beyond (s : State) (stamp : Nat) (e : Ev) (p1 p2 flags : Nat) :
    (s.raiseAt stamp e p1 p2 flags).beyond = s.beyond := by
  rfl

theorem State.raise_beyond (s : State) (e : Ev) (p1 p2 flags : Nat) : (s.raise e p1 p2 flags).beyond = s.beyond := by
  simp only [State.raise, State.raiseAt_beyond]

theorem State.mrec_beyond (s : State) (code : Nat) (p1 p2 : Nat) (st : Nat) : (s.mrec code p1 p2 st).beyond = s.beyond := by
  simp only [State.mrec, State.raise_beyond, State.beyond_mk, State.beyond_fold, beyond_ite, ite_self]

theorem State.modB_beyond (s : State) (f : BState → BState) : (s.modB f).beyond = s.beyond := by
  rfl

theorem State.dfltUpdate_beyond (s : State) : s.dfltUpdate.beyond = s.beyond := by
  simp only [State.dfltUpdate, State.modB_beyond, State.beyond_mk, State.beyond_fold]
  split <;> simp only [State.raise_beyond, State.mrec_beyond]

theorem State.setQuality_beyond (s : State) (q : Quality) : (s.setQuality q).beyond = s.beyond := by
  simp only [State.setQuality, State.modTime_beyond, whenDo_beyond, State.markSessions_beyond, State.tellBilling_beyond,
    State.raise_beyond, State.dfltUpdate_beyond, State.beyond_mk, State.beyond_fold, beyond_ite, ite_self, implies_true]
  split <;> simp only [State.free_beyond]

theorem State.holdStep_beyond (s : State) (k : Nat) (off : Int) : (s.holdStep k off).beyond = s.beyond := by
  simp only [State.holdStep, State.modTime_beyond, State.setQuality_beyond, State.raise_beyond, beyond_ite, ite_self]

theorem State.modMeter_beyond (s : State) (m : Fin 12) (f : Meter → Meter) : (s.modMeter m f).beyond = s.beyond := by
  rfl

theorem State.billCommit_beyond (s : State) (kind : Nat) : (s.billCommit kind).beyond = s.beyond := by
  rfl

theorem State.demandOpen_beyond (s : State) (x flags : Nat) : (s.demandOpen x flags).beyond = s.beyond := by
  simp only [State.demandOpen, State.modB_beyond]

theorem State.keepClosures_beyond (s : State) : s.keepClosures.beyond = s.beyond := by
  simp only [State.keepClosures]
  split <;> simp only [State.modB_beyond]

theorem State.markOverlap_beyond (s : State) (start cut : Nat) : (s.markOverlap start cut).beyond = s.beyond := by
  simp only [State.markOverlap, State.modSession_beyond, State.beyond_mk, State.beyond_fold, forFin_beyond, implies_true]

theorem State.unregister_beyond (s : State) (c : Commit) (cut : Nat) (noBeat : Bool) :
    (s.unregister c cut noBeat).beyond = s.beyond := by
  simp only [State.unregister, State.modB_beyond, State.markOverlap_beyond, State.raise_beyond, State.mrec_beyond,
    State.beyond_mk, State.beyond_fold]

theorem State.demandClose_beyond (s : State) (close flags : Nat) (mode : BoundMode) :
    (s.demandClose close flags mode).beyond = s.beyond := by
  simp only [State.demandClose]
  split
  · simp only []
  · split <;> simp only [State.modB_beyond, State.beyond_mk, State.beyond_fold]

theorem State.periodClose_beyond (s : State) (x cause : Nat) (mode : BoundMode) :
    (s.periodClose x cause mode).beyond = s.beyond := by
  simp only [State.periodClose, State.modB_beyond, State.mrec_beyond, State.beyond_mk, State.beyond_fold]

theorem State.activate_beyond (s : State) (x : Nat) (mode : BoundMode) : (s.activate x mode).beyond = s.beyond := by
  unfold State.activate
  extract_lets u
  have hu : u.beyond = s.beyond := by
    simp only [u]
    split
    · simp only [State.modB_beyond, State.mrec_beyond, State.dfltUpdate_beyond, State.demandOpen_beyond,
      State.demandClose_beyond, beyond_ite, ite_self]
    · rfl
  clear_value u
  split
  · simp only [State.modB_beyond, State.mrec_beyond, beyond_ite, ite_self, hu]
  · exact hu

theorem State.boundary_beyond (s : State) (x : Nat) (mode : BoundMode) : (s.boundary x mode).beyond = s.beyond := by
  unfold State.boundary
  split <;> simp only [State.demandClose_beyond, State.modB_beyond, State.periodClose_beyond, State.activate_beyond,
    State.demandOpen_beyond, beyond_ite, ite_self]

theorem State.boundaries_beyond (mode : BoundMode) (now n : Nat) (s : State) :
    (State.boundaries mode now n s).2.beyond = s.beyond := by
  induction n generalizing s with
  | zero => rfl
  | succ n ih =>
    unfold State.boundaries
    split
    · split
      · exact (ih _).trans (s.boundary_beyond _ mode)
      · rfl
    · rfl

theorem State.demandNow_beyond (s : State) (at_ now : Nat) (mode : BoundMode) : (s.demandNow at_ now mode).beyond = s.beyond := by
  simp only [State.demandNow]
  repeat' split
  all_goals simp only [State.demandClose_beyond, State.modB_beyond, State.demandOpen_beyond]

theorem State.billRestart_beyond (s : State) : s.billRestart.beyond = s.beyond := by
  simp only [State.billRestart]
  split <;> simp only [State.billCommit_beyond, State.demandOpen_beyond, State.dfltUpdate_beyond, State.modB_beyond,
    State.keepClosures_beyond, State.unregister_beyond, State.boundaries_beyond, State.demandNow_beyond, State.raise_beyond,
    State.mrec_beyond, State.beyond_mk, State.beyond_fold, beyond_ite, ite_self]

theorem State.addTotals_beyond (s : State) (m : Fin 12) (g : Vector Acc 16) : (s.addTotals m g).beyond = s.beyond := by
  simp only [State.addTotals, State.modMeter_beyond]

theorem State.billAdvance_beyond (s : State) (now : Nat) : (s.billAdvance now).beyond = s.beyond := by
  simp only [State.billAdvance, State.boundaries_beyond]

theorem State.balance_beyond (s : State) (a : Fin 256) (bal : Int) (port : Nat) : (s.balance a bal port).beyond = s.beyond := by
  simp only [State.balance, State.modB_beyond, State.raise_beyond, State.mrec_beyond, beyond_ite, ite_self]

theorem State.charge_beyond (s : State) (p : Fin 8) (tariff k : Nat) (isImport : Bool) :
    (s.charge p tariff k isImport).beyond = s.beyond := by
  unfold State.charge
  split <;> simp only [State.modB_beyond, State.balance_beyond, beyond_ite, ite_self]

theorem State.bookEnergy_beyond (s : State) (m : Fin 12) (start : Nat) (imp exp : Acc) :
    (s.bookEnergy m start imp exp).beyond = s.beyond := by
  simp only [State.bookEnergy, State.modB_beyond, State.charge_beyond, beyond_dite, ite_self, dite_eq_ite]

theorem State.bookBlock_beyond (s : State) (m : Fin 12) (start : Nat) (imp exp : Acc) (stop : Nat) :
    (s.bookBlock m start imp exp stop).beyond = s.beyond := by
  simp only [State.bookBlock, State.billRestart_beyond, State.billAdvance_beyond, State.demandOpen_beyond,
    State.bookEnergy_beyond, State.beyond_mk, State.beyond_fold, beyond_ite, ite_self]

theorem State.closeBlock_beyond (s : State) (m : Fin 12) (b : Nat) (v : Vector Rat 6) (stop : Nat) (on : Bool) :
    (s.closeBlock m b v stop on).beyond = s.beyond := by
  simp only [State.closeBlock, State.billRestart_beyond, State.modMeter_beyond, State.addTotals_beyond,
    State.bookBlock_beyond, beyond_ite, ite_self]

theorem State.closeTail_beyond (s : State) (m : Fin 12) : (s.closeTail m).beyond = s.beyond := by
  unfold State.closeTail
  split <;> simp only [State.modMeter_beyond, State.closeBlock_beyond]

theorem State.closeOpen_beyond (s : State) (m : Fin 12) : (s.closeOpen m).beyond = s.beyond := by
  simp only [State.closeOpen]
  split <;> simp only [State.modMeter_beyond, State.closeBlock_beyond]

theorem State.closeLate_beyond (s : State) (m : Fin 12) : (s.closeLate m).beyond = s.beyond := by
  unfold State.closeLate
  split <;> simp only [State.modMeter_beyond, State.addTotals_beyond]

theorem State.closeAll_beyond (s : State) : s.closeAll.beyond = s.beyond := by
  simp only [State.closeAll, State.closeTail_beyond, State.closeOpen_beyond, State.closeLate_beyond, beyond_ite, ite_self,
    forFin_beyond, foldl_beyond, implies_true]

theorem State.closeForStep_beyond (s : State) : s.closeForStep.beyond = s.beyond := by
  simp only [State.closeForStep, State.closeAll_beyond, State.beyond_mk, State.beyond_fold]

theorem State.epochsBack_beyond (s : State) : s.epochsBack.beyond = s.beyond := by
  rfl

theorem State.cancelOne_beyond (s : State) (l : Launch) : (s.cancelOne l).beyond = s.beyond := by
  simp only [State.cancelOne, whenDo_beyond, State.raise_beyond, State.beyond_mk, State.beyond_fold, beyond_ite, ite_self,
    implies_true]

theorem State.cancelAhead_beyond (s : State) : s.cancelAhead.beyond = s.beyond := by
  simp only [State.cancelAhead, State.cancelOne_beyond, foldl_beyond, implies_true]

theorem State.billStep_beyond (s : State) (old : Nat) : (s.billStep old).beyond = s.beyond := by
  simp only [State.billStep, State.demandClose_beyond, State.billAdvance_beyond, State.boundaries_beyond, State.modB_beyond,
    State.demandOpen_beyond, State.dfltUpdate_beyond, State.mrec_beyond, State.beyond_mk, State.beyond_fold, beyond_ite,
    ite_self]

theorem State.stepClock_beyond (s : State) (new : Nat) : (s.stepClock new).beyond = s.beyond := by
  simp only [State.stepClock, State.tellBilling_beyond, State.closeForStep_beyond, State.raise_beyond,
    State.epochsBack_beyond, State.cancelAhead_beyond, State.billStep_beyond, State.beyond_mk, State.beyond_fold, beyond_ite,
    ite_self, implies_true]

theorem State.follow_beyond (s : State) (off : Int) : (s.follow off).beyond = s.beyond := by
  simp only [State.follow, State.modTime_beyond, State.stepClock_beyond, State.beyond_mk, State.beyond_fold, beyond_ite, ite_self]

theorem State.lockOn_beyond (s : State) (k : Nat) (off : Int) : (s.lockOn k off).beyond = s.beyond := by
  simp only [State.lockOn, State.follow_beyond, State.modTime_beyond, State.setQuality_beyond, beyond_ite, ite_self]

theorem State.modSrc_beyond (s : State) (k : Nat) (f : TimeSource → TimeSource) : (s.modSrc k f).beyond = s.beyond := by
  rfl

theorem State.failSource_beyond (s : State) (k : Nat) : (s.failSource k).beyond = s.beyond := by
  simp only [State.failSource, State.modSrc_beyond]

theorem State.sourceUse_beyond (s : State) (k : Nat) (off : Int) (fresh : Bool) :
    (s.sourceUse k off fresh).beyond = s.beyond := by
  simp only [State.sourceUse]
  repeat' split
  all_goals simp only [State.holdStep_beyond, State.follow_beyond, State.lockOn_beyond, State.failSource_beyond]

theorem State.selectSource_beyond (s : State) (k : Nat) : (s.selectSource k).beyond = s.beyond := by
  simp only [State.selectSource, State.sourceUse_beyond, State.modTime_beyond]

theorem State.reselect_beyond (s : State) : s.reselect.beyond = s.beyond := by
  unfold State.reselect
  split <;> simp only [State.setQuality_beyond, State.selectSource_beyond, State.sourceUse_beyond, beyond_ite, ite_self]

theorem State.srcInit_beyond (s : State) (clear : Bool) : (s.srcInit clear).beyond = s.beyond := by
  simp only [State.srcInit, State.modTime_beyond]

theorem withSel_beyond (f : State → State) (s : State) (hf : ∀ u, (f u).beyond = u.beyond) : (withSel f s).beyond = s.beyond := by
  simp only [withSel, State.raise_beyond, beyond_ite, ite_self, hf]

theorem State.sourceLost_beyond (s : State) (k : Nat) : (s.sourceLost k).beyond = s.beyond := by
  simp only [State.sourceLost, State.modSrc_beyond, withSel_beyond, State.reselect_beyond, beyond_ite, ite_self, implies_true]

theorem State.modSw_beyond (s : State) (n : Fin 24) (f : SwCh → SwCh) : (s.modSw n f).beyond = s.beyond := by
  rfl

theorem State.swState_beyond (s : State) (n : Fin 24) (st : SwState) : (s.swState n st).beyond = s.beyond := by
  simp only [State.swState, State.raise_beyond, State.modSw_beyond, beyond_ite, ite_self]

theorem State.swTurnOff_beyond (s : State) (n : Fin 24) (st : SwState) : (s.swTurnOff n st).beyond = s.beyond := by
  simp only [State.swTurnOff, State.modSw_beyond, State.swState_beyond, beyond_ite, ite_self]

theorem State.swAllOff_beyond (s : State) : s.swAllOff.beyond = s.beyond := by
  simp only [State.swAllOff, State.swTurnOff_beyond, beyond_ite, ite_self, forFin_beyond, implies_true]

theorem State.modCan_beyond (s : State) (n : Fin 8) (f : Can → Can) : (s.modCan n f).beyond = s.beyond := by
  rfl

theorem State.setQueue_beyond (s : State) (i : Fin 128) (q : Queue) : (s.setQueue i q).beyond = s.beyond := by
  rfl

theorem State.watermark_beyond (s : State) (i : Fin 128) : (s.watermark i).beyond = s.beyond := by
  simp only [State.watermark, State.raise_beyond, State.setQueue_beyond, beyond_ite, ite_self]

theorem State.putQueue_beyond (s : State) (i : Fin 128) (q : Queue) : (s.putQueue i q).beyond = s.beyond := by
  simp only [State.putQueue, State.watermark_beyond, State.setQueue_beyond]

theorem State.queueDrop_beyond (s : State) (i : Fin 128) (n : Nat) : (s.queueDrop i n).beyond = s.beyond := by
  simp only [State.queueDrop, State.raise_beyond, State.setQueue_beyond, beyond_ite, ite_self]

theorem State.offer_beyond (s : State) (i : Fin 128) (ws : List QWord) : (s.offer i ws).1.beyond = s.beyond := by
  unfold State.offer
  split <;> simp only [State.putQueue_beyond, State.queueDrop_beyond]

theorem State.offerPacket_beyond (s : State) (i : Fin 128) (bs : Bytes) : (s.offerPacket i bs).1.beyond = s.beyond := by
  simp only [State.offerPacket, State.offer_beyond]

theorem State.offerRx_beyond (s : State) (i : Fin 128) (bs : Bytes) : (s.offerRx i bs).1.beyond = s.beyond := by
  simp only [State.offerRx]
  repeat' split
  all_goals simp only [State.offerPacket_beyond, State.queueDrop_beyond, State.raise_beyond, State.beyond_mk, State.beyond_fold]

theorem State.canRecord_beyond (s : State) (n : Fin 8) (stamp ident dlc kind : Nat) (own : Bool) (data : Bytes) :
    (s.canRecord n stamp ident dlc kind own data).beyond = s.beyond := by
  simp only [State.canRecord, State.offerRx_beyond, State.offerPacket_beyond, State.modCan_beyond, State.raise_beyond,
    beyond_ite, ite_self]

theorem State.canMarkRec_beyond (s : State) (n : Fin 8) (oldMode : CanMode) (oldState : CanState) (cause : Nat) :
    (s.canMarkRec n oldMode oldState cause).beyond = s.beyond := by
  simp only [State.canMarkRec, State.canRecord_beyond]

theorem State.canStateRec_beyond (s : State) (n : Fin 8) (oldMode : CanMode) (oldState : CanState) (cause : Nat) :
    (s.canStateRec n oldMode oldState cause).beyond = s.beyond := by
  simp only [State.canStateRec, State.canMarkRec_beyond, State.modCan_beyond]

theorem State.canSetMode_beyond (s : State) (n : Fin 8) (m : CanMode) (cause : Nat) :
    (s.canSetMode n m cause).beyond = s.beyond := by
  simp only [State.canSetMode, State.modCan_beyond, State.canStateRec_beyond, beyond_ite, ite_self]

theorem State.canAskMode_beyond (s : State) (n : Fin 8) (m : CanMode) (cause : Nat) :
    (s.canAskMode n m cause).beyond = s.beyond := by
  simp only [State.canAskMode, State.canSetMode_beyond, State.modCan_beyond, beyond_ite, ite_self]

theorem State.portSet_beyond (s : State) (p : Fin 8) (st : PState) (reason : Nat) :
    (s.portSet p st reason).beyond = s.beyond := by
  simp only [State.portSet, State.raise_beyond, State.modPort_beyond, State.beyond_mk, State.beyond_fold, beyond_ite, ite_self]

theorem State.emit_beyond (s : State) (o : Out) : (s.emit o).beyond = s.beyond := by
  simp only [State.emit, State.beyond_mk, State.beyond_fold, beyond_ite, ite_self]

theorem State.linkRelease_beyond (s : State) (p : Fin 8) : (s.linkRelease p).beyond = s.beyond := by
  simp only [State.linkRelease, State.modPort_beyond, State.emit_beyond, beyond_ite, ite_self]

theorem State.sleepGap_beyond (s : State) : s.sleepGap.beyond = s.beyond := by
  unfold State.sleepGap
  split <;> simp only [State.mrec_beyond, State.beyond_mk, State.beyond_fold]

end Sys2Proof.Machine

/-!
The rows of the hinge link (R494 to R511): what a hinge that falls leaves of the twin's state.
-/

namespace Sys2Proof.Machine

variable {s : State}

theorem State.twin_of_beyond {t : State} (h : t.beyond = s.beyond) : t.twin = s.twin := congrArg Beyond.twin h

theorem State.paired_of_beyond {t : State} (h : t.beyond = s.beyond) : t.paired = s.paired :=
  congrArg (fun b : Beyond => match b.nv.cfg.twin with | none => false | some b => u8 b 1 == 1) h

/-- The hinge falls (R500): the event, the loss of the time source, and its state. -/
def State.hingeFalls (s : State) : State := (((s.modTwin (fun t => { t with hinge := false })).raise .hingeDown).sourceLost 3).srcInit false

theorem State.hingeFalls_beyond (s : State) : s.hingeFalls.beyond = (s.modTwin (fun t => { t with hinge := false })).beyond := by
  simp only [State.hingeFalls, State.srcInit_beyond, State.sourceLost_beyond, State.raise_beyond]

/-- The lanes that a fault of the hinge leaves up. -/
def State.hingeMasked (s : State) (mask : Nat) : State :=
  s.modTwin (fun t => { t with
    lanes := Vector.ofFn (fun (i : Fin 4) => ({ t.lanes[i] with up := t.lanes[i].up && bit mask i.val } : HingeLane)) })

/-- Nothing came over the hinge for 50 ms (R494). -/
def State.hingeQuiet (s : State) : Bool := match s.twin.hingeAt with | some t => decide (t + 50000 ≤ s.el) | none => true

theorem State.hingeQuiet_of {s : State} (h : ∀ h, s.twin.hingeAt = some h → h + 50000 ≤ s.el) : s.hingeQuiet = true := by
  cases hq : s.twin.hingeAt with
  | none => simp [State.hingeQuiet, hq]
  | some q => simp [State.hingeQuiet, hq, h q hq]

/-- What a fall of the hinge does to a handover in progress. -/
def State.handoverCut (s : State) : State :=
  match s.twin.handover with
  | some h => if h.giver && h.switched then s else if h.giver then s.handoverFail else s.drillBroken
  | none => if s.isActive then s else s.drillBroken

theorem State.handoverCut_of_none {s : State} (h : s.twin.handover = none) : s.handoverCut = if s.isActive then s else s.drillBroken := by
  simp only [State.handoverCut, h]

/-- A STANDBY whose hinge fell has no image to trust (R500). -/
def State.imageLost (s : State) : State :=
  if s.twin.state = .standby then (s.modTwin (fun t => { t with goodImages := 0 })).twinEnter .syncing else s

theorem State.hingeDown_eq (s : State) (mask : Nat) : s.hingeDown mask =
    if !s.twin.hinge || (!s.hingeQuiet && decide (2 ≤ (s.hingeMasked mask).hingeLanes)) then s.hingeMasked mask
    else (s.hingeMasked mask).hingeFalls.handoverCut.imageLost := rfl

/-- A hinge that carries too few lanes, or was quiet for 50 ms, falls (R494, R500). -/
theorem State.hingeDown_falls {mask : Nat} (hhinge : s.twin.hinge = true) (hover : s.twin.handover = none)
    (h : (∀ h, s.twin.hingeAt = some h → h + 50000 ≤ s.el) ∨ (s.hingeMasked mask).hingeLanes < 2) :
    s.hingeDown mask = State.imageLost (if (s.hingeMasked mask).hingeFalls.isActive then (s.hingeMasked mask).hingeFalls
      else (s.hingeMasked mask).hingeFalls.drillBroken) := by
  have hgate : (!s.twin.hinge || (!s.hingeQuiet && decide (2 ≤ (s.hingeMasked mask).hingeLanes))) = false := by
    obtain h | h := h
    · simp [hhinge, State.hingeQuiet_of h]
    · simp [hhinge, Nat.not_le.2 h]
  have hover' : (s.hingeMasked mask).hingeFalls.twin.handover = none := by
    rw [State.twin_of_beyond (State.hingeFalls_beyond _)]
    exact hover
  rw [State.hingeDown_eq, hgate, if_neg Bool.false_ne_true, State.handoverCut_of_none hover']

theorem State.isActive_of_beyond {t : State} (h : t.beyond = s.beyond) : t.isActive = s.isActive := by
  rw [State.isActive, State.isActive, State.paired_of_beyond h, State.twin_of_beyond h]

/-- Breaking off a drill leaves the twin's state and its hinge. -/
theorem State.drillBroken_twin (s : State) : s.drillBroken.twin.state = s.twin.state ∧ s.drillBroken.twin.hinge = s.twin.hinge := by
  unfold State.drillBroken
  dsimp only
  split <;> exact ⟨rfl, rfl⟩

/-- Writing the records that wait writes no figure of the twin but their list. -/
theorem State.recordFlush_twin (s : State) (keep : Fin 8 → Bool) : (s.recordFlush keep).twin = { s.twin with pendRecs := [] } := by
  unfold State.recordFlush
  refine List.foldlRecOn (motive := fun (t : State) => t.twin = { s.twin with pendRecs := [] }) _ _ rfl (fun t ht x _ => ?_)
  split
  · split <;> exact ht
  · exact ht

/-- Without its image a STANDBY synchronises again. -/
theorem State.imageLost_of_standby (h : s.twin.state = .standby) : s.imageLost.twin.hinge = s.twin.hinge ∧ s.imageLost.twin.goodImages = 0 ∧
    s.imageLost.twin.state = .syncing := by
  simp [State.imageLost, State.twinEnter, h, State.recordFlush_twin]

end Sys2Proof.Machine

namespace Sys2Proof.Proofs

open Sys2Proof.Machine

/-- Settles O33, row by row. -/
theorem hingeRowsComplete : Obligations.HingeRowsComplete := by
  intro s hrun
  refine ⟨fun mask hup hpaired hhinge => ?_, fun mask hhinge hover => ?_,
    fun n ok hup htrained => ?_, fun off hpaired hhinge hst hheld hat => ?_, fun off hpaired hhinge hst => ?_, ?_,
    fun hact hpartner => ?_, fun hact hpartner => ?_, fun q hother hhinge => ?_, fun c h hother hhinge hst => ?_⟩
  · exact exec_of_live (f := (·.hingeUp mask)) rfl hrun (by simp [State.hingeUp, Nat.not_lt.2 hup, hpaired, hhinge])
  · intro u hfall
    refine ⟨fun hpaired hst => ?_, fun hst => ?_⟩
    · refine exec_of_live (f := (·.hingeDown mask)) rfl hrun ?_
      have hact : (s.hingeMasked mask).hingeFalls.isActive = true := by
        rw [State.isActive_of_beyond (State.hingeFalls_beyond _)]
        simp only [State.isActive, Bool.and_eq_true, beq_iff_eq]
        exact ⟨hpaired, hst⟩
      have hstate : (s.hingeMasked mask).hingeFalls.twin.state = .active := by
        rw [State.twin_of_beyond (State.hingeFalls_beyond _)]
        exact hst
      rw [State.hingeDown_falls hhinge hover hfall, if_pos hact, State.imageLost, if_neg (by simp [hstate])]
      rfl
    · have hnot : (s.hingeMasked mask).hingeFalls.isActive = false := by
        rw [State.isActive_of_beyond (State.hingeFalls_beyond _)]
        simp [State.isActive, State.hingeMasked, hst]
      obtain ⟨hstate, hkeep⟩ := State.drillBroken_twin (s.hingeMasked mask).hingeFalls
      rw [State.twin_of_beyond (State.hingeFalls_beyond _)] at hstate hkeep
      obtain ⟨hh, hgood, hsync⟩ := State.imageLost_of_standby (hstate.trans hst)
      refine ⟨_, exec_of_live (f := (·.hingeDown mask)) rfl hrun (State.hingeDown_falls hhinge hover hfall), ?_⟩
      rw [hnot]
      exact ⟨hh.trans hkeep, hgood, hsync⟩
  · simp only [Fin.getElem_fin] at hup htrained
    exact exec_of_live (f := (·.laneRetrain n ok)) rfl hrun (by simp [State.laneRetrain, hup, Int.not_lt.2 htrained])
  · exact exec_of_live (f := (·.timeMessage off)) rfl hrun (by simp [State.timeMessage, hpaired, hhinge, hst, hheld, hat])
  · exact exec_of_live (f := (·.timeMessage off)) rfl hrun (by simp [State.timeMessage, hpaired, hhinge, hst])
  · exact live_run hrun (fun s => { s with nv := { s.nv with seqStored := s.seqCtr } })
  · exact exec_of_live (f := (·.diagFails)) rfl hrun (by simp [State.diagFails, hact, hpartner])
  · exact exec_of_live (f := (·.diagFails)) rfl hrun (by simp [State.diagFails, hact, hpartner])
  · exact exec_of_live (f := (·.imageFrame (.segment q))) rfl hrun (by simp [State.imageFrame, hother, hhinge])
  · refine exec_of_live (f := (·.imageFrame (.fin c h))) rfl hrun ?_
    simp only [State.imageFrame, hother, hhinge]
    exact if_pos hst

end Sys2Proof.Proofs

/-!
The rows of the handover, its drills and the site-master lease (R513 to R523).
-/

namespace Sys2Proof.Machine

variable {s : State}

theorem State.master_of_beyond {t : State} (h : t.beyond = s.beyond) : t.master = s.master := congrArg Beyond.master h

/-- What the giver hands over when its partner has taken LEASE (R515): its lease and its part as site master. -/
def State.handedOver (s : State) (h : Handover) : State :=
  let s := s.modTwin (fun t => { t with
    handover := none, drillDue := none, leaseEnd := none, seenEnd := t.leaseEnd, partner := .active, partnerRun := 0, goodImages := 0, lateRun := 0
    posMaster := s.mastering
    drillHold := if h.drill = 1 then some (s.el + 1000000 * u16 ((s.nv.cfg.twin).getD []) 8, true) else none })
  { s with master := { s.master with
    held := false, holder := if s.mastering then some s.strap.siteId else s.master.holder
    holderEnd := if s.mastering then some s.master.leaseEnd else s.master.holderEnd } }

/-- The check 2 ms after the switch, where the partner holds LEASE (R515). -/
theorem State.handoverCheck_taken {h : Handover} (hh : s.twin.handover = some h) (hg : h.giver = true) (hsw : h.switched = true)
    (hst : h.q0 + 34000 ≤ s.st) (hin : s.twin.leaseIn = true) (hf : s.sys.fault = none) :
    s.handoverCheck = (((s.handedOver h).swAllOff).twinEnter .standby).srcInit false := by
  simp only [State.handoverCheck, hh, hg, hsw, hin, hf]
  simp [Nat.not_lt.2 hst, State.handedOver]

theorem State.twinEnter_state (s : State) (t : TwinState) : (s.twinEnter t).twin.state = t := by
  unfold State.twinEnter
  split
  · assumption
  · rfl

theorem State.twinEnter_handover (s : State) (t : TwinState) : (s.twinEnter t).twin.handover = s.twin.handover := by
  unfold State.twinEnter
  split
  · rfl
  · split <;> simp [State.recordFlush_twin]

theorem State.recordFlush_master (s : State) (keep : Fin 8 → Bool) : (s.recordFlush keep).master = s.master := by
  unfold State.recordFlush
  refine List.foldlRecOn (motive := fun (t : State) => t.master = s.master) _ _ rfl (fun t ht x _ => ?_)
  split
  · split <;> exact ht
  · exact ht

theorem State.twinEnter_master (s : State) (t : TwinState) : (s.twinEnter t).master = s.master := by
  unfold State.twinEnter
  split
  · rfl
  · split <;> simp [State.recordFlush_master]

end Sys2Proof.Machine

namespace Sys2Proof.Proofs

open Sys2Proof.Machine

/-- Settles O34, row by row. -/
theorem handoverRowsComplete : Obligations.HandoverRowsComplete := by
  intro s hrun
  refine ⟨fun q0 d hother hhinge => ?_, fun h hh hg ha => ⟨?_, ?_⟩, fun h hh hg hsw hact hst hf hd => ?_,
    fun h hh hg hsw hst hin hf => ?_, fun h hh hg hsw hst hin hf => ?_, fun hact hpartner hoff hdue hfalls => ?_,
    fun t ok hh hact hover ht => ?_, fun hm hc hheld hf hat => ?_, fun b hlen hkind hf hm hsite hlt => ?_,
    fun b hlen hkind hf hm => ?_, fun e hready hc hheld hf hm hsite hend hle => ?_⟩
  · intro u
    refine exec_of_live (f := (·.handoverOffer q0 d)) rfl hrun ?_
    have hu : s.modTwin (fun t => { t with hingeAt := if t.hinge then some s.el else t.hingeAt }) = u := by
      simp [u, State.modTwin, hhinge]
    have hother' : u.isOther = true := hother
    have hhinge' : u.twin.hinge = true := hhinge
    have hstate : u.twin.state = s.twin.state := rfl
    have hgood : u.twin.goodImages = s.twin.goodImages := rfl
    simp only [State.handoverOffer, hu, hother', hhinge', hstate, hgood]
    simp
  · refine exec_of_live (f := (·.handoverAnswer true)) rfl hrun ?_
    simp [State.handoverAnswer, hh, hg, ha]
  · refine exec_of_live (f := (·.handoverAnswer false)) rfl hrun ?_
    simp [State.handoverAnswer, hh, hg, ha]
  · refine exec_of_live (f := (·.handoverSwitch)) rfl hrun ?_
    simp [State.handoverSwitch, hh, hg, hsw, hact, hf, hd, Nat.not_lt.2 hst]
  · refine exec_of_live (f := (·.handoverCheck)) rfl hrun ?_
    simp [State.handoverCheck, hh, hg, hsw, hf, hin, Nat.not_lt.2 hst]
  · refine ⟨_, exec_of_live (f := (·.handoverCheck)) rfl hrun (State.handoverCheck_taken hh hg hsw hst hin hf), ?_⟩
    have hkeep := State.srcInit_beyond (((s.handedOver h).swAllOff).twinEnter .standby) false
    have hsw := State.swAllOff_beyond (s.handedOver h)
    rw [State.twin_of_beyond hkeep, State.master_of_beyond hkeep]
    refine ⟨?_, State.twinEnter_state _ _, ?_⟩
    · rw [State.twinEnter_handover, State.twin_of_beyond hsw]
      rfl
    · exact (congrArg Master.held ((State.twinEnter_master _ _).trans (State.master_of_beyond hsw))).trans rfl
  · refine exec_of_live (f := (·.drillTry)) rfl hrun ?_
    simp [State.drillTry, hact, hpartner, hoff, hdue, hfalls]
  · exact exec_of_live (f := (·.drillHoldEnd)) rfl hrun (by simp [State.drillHoldEnd, hh, hact, hover, ht])
  · exact exec_of_live rfl hrun (by simp [hm, hc, hheld, hf, hat])
  · refine exec_of_live (f := fun s => whenDo (b.length == 32 && s.sys.fault.isNone) (·.masterRenewal b) s) rfl hrun ?_
    simp [hlen, hf, State.masterRenewal, hkind, hm, hsite, hlt]
  · intro u last
    refine exec_of_live (f := fun s => whenDo (b.length == 32 && s.sys.fault.isNone) (·.masterRenewal b) s) rfl hrun ?_
    have hu : (if u8 b 9 = s.strap.siteId then s.modTwin (fun t => { t with posMaster := true })
        else s.modTwin (fun t => { t with posMaster := false })) = u := by
      by_cases h : u8 b 9 = s.strap.siteId <;> simp [u, h, State.modTwin, beq_eq_false_iff_ne.2]
    simp only [whenDo_of, hlen, hf, beq_self_eq_true, Option.isNone_none, Bool.and_self, State.masterRenewal, hkind, hm, hu, bne_self_eq_false, Bool.false_eq_true,
      if_false]
    rfl
  · refine exec_of_live (f := (·.masterWait)) rfl hrun ?_
    simp [State.masterWait, hready, hc, hheld, hf, hm, hsite, hend, hle]

end Sys2Proof.Proofs

/-!
The rows of the CAN controllers (R535 to R550).
-/

namespace Sys2Proof.Machine

variable {s : State} {n : Fin 8}

theorem State.modCan_id (s : State) (n : Fin 8) : s.modCan n (fun c => c) = s := by
  simp [State.modCan]

theorem Can.popClass_cfg0 (c : Can) (k : Nat) : (c.popClass k).cfg0 = c.cfg0 := by
  unfold Can.popClass
  split
  · rfl
  · split <;> rfl

/-- A frame without a measured delay is sent: nothing is late, and without echo no frame record is made (R538, R543). -/
theorem State.canSent_plain {sof k : Nat} {f : TxFrame} (h : s.canOffered n sof = some (k, f)) (hm : s.cans[n].mode = .normal)
    (hst : s.cans[n].state ≠ .busOff) (hf : s.sys.fault = none) (hecho : f.echo = false) (hbit : bit (u8 (s.canCfg n) 1) 4 = false) :
    s.canSent n sof none = ((s.modCan n (fun c => { (c.popClass k) with tx := c.tx + 1 })).emit (.can n f.ident f.fd f.brs f.data)).canCounters n
      (s.cans[n].txErr - 1) ((s.modCan n (fun c => { (c.popClass k) with tx := c.tx + 1 })).emit (.can n f.ident f.fd f.brs f.data)).cans[n].rxErr := by
  have hcfg : ((s.modCan n (fun c => { (c.popClass k) with tx := c.tx + 1 })).emit (.can n f.ident f.fd f.brs f.data)).canCfg n = s.canCfg n := by
    simp [State.canCfg, State.modCan, Can.popClass_cfg0]
  simp only [State.canSent, h, hm, hf, ite_self, State.modCan_id, hcfg, hecho, hbit]
  simp [hst, -Fin.getElem_fin]

end Sys2Proof.Machine

namespace Sys2Proof.Proofs

open Sys2Proof.Machine

/-- Settles O35, row by row. -/
theorem canRowsComplete : Obligations.CanRowsComplete := by
  intro s n hrun
  refine ⟨fun f hm hst hrx => ?_, fun f hm hst hrx => ?_, fun e hm hst hown htype hbit => ?_, fun hst hrec hret hclk => ?_, fun m cause hnext => ?_,
    fun sof k f hoff hm hst hf hecho hbit => ?_, ?_, fun k ident hk hdiv hcyc hoff hsent => ?_⟩
  · intro u
    exact exec_of_live (f := (·.canReceive n f)) rfl hrun (by simp [State.canReceive, hm, hst, Nat.not_lt.2 hrx, u, -Fin.getElem_fin])
  · intro u v
    exact exec_of_live (f := (·.canReceive n f)) rfl hrun (by simp [State.canReceive, hm, hst, hrx, u, v, -Fin.getElem_fin])
  · intro u hbit'
    have hgate : (e.own && s.sys.fault.isSome) = false := by
      cases ho : e.own with
      | false => rfl
      | true => simp [hown ho]
    exact exec_of_live (f := (·.canError n e)) rfl hrun (by simp [State.canError, hgate, hm, hst, htype, hbit', u, -Fin.getElem_fin])
  · exact exec_of_live (f := (·.canRecover n)) rfl hrun (by simp [State.canRecover, hst, hrec, hret, hclk, -Fin.getElem_fin])
  · exact exec_of_live (f := (·.canIdle n)) rfl hrun (by simp [State.canIdle, hnext, -Fin.getElem_fin])
  · intro u
    exact exec_of_live (f := (·.canSent n sof none)) rfl hrun (State.canSent_plain hoff hm hst hf hecho hbit)
  · exact exec_of_live (f := (·.canExpire n)) rfl hrun rfl
  · intro u hident
    have h1 : 9 + 8 * k.val = 8 + 8 * k.val + 1 := by omega
    have h2 : 10 + 8 * k.val = 8 + 8 * k.val + 2 := by omega
    have h4 : 12 + 8 * k.val = 8 + 8 * k.val + 4 := by omega
    rw [h1] at hdiv hcyc
    rw [h2] at hoff
    rw [h4] at hident
    refine exec_of_live (f := (·.streamFrame n k)) rfl hrun ?_
    simp [State.streamFrame, Nat.not_le.2 hk, Nat.pos_iff_ne_zero.1 hdiv, hcyc, Nat.not_lt.2 hoff, hsent, hident, u, -Fin.getElem_fin]

end Sys2Proof.Proofs

/-!
The rows of the feeder link (R567 to R583).
-/

namespace Sys2Proof.Machine

variable {s : State}

theorem State.takeBeacon_strap (s : State) (b : Beacon) (stamp : Nat) : (s.takeBeacon b stamp).strap = s.strap := rfl

theorem State.flAddr_takeBeacon (s : State) (b : Beacon) (stamp : Nat) : (s.takeBeacon b stamp).flAddr = s.flAddr :=
  congrArg Strap.siteId (s.takeBeacon_strap b stamp)

theorem State.flAddr_modFl (s : State) (f : Flink → Flink) : (s.modFl f).flAddr = s.flAddr := rfl

theorem State.flAddr_setPeer (s : State) (p : Peer) : (s.setPeer p).flAddr = s.flAddr := rfl

/-- Without energy figures no symbol of a frame counts as hit by an impulse (R579). -/
theorem State.impulses_of_noEnergy {f : FlRx} (h : f.energy = []) (s : State) : s.impulses f = [] := by
  simp [State.impulses, h]

/-- Where nothing waits to be sent, a report moves only the figures of its peer (R574, R577). -/
theorem State.setPeer_queue (s : State) (p : Peer) : (s.setPeer p).flink.queue = s.flink.queue := rfl

theorem State.modFl_filter_nil {u : State} (h : u.flink.queue = []) (p : FlTx → Bool) :
    u.modFl (fun x => { x with queue := x.queue.filter p }) = u := by
  have : ({ u.flink with queue := u.flink.queue.filter p } : Flink) = u.flink := by rw [h, List.filter_nil, ← h]
  rw [State.modFl, this]

theorem State.modFl_map_nil {u : State} (h : u.flink.queue = []) (g : FlTx → FlTx) :
    u.modFl (fun x => { x with queue := x.queue.map g }) = u := by
  have : ({ u.flink with queue := u.flink.queue.map g } : Flink) = u.flink := by rw [h, List.map_nil, ← h]
  rw [State.modFl, this]

end Sys2Proof.Machine

namespace Sys2Proof.Proofs

open Sys2Proof.Machine

/-- Settles O36, row by row. -/
theorem flinkRowsComplete : Obligations.FlinkRowsComplete := by
  intro s hrun
  refine ⟨fun z q m fr hcoord hmay hnext hle hlt hy => ?_, fun f hhdr hkind hcrc hy hcoord hsrc => ?_,
    fun a b ha hb hon hraised hle => ?_, fun b ha hb hon hraised hle => ?_, fun f hhdr hkind hdest haddr hcrc henergy => ?_,
    fun f hhdr hkind hdest hcrc hq => ?_, fun t e b x hslot hb hmay hmute hat hready hp hq hagain hfits => ?_,
    fun c hc hheld => ?_, fun hheld => ?_, ?_⟩
  · intro d x h u
    refine exec_of_live (f := (·.sendBeacon)) rfl hrun ?_
    have hlate : ¬ (z + 3 ≤ s.st ∧ 0 < q) := fun hc => absurd hc.1 (Nat.not_le.2 hlt)
    simp [State.sendBeacon, hcoord, hmay, hnext, hlate, Nat.not_lt.2 hle, hy, u, h, x, d]
  · intro b u v
    refine (show exec (.beaconReceive f) s = .next (s.recvBeacon f) by unfold exec execBeaconReceive; simp only [hrun]).trans ?_
    have hgate : ¬ (!s.flHdrOk f || decide (u8 f.hdr 0 ≠ 0) || !f.crcOk) = true := by simp [hhdr, hkind, hcrc]
    simp only [State.recvBeacon, if_neg hgate, hy, hcoord, Bool.false_and, Bool.false_eq_true, if_false, State.flAddr_modFl, State.flAddr_setPeer,
      State.flAddr_takeBeacon, hsrc, decide_false, v, u, b]
  · refine exec_of_live (f := (·.beaconLost)) rfl hrun ?_
    simp [State.beaconLost, ha, hb, hon, hraised, hle]
  · refine exec_of_live (f := (·.beaconLost)) rfl hrun ?_
    simp [State.beaconLost, ha, hb, hon, hraised, hle]
  · intro v w y hgot hhigh
    refine exec_of_live (f := (·.recvData f)) rfl hrun ?_
    have hself : ¬ (u8 f.hdr 5 = 255) := by rw [hdest]; exact haddr
    have hgate : ¬ (!s.flHdrOk f || decide (u8 f.hdr 0 ≠ 1) || !(u8 f.hdr 5 == s.flAddr || u8 f.hdr 5 == 255)) = true := by
      simp [hhdr, hkind, hdest]
    have hseen : ((w.flPeer (u8 f.hdr 4)).got.contains (u32 f.hdr 8) || (match (w.flPeer (u8 f.hdr 4)).high with
        | some hi => decide (16 < (hi + 2 ^ 32 - u32 f.hdr 8) % 2 ^ 32) && !seqAfter (u32 f.hdr 8) hi | none => false)) = false := by
      simp [hgot, hhigh]
    have hhit : (List.range f.symbols).filter (fun k => ([] : List Nat).contains k || (k != 0 && ([] : List Nat).contains (k - 1))) = [] := by
      simp
    simp only [State.recvData, if_neg hgate, if_neg hself, Nat.add_zero, if_pos hcrc, State.impulses_of_noEnergy henergy, List.length_nil, hhit]
    exact if_neg (by rw [Bool.not_eq_true]; exact hseen)
  · refine exec_of_live (f := (·.recvReport f)) rfl hrun ?_
    have hgate : ¬ (!s.flHdrOk f || decide (u8 f.hdr 0 ≠ 2) || decide (u8 f.hdr 5 ≠ s.flAddr) || !f.crcOk) = true := by
      simp [hhdr, hkind, hdest, hcrc]
    have hnil : ∀ p : Peer, (s.setPeer p).flink.queue = [] := fun p => hq
    simp only [State.recvReport, if_neg hgate, State.modFl_filter_nil (hnil _), hnil, List.filter_nil, List.foldl_nil, State.modFl_map_nil (hnil _)]
  · refine exec_of_live (f := (·.slotSend)) rfl hrun ?_
    have hp' : (s.modFl (fun y => { y with slotAt := some t })).paused = false := hp
    simp [State.slotSend, hp', hslot, hb, hmay, hmute, hat, Nat.not_le.2 hready, hq, hagain, hfits]
  · intro late u v
    refine exec_of_live (f := (·.ackTimeout)) rfl hrun ?_
    simp only [State.ackTimeout, hc, hheld]
    rfl
  · intro c
    refine exec_of_live (f := (·.sendTimeout)) rfl hrun ?_
    simp only [State.sendTimeout, hheld]
    rfl
  · exact exec_of_live (f := (·.degradeEnd)) rfl hrun rfl

end Sys2Proof.Proofs

/-!
Datagrams and Ethernet links (R591, R635, R664), and the ports of the queues (R634 to R648).
-/

namespace Sys2Proof.Machine

variable {s : State} {q : Fin 128}

/-- A write of a queue port while HOSTIO serves clears the mark of a bad write and acts by the port's own rule (R608). -/
theorem exec_portWrite {i : Instr} {off v : Nat} {f : State → (State → State) → State} {t : State}
    (hi : exec i s = live s (fun s => s.portWrite q off v f)) (hrun : s.sys.mode = .run) (hserv : s.hio.serving = true)
    (hf : f { s with hio := { s.hio with lastWriteBad := false } } (fun s => s.violate (qaddr q off) true 4 1 (v % 2 ^ 32)) = t) :
    exec i s = .next t := by
  refine exec_of_live hi hrun ?_
  rw [← hf]
  simp [State.portWrite, hserv]

end Sys2Proof.Machine

namespace Sys2Proof.Proofs

open Sys2Proof.Machine

/-- Settles O37, row by row. -/
theorem siteRowsComplete : Obligations.SiteRowsComplete := by
  intro s hrun
  refine ⟨fun d hs hfrag hport hat => ?_, fun d hs hfrag hport h319 h320 hlee => ?_, fun d id off total hs hfrag => ?_, fun net id => ?_,
    fun net hup => ?_, fun net hup => ?_⟩
  · refine exec_of_live (f := (·.siteReceive d)) rfl hrun ?_
    simp [State.siteReceive, hs, hfrag, State.datagram, hport, State.ccpDatagram, Int.not_lt.2 hat]
  · refine exec_of_live (f := (·.siteReceive d)) rfl hrun ?_
    simp [State.siteReceive, hs, hfrag, State.datagram, hport, h319, h320, hlee]
  · exact exec_of_live (f := (·.siteReceive d)) rfl hrun (by simp [State.siteReceive, hs, hfrag])
  · exact exec_of_live (f := (·.fragTimeout net id)) rfl hrun rfl
  · exact exec_of_live (f := (·.ethLink net true)) rfl hrun (by simp [State.ethLink, hup, -Fin.getElem_fin])
  · exact exec_of_live (f := (·.ethLink net false)) rfl hrun (by simp [State.ethLink, hup, -Fin.getElem_fin])

/-- Settles O38, row by row. -/
theorem queueRowsComplete : Obligations.QueueRowsComplete := by
  intro s q hrun
  refine ⟨?_, fun o ho hle => ?_, fun hp hm hret => ?_, fun b hready hboot hq hempty hcfg => ?_⟩
  · intro u hserv
    refine ⟨fun w hw hm => ?_, fun w o hw hm ho => ?_, fun w hw hm ho => ?_, fun v hv hw hm ho hfits => ?_,
      fun v o hw ho hpos hle hlt => ?_, fun v hv hfw hm => ?_, fun hfw => ?_, fun hfw => ?_⟩
    · exact exec_portWrite (f := fun s bad => s.qdata q w.toNat bad) rfl hrun hserv (by simp [State.qdata, hw, hm, u, -Fin.getElem_fin])
    · intro y hroom
      refine exec_portWrite (f := fun s bad => s.qdata q w.toNat bad) rfl hrun hserv ?_
      simp only [State.qdata, hw, hm, ho]
      exact if_pos hroom
    · have hlt : w.toNat % 2 ^ 32 = w.toNat := Nat.mod_eq_of_lt w.isLt
      refine exec_portWrite (f := fun s bad => s.qdata q w.toNat bad) rfl hrun hserv ?_
      simp only [State.qdata, hw, hm, ho, hlt]
      rfl
    · refine exec_portWrite (f := fun s bad => s.qopen q v.toNat bad) rfl hrun hserv ?_
      have hfits' : u.queueFits q 1 = true := hfits
      simp [State.qopen, hv, hw, hm, ho, u, hfits', -Fin.getElem_fin]
      rfl
    · refine exec_portWrite (f := fun s bad => s.qclose q v.toNat bad) rfl hrun hserv ?_
      simp [State.qclose, hw, ho, hle, hlt, Nat.pos_iff_ne_zero.1 hpos, u, -Fin.getElem_fin]
    · exact exec_portWrite (f := fun s bad => s.qctl q v.toNat bad) rfl hrun hserv (by simp [State.qctl, hv, hfw, hm, u, -Fin.getElem_fin])
    · exact exec_of_live (f := (·.qrloRead q)) rfl hrun (by simp [State.qrloRead, hserv, hfw, -Fin.getElem_fin])
    · exact exec_of_live (f := (·.qrloRead q)) rfl hrun (by simp [State.qrloRead, hserv, hfw, -Fin.getElem_fin])
  · intro u
    refine exec_of_live (f := (·.packetTimeout q)) rfl hrun ?_
    simp only [State.packetTimeout, ho]
    exact if_pos hle
  · exact exec_of_live (f := (·.spillMove q)) rfl hrun (by simp [State.spillMove, hp, hm, hret, -Fin.getElem_fin])
  · refine exec_of_live (f := (·.layoutSwitch q)) rfl hrun ?_
    simp [State.layoutSwitch, hready, hboot, Nat.not_lt.2 hq, hempty, hcfg, -Fin.getElem_fin]

end Sys2Proof.Proofs

/-!
The event router's rows (R659 to R663).
-/

namespace Sys2Proof.Machine

variable {s : State}

/-- A write of an event register while HOSTIO serves clears the mark of a bad write and acts by the register's own rule (R608). -/
theorem exec_evtWrite {i : Instr} {f : State → State} {t : State} (hi : exec i s = live s (fun s => s.evtWrite f)) (hrun : s.sys.mode = .run)
    (hserv : s.hio.serving = true) (hf : f { s with hio := { s.hio with lastWriteBad := false } } = t) : exec i s = .next t := by
  refine exec_of_live hi hrun ?_
  rw [← hf]
  exact if_pos hserv

/-- A source is routed to an event queue, or to none (R662). -/
theorem State.routeWrite_of_source {src v : Nat} {bad : State → State} (hsrc : isSource src = true) (hq : s.eventQueue (v % 256) = true) :
    s.routeWrite src v bad = { s with evt := { s.evt with
      routeQ := vset s.evt.routeQ src (v % 256), routeIrq := vset s.evt.routeIrq src (v / 256 % 16) } } := by
  simp [State.routeWrite, hsrc, hq]

/-- Outside the tick that sets bits, every written one clears its bit (R661). -/
theorem State.pendWrite_of_ne {k : Fin 4} {w v : Nat} (h : s.evt.pendTick ≠ s.el) :
    s.pendWrite k w v = { s with evt := { s.evt with
      pend := s.evt.pend.set k (s.evt.pend[k] - (s.evt.pend[k] &&& (v % 2 ^ 32 * 2 ^ (32 * w)))) } } := by
  unfold State.pendWrite
  dsimp only
  rw [if_neg h]

/-- In the tick that sets bits, the bits it sets stand (R661). -/
theorem State.pendWrite_of_eq {k : Fin 4} {w v : Nat} (h : s.evt.pendTick = s.el) :
    s.pendWrite k w v = { s with evt := { s.evt with
      pend := s.evt.pend.set k (s.evt.pend[k] - (s.evt.pend[k] &&&
        (v % 2 ^ 32 * 2 ^ (32 * w) - (v % 2 ^ 32 * 2 ^ (32 * w) &&& s.evt.pendNew[k])))) } } := by
  unfold State.pendWrite
  dsimp only
  rw [if_pos h]

end Sys2Proof.Machine

namespace Sys2Proof.Proofs

open Sys2Proof.Machine

/-- Settles O39, row by row. -/
theorem eventRowsComplete : Obligations.EventRowsComplete := by
  intro s hrun
  refine ⟨⟨_, exec_of_live (f := (·.release')) rfl hrun rfl, rfl⟩, fun src hheld hwin => ?_, fun src v hserv hsrc hq => ?_, fun src v hserv hsrc => ?_,
    fun k w v hserv htick => ?_, fun k w v hserv htick => ?_⟩
  · exact exec_of_live (f := (·.floodEnd src)) rfl hrun (by simp [State.floodEnd, hheld, hwin])
  · refine exec_evtWrite (f := fun s => s.routeWrite src v.toNat (fun s => s.violate (0x200000 + 4 * src.val) true 4 1 v.toNat)) rfl hrun hserv ?_
    exact State.routeWrite_of_source (s := { s with hio := { s.hio with lastWriteBad := false } }) hsrc hq
  · refine exec_evtWrite (f := fun s => s.routeWrite src v.toNat (fun s => s.violate (0x200000 + 4 * src.val) true 4 1 v.toNat)) rfl hrun hserv ?_
    simp [State.routeWrite, hsrc]
  · have hv : v.toNat % 2 ^ 32 = v.toNat := Nat.mod_eq_of_lt v.isLt
    refine exec_evtWrite (f := fun s => s.pendWrite k w v.toNat) rfl hrun hserv ?_
    exact (State.pendWrite_of_ne (s := { s with hio := { s.hio with lastWriteBad := false } }) htick).trans (by rw [hv])
  · intro ones
    have hv : v.toNat % 2 ^ 32 = v.toNat := Nat.mod_eq_of_lt v.isLt
    refine exec_evtWrite (f := fun s => s.pendWrite k w v.toNat) rfl hrun hserv ?_
    exact (State.pendWrite_of_eq (s := { s with hio := { s.hio with lastWriteBad := false } }) htick).trans (by rw [hv])

end Sys2Proof.Proofs

/-!
The rows of a switch channel (R679 to R691): D3 acts on its dies while VS stands, whatever D1 does.
-/

namespace Sys2Proof.Machine

variable {s t : State} {n : Fin 24}

theorem exec_onD3 {i : Instr} {f : State → State} (hi : exec i s = onD3 s f) (hvs : s.seqr.vsLow = false) (hf : f s = t) :
    exec i s = .next t := by
  simp [hi, onD3, hvs, hf]

/-- A change of a channel counts only by what it makes of that channel. -/
theorem State.modSw_congr {f g : SwCh → SwCh} (h : f s.sws[n] = g s.sws[n]) : s.modSw n f = s.modSw n g := by
  simp only [State.modSw, h]

@[simp] theorem State.driving_modSw (f : SwCh → SwCh) : (s.modSw n f).driving = s.driving := rfl

end Sys2Proof.Machine

namespace Sys2Proof.Proofs

open Sys2Proof.Machine

/-- Settles O40, row by row. -/
theorem switchRowsComplete : Obligations.SwitchRowsComplete := by
  intro s n hvs
  refine ⟨fun hst => ?_, fun cur hst hcur => ?_, fun hcond hlat => ?_, fun temp hst hlat htemp hwait hf hcmd => ?_,
    fun temp hst hlat htemp hwait hf hcmd => ?_, fun e hclamp hafter => ?_, fun e hwin hslew hle hst => ?_, fun hslew hst => ?_⟩
  · exact exec_onD3 (f := (·.swLimiting n)) rfl hvs (if_pos (by simpa using hst))
  · exact exec_onD3 (f := (·.swLimitingEnd n cur)) rfl hvs (if_pos (by simpa using ⟨hst, hcur⟩))
  · intro count above u
    refine exec_onD3 (f := (·.swOvertemp n)) rfl hvs ?_
    simp [State.swOvertemp, hcond, hlat, u, above, count, State.swRetries, -Fin.getElem_fin]
  · refine exec_onD3 (f := (·.swRetry n temp)) rfl hvs ?_
    simp [State.swRetry, hst, hlat, Int.not_lt.2 htemp, Int.not_lt.2 hwait, hf, -Fin.getElem_fin]
    exact fun hon hdriving => absurd hcmd (by simp [hon, hdriving, -Fin.getElem_fin])
  · intro u hdriving hbudget
    have hdriving' : s.driving = true := hdriving
    have hbudget' : ¬ s.budget.limit < (s.modSw n (fun c => { c with temp := temp })).budgetFigure := Nat.not_lt.2 hbudget
    refine exec_onD3 (f := (·.swRetry n temp)) rfl hvs ?_
    simp [State.swRetry, hst, hlat, Int.not_lt.2 htemp, Int.not_lt.2 hwait, hf, hcmd, hdriving', hbudget', u, -Fin.getElem_fin]
  · refine exec_onD3 (f := (·.clampComplete n e)) rfl hvs ?_
    have hgate : (!s.sws[n].clamping && !s.sws[n].clampDue) = false := by
      obtain h | h := hclamp <;> simp [h, -Fin.getElem_fin]
    simp [State.clampComplete, hgate, hafter, -Fin.getElem_fin]
  · refine exec_onD3 (f := (·.inrushEnd n)) rfl hvs ?_
    have hmod := State.modSw_congr (s := s) (n := n) (f := fun c => { c with
      windowEnd := none, current := if c.state = .limiting then min c.current (u16 (s.swCfg n) 4) else c.current })
      (g := fun c => { c with windowEnd := none, current := c.current }) (by simp [hst, -Fin.getElem_fin])
    simp only [State.inrushEnd, hwin, hslew, hst, hmod]
    simp [Int.not_lt.2 hle]
  · exact exec_onD3 (f := (·.slewEnd n true)) rfl hvs (by simp [State.slewEnd, hslew, hst, -Fin.getElem_fin])

end Sys2Proof.Proofs

/-!
The rows of open loads, clamp power, the conduction budget and restores (R687 to R699).
-/

namespace Sys2Proof.Machine

variable {s : State}

/-- The begin of a check for restores: its second is noted (R698). -/
def State.restoreNoted (s : State) : State := { s with budget := { s.budget with lastRestore := some (s.st / 1000000000) } }

/-- The channel to restore is turned on again where the figure leaves room for it (R698). -/
def State.restoreOne (s : State) : State :=
  match minBy s.swRestoreKey ((List.finRange 24).filter (fun (n : Fin 24) => s.sws[n].state == .shed)) with
  | some n =>
    if !s.latched && s.driving && s.sys.fault.isNone && decide ((s.budgetFigure + s.sws[n].shedMean) * 100 ≤ s.budget.limit * 85) then
      ((s.swState n .off).swTurnOn n true).raise (.swRestored n)
    else s
  | none => s

theorem State.budgetRestore_of_noEpisode (h : s.budget.lastRestore ≠ some (s.st / 1000000000))
    (he : s.restoreNoted.restoreOne.budget.episode = false) : s.budgetRestore = s.restoreNoted.restoreOne := by
  have hrestore : s.budgetRestore = if s.budget.lastRestore = some (s.st / 1000000000) then s else
      if s.restoreNoted.restoreOne.budget.episode &&
          decide ((List.finRange 24).filter (fun (n : Fin 24) => s.restoreNoted.restoreOne.sws[n].state == .shed) = []) then
        ({ s.restoreNoted.restoreOne with budget := { s.restoreNoted.restoreOne.budget with episode := false } } : State).raise .budgetCleared
          s.restoreNoted.budgetFigure
      else s.restoreNoted.restoreOne := rfl
  rw [hrestore, if_neg h, he, Bool.false_and, if_neg Bool.false_ne_true]

theorem State.restoreOne_of_noneShed (h : ∀ n : Fin 24, s.sws[n].state ≠ .shed) : s.restoreOne = s := by
  have hnil : (List.finRange 24).filter (fun (n : Fin 24) => s.sws[n].state == .shed) = [] := by
    simpa using fun n => h n
  rw [State.restoreOne, hnil]
  rfl

end Sys2Proof.Machine

namespace Sys2Proof.Proofs

open Sys2Proof.Machine

/-- Settles O41, row by row. -/
theorem budgetRowsComplete : Obligations.BudgetRowsComplete := by
  intro s hrun
  refine ⟨fun hlast => ?_, fun n mv hon hopen hmv => ?_, fun n hopen => ?_, fun m hlast => ?_, fun hlast hshed he => ?_, fun n hlast => ?_,
    fun n hmin hdip => ?_, fun hkeep => ?_⟩
  · intro u
    refine exec_of_live (f := (·.clampWindow)) rfl hrun ?_
    simp only [State.clampWindow, if_neg hlast, u]
  · exact exec_of_live (f := (·.swOpenLoad n mv)) rfl hrun (by simp [State.swOpenLoad, hon, hopen, hmv, -Fin.getElem_fin])
  · exact exec_of_live rfl hrun (whenDo_of hopen)
  · intro sum u l
    refine exec_of_live (f := (·.budgetWindow m)) rfl hrun ?_
    exact if_neg hlast
  · refine exec_of_live (f := (·.budgetRestore)) rfl hrun ?_
    have hone : s.restoreNoted.restoreOne = s.restoreNoted := State.restoreOne_of_noneShed hshed
    rw [State.budgetRestore_of_noEpisode hlast (by rw [hone]; exact he), hone]
    rfl
  · intro u hmin hlat hdr hf hroom he he'
    refine exec_of_live (f := (·.budgetRestore)) rfl hrun ?_
    have hone : s.restoreNoted.restoreOne = ((u.swState n .off).swTurnOn n true).raise (.swRestored n) := by
      have hmin' : minBy s.restoreNoted.swRestoreKey ((List.finRange 24).filter (fun (k : Fin 24) => s.restoreNoted.sws[k].state == .shed)) = some n := hmin
      have hcond : (!s.restoreNoted.latched && s.restoreNoted.driving && s.restoreNoted.sys.fault.isNone &&
          decide ((s.restoreNoted.budgetFigure + s.restoreNoted.sws[n].shedMean) * 100 ≤ s.restoreNoted.budget.limit * 85)) = true := by
        simp only [Bool.and_eq_true, Bool.not_eq_true', decide_eq_true_eq]
        exact ⟨⟨⟨hlat, hdr⟩, Option.isNone_iff_eq_none.2 hf⟩, hroom⟩
      rw [State.restoreOne, hmin']
      exact if_pos hcond
    rw [State.budgetRestore_of_noEpisode hlast (by rw [hone]; exact he'), hone]
  · intro u hst hcmd hdr hlat
    refine exec_of_live (f := (·.dipRestore)) rfl hrun ?_
    simp only [State.dipRestore, hmin, hdip, if_true]
    refine if_pos ?_
    simp only [Bool.and_eq_true, beq_iff_eq, bne_iff_ne, Bool.not_eq_true']
    exact ⟨⟨⟨hst, hcmd⟩, hdr⟩, hlat⟩
  · refine exec_of_live (f := (·.keepDefaults)) rfl hrun ?_
    simp [State.keepDefaults, hkeep]

end Sys2Proof.Proofs

/-!
The rows of housekeeping and of the die temperatures (R707 to R720).
-/

namespace Sys2Proof.Machine

variable {s : State}

/-- The dies after a conversion (R711, R712). -/
def State.diesAfter (s : State) (temps : Vector Int 8) : Vector DieSensor 8 := Vector.ofFn (fun (i : Fin 8) => dieNext temps i s.therm.dies[i])

theorem State.noteDies_therm (s : State) : s.noteDies.therm = s.therm := rfl

/-- The figures of a conversion whose hottest die is `p` (R713 to R716). -/
def State.figured (s : State) (k : Nat) (p : Nat × Int) : State :=
  { s with therm := { s.therm with
    tj := p.2, hottest := p.1, peak := if s.therm.lastConv.isNone then p.2 else max s.therm.peak p.2, lastConv := some k
    warn := crossed s.therm.warn p.2 1100, hot := crossed s.therm.hot p.2 1200, shut := crossed s.therm.shut p.2 1350 } }

/-- What the thresholds do after a conversion from the figures `t` (R715, R716, R718). -/
def State.thresholds (s : State) (t : Therm) (p : Nat × Int) : State :=
  let s := if s.therm.warn == t.warn then s
    else s.raise (if s.therm.warn then .thermWarning else .thermWarningClear) (par p.2) (if s.therm.warn then p.1 else 0)
  let s := s.setThrottle
  let s := if s.therm.shut && !t.shut then s.thermShutdown else s
  { s with therm := { s.therm with releasable := s.latched && !s.therm.shut } }

/-- The sensors that a conversion finds failed are told (R712). -/
def State.sensorsTold (s : State) (dies old : Vector DieSensor 8) : State :=
  forFin 8 s (fun s i => if dies[i].failed && !old[i].failed then s.raise .tempSensorFault i (par dies[i].temp) else s)

theorem State.sensorsTold_of_same {dies old : Vector DieSensor 8} (h : ∀ i : Fin 8, dies[i].failed = old[i].failed) :
    s.sensorsTold dies old = s := by
  refine forFin_id (fun i => ?_)
  rw [h i, Bool.and_not_self]
  rfl

/-- The dies after a conversion, noted for housekeeping and told (R711, R712). -/
def State.converted (s : State) (temps : Vector Int 8) : State :=
  (({ s with therm := { s.therm with dies := s.diesAfter temps } } : State).noteDies).sensorsTold (s.diesAfter temps) s.therm.dies

/-- The hottest of some dies, or what was the hottest (R713). -/
def State.hottestIn (s : State) (dies : Vector DieSensor 8) : Nat × Int :=
  (hottestOf ((List.range 8).zip dies.toList)).getD (s.therm.hottest, s.therm.tj)

/-- A conversion, step by step. -/
theorem State.thermConvert_eq (s : State) (temps : Vector Int 8) : s.thermConvert temps =
    if s.therm.lastConv = some (s.st / 1000000) then s
    else ((s.converted temps).figured (s.st / 1000000) ((s.converted temps).hottestIn (s.diesAfter temps))).thresholds (s.converted temps).therm
      ((s.converted temps).hottestIn (s.diesAfter temps)) := by
  unfold State.thermConvert
  refine ite_congr rfl (fun _ => rfl) (fun _ => ?_)
  extract_lets old dies therm noted told figures
  split
  next h tj heq =>
    have htop : (s.converted temps).hottestIn (s.diesAfter temps) = (h, tj) := heq
    have htold : s.converted temps = told := rfl
    rw [htop, htold]
    clear_value told
    rfl

theorem State.setThrottle_of_same (h : (s.therm.hot || decide (2 ≤ (s.therm.dies.toList.filter (·.failed)).length)) = s.therm.throttle) :
    s.setThrottle = s := by
  simp [State.setThrottle, h]

/-- Where no threshold is crossed, a conversion moves the mark of the release alone (R719). -/
theorem State.thresholds_of_same {t : Therm} {p : Nat × Int} (hwarn : s.therm.warn = t.warn) (hshut : s.therm.shut = t.shut)
    (hthr : (s.therm.hot || decide (2 ≤ (s.therm.dies.toList.filter (·.failed)).length)) = s.therm.throttle) :
    s.thresholds t p = { s with therm := { s.therm with releasable := s.latched && !s.therm.shut } } := by
  simp [State.thresholds, hwarn, hshut, State.setThrottle_of_same hthr]

/-- A conversion that fails no sensor and crosses no threshold moves the figures alone (R711 to R716). -/
theorem State.thermConvert_within {temps : Vector Int 8} (hlast : s.therm.lastConv ≠ some (s.st / 1000000))
    (hfail : ∀ i : Fin 8, (dieNext temps i s.therm.dies[i]).failed = s.therm.dies[i].failed)
    (hwarn : crossed s.therm.warn (s.hottestIn (s.diesAfter temps)).2 1100 = s.therm.warn)
    (hhot : crossed s.therm.hot (s.hottestIn (s.diesAfter temps)).2 1200 = s.therm.hot)
    (hshut : crossed s.therm.shut (s.hottestIn (s.diesAfter temps)).2 1350 = s.therm.shut)
    (hthr : (s.therm.hot || decide (2 ≤ ((s.diesAfter temps).toList.filter (·.failed)).length)) = s.therm.throttle) :
    s.thermConvert temps =
      { ({ s with therm := { s.therm with dies := s.diesAfter temps } } : State).noteDies with therm := { s.therm with
        dies := s.diesAfter temps, tj := (s.hottestIn (s.diesAfter temps)).2, hottest := (s.hottestIn (s.diesAfter temps)).1
        peak := if s.therm.lastConv.isNone then (s.hottestIn (s.diesAfter temps)).2 else max s.therm.peak (s.hottestIn (s.diesAfter temps)).2
        lastConv := some (s.st / 1000000), releasable := s.latched && !s.therm.shut } } := by
  have hconv : s.converted temps = ({ s with therm := { s.therm with dies := s.diesAfter temps } } : State).noteDies :=
    State.sensorsTold_of_same (fun i => by simpa [State.diesAfter] using hfail i)
  have htop : (s.converted temps).hottestIn (s.diesAfter temps) = s.hottestIn (s.diesAfter temps) := by rw [hconv]; rfl
  rw [State.thermConvert_eq, if_neg hlast, htop, hconv, State.thresholds_of_same hwarn hshut]
  · simp only [State.figured, State.noteDies_therm, hwarn, hhot, hshut]
    rfl
  · simp only [State.figured, State.noteDies_therm, hhot]
    exact hthr

end Sys2Proof.Machine

namespace Sys2Proof.Proofs

open Sys2Proof.Machine

/-- Settles O42, row by row. -/
theorem thermalRowsComplete : Obligations.ThermalRowsComplete := by
  intro s
  refine ⟨fun raw int hrun hst hlast => ?_, fun temps hrun hlast hfail => ?_, fun i e hrun harmed => ?_, fun hrun hthr hwork hst => ?_⟩
  · intro u₁ u₂ u₃ u
    refine exec_of_live (f := (·.hkRound raw int)) rfl hrun ?_
    have hgate : ¬ (decide (s.st % 20000000 < 19600000) || s.hk.lastRound == some (s.st / 20000000)) = true := by
      simp [Nat.not_lt.2 hst, hlast]
    simp only [State.hkRound, if_neg hgate, u, u₃, u₂, u₁]
  · intro dies top hwarn hhot hshut hthr u
    refine exec_of_live (f := (·.thermRound temps)) rfl hrun ?_
    rw [State.thermRound, State.thermConvert_within hlast hfail hwarn hhot hshut hthr]
    simp [dies, top, u, State.diesAfter, State.hottestIn]
  · refine (show exec (.thermHwLimit i e) s = .next (s.thermHwLimit i e) by unfold exec; rfl).trans ?_
    simp [State.thermHwLimit, hrun, harmed, -Fin.getElem_fin]
  · have hnow : s.st < s.st / 10000000 * 10000000 + 2000000 := by omega
    exact exec_of_live (f := (·.throttleWindow)) rfl hrun (by simp [State.throttleWindow, hthr, hwork, hnow])

end Sys2Proof.Proofs

/-!
The rows of links, memories, clocks and cores (R31 to R46, R283).
-/

namespace Sys2Proof.Machine

variable {s : State}

theorem State.sys_of_beyond {t : State} (h : t.beyond = s.beyond) : t.sys = s.sys := congrArg Beyond.sys h

/-- The device becomes ready: its own status first (R750). -/
def State.readied (s : State) : State :=
  { s with
    sys := { s.sys with ready := true, lee := false, readySt := s.st, readyAt := s.el }
    vbat := { s.vbat with failed := 0 } }

/-- The controllers that wait for ready take their modes, and the ports their drive (R318, R549). -/
def State.busesReady (s : State) : State :=
  let s := forFin 8 s (fun s n =>
    if s.cans[n].released then s else s.canAskMode n (canModeOf ((s.nv.cfg.canMode[n]).getD 0)) 5)
  forFin 8 s (fun s p =>
    let s := if s.ports[p].state = .faulted then s.portSet p .idle else s
    (s.linkRelease p).modPort p (fun x => { x with drive := x.state.drive, levelRun := none }))

theorem State.busesReady_beyond (s : State) : s.busesReady.beyond = s.beyond := by
  simp only [State.busesReady, State.canAskMode_beyond, State.portSet_beyond, State.linkRelease_beyond, State.modPort_beyond, beyond_ite, ite_self,
    forFin_beyond, implies_true]

/-- What else happens when the device becomes ready leaves its status as ready set it. -/
theorem State.deviceReady_sys (h : (s.sys.ready || !s.sys.lee || s.hk.lastRound.isNone || s.bill.restartDue || s.sys.fault.isSome) = false) :
    s.deviceReady.sys = s.readied.sys := by
  have hbuses := State.sys_of_beyond s.readied.busesReady_beyond
  simp only [State.busesReady, State.readied] at hbuses
  show s.deviceReady.beyond.sys = s.readied.sys
  simp only [State.deviceReady, h, Bool.false_eq_true, if_false, State.raise_beyond, State.sleepGap_beyond, State.swAllOff_beyond, beyond_ite, ite_self,
    State.beyond_mk, hbuses, State.readied]

/-- The eight clocks of R45. -/
theorem clock_cases (c : Fin 8) : c = 0 ∨ c = 1 ∨ c = 2 ∨ c = 3 ∨ c = 4 ∨ c = 5 ∨ c = 6 ∨ c = 7 := by omega

end Sys2Proof.Machine

namespace Sys2Proof.Proofs

open Sys2Proof.Machine

/-- Settles O43, row by row. -/
theorem fabricRowsComplete : Obligations.FabricRowsComplete := by
  intro s hrun
  refine ⟨fun l lane => ?_, fun l lane => ?_, fun l => ?_, fun n hst => ?_, fun c hc => ?_, fun c hc h3 => ?_, fun k => ?_, ?_, fun t ht => ?_,
    fun m => ?_, fun t sure ht h4 h7 => ?_, ?_, ?_, fun k => ?_, fun f hf hth hra hle => ?_, fun hready hf hw hle => ?_,
    fun hready hlee hround hdue hf => ?_⟩
  · exact exec_of_live (f := (·.linkFrame l { ok := true, lane })) rfl hrun rfl
  · intro i hst
    exact exec_of_live (f := (·.linkFrame l { ok := false, lane })) rfl hrun (if_neg (Nat.not_le.2 hst))
  · intro i hst
    exact exec_of_live (f := (·.linkFrame l { ok := false, lane := none })) rfl hrun (if_pos hst)
  · exact exec_of_live (f := (·.linkFrame 0 { ok := false, lane := some n })) rfl hrun (if_pos hst)
  · intro u
    refine exec_of_live (f := (·.clockLoss c)) rfl hrun ((if_neg (by simp [hc])).trans ?_)
    rcases clock_cases c with rfl | rfl | rfl | rfl | rfl | rfl | rfl | rfl <;> rfl
  · intro u
    refine exec_of_live (f := (·.clockBack c)) rfl hrun ((if_neg (by simp [hc, h3])).trans ?_)
    rcases clock_cases c with rfl | rfl | rfl | rfl | rfl | rfl | rfl | rfl
    · exact absurd h3 (by decide)
    · exact absurd h3 (by decide)
    · exact absurd h3 (by decide)
    all_goals rfl
  · intro u
    refine exec_of_live (f := (·.coreDog k)) rfl hrun ?_
    have hk : k.val = 3 ↔ k = 3 := by omega
    simp only [State.coreDog, State.coreRestart, Bool.cond_eq_ite, hk]
    rfl
  · exact exec_of_live (f := (·.eccBad .metrology)) rfl hrun rfl
  · exact exec_of_live (f := (·.eccBad (.resource t))) rfl hrun (if_pos ht)
  · exact exec_of_live (f := (·.eccFixed m)) rfl hrun rfl
  · exact exec_of_live (f := (·.selfTestFails (.resource t sure))) rfl hrun (if_pos (by simp [ht, h4, h7]))
  · exact exec_of_live (f := (·.selfTestFails .die)) rfl hrun rfl
  · exact exec_of_live (f := (·.selfTestFails .metrology)) rfl hrun rfl
  · exact exec_of_live (f := (·.selfTestFails (.core k))) rfl hrun rfl
  · exact exec_of_live (f := (·.faultReset)) rfl hrun (by simp [State.faultReset, hf, hth, hra, hle])
  · exact exec_of_live (f := (·.bootTimeout)) rfl hrun (by simp [State.bootTimeout, hready, hf, hw, Int.not_lt.2 hle])
  · refine ⟨s.deviceReady, exec_of_live (f := (·.deviceReady)) rfl hrun rfl, ?_⟩
    rw [State.deviceReady_sys (by simp [hready, hlee, hdue, hf, hround])]
    exact ⟨rfl, rfl, rfl, rfl⟩

end Sys2Proof.Proofs

/-!
The rows of the supplies, the VBAT domain and the resets (R691, R732 to R757), in whatever mode the device is.
-/

namespace Sys2Proof.Machine

variable {s : State}

/-- A source of wake that is armed and has its cause wakes the device (R743, R754). -/
theorem State.wake_of {src : Fin 5} {e : Nat} (hmode : s.sys.mode = .sleep) (harm : bit s.sys.armed src = true)
    (h0 : src = 0 → ∃ p : Fin 8, s.ports[p].doze.any (·.woke) = true)
    (h1 : src = 1 → ∃ n : Fin 8, canModeOf ((s.nv.cfg.canMode[n]).getD 0) ≠ .off) (h3 : src = 3 → s.flink.woke = true)
    (h4 : src = 4 → ∃ w t, s.vbat.wakeAt = some w ∧ s.rtcNow e = some t ∧ w ≤ t) : s.wake src e = s.wakeUp (some src.val) e := by
  have hplugged : (src.val == 0 && !(List.finRange 8).any (fun p => s.ports[p].doze.any (·.woke))) = false := by
    by_cases hs : src = 0
    · obtain ⟨p, hp⟩ := h0 hs
      have : (List.finRange 8).any (fun p => s.ports[p].doze.any (·.woke)) = true := List.any_eq_true.2 ⟨p, List.mem_finRange p, hp⟩
      rw [this, Bool.not_true, Bool.and_false]
    · have : src.val ≠ 0 := fun h => hs (Fin.ext h)
      simp [this]
  have hlive : (src.val == 1 && !(List.finRange 8).any (fun n => canModeOf ((s.nv.cfg.canMode[n]).getD 0) != .off)) = false := by
    by_cases hs : src = 1
    · obtain ⟨n, hn⟩ := h1 hs
      have : (List.finRange 8).any (fun n => canModeOf ((s.nv.cfg.canMode[n]).getD 0) != .off) = true :=
        List.any_eq_true.2 ⟨n, List.mem_finRange n, bne_iff_ne.2 hn⟩
      rw [this, Bool.not_true, Bool.and_false]
    · have : src.val ≠ 1 := fun h => hs (Fin.ext h)
      simp [this]
  have hwoke : (src.val == 3 && !s.flink.woke) = false := by
    by_cases hs : src = 3
    · rw [h3 hs, Bool.not_true, Bool.and_false]
    · have : src.val ≠ 3 := fun h => hs (Fin.ext h)
      simp [this]
  unfold State.wake
  dsimp only
  rw [hplugged, hlive, hwoke, hmode, harm]
  refine if_neg ?_
  by_cases hs : src = 4
  · obtain ⟨w, t, hw, ht, hle⟩ := h4 hs
    simp [hw, ht, hle]
  · have : src.val ≠ 4 := fun h => hs (Fin.ext h)
    simp [this]

/-- A heartbeat of a running device carries no flag of sleep (R744). -/
theorem State.flags_of_run : b01 (Mode.run == Mode.sleep) = 0 := by decide

end Sys2Proof.Machine

namespace Sys2Proof.Proofs

open Sys2Proof.Machine

/-- Settles O44, row by row. -/
theorem powerRowsComplete : Obligations.PowerRowsComplete := by
  intro s
  refine ⟨fun mv hoff hvs => ?_, fun n hst hn => ?_, fun n hst hn => ?_, fun n hst => ?_, fun hst hvs => ?_, fun hst hm => ?_, fun hvs hm => ?_,
    fun hvs => ?_, fun hb => ?_, rfl, fun hm => ?_, fun hm => ?_, fun site twinB tcxo e hm hst hhold => ?_, fun e hm hp hx h0 h1 => ?_,
    fun h e hm hp hx h0 h1 hne => ?_, fun src e hm harm hne h0 h3 h1 => ?_, fun w t e hm harm hw ht hle => ?_, fun hp => ?_, rfl⟩
  · have hown : (!(decide (mv < 9000) || decide (30000 < mv))) = decide (9000 ≤ mv ∧ mv ≤ 30000) := by
      rw [← Bool.decide_or, ← decide_not]
      exact decide_eq_decide.2 (by omega)
    refine (show exec (.vsQualified mv) s = .next (s.vsQualified mv) from rfl).trans ?_
    simp [State.vsQualified, hoff, hvs, ← hown]
  · exact congrArg _ (show s.seqStep = _ by simp [State.seqStep, hst, hn])
  · exact congrArg _ (show s.seqStep = _ by simp [State.seqStep, hst, Nat.not_lt.2 hn])
  · refine congrArg _ (show s.pgTimeout = _ from ?_)
    have : 3 ≤ s.seqr.tries + 1 ↔ 2 ≤ s.seqr.tries := by omega
    simp only [State.pgTimeout, hst, this]
  · exact congrArg _ (show s.seqRetry = _ by simp [State.seqRetry, hst, hvs])
  · intro u
    exact congrArg _ (show s.pgFall = _ by simp [State.pgFall, hst, hm, u])
  · exact congrArg _ (show s.vsBelow3 = _ by simp [State.vsBelow3, hvs, hm])
  · exact congrArg _ (show s.vsRestore = _ by simp [State.vsRestore, hvs])
  · intro u
    exact congrArg _ (if_neg (by simp [hb]))
  · exact congrArg _ (show s.resetLow = _ by simp [State.resetLow, hm])
  · intro u
    exact congrArg _ (show s.resetLow = _ by simp [State.resetLow, hm, u])
  · exact congrArg _ (if_pos (by simp [hm, hst, hhold]))
  · exact congrArg _ (show s.heartbeat e = _ by simp [State.heartbeat, hm, hp, hx, h0, h1, State.flags_of_run])
  · exact congrArg _ (show s.heartbeat e = _ by simp [State.heartbeat, hm, hp, hx, h0, h1, hne, State.flags_of_run])
  · exact congrArg _ (State.wake_of hm harm h0 h1 h3 (fun h => absurd h hne))
  · exact congrArg _ (State.wake_of hm harm (fun h => absurd h (by decide)) (fun h => absurd h (by decide)) (fun h => absurd h (by decide))
      (fun _ => ⟨w, t, hw, ht, hle⟩))
  · exact congrArg _ (if_pos hp)

end Sys2Proof.Proofs

/-!
The device-fault state drives the outputs low (R36, R172): what ports and switch channels leave of the power stage (`State.power`), what
switching the stage off leaves of the rest (`State.site`), and the slots and groups after the fault.
-/

namespace Sys2Proof.Machine

/-! ### What ports and switch channels leave -/

/-- The parts of a state of which ports and switch channels are no part: the power stage, site time, metering and the device itself. -/
structure Power where
  strap : Strap
  clk : Clk
  nv : Nv
  sys : Sys
  groups : Vector Group 8
  slots : Vector Slot 48
  twin : Twin
  metro : Metro
  bill : Bill

/-- The parts of a state that ports and switch channels leave. -/
def State.power (s : State) : Power where
  strap := s.strap
  clk := s.clk
  nv := s.nv
  sys := s.sys
  groups := s.groups
  slots := s.slots
  twin := s.twin
  metro := s.metro
  bill := s.bill

/-- The parts of a state, put together again. -/
theorem State.power_fold (s : State) :
    Power.mk s.strap s.clk s.nv s.sys s.groups s.slots s.twin s.metro s.bill = s.power := rfl

/-- The parts of a state given by its fields, as record updates give it. -/
theorem State.power_mk {strap clk time launches launchCount captures capLog ccp hio queues evt nv sys seqr vbat hk therm sws budget
    fabric groups slots groupRecs ports portRecs sessionSeq cools alloc metro bill cans canCopies flink twin
    image master seqCtr out freeCount pending} :
    (State.mk strap clk time launches launchCount captures capLog ccp hio queues evt nv sys seqr vbat hk therm sws budget
      fabric groups slots groupRecs ports portRecs sessionSeq cools alloc metro bill cans canCopies flink twin
      image master seqCtr out freeCount pending).power =
      Power.mk strap clk nv sys groups slots twin metro bill := rfl

theorem power_ite {c : Prop} [Decidable c] (s t : State) : (if c then s else t).power = if c then s.power else t.power :=
  apply_ite State.power c s t

theorem power_dite {c : Prop} [Decidable c] (s : c → State) (t : ¬c → State) :
    (if h : c then s h else t h).power = if h : c then (s h).power else (t h).power :=
  apply_dite State.power c s t

theorem forFin_power {n : Nat} {s : State} {f : State → Fin n → State} (h : ∀ u i, (f u i).power = u.power) : (forFin n s f).power = s.power :=
  forFin_eq (π := State.power) h s

theorem forNums_power {l : List Nat} {s : State} {f : State → Nat → State} (h : ∀ u i, (f u i).power = u.power) :
    (forNums l s f).power = s.power :=
  forNums_eq (π := State.power) h s

theorem foldl_power {α : Type} {l : List α} {s : State} {f : State → α → State} (h : ∀ u i, (f u i).power = u.power) :
    (l.foldl f s).power = s.power :=
  foldl_eq (π := State.power) h l s

theorem State.modSw_power (s : State) (n : Fin 24) (f : SwCh → SwCh) : (s.modSw n f).power = s.power := by
  rfl

theorem State.raiseAt_power (s : State) (stamp : Nat) (e : Ev) (p1 p2 flags : Nat) :
    (s.raiseAt stamp e p1 p2 flags).power = s.power := by
  rfl

theorem State.raise_power (s : State) (e : Ev) (p1 p2 flags : Nat) : (s.raise e p1 p2 flags).power = s.power := by
  simp only [State.raise, State.raiseAt_power]

theorem State.swState_power (s : State) (n : Fin 24) (st : SwState) : (s.swState n st).power = s.power := by
  simp only [State.swState, State.raise_power, State.modSw_power, power_ite, ite_self]

theorem State.pumpTurnsOn_power (s : State) (n : Fin 24) : (s.pumpTurnsOn n).power = s.power := by
  refine forFin_power (fun u p => ?_)
  dsimp only
  split
  · split <;> rfl
  · rfl


theorem State.swWindow_power (s : State) (n : Fin 24) : (s.swWindow n).power = s.power := by
  simp only [State.swWindow, State.swState_power, State.modSw_power]

theorem State.swTurnOn_power (s : State) (n : Fin 24) (slew : Bool) : (s.swTurnOn n slew).power = s.power := by
  simp only [State.swTurnOn, State.modSw_power, State.pumpTurnsOn_power, State.swState_power, State.swWindow_power, power_ite,
    ite_self]

theorem State.swTurnOff_power (s : State) (n : Fin 24) (st : SwState) : (s.swTurnOff n st).power = s.power := by
  simp only [State.swTurnOff, State.modSw_power, State.swState_power, power_ite, ite_self]

theorem State.swFirstEdge_power (s : State) (n : Fin 24) : (s.swFirstEdge n).power = s.power := by
  simp only [State.swFirstEdge, State.pumpTurnsOn_power, State.modSw_power, State.swWindow_power, power_ite, ite_self]

theorem State.swCommand_power (s : State) (n : Fin 24) (cmd : SwCmd) (slew assigned : Bool) :
    (s.swCommand n cmd slew assigned).power = s.power := by
  simp only [State.swCommand, State.modSw_power, power_ite]
  repeat' split
  all_goals simp only [State.modSw_power, State.swState_power, State.swTurnOn_power, State.swTurnOff_power,
    State.swFirstEdge_power]

theorem State.swDrive_power (s : State) (n : Fin 24) (duty : Nat) : (s.swDrive n duty).power = s.power := by
  simp only [State.swDrive, State.swCommand_power, power_ite, ite_self]

theorem State.dischargeChannel_power (s : State) (g : Fin 8) (on : Bool) : (s.dischargeChannel g on).power = s.power := by
  unfold State.dischargeChannel
  split <;> simp only [State.swDrive_power]

theorem State.modPort_power (s : State) (p : Fin 8) (f : Port → Port) : (s.modPort p f).power = s.power := by
  rfl

theorem State.noteEnding_power (s : State) (p : Fin 8) (cls reason rank : Nat) :
    (s.noteEnding p cls reason rank).power = s.power := by
  simp only [State.noteEnding, State.modPort_power]

theorem State.modSession_power (s : State) (p : Fin 8) (f : Session → Session) : (s.modSession p f).power = s.power := by
  simp only [State.modSession, State.modPort_power]

theorem State.portSet_power (s : State) (p : Fin 8) (st : PState) (reason : Nat) : (s.portSet p st reason).power = s.power := by
  simp only [State.portSet, State.raise_power, State.modPort_power, State.power_mk, State.power_fold, power_ite, ite_self]

theorem State.portEndSession_power (s : State) (p : Fin 8) (reason : Nat) (returned : Bool) :
    (s.portEndSession p reason returned).power = s.power := by
  unfold State.portEndSession
  split <;> simp only [State.modPort_power, State.power_mk, State.power_fold]

theorem State.portReturn_power (s : State) (p : Fin 8) (dflt : Nat) : (s.portReturn p dflt).power = s.power := by
  simp only [State.portReturn, State.portSet_power, State.portEndSession_power]

theorem State.free_power (s : State) : s.free.2.power = s.power := by
  rfl

theorem State.emit_power (s : State) (o : Out) : (s.emit o).power = s.power := by
  simp only [State.emit, State.power_mk, State.power_fold, power_ite, ite_self]

theorem State.tell_power (s : State) (p : Fin 8) (a : VAnswer) (figs : List Int) : (s.tell p a figs).power = s.power := by
  simp only [State.tell, State.free_power, State.modPort_power, State.emit_power, power_ite, ite_self]

theorem State.portBack_power (s : State) (p : Fin 8) (reason : Nat) : (s.portBack p reason).power = s.power := by
  simp only [State.portBack, State.portSet_power, State.portEndSession_power, power_ite, ite_self]

theorem State.portFault_power (s : State) (p : Fin 8) (reason : Nat) : (s.portFault p reason).power = s.power := by
  simp only [State.portFault, State.portSet_power, State.portEndSession_power, power_ite, ite_self]

theorem State.portFollows_power (s : State) (g : Fin 8) (new : GState) (cause : Nat) :
    (s.portFollows g new cause).power = s.power := by
  simp only [State.portFollows]
  split
  · simp only []
  · split <;> simp only [State.modPort_power, State.noteEnding_power, State.modSession_power, State.portSet_power,
    State.portReturn_power, State.tell_power, State.portBack_power, State.portFault_power, power_ite, ite_self]

theorem State.swFaultStates_power (s : State) : s.swFaultStates.power = s.power := by
  simp only [State.swFaultStates, State.modSw_power, State.swTurnOff_power, power_ite, ite_self, forFin_power, implies_true]

/-! ### What switching a power stage off leaves -/

/-- The parts of a state of which the power stage is no part: site time, metering and the device itself. -/
structure Site where
  strap : Strap
  clk : Clk
  nv : Nv
  sys : Sys
  twin : Twin
  metro : Metro
  bill : Bill

/-- The parts of a state that switching a power stage off leaves. -/
def State.site (s : State) : Site where
  strap := s.strap
  clk := s.clk
  nv := s.nv
  sys := s.sys
  twin := s.twin
  metro := s.metro
  bill := s.bill

/-- The parts of a state, put together again. -/
theorem State.site_fold (s : State) :
    Site.mk s.strap s.clk s.nv s.sys s.twin s.metro s.bill = s.site := rfl

/-- The parts of a state given by its fields, as record updates give it. -/
theorem State.site_mk {strap clk time launches launchCount captures capLog ccp hio queues evt nv sys seqr vbat hk therm sws budget
    fabric groups slots groupRecs ports portRecs sessionSeq cools alloc metro bill cans canCopies flink twin
    image master seqCtr out freeCount pending} :
    (State.mk strap clk time launches launchCount captures capLog ccp hio queues evt nv sys seqr vbat hk therm sws budget
      fabric groups slots groupRecs ports portRecs sessionSeq cools alloc metro bill cans canCopies flink twin
      image master seqCtr out freeCount pending).site =
      Site.mk strap clk nv sys twin metro bill := rfl

theorem site_ite {c : Prop} [Decidable c] (s t : State) : (if c then s else t).site = if c then s.site else t.site :=
  apply_ite State.site c s t

theorem site_dite {c : Prop} [Decidable c] (s : c → State) (t : ¬c → State) :
    (if h : c then s h else t h).site = if h : c then (s h).site else (t h).site :=
  apply_dite State.site c s t

theorem forFin_site {n : Nat} {s : State} {f : State → Fin n → State} (h : ∀ u i, (f u i).site = u.site) : (forFin n s f).site = s.site :=
  forFin_eq (π := State.site) h s

theorem forNums_site {l : List Nat} {s : State} {f : State → Nat → State} (h : ∀ u i, (f u i).site = u.site) :
    (forNums l s f).site = s.site :=
  forNums_eq (π := State.site) h s

theorem foldl_site {α : Type} {l : List α} {s : State} {f : State → α → State} (h : ∀ u i, (f u i).site = u.site) :
    (l.foldl f s).site = s.site :=
  foldl_eq (π := State.site) h l s

theorem State.modG_site (s : State) (g : Fin 8) (f : Group → Group) : (s.modG g f).site = s.site := by
  rfl

theorem State.modProt_site (s : State) (g : Fin 8) (f : Prot → Prot) : (s.modProt g f).site = s.site := by
  simp only [State.modProt, State.modG_site]

theorem State.capNote_site (s : State) (kind group stamp : Nat) (bytes : Bytes) :
    (s.capNote kind group stamp bytes).site = s.site := by
  rfl

theorem State.edgeNote_site (s : State) (n ev stamp : Nat) : (s.edgeNote n ev stamp).site = s.site := by
  unfold State.edgeNote
  split <;> simp only [State.capNote_site]

theorem State.modSlot_site (s : State) (n : Nat) (f : Slot → Slot) : (s.modSlot n f).site = s.site := by
  simp only [State.modSlot, State.edgeNote_site, State.site_mk, State.site_fold, site_ite, ite_self]

theorem State.modLoop_site (s : State) (g : Fin 8) (f : Loop → Loop) : (s.modLoop g f).site = s.site := by
  simp only [State.modLoop, State.modG_site]

theorem State.loopIdle_site (s : State) (g : Fin 8) : (s.loopIdle g).site = s.site := by
  simp only [State.loopIdle, State.modSlot_site, State.modLoop_site, forNums_site, implies_true]

theorem State.modPwm_site (s : State) (g : Fin 8) (f : Pwm → Pwm) : (s.modPwm g f).site = s.site := by
  simp only [State.modPwm, State.modG_site]

theorem State.pwmStop_site (s : State) (g : Fin 8) : (s.pwmStop g).site = s.site := by
  simp only [State.pwmStop, State.modSlot_site, State.modPwm_site, forNums_site, implies_true]

theorem State.groupLow_site (s : State) (g : Fin 8) : (s.groupLow g).site = s.site := by
  simp only [State.groupLow, State.modProt_site, State.loopIdle_site, State.pwmStop_site]

theorem State.site_of_power {s t : State} (h : t.power = s.power) : t.site = s.site :=
  congrArg (fun x : Power => Site.mk x.strap x.clk x.nv x.sys x.twin x.metro x.bill) h

/-! ### Loops that reach what they aim at -/

/-- What one step of a loop brings about from what the other steps keep, and what every step keeps once it holds, holds after the loop. -/
theorem foldl_reaches {σ α : Type} {P Q : σ → Prop} {f : σ → α → σ} {a : α} (hP : ∀ s b, b ≠ a → P s → P (f s b)) (hQ : ∀ s, P s → Q (f s a))
    (hk : ∀ s b, Q s → Q (f s b)) (l : List α) (s : σ) (h : Q s ∨ (P s ∧ a ∈ l)) : Q (l.foldl f s) := by
  induction l generalizing s with
  | nil =>
    obtain h | ⟨_, h⟩ := h
    · exact h
    · exact absurd h (List.not_mem_nil)
  | cons b l ih =>
    refine ih _ ?_
    obtain h | ⟨hs, hmem⟩ := h
    · exact .inl (hk s b h)
    · by_cases hb : b = a
      · subst hb
        exact .inl (hQ s hs)
      · exact .inr ⟨hP s b hb hs, (List.mem_cons.1 hmem).resolve_left (Ne.symm hb)⟩

theorem forFin_reaches {σ : Type} {n : Nat} {P Q : σ → Prop} {f : σ → Fin n → σ} (i : Fin n) (hP : ∀ s j, j ≠ i → P s → P (f s j))
    (hQ : ∀ s, P s → Q (f s i)) (hk : ∀ s j, Q s → Q (f s j)) {s : σ} (h : P s) : Q (forFin n s f) :=
  foldl_reaches hP hQ hk _ s (.inr ⟨h, List.mem_finRange i⟩)

/-! ### The outputs of a slot -/

/-- Both outputs of a slot are low. -/
def Slot.isLow (x : Slot) : Prop := x.outH = false ∧ x.outL = false

theorem Slot.fallH_outH (x : Slot) (e p : Int) : (x.fallH e p).outH = false := by
  unfold Slot.fallH
  split
  · rfl
  · next h => exact eq_false_of_ne_true h

theorem Slot.fallL_outL (x : Slot) (e p : Int) : (x.fallL e p).outL = false := by
  unfold Slot.fallL
  split
  · rfl
  · next h => exact eq_false_of_ne_true h

theorem Slot.fallL_outH (x : Slot) (e p : Int) : (x.fallL e p).outH = x.outH := by
  unfold Slot.fallL
  split <;> rfl

theorem Slot.bothLow_isLow (x : Slot) (t : Int) : (x.bothLow t).isLow :=
  ⟨(Slot.fallL_outH _ _ _).trans (x.fallH_outH t t), Slot.fallL_outL _ _ _⟩

/-- A change of one slot leaves a low slot low, where what it makes of a low slot is low. -/
theorem State.modSlot_keepsLow {s : State} {k : Fin 48} {n : Nat} {f : Slot → Slot} (hf : ∀ x, x.isLow → (f x).isLow) (h : (s.slot k).isLow) :
    ((s.modSlot n f).slot k).isLow := by
  by_cases hn : k.val = n
  · subst hn
    rw [State.slot_modSlot_self]
    exact hf _ h
  · rw [State.slot_modSlot_ne s hn]
    exact h

/-! ### A group switched off -/

section GroupLow

variable {s : State} {g : Fin 8} {k : Fin 48}

theorem State.slot_modG (s : State) (g : Fin 8) (f : Group → Group) (k : Nat) : (s.modG g f).slot k = s.slot k := rfl

theorem forNums_keepsLow {l : List Nat} {f : State → Slot → Slot} (hf : ∀ t x, x.isLow → (f t x).isLow) (h : (s.slot k).isLow) :
    ((forNums l s (fun t n => t.modSlot n (f t))).slot k).isLow :=
  List.foldlRecOn (motive := fun t : State => (t.slot k).isLow) _ _ h (fun _ ht _ _ => State.modSlot_keepsLow (hf _) ht)

/-- A loop over slots that makes each low makes those it reaches low. -/
theorem forNums_isLow {l : List Nat} {f : State → Slot → Slot} (hf : ∀ t x, (f t x).isLow) (hk : k.val ∈ l) :
    ((forNums l s (fun t n => t.modSlot n (f t))).slot k).isLow := by
  refine foldl_reaches (P := fun _ => True) (Q := fun t : State => (t.slot k).isLow) (a := k.val) (fun _ _ _ _ => trivial) (fun t _ => ?_)
    (fun t n ht => State.modSlot_keepsLow (fun x _ => hf t x) ht) l s (.inr ⟨trivial, hk⟩)
  rw [State.slot_modSlot_self]
  exact hf t _

theorem State.loopIdle_keepsLow (h : (s.slot k).isLow) : ((s.loopIdle g).slot k).isLow := by
  unfold State.loopIdle State.modLoop
  rw [State.slot_modG]
  exact forNums_keepsLow (f := fun _ x => { x with jobs := [] }) (fun _ _ hx => hx) h

theorem State.slot_pwmStop (s : State) (g : Fin 8) (k : Nat) : (s.pwmStop g).slot k = (forNums (s.gSlots g) s (fun t n => t.modSlot n
    (fun x => { (x.tripEnd (t.tripM g)).bothLow s.fine with armed := false, len := 0, trans := false, cut := none }))).slot k := by
  unfold State.pwmStop State.modPwm
  rw [State.slot_modG]

theorem State.pwmStop_keepsLow (h : (s.slot k).isLow) : ((s.pwmStop g).slot k).isLow := by
  rw [State.slot_pwmStop]
  exact forNums_keepsLow (f := fun t x => { (x.tripEnd (t.tripM g)).bothLow s.fine with armed := false, len := 0, trans := false, cut := none })
    (fun _ _ _ => Slot.bothLow_isLow _ _) h

theorem State.pwmStop_isLow (hk : k.val ∈ s.gSlots g) : ((s.pwmStop g).slot k).isLow := by
  rw [State.slot_pwmStop]
  exact forNums_isLow (f := fun t x => { (x.tripEnd (t.tripM g)).bothLow s.fine with armed := false, len := 0, trans := false, cut := none })
    (fun _ _ => Slot.bothLow_isLow _ _) hk

theorem State.slot_groupLow (s : State) (g : Fin 8) (k : Nat) : (s.groupLow g).slot k = ((s.pwmStop g).loopIdle g).slot k := by
  unfold State.groupLow State.modProt
  rw [State.slot_modG]

theorem State.groupLow_keepsLow (h : (s.slot k).isLow) : ((s.groupLow g).slot k).isLow := by
  rw [State.slot_groupLow]
  exact State.loopIdle_keepsLow (State.pwmStop_keepsLow h)

/-- Switching a group off drives its slots low (R172). -/
theorem State.groupLow_isLow (hk : k.val ∈ s.gSlots g) : ((s.groupLow g).slot k).isLow := by
  rw [State.slot_groupLow]
  exact State.loopIdle_keepsLow (State.pwmStop_isLow hk)

theorem State.groups_forSlots (l : List Nat) (s : State) (f : State → Slot → Slot) :
    (forNums l s (fun s n => s.modSlot n (f s))).groups = s.groups :=
  forNums_eq (π := State.groups) (fun t n => (t.modSlot_sameButSlots n (f t)).groups) s

end GroupLow

section GroupsKept

variable {s : State} {g h : Fin 8}

theorem State.modG_groups_ne (hne : h ≠ g) (f : Group → Group) : (s.modG g f).groups[h] = s.groups[h] :=
  Vector.getElem_set_ne g.isLt h.isLt (fun e => hne (Fin.ext e.symm))

theorem State.modG_groups_self (f : Group → Group) : (s.modG g f).groups[g] = f s.groups[g] :=
  Vector.getElem_set_self g.isLt

/-- A figure of a group that a change leaves in its own group it leaves in every group. -/
theorem State.modG_groups_keep {α : Type} {π : Group → α} {f : Group → Group} (hf : ∀ x, π (f x) = π x) :
    π (s.modG g f).groups[h] = π s.groups[h] := by
  by_cases hne : h = g
  · subst hne
    rw [State.modG_groups_self]
    exact hf _
  · rw [State.modG_groups_ne hne]

/-- A figure of a group that is of neither its generator's run, its loop nor its protection's mark of low outputs, switching off leaves. -/
theorem State.groupLow_groups_keep {α : Type} {π : Group → α} (hpwm : ∀ (x : Group) (y : Pwm), y.test = x.pwm.test → π { x with pwm := y } = π x)
    (hloop : ∀ (x : Group) (y : Loop), π { x with loop := y } = π x) (hprot : ∀ x : Group, π { x with prot := { x.prot with low := true } } = π x)
    (s : State) (g h : Fin 8) : π (s.groupLow g).groups[h] = π s.groups[h] := by
  have hstop : π (s.pwmStop g).groups[h] = π s.groups[h] := by
    refine (State.modG_groups_keep (g := g) (h := h) (π := π) ?_).trans ?_
    · exact fun x => hpwm x _ rfl
    exact congrArg (fun v : Vector Group 8 => π v[h]) (State.groups_forSlots _ _ (fun t x =>
      { (x.tripEnd (t.tripM g)).bothLow s.fine with armed := false, len := 0, trans := false, cut := none }))
  have hidle : π ((s.pwmStop g).loopIdle g).groups[h] = π (s.pwmStop g).groups[h] := by
    refine (State.modG_groups_keep (g := g) (h := h) (π := π) ?_).trans ?_
    · exact fun x => hloop x _
    exact congrArg (fun v : Vector Group 8 => π v[h]) (State.groups_forSlots _ _ (fun _ x => { x with jobs := [] }))
  unfold State.groupLow State.modProt
  exact (State.modG_groups_keep hprot).trans (hidle.trans hstop)

theorem State.groupLow_state (s : State) (g h : Fin 8) : ((s.groupLow g).groups[h]).prot.state = s.groups[h].prot.state :=
  State.groupLow_groups_keep (π := fun x => x.prot.state) (fun _ _ _ => rfl) (fun _ _ => rfl) (fun _ => rfl) s g h

theorem State.groupLow_test (s : State) (g h : Fin 8) : ((s.groupLow g).groups[h]).pwm.test = s.groups[h].pwm.test :=
  State.groupLow_groups_keep (π := fun x => x.pwm.test) (fun _ _ hy => hy) (fun _ _ => rfl) (fun _ => rfl) s g h

theorem State.groups_of_power {s t : State} (h : t.power = s.power) : t.groups = s.groups := congrArg Power.groups h

theorem State.slot_of_power {s t : State} (h : t.power = s.power) (k : Nat) : t.slot k = s.slot k :=
  congrArg (fun x : Power => vget x.slots k {}) h

/-- What a new state of a group writes there (R259); the ports that follow it leave the power stage. -/
def Prot.entered (x : Prot) (new : GState) (cause st : Nat) : Prot :=
  { x with
    state := new, cause := cause, changedSt := st
    pending := if new = .faulted then none else x.pending
    stop := if new = .rampdown then x.stop else none
    pre := none }

theorem State.setGState_power (s : State) (g : Fin 8) (new : GState) (cause : Nat) :
    (s.setGState g new cause).power = (s.modProt g (fun x => x.entered new cause s.st)).power :=
  State.portFollows_power ..

theorem State.setGState_state (s : State) (g : Fin 8) (new : GState) (cause : Nat) : ((s.setGState g new cause).groups[g]).prot.state = new := by
  rw [State.groups_of_power (s.setGState_power g new cause)]
  exact congrArg (fun x : Group => x.prot.state) (State.modG_groups_self _)

theorem State.setGState_groups_ne (hne : h ≠ g) (s : State) (new : GState) (cause : Nat) : (s.setGState g new cause).groups[h] = s.groups[h] := by
  rw [State.groups_of_power (s.setGState_power g new cause)]
  exact State.modG_groups_ne hne _

end GroupsKept

/-! ### One group's part of the device fault -/

/-- A group is switched off, and is FAULTED unless it was off, in test mode or FAULTED already (R36). -/
def State.groupFaults (s : State) (g : Fin 8) (cause : Nat) : State :=
  if s.groups[g].pwm.test || s.gState g = .off || s.gState g = .faulted then s.groupLow g
  else (((s.groupLow g).dischargeChannel g false).modProt g (fun p => { p with discharge := none })).setGState g .faulted cause

theorem State.groupFaults_site (s : State) (g : Fin 8) (cause : Nat) : (s.groupFaults g cause).site = s.site := by
  unfold State.groupFaults
  split
  · exact s.groupLow_site g
  · calc _
      _ = _ := State.site_of_power (State.setGState_power _ g _ cause)
      _ = _ := State.modProt_site _ g _
      _ = _ := State.modProt_site _ g _
      _ = _ := State.site_of_power (State.dischargeChannel_power _ g false)
      _ = _ := s.groupLow_site g

/-- Beyond switching the group off, its part of a fault moves no slot. -/
theorem State.groupFaults_slot (s : State) (g : Fin 8) (cause k : Nat) : (s.groupFaults g cause).slot k = (s.groupLow g).slot k := by
  unfold State.groupFaults
  split
  · rfl
  · rw [State.slot_of_power (State.setGState_power _ g _ cause)]
    unfold State.modProt
    rw [State.slot_modG, State.slot_modG, State.slot_of_power (State.dischargeChannel_power _ g false)]

theorem State.groupFaults_state {s : State} {g : Fin 8} (htest : s.groups[g].pwm.test = false) (hoff : s.gState g ≠ .off) (cause : Nat) :
    (s.groupFaults g cause).gState g = .faulted := by
  unfold State.groupFaults
  split
  · next h =>
    have hf : s.gState g = .faulted := by simpa [htest, hoff, -Fin.getElem_fin] using h
    exact (s.groupLow_state g g).trans hf
  · exact State.setGState_state _ g _ cause

theorem State.groupFaults_groups_ne (s : State) {g h : Fin 8} (hne : h ≠ g) (cause : Nat) :
    (s.groupFaults g cause).groups[h].pwm.test = s.groups[h].pwm.test ∧ (s.groupFaults g cause).gState h = s.gState h := by
  have hlow : ((s.groupLow g).groups[h]).pwm.test = s.groups[h].pwm.test ∧ ((s.groupLow g).groups[h]).prot.state = s.groups[h].prot.state :=
    ⟨s.groupLow_test g h, s.groupLow_state g h⟩
  unfold State.groupFaults State.gState
  split
  · exact hlow
  · rw [State.setGState_groups_ne hne]
    unfold State.modProt
    rw [State.modG_groups_ne hne, State.groups_of_power (State.dischargeChannel_power _ g false)]
    exact hlow

/-- A FAULTED group stays FAULTED. -/
theorem State.groupFaults_keepsFaulted {s : State} {h : Fin 8} (hf : s.gState h = .faulted) (g : Fin 8) (cause : Nat) :
    (s.groupFaults g cause).gState h = .faulted := by
  by_cases hne : h = g
  · subst hne
    unfold State.groupFaults
    rw [if_pos (by simp [hf])]
    exact (s.groupLow_state h h).trans hf
  · exact (s.groupFaults_groups_ne hne cause).2.trans hf

/-! ### The fault -/

/-- What the device's own status takes down at a fault (R36), before the groups, ports and channels. -/
def State.faultNoted (s : State) (level : Nat) (thermal rail : Bool) (recs : List (Nat × Bytes)) : State :=
  { s with
    sys := { s.sys with fault := some { thermal, rail, level, at_ := s.el } }
    nv := { s.nv with faultRec := some { level, thermal, st := s.st }, devFaults := s.nv.devFaults + 1, devGroups := recs }
    twin := { s.twin with leaseOut := false } }

/-- The ports whose session has not begun go back (R342). -/
def State.portsBack (s : State) : State :=
  forFin 8 s (fun s p => match s.ports[p].state with
    | .negotiating => s.portBack p 13
    | .precharge => s.portReturn p 13
    | _ => s)

theorem State.portsBack_power (s : State) : s.portsBack.power = s.power := by
  refine forFin_power (fun t p => ?_)
  split
  · exact t.portBack_power p 13
  · exact t.portReturn_power p 13
  · rfl

theorem State.deviceFault_eq {s : State} (level : Nat) (thermal rail : Bool) (hf : s.sys.fault = none) :
    ∃ recs cause, (s.deviceFault level thermal rail).power =
      (forFin 8 (s.faultNoted level thermal rail recs) (fun u g => u.groupFaults g cause)).power := by
  unfold State.deviceFault
  simp only [hf, Option.isSome_none, Bool.false_eq_true, if_false, power_ite, State.swFaultStates_power, ite_self]
  exact ⟨_, _, State.portsBack_power _⟩

/-- What the fault notes stands after it, and so does all that the power stage is no part of. -/
theorem State.deviceFault_site {s : State} (level : Nat) (thermal rail : Bool) (hf : s.sys.fault = none) :
    ∃ recs, (s.deviceFault level thermal rail).site = (s.faultNoted level thermal rail recs).site := by
  obtain ⟨recs, cause, h⟩ := State.deviceFault_eq level thermal rail hf
  exact ⟨recs, (State.site_of_power h).trans (forFin_site (fun u g => u.groupFaults_site g cause))⟩

/-- The slots of a group are low after its part of the fault, and stay low (R36, R172). -/
theorem State.faults_isLow {s : State} {k : Fin 48} {g : Fin 8} (hk : k.val ∈ s.gSlots g) (cause : Nat) :
    ((forFin 8 s (fun u g => u.groupFaults g cause)).slot k).isLow := by
  refine forFin_reaches (P := fun u : State => u.nv = s.nv) (Q := fun u : State => (u.slot k).isLow) g (fun u h _ hu => ?_) (fun u hu => ?_)
    (fun u h hu => ?_) rfl
  · exact (congrArg Site.nv (u.groupFaults_site h cause)).trans hu
  · rw [State.groupFaults_slot]
    refine State.groupLow_isLow ?_
    simpa only [State.gSlots, State.gMask, State.gCfg, hu] using hk
  · rw [State.groupFaults_slot]
    exact State.groupLow_keepsLow hu

/-- A group that was not off is FAULTED after its part of the fault, and stays so (R36). -/
theorem State.faults_state {s : State} {g : Fin 8} (htest : s.groups[g].pwm.test = false) (hoff : s.gState g ≠ .off) (cause : Nat) :
    (forFin 8 s (fun u g => u.groupFaults g cause)).gState g = .faulted := by
  refine forFin_reaches (P := fun u : State => u.groups[g].pwm.test = false ∧ u.gState g ≠ .off) (Q := fun u : State => u.gState g = .faulted) g
    (fun u h hne hu => ?_) (fun u hu => State.groupFaults_state hu.1 hu.2 cause) (fun u h hu => State.groupFaults_keepsFaulted hu h cause) ⟨htest, hoff⟩
  obtain ⟨ht, hs⟩ := u.groupFaults_groups_ne (Ne.symm hne) cause
  exact ⟨ht.trans hu.1, by rw [hs]; exact hu.2⟩

/-- The slots of a group are those whose group it is. -/
theorem State.mem_gSlots_of_slotGroup {s : State} {k : Fin 48} {g : Fin 8} (h : s.slotGroup k = some g) : k.val ∈ s.gSlots g := by
  have hbit : (s.gMask g).testBit k = true := by simpa using List.find?_some h
  exact List.mem_filter.2 ⟨List.mem_range.2 k.isLt, hbit⟩

end Sys2Proof.Machine

namespace Sys2Proof.Proofs

open Sys2Proof.Machine

/-- Settles O60: the fault switches every group off, and what follows leaves the power stage. -/
theorem deviceFaultDrivesOutputsLow : Obligations.DeviceFaultDrivesOutputsLow := by
  intro s level thermal rail hf t
  obtain ⟨recs, cause, hpower⟩ := State.deviceFault_eq level thermal rail hf
  obtain ⟨recs', hsite⟩ := State.deviceFault_site level thermal rail hf
  have htwin : t.twin = { s.twin with leaseOut := false } := congrArg Site.twin hsite
  have hsys : t.sys = { s.sys with fault := some { thermal, rail, level, at_ := s.el } } := congrArg Site.sys hsite
  refine ⟨fun n g hg => ?_, fun g htest hoff => ?_, ?_, ?_, congrArg Site.clk hsite, congrArg Site.bill hsite, congrArg Site.metro hsite⟩
  · have hlow := State.faults_isLow (s := s.faultNoted level thermal rail recs) (State.mem_gSlots_of_slotGroup (s := s) hg) cause
    have hslot : t.slots[n] = (forFin 8 (s.faultNoted level thermal rail recs) (fun u g => u.groupFaults g cause)).slot n :=
      (vget_fin ..).symm.trans (State.slot_of_power hpower n)
    rw [hslot]
    exact hlow
  · exact (congrArg (fun v : Vector Group 8 => v[g].prot.state) (State.groups_of_power hpower)).trans
      (State.faults_state (s := s.faultNoted level thermal rail recs) htest hoff cause)
  · rw [htwin]
  · rw [hsys]
    rfl

end Sys2Proof.Proofs

/-!
The rows of the pilot and of the vehicle link (R307 to R319, R339), with what the acts upon a pilot's level leave of the pilots
themselves (`State.pilots`).
-/

namespace Sys2Proof.Machine

/-- What a port's pilot shows: its last window, the plateau above, the run of levels and the level (R307 to R310). -/
def Port.pilot (x : Port) : Option Nat × Int × Option (Nat × Nat) × Nat := (x.pilotWin, x.high, x.levelRun, x.level)

/-- The pilots of the ports. -/
def State.pilots (s : State) : Vector (Option Nat × Int × Option (Nat × Nat) × Nat) 8 := s.ports.map Port.pilot

theorem State.pilots_fold (s : State) : s.ports.map Port.pilot = s.pilots := rfl

/-- The pilots of a state given by its fields, as record updates give it. -/
theorem State.pilots_mk {strap clk time launches launchCount captures capLog ccp hio queues evt nv sys seqr vbat hk therm sws budget
    fabric groups slots groupRecs ports portRecs sessionSeq cools alloc metro bill cans canCopies flink twin image
    master seqCtr out freeCount pending} :
    (State.mk strap clk time launches launchCount captures capLog ccp hio queues evt nv sys seqr vbat hk therm sws budget
      fabric groups slots groupRecs ports portRecs sessionSeq cools alloc metro bill cans canCopies flink twin image
      master seqCtr out freeCount pending).pilots = ports.map Port.pilot := rfl

theorem pilots_ite {c : Prop} [Decidable c] (s t : State) : (if c then s else t).pilots = if c then s.pilots else t.pilots :=
  apply_ite State.pilots c s t

theorem pilots_dite {c : Prop} [Decidable c] (s : c → State) (t : ¬c → State) :
    (if h : c then s h else t h).pilots = if h : c then (s h).pilots else (t h).pilots :=
  apply_dite State.pilots c s t

theorem forFin_pilots {n : Nat} {s : State} {f : State → Fin n → State} (h : ∀ u i, (f u i).pilots = u.pilots) : (forFin n s f).pilots = s.pilots :=
  forFin_eq (π := State.pilots) h s

theorem forNums_pilots {l : List Nat} {s : State} {f : State → Nat → State} (h : ∀ u i, (f u i).pilots = u.pilots) :
    (forNums l s f).pilots = s.pilots :=
  forNums_eq (π := State.pilots) h s

theorem foldl_pilots {α : Type} {l : List α} {s : State} {f : State → α → State} (h : ∀ u i, (f u i).pilots = u.pilots) :
    (l.foldl f s).pilots = s.pilots :=
  foldl_eq (π := State.pilots) h l s

/-- A change of a port that leaves its pilot leaves the pilots. -/
theorem State.modPort_pilots (s : State) (p : Fin 8) (f : Port → Port) (hwin : (f s.ports[p]).pilotWin = s.ports[p].pilotWin)
    (hhigh : (f s.ports[p]).high = s.ports[p].high) (hrun : (f s.ports[p]).levelRun = s.ports[p].levelRun)
    (hlevel : (f s.ports[p]).level = s.ports[p].level) : (s.modPort p f).pilots = s.pilots := by
  unfold State.pilots State.modPort
  ext i hi : 1
  by_cases h : p.val = i
  · subst h
    simpa [Port.pilot] using ⟨hwin, hhigh, hrun, hlevel⟩
  · simp [h]

theorem State.raiseAt_pilots (s : State) (stamp : Nat) (e : Ev) (p1 p2 flags : Nat) :
    (s.raiseAt stamp e p1 p2 flags).pilots = s.pilots := by
  rfl

theorem State.raise_pilots (s : State) (e : Ev) (p1 p2 flags : Nat) : (s.raise e p1 p2 flags).pilots = s.pilots := by
  simp only [State.raise, State.raiseAt_pilots]

theorem State.portSet_pilots (s : State) (p : Fin 8) (st : PState) (reason : Nat) :
    (s.portSet p st reason).pilots = s.pilots := by
  simp only [State.portSet, State.raise_pilots, State.modPort_pilots, State.pilots_mk, State.pilots_fold, pilots_ite,
    ite_self, State.modPort_pilots]

theorem State.portConnect_pilots (s : State) (p : Fin 8) : (s.portConnect p).pilots = s.pilots := by
  simp only [State.portConnect, State.portSet_pilots, State.modPort_pilots, pilots_ite, ite_self, State.modPort_pilots]

theorem State.portEndSession_pilots (s : State) (p : Fin 8) (reason : Nat) (returned : Bool) :
    (s.portEndSession p reason returned).pilots = s.pilots := by
  unfold State.portEndSession
  split <;> simp only [State.modPort_pilots, State.pilots_mk, State.pilots_fold, State.modPort_pilots]

theorem State.recordWrite_pilots (s : State) (g : Fin 8) (b : Bytes) : (s.recordWrite g b).pilots = s.pilots := by
  rfl

theorem State.groupRecord_pilots (s : State) (g : Fin 8) (st cause stCode cls slot kind : Nat) :
    (s.groupRecord g st cause stCode cls slot kind).pilots = s.pilots := by
  simp only [State.groupRecord, State.recordWrite_pilots, State.pilots_mk, State.pilots_fold, pilots_ite, ite_self]

theorem State.modSw_pilots (s : State) (n : Fin 24) (f : SwCh → SwCh) : (s.modSw n f).pilots = s.pilots := by
  rfl

theorem State.swState_pilots (s : State) (n : Fin 24) (st : SwState) : (s.swState n st).pilots = s.pilots := by
  simp only [State.swState, State.raise_pilots, State.modSw_pilots, pilots_ite, ite_self]

theorem State.pumpTurnsOn_pilots (s : State) (n : Fin 24) : (s.pumpTurnsOn n).pilots = s.pilots := by
  refine forFin_pilots (fun u p => ?_)
  dsimp only
  split
  · split <;> rfl
  · rfl


theorem State.swWindow_pilots (s : State) (n : Fin 24) : (s.swWindow n).pilots = s.pilots := by
  simp only [State.swWindow, State.swState_pilots, State.modSw_pilots]

theorem State.swTurnOn_pilots (s : State) (n : Fin 24) (slew : Bool) : (s.swTurnOn n slew).pilots = s.pilots := by
  simp only [State.swTurnOn, State.modSw_pilots, State.pumpTurnsOn_pilots, State.swState_pilots, State.swWindow_pilots,
    pilots_ite, ite_self]

theorem State.swTurnOff_pilots (s : State) (n : Fin 24) (st : SwState) : (s.swTurnOff n st).pilots = s.pilots := by
  simp only [State.swTurnOff, State.modSw_pilots, State.swState_pilots, pilots_ite, ite_self]

theorem State.swFirstEdge_pilots (s : State) (n : Fin 24) : (s.swFirstEdge n).pilots = s.pilots := by
  simp only [State.swFirstEdge, State.pumpTurnsOn_pilots, State.modSw_pilots, State.swWindow_pilots, pilots_ite, ite_self]

theorem State.swCommand_pilots (s : State) (n : Fin 24) (cmd : SwCmd) (slew assigned : Bool) :
    (s.swCommand n cmd slew assigned).pilots = s.pilots := by
  simp only [State.swCommand, State.modSw_pilots, pilots_ite]
  repeat' split
  all_goals simp only [State.modSw_pilots, State.swState_pilots, State.swTurnOn_pilots, State.swTurnOff_pilots,
    State.swFirstEdge_pilots]

theorem State.swDrive_pilots (s : State) (n : Fin 24) (duty : Nat) : (s.swDrive n duty).pilots = s.pilots := by
  simp only [State.swDrive, State.swCommand_pilots, pilots_ite, ite_self]

theorem State.dischargeChannel_pilots (s : State) (g : Fin 8) (on : Bool) : (s.dischargeChannel g on).pilots = s.pilots := by
  unfold State.dischargeChannel
  split <;> simp only [State.swDrive_pilots]

theorem State.modG_pilots (s : State) (g : Fin 8) (f : Group → Group) : (s.modG g f).pilots = s.pilots := by
  rfl

theorem State.modProt_pilots (s : State) (g : Fin 8) (f : Prot → Prot) : (s.modProt g f).pilots = s.pilots := by
  simp only [State.modProt, State.modG_pilots]

theorem State.capNote_pilots (s : State) (kind group stamp : Nat) (bytes : Bytes) :
    (s.capNote kind group stamp bytes).pilots = s.pilots := by
  rfl

theorem State.edgeNote_pilots (s : State) (n ev stamp : Nat) : (s.edgeNote n ev stamp).pilots = s.pilots := by
  unfold State.edgeNote
  split <;> simp only [State.capNote_pilots]

theorem State.modSlot_pilots (s : State) (n : Nat) (f : Slot → Slot) : (s.modSlot n f).pilots = s.pilots := by
  simp only [State.modSlot, State.edgeNote_pilots, State.pilots_mk, State.pilots_fold, pilots_ite, ite_self]

theorem State.modLoop_pilots (s : State) (g : Fin 8) (f : Loop → Loop) : (s.modLoop g f).pilots = s.pilots := by
  simp only [State.modLoop, State.modG_pilots]

theorem State.loopIdle_pilots (s : State) (g : Fin 8) : (s.loopIdle g).pilots = s.pilots := by
  simp only [State.loopIdle, State.modSlot_pilots, State.modLoop_pilots, forNums_pilots, implies_true]

theorem State.modPwm_pilots (s : State) (g : Fin 8) (f : Pwm → Pwm) : (s.modPwm g f).pilots = s.pilots := by
  simp only [State.modPwm, State.modG_pilots]

theorem State.pwmStop_pilots (s : State) (g : Fin 8) : (s.pwmStop g).pilots = s.pilots := by
  simp only [State.pwmStop, State.modSlot_pilots, State.modPwm_pilots, forNums_pilots, implies_true]

theorem State.groupLow_pilots (s : State) (g : Fin 8) : (s.groupLow g).pilots = s.pilots := by
  simp only [State.groupLow, State.modProt_pilots, State.loopIdle_pilots, State.pwmStop_pilots]

theorem State.noteEnding_pilots (s : State) (p : Fin 8) (cls reason rank : Nat) :
    (s.noteEnding p cls reason rank).pilots = s.pilots := by
  simp only [State.noteEnding, State.modPort_pilots, State.modPort_pilots]

theorem State.modSession_pilots (s : State) (p : Fin 8) (f : Session → Session) : (s.modSession p f).pilots = s.pilots := by
  simp only [State.modSession, State.modPort_pilots, State.modPort_pilots]

theorem State.portReturn_pilots (s : State) (p : Fin 8) (dflt : Nat) : (s.portReturn p dflt).pilots = s.pilots := by
  simp only [State.portReturn, State.portSet_pilots, State.portEndSession_pilots]

theorem State.free_pilots (s : State) : s.free.2.pilots = s.pilots := by
  rfl

theorem State.emit_pilots (s : State) (o : Out) : (s.emit o).pilots = s.pilots := by
  simp only [State.emit, State.pilots_mk, State.pilots_fold, pilots_ite, ite_self]

theorem State.tell_pilots (s : State) (p : Fin 8) (a : VAnswer) (figs : List Int) : (s.tell p a figs).pilots = s.pilots := by
  simp only [State.tell, State.free_pilots, State.modPort_pilots, State.emit_pilots, pilots_ite, ite_self, State.modPort_pilots]

theorem State.portBack_pilots (s : State) (p : Fin 8) (reason : Nat) : (s.portBack p reason).pilots = s.pilots := by
  simp only [State.portBack, State.portSet_pilots, State.portEndSession_pilots, pilots_ite, ite_self]

theorem State.portFault_pilots (s : State) (p : Fin 8) (reason : Nat) : (s.portFault p reason).pilots = s.pilots := by
  simp only [State.portFault, State.portSet_pilots, State.portEndSession_pilots, pilots_ite, ite_self]

theorem State.portFollows_pilots (s : State) (g : Fin 8) (new : GState) (cause : Nat) :
    (s.portFollows g new cause).pilots = s.pilots := by
  simp only [State.portFollows]
  split
  · simp only []
  · split <;> simp only [State.modPort_pilots, State.noteEnding_pilots, State.modSession_pilots, State.portSet_pilots,
    State.portReturn_pilots, State.tell_pilots, State.portBack_pilots, State.portFault_pilots, pilots_ite, ite_self,
    State.modPort_pilots]

theorem State.setGState_pilots (s : State) (g : Fin 8) (new : GState) (cause : Nat) :
    (s.setGState g new cause).pilots = s.pilots := by
  simp only [State.setGState, State.raise_pilots, State.modProt_pilots, State.portFollows_pilots]

theorem State.toDischarge_pilots (s : State) (g : Fin 8) (cause : Nat) : (s.toDischarge g cause).pilots = s.pilots := by
  simp only [State.toDischarge, State.dischargeChannel_pilots, State.groupLow_pilots, State.modProt_pilots,
    State.setGState_pilots]

theorem State.toFaulted_pilots (s : State) (g : Fin 8) (cause : Nat) (keepOn : Bool) :
    (s.toFaulted g cause keepOn).pilots = s.pilots := by
  simp only [State.toFaulted, State.groupRecord_pilots, State.groupLow_pilots, State.modProt_pilots,
    State.dischargeChannel_pilots, State.setGState_pilots, pilots_ite, ite_self]

theorem State.toOff_pilots (s : State) (g : Fin 8) (cause : Nat) : (s.toOff g cause).pilots = s.pilots := by
  simp only [State.toOff, State.dischargeChannel_pilots, State.groupLow_pilots, State.modProt_pilots, State.setGState_pilots,
    State.toFaulted_pilots, pilots_ite, ite_self]

theorem State.applyStop_pilots (s : State) (g : Fin 8) (cls : Nat) : (s.applyStop g cls).pilots = s.pilots := by
  simp only [State.applyStop, State.modProt_pilots, State.modLoop_pilots, State.groupLow_pilots, pilots_ite, ite_self]

theorem whenDo_pilots (c : Bool) (f : State → State) (s : State) (hf : ∀ u, (f u).pilots = u.pilots) :
    (whenDo c f s).pilots = s.pilots := by
  simp only [whenDo, pilots_ite, ite_self, hf]

theorem State.overrideNoted_pilots (s : State) (g : Fin 8) (cls cause : Nat) :
    (s.overrideNoted g cls cause).pilots = s.pilots := by
  unfold State.overrideNoted
  split <;> simp only [whenDo_pilots, State.noteEnding_pilots, implies_true]

theorem State.stopGroup_pilots (s : State) (g : Fin 8) (cls cause : Nat) : (s.stopGroup g cls cause).1.pilots = s.pilots := by
  simp only [State.stopGroup]
  repeat' split
  all_goals simp only [State.groupRecord_pilots, State.toDischarge_pilots, State.toOff_pilots, State.modProt_pilots,
    State.applyStop_pilots, State.setGState_pilots, State.overrideNoted_pilots]

theorem State.portStopGroup_pilots (s : State) (p : Fin 8) (cls : Nat) : (s.portStopGroup p cls).pilots = s.pilots := by
  unfold State.portStopGroup
  split <;> simp only [State.stopGroup_pilots]

theorem State.portStop_pilots (s : State) (p : Fin 8) (cls reason rank : Nat) :
    (s.portStop p cls reason rank).pilots = s.pilots := by
  simp only [State.portStop]
  repeat' split
  all_goals simp only [State.portEndSession_pilots, State.portStopGroup_pilots, State.modSession_pilots,
    State.noteEnding_pilots, State.portBack_pilots, State.modPort_pilots, State.portReturn_pilots, State.stopGroup_pilots,
    whenDo_pilots, implies_true, State.modPort_pilots]

theorem State.rematch_pilots (s : State) (p : Fin 8) : (s.rematch p).pilots = s.pilots := by
  simp only [State.rematch, State.modPort_pilots, pilots_ite, ite_self, State.modPort_pilots]

theorem State.levelActs_pilots (s : State) (p : Fin 8) (lv : Nat) : (s.levelActs p lv).pilots = s.pilots := by
  simp only [State.levelActs, State.portConnect_pilots, State.portStop_pilots, State.rematch_pilots, pilots_ite, ite_self]
  repeat' split
  all_goals simp only [State.portSet_pilots, State.portStop_pilots, State.modPort_pilots, State.modPort_pilots]

theorem State.diodeCheck_pilots (s : State) (p : Fin 8) (lo : Option Int) : (s.diodeCheck p lo).pilots = s.pilots := by
  simp only [State.diodeCheck, State.modPort_pilots, State.portStop_pilots, pilots_ite, ite_self, State.modPort_pilots]

/-! ### A pilot window (R307 to R310) -/

section Window

variable {s : State} {p : Fin 8}

theorem State.pilot_of_pilots {t : State} (h : t.pilots = s.pilots) (p : Fin 8) : t.ports[p].pilot = s.ports[p].pilot := by
  simpa [State.pilots] using congrArg (fun v : Vector _ 8 => v[p]) h

theorem State.modPort_ports_self (f : Port → Port) : (s.modPort p f).ports[p] = f s.ports[p] :=
  Vector.getElem_set_self p.isLt

/-- A window is taken down: after a gap the runs begin again, and the plateaus are noted. -/
def State.pilotNoted (s : State) (p : Fin 8) (k : Nat) (hi lo : Option Int) (l : List (Nat × Int)) : State :=
  let s := if s.ports[p].pilotWin == some (k - 1) then s
    else s.modPort p (fun x => { x with levelRun := none, diodeRun := 0, diodeOk := 0 })
  let s := s.modPort p (fun x => { x with pilotWin := some k, high := hi.getD x.high, low := lo.getD x.low })
  match s.portGroup p with
  | none => s
  | some g => l.foldl (fun s (x : Nat × Int) => s.capNote 4 g x.1 (le 8 x.1 ++ le 1 p ++ [0] ++ lei 2 (x.2 * u8 (s.pCfg p) 7) ++ le 4 0)) s

/-- A plateau above is classified, counted and acted upon. -/
def State.pilotLevelled (s : State) (p : Fin 8) (v : Int) (lo : Option Int) (w : Nat) : State :=
  let x := s.ports[p]
  let lv := classifyLevel (portThrs (s.pCfg p)) x.level v
  let run := runOn x.levelRun lv
  let s := s.modPort p (fun y => { y with levelRun := some (lv, run) })
  let isNew := decide (3 ≤ run) && lv != x.level
  let s := if isNew then
      (s.raise (.pilotChange p) (x.level + 256 * lv) w).modPort p (fun y => { y with level := lv })
    else s
  let s := if isNew || (decide (3 ≤ run) && x.state == .idle) then s.levelActs p lv else s
  s.diodeCheck p lo

theorem State.pilotPeriod_of_plateau {l : List (Nat × Int)} {v : Int} {lo : Option Int} (hcfg : (s.nv.cfg.port[p]).isSome = true)
    (hms : s.atMultiple 1000000 = true) (hwin : s.ports[p].pilotWin ≠ some (s.st / 1000000)) (hst : 1000000 ≤ s.st)
    (hpl : s.plateaus p ((s.st / 1000000 - 1) * 1000000) l = (some v, lo)) :
    s.pilotPeriod p l = (s.pilotNoted p (s.st / 1000000) (some v) lo l).pilotLevelled p v lo ((s.st / 1000000 - 1) * 1000000) := by
  have hgate : ¬ ((s.nv.cfg.port[p]).isNone || !(s.atMultiple 1000000) || s.ports[p].pilotWin == some (s.st / 1000000) ||
      decide (s.st / 1000000 = 0)) = true := by
    have hk : s.st / 1000000 ≠ 0 := by omega
    have hsome : (s.nv.cfg.port[p]).isNone = false := by rw [← Option.not_isSome, hcfg]; rfl
    simp [hsome, hms, hwin, hk, -Fin.getElem_fin, -Option.isNone_iff_eq_none]
  unfold State.pilotPeriod
  dsimp only
  rw [if_neg hgate, hpl]
  rfl

theorem State.pilotNoted_pilot {k : Nat} {hi lo : Option Int} {l : List (Nat × Int)} :
    (s.pilotNoted p k hi lo l).ports[p].pilot = (some k, hi.getD s.ports[p].high,
      if s.ports[p].pilotWin == some (k - 1) then s.ports[p].levelRun else none, s.ports[p].level) := by
  unfold State.pilotNoted
  extract_lets a b
  have ha : a.ports[p].pilot = (s.ports[p].pilotWin, s.ports[p].high,
      if s.ports[p].pilotWin == some (k - 1) then s.ports[p].levelRun else none, s.ports[p].level) := by
    simp only [a]
    split
    · rfl
    · rw [State.modPort_ports_self]
      rfl
  have hb : b.ports[p].pilot = (some k, hi.getD s.ports[p].high,
      if s.ports[p].pilotWin == some (k - 1) then s.ports[p].levelRun else none, s.ports[p].level) := by
    simp only [Port.pilot, Prod.mk.injEq] at ha
    obtain ⟨-, hhigh, hrun, hlevel⟩ := ha
    rw [State.modPort_ports_self, Port.pilot, hhigh, hrun, hlevel]
  clear_value b
  split
  · exact hb
  · exact (State.pilot_of_pilots (foldl_pilots (fun u x => u.capNote_pilots ..)) p).trans hb

theorem State.pilotNoted_nv {k : Nat} {hi lo : Option Int} {l : List (Nat × Int)} : (s.pilotNoted p k hi lo l).nv = s.nv := by
  unfold State.pilotNoted
  extract_lets a b
  have hb : b.nv = s.nv := by
    simp only [b, a]
    split <;> rfl
  clear_value b
  split
  · exact hb
  · refine (foldl_eq (π := State.nv) (fun u x => ?_) l b).trans hb
    rfl

theorem State.pilotLevelled_pilot {v : Int} {lo : Option Int} {w : Nat} :
    (s.pilotLevelled p v lo w).ports[p].pilot =
      (s.ports[p].pilotWin, s.ports[p].high,
        some (classifyLevel (portThrs (s.pCfg p)) s.ports[p].level v,
          runOn s.ports[p].levelRun (classifyLevel (portThrs (s.pCfg p)) s.ports[p].level v)),
        if 3 ≤ runOn s.ports[p].levelRun (classifyLevel (portThrs (s.pCfg p)) s.ports[p].level v) then
          classifyLevel (portThrs (s.pCfg p)) s.ports[p].level v else s.ports[p].level) := by
  unfold State.pilotLevelled
  extract_lets x lv run a isNew b c
  have hb : b.ports[p].pilot = (s.ports[p].pilotWin, s.ports[p].high, some (lv, run), if 3 ≤ run then lv else s.ports[p].level) := by
    have ha : a.ports[p] = { x with levelRun := some (lv, run) } := State.modPort_ports_self _
    simp only [b]
    split
    · next hnew =>
      have hrun : 3 ≤ run := by
        simp only [isNew, Bool.and_eq_true, decide_eq_true_eq] at hnew
        exact hnew.1
      rw [State.modPort_ports_self, if_pos hrun]
      show Port.pilot { a.ports[p] with level := lv } = _
      rw [ha]
      rfl
    · next hold =>
      rw [ha]
      by_cases hrun : 3 ≤ run
      · have hsame : lv = s.ports[p].level := by
          refine Classical.byContradiction fun hne => ?_
          exact hold (by simp [isNew, hrun, hne, x, -Fin.getElem_fin])
        rw [if_pos hrun, hsame]
        rfl
      · rw [if_neg hrun]
        rfl
  have hc : c.pilots = b.pilots := by
    simp only [c]
    split
    · exact b.levelActs_pilots p lv
    · rfl
  exact (State.pilot_of_pilots ((c.diodeCheck_pilots p lo).trans hc) p).trans hb

end Window

end Sys2Proof.Machine

namespace Sys2Proof.Proofs

open Sys2Proof.Machine

/-- Settles O26, row by row. -/
theorem vehicleLinkRowsComplete : Obligations.VehicleLinkRowsComplete := by
  intro s p hrun
  refine ⟨fun l v hcfg hms hwin hst hpl => ?_, fun f hon hready hk hlen => ?_, fun f hon hready hk hchunk hwhat => ?_, fun hphys hready => ?_,
    fun hlink htcp => ?_, fun hlink => ?_, fun u hstate htcp hses hserved => ?_, fun hses htcp => ?_⟩
  · intro lv run
    refine ⟨s.pilotPeriod p l, ?_, ?_⟩
    · unfold exec execPilotPeriodClassify
      simp only [hrun]
    · have hnv := State.pilotNoted_nv (s := s) (p := p) (k := s.st / 1000000) (hi := some v) (lo := none) (l := l)
      have hnoted := State.pilotNoted_pilot (s := s) (p := p) (k := s.st / 1000000) (hi := some v) (lo := none) (l := l)
      have hlevelled := State.pilotLevelled_pilot (s := s.pilotNoted p (s.st / 1000000) (some v) none l) (p := p) (v := v) (lo := none)
        (w := (s.st / 1000000 - 1) * 1000000)
      have hcfg' : (s.pilotNoted p (s.st / 1000000) (some v) none l).pCfg p = s.pCfg p := by simp only [State.pCfg, hnv]
      rw [← State.pilotPeriod_of_plateau hcfg hms hwin hst hpl, hcfg'] at hlevelled
      simp only [Port.pilot, Prod.mk.injEq] at hnoted hlevelled
      obtain ⟨hnwin, hnhigh, hnrun, hnlevel⟩ := hnoted
      obtain ⟨hlwin, hlhigh, hlrun, hllevel⟩ := hlevelled
      have hrunOn : runOn (if s.ports[p].pilotWin == some (s.st / 1000000 - 1) then s.ports[p].levelRun else none) lv = run := by
        by_cases hw : s.ports[p].pilotWin = some (s.st / 1000000 - 1)
        · simp only [run, runOn, hw, beq_self_eq_true, if_true] <;> rfl
        · simp only [run, runOn, beq_eq_false_iff_ne.2 hw, hw, Bool.false_eq_true, if_false] <;> rfl
      rw [hnlevel, hnrun, hrunOn] at hlrun hllevel
      exact ⟨hlwin.trans hnwin, hlhigh.trans hnhigh, hlrun, hllevel⟩
  · intro u
    have hframe := State.vlFrame_of_framed hon hready hk hlen
    refine ⟨fun hw => ?_, fun d hw hm => ?_, fun hw hphys htcp => ?_, fun h hw hphys htcp hoff hcred => ?_⟩
    · exact exec_of_live (f := (·.vlFrame p f)) rfl hrun (by rw [hframe, hw])
    · refine exec_of_live (f := (·.vlFrame p f)) rfl hrun ?_
      simp only [Fin.getElem_fin] at hm
      rw [hframe, hw]
      simp [State.matchEnd, hm, u] <;> rfl
    · simp only [Fin.getElem_fin] at hphys htcp
      exact exec_of_live (f := (·.vlFrame p f)) rfl hrun (by rw [hframe, hw]; simp [State.connect, hphys, htcp, u])
    · simp only [Fin.getElem_fin] at hphys htcp
      exact exec_of_live (f := (·.vlFrame p f)) rfl hrun (by rw [hframe, hw]; simp [State.connect, hphys, htcp, hoff, hcred, u])
  · refine exec_of_live (f := (·.vlFrame p f)) rfl hrun ?_
    simp [State.vlFrame, State.vlHeard, hon, hready, hk, hchunk, hwhat, -Fin.getElem_fin]
  · exact exec_of_live rfl hrun (by simp [hphys, hready, -Fin.getElem_fin])
  · intro u
    simp only [Fin.getElem_fin] at hlink htcp
    refine exec_of_live (f := whenDo (s.linkLost p .tcp) (·.linkDown p .tcp)) rfl hrun ?_
    simp [State.linkLost, State.linkDown, hlink, htcp, u]
  · intro u v
    simp only [Fin.getElem_fin] at hlink
    refine ⟨fun hon hheard => ?_, fun hk hphys => ?_⟩
    · simp only [Fin.getElem_fin] at hon hheard
      refine exec_of_live (f := whenDo (s.linkLost p .silence) (·.linkDown p .silence)) rfl hrun ?_
      simp [State.linkLost, State.linkDown, hlink, hon, hheard, u, v, Port.unlinked]
    · simp only [Fin.getElem_fin] at hphys
      refine exec_of_live (f := whenDo (s.linkLost p .matching) (·.linkDown p .matching)) rfl hrun ?_
      simp [State.linkLost, State.linkDown, hlink, hk, hphys, u, v, Port.unlinked]
  · intro w c e v
    simp only [Fin.getElem_fin] at hstate htcp hses
    refine exec_of_live (f := fun s => (s.overLink p).sessionSetup p u) rfl hrun ?_
    obtain ⟨hseq, htime, hmetro⟩ := s.overLink_frame p
    have hgate : ((s.overLink p).ports[(p : Nat)].state == .connected && (s.overLink p).ports[(p : Nat)].tcp &&
        (s.overLink p).ports[(p : Nat)].session.isNone && (s.overLink p).portServed p) = true := by simp [hstate, htcp, hses, hserved]
    have hmin (n : Nat) : (min n 3 = 0) = (n = 0) := propext (by omega)
    simp only [State.sessionSetup, Fin.getElem_fin, hgate, Bool.not_true, Bool.false_eq_true, if_false, hseq, htime, hmetro, hmin, v, e, c, w,
      State.protoOn_overLink, State.portEnergy_overLink, State.overLink_st, State.overLink_el]
  · intro u
    simp only [Fin.getElem_fin] at hses htcp
    refine exec_of_live (f := (·.vehicleStop p)) rfl hrun ?_
    have hses' : s.ports[(p : Nat)].session ≠ none := Option.isSome_iff_ne_none.1 hses
    simp [State.vehicleStop, hses', htcp, u] <;> rfl

end Sys2Proof.Proofs

/-!
The rows of the metrology partition (R62, R385, R387, R393), with what a sample's work on lanes, meters and billing leaves of the mark of
the sample itself (`State.sampled`).
-/

namespace Sys2Proof.Machine

/-- What tells which sample was the latest: the clock, and the sample's time and number. -/
structure Sampled where
  clk : Clk
  lastSt : Option Nat
  index : Nat
  lastFix : Nat

/-- The mark of the latest sample, and the time. -/
def State.sampled (s : State) : Sampled where
  clk := s.clk
  lastSt := s.metro.lastSt
  index := s.metro.index
  lastFix := s.metro.lastFix

/-- The parts of a state, put together again. -/
theorem State.sampled_fold (s : State) :
    Sampled.mk s.clk s.metro.lastSt s.metro.index s.metro.lastFix = s.sampled := rfl

/-- The parts of a state given by its fields, as record updates give it. -/
theorem State.sampled_mk {strap clk time launches launchCount captures capLog ccp hio queues evt nv sys seqr vbat hk therm sws budget
    fabric groups slots groupRecs ports portRecs sessionSeq cools alloc metro bill cans canCopies flink twin
    image master seqCtr out freeCount pending} :
    (State.mk strap clk time launches launchCount captures capLog ccp hio queues evt nv sys seqr vbat hk therm sws budget
      fabric groups slots groupRecs ports portRecs sessionSeq cools alloc metro bill cans canCopies flink twin
      image master seqCtr out freeCount pending).sampled =
      Sampled.mk clk metro.lastSt metro.index metro.lastFix := rfl

theorem sampled_ite {c : Prop} [Decidable c] (s t : State) : (if c then s else t).sampled = if c then s.sampled else t.sampled :=
  apply_ite State.sampled c s t

theorem sampled_dite {c : Prop} [Decidable c] (s : c → State) (t : ¬c → State) :
    (if h : c then s h else t h).sampled = if h : c then (s h).sampled else (t h).sampled :=
  apply_dite State.sampled c s t

theorem forFin_sampled {n : Nat} {s : State} {f : State → Fin n → State} (h : ∀ u i, (f u i).sampled = u.sampled) : (forFin n s f).sampled = s.sampled :=
  forFin_eq (π := State.sampled) h s

theorem forNums_sampled {l : List Nat} {s : State} {f : State → Nat → State} (h : ∀ u i, (f u i).sampled = u.sampled) :
    (forNums l s f).sampled = s.sampled :=
  forNums_eq (π := State.sampled) h s

theorem foldl_sampled {α : Type} {l : List α} {s : State} {f : State → α → State} (h : ∀ u i, (f u i).sampled = u.sampled) :
    (l.foldl f s).sampled = s.sampled :=
  foldl_eq (π := State.sampled) h l s

theorem State.billCommit_sampled (s : State) (kind : Nat) : (s.billCommit kind).sampled = s.sampled := by
  rfl

theorem State.modB_sampled (s : State) (f : BState → BState) : (s.modB f).sampled = s.sampled := by
  rfl

theorem State.demandOpen_sampled (s : State) (x flags : Nat) : (s.demandOpen x flags).sampled = s.sampled := by
  simp only [State.demandOpen, State.modB_sampled]

theorem State.raiseAt_sampled (s : State) (stamp : Nat) (e : Ev) (p1 p2 flags : Nat) :
    (s.raiseAt stamp e p1 p2 flags).sampled = s.sampled := by
  rfl

theorem State.raise_sampled (s : State) (e : Ev) (p1 p2 flags : Nat) : (s.raise e p1 p2 flags).sampled = s.sampled := by
  simp only [State.raise, State.raiseAt_sampled]

theorem Metro.place_lastSt (m : Metro) (r : MRec) : (m.place r).lastSt = m.lastSt := by
  unfold Metro.place
  repeat' split
  all_goals rfl

theorem Metro.place_index (m : Metro) (r : MRec) : (m.place r).index = m.index := by
  unfold Metro.place
  repeat' split
  all_goals rfl

theorem Metro.place_lastFix (m : Metro) (r : MRec) : (m.place r).lastFix = m.lastFix := by
  unfold Metro.place
  repeat' split
  all_goals rfl

theorem State.mrec_sampled (s : State) (code p1 p2 st : Nat) : (s.mrec code p1 p2 st).sampled = s.sampled := by
  simp only [State.mrec, State.raise_sampled, State.sampled_mk, State.sampled_fold, sampled_ite, ite_self, Metro.place_lastSt,
    Metro.place_index,
    Metro.place_lastFix]


theorem State.dfltUpdate_sampled (s : State) : s.dfltUpdate.sampled = s.sampled := by
  simp only [State.dfltUpdate, State.modB_sampled, State.sampled_mk, State.sampled_fold]
  split <;> simp only [State.raise_sampled, State.mrec_sampled]

theorem State.keepClosures_sampled (s : State) : s.keepClosures.sampled = s.sampled := by
  simp only [State.keepClosures]
  split <;> simp only [State.modB_sampled]

theorem State.modPort_sampled (s : State) (p : Fin 8) (f : Port → Port) : (s.modPort p f).sampled = s.sampled := by
  rfl

theorem State.modSession_sampled (s : State) (p : Fin 8) (f : Session → Session) : (s.modSession p f).sampled = s.sampled := by
  simp only [State.modSession, State.modPort_sampled]

theorem State.markOverlap_sampled (s : State) (start cut : Nat) : (s.markOverlap start cut).sampled = s.sampled := by
  simp only [State.markOverlap, State.modSession_sampled, State.sampled_mk, State.sampled_fold, forFin_sampled, implies_true]

theorem State.unregister_sampled (s : State) (c : Commit) (cut : Nat) (noBeat : Bool) :
    (s.unregister c cut noBeat).sampled = s.sampled := by
  simp only [State.unregister, State.modB_sampled, State.markOverlap_sampled, State.raise_sampled, State.mrec_sampled,
    State.sampled_mk, State.sampled_fold]

theorem State.demandClose_sampled (s : State) (close flags : Nat) (mode : BoundMode) :
    (s.demandClose close flags mode).sampled = s.sampled := by
  simp only [State.demandClose]
  split
  · simp only []
  · split <;> simp only [State.modB_sampled, State.sampled_mk, State.sampled_fold]

theorem State.periodClose_sampled (s : State) (x cause : Nat) (mode : BoundMode) :
    (s.periodClose x cause mode).sampled = s.sampled := by
  simp only [State.periodClose, State.modB_sampled, State.mrec_sampled, State.sampled_mk, State.sampled_fold]

theorem State.activate_sampled (s : State) (x : Nat) (mode : BoundMode) : (s.activate x mode).sampled = s.sampled := by
  unfold State.activate
  extract_lets u
  have hu : u.sampled = s.sampled := by
    simp only [u]
    split
    · simp only [State.modB_sampled, State.mrec_sampled, State.dfltUpdate_sampled, State.demandOpen_sampled,
      State.demandClose_sampled, sampled_ite, ite_self]
    · rfl
  clear_value u
  split
  · simp only [State.modB_sampled, State.mrec_sampled, sampled_ite, ite_self, hu]
  · exact hu

theorem State.boundary_sampled (s : State) (x : Nat) (mode : BoundMode) : (s.boundary x mode).sampled = s.sampled := by
  unfold State.boundary
  split <;> simp only [State.demandClose_sampled, State.modB_sampled, State.periodClose_sampled, State.activate_sampled,
    State.demandOpen_sampled, sampled_ite, ite_self]

theorem State.boundaries_sampled (mode : BoundMode) (now n : Nat) (s : State) :
    (State.boundaries mode now n s).2.sampled = s.sampled := by
  induction n generalizing s with
  | zero => rfl
  | succ n ih =>
    unfold State.boundaries
    split
    · split
      · exact (ih _).trans (s.boundary_sampled _ mode)
      · rfl
    · rfl

theorem State.demandNow_sampled (s : State) (at_ now : Nat) (mode : BoundMode) :
    (s.demandNow at_ now mode).sampled = s.sampled := by
  simp only [State.demandNow]
  repeat' split
  all_goals simp only [State.demandClose_sampled, State.modB_sampled, State.demandOpen_sampled]

theorem State.billRestart_sampled (s : State) : s.billRestart.sampled = s.sampled := by
  simp only [State.billRestart]
  split <;> simp only [State.billCommit_sampled, State.demandOpen_sampled, State.dfltUpdate_sampled, State.modB_sampled,
    State.keepClosures_sampled, State.unregister_sampled, State.boundaries_sampled, State.demandNow_sampled,
    State.raise_sampled, State.mrec_sampled, State.sampled_mk, State.sampled_fold, sampled_ite, ite_self]

theorem State.modMeter_sampled (s : State) (m : Fin 12) (f : Meter → Meter) : (s.modMeter m f).sampled = s.sampled := by
  rfl

theorem State.addTotals_sampled (s : State) (m : Fin 12) (g : Vector Acc 16) : (s.addTotals m g).sampled = s.sampled := by
  simp only [State.addTotals, State.modMeter_sampled]

theorem State.billAdvance_sampled (s : State) (now : Nat) : (s.billAdvance now).sampled = s.sampled := by
  simp only [State.billAdvance, State.boundaries_sampled]

theorem State.balance_sampled (s : State) (a : Fin 256) (bal : Int) (port : Nat) :
    (s.balance a bal port).sampled = s.sampled := by
  simp only [State.balance, State.modB_sampled, State.raise_sampled, State.mrec_sampled, sampled_ite, ite_self]

theorem State.charge_sampled (s : State) (p : Fin 8) (tariff k : Nat) (isImport : Bool) :
    (s.charge p tariff k isImport).sampled = s.sampled := by
  unfold State.charge
  split <;> simp only [State.modB_sampled, State.balance_sampled, sampled_ite, ite_self]

theorem State.bookEnergy_sampled (s : State) (m : Fin 12) (start : Nat) (imp exp : Acc) :
    (s.bookEnergy m start imp exp).sampled = s.sampled := by
  simp only [State.bookEnergy, State.modB_sampled, State.charge_sampled, sampled_dite, ite_self, dite_eq_ite]

theorem State.bookBlock_sampled (s : State) (m : Fin 12) (start : Nat) (imp exp : Acc) (stop : Nat) :
    (s.bookBlock m start imp exp stop).sampled = s.sampled := by
  simp only [State.bookBlock, State.billRestart_sampled, State.billAdvance_sampled, State.demandOpen_sampled,
    State.bookEnergy_sampled, State.sampled_mk, State.sampled_fold, sampled_ite, ite_self]

theorem State.closeBlock_sampled (s : State) (m : Fin 12) (b : Nat) (v : Vector Rat 6) (stop : Nat) (on : Bool) :
    (s.closeBlock m b v stop on).sampled = s.sampled := by
  simp only [State.closeBlock, State.billRestart_sampled, State.modMeter_sampled, State.addTotals_sampled,
    State.bookBlock_sampled, sampled_ite, ite_self]

theorem State.closeTail_sampled (s : State) (m : Fin 12) : (s.closeTail m).sampled = s.sampled := by
  unfold State.closeTail
  split <;> simp only [State.modMeter_sampled, State.closeBlock_sampled]

theorem State.meterApply_sampled (s : State) (m : Fin 12) : (s.meterApply m).sampled = s.sampled := by
  simp only [State.meterApply]
  split
  · simp only []
  · split <;> simp only [State.closeBlock_sampled, State.modMeter_sampled, State.closeTail_sampled, State.sampled_mk,
    State.sampled_fold, sampled_ite, ite_self]

theorem State.modLane_sampled (s : State) (n : Fin 144) (f : Lane → Lane) : (s.modLane n f).sampled = s.sampled := by
  rfl

theorem State.laneStep_sampled (s : State) (n : Fin 144) (raw : List RawSample) : (s.laneStep n raw).1.sampled = s.sampled := by
  simp only [State.laneStep, State.modLane_sampled]
  split <;> simp only [State.mrec_sampled, sampled_ite, ite_self]

theorem State.closeLate_sampled (s : State) (m : Fin 12) : (s.closeLate m).sampled = s.sampled := by
  unfold State.closeLate
  split <;> simp only [State.modMeter_sampled, State.addTotals_sampled]

theorem State.bookReactive_sampled (s : State) (m : Fin 12) (t : Nat) (qs : List Rat) :
    (s.bookReactive m t qs).sampled = s.sampled := by
  simp only [State.bookReactive, State.closeLate_sampled, State.closeTail_sampled, State.modMeter_sampled, sampled_ite, ite_self]

theorem State.oldReads_sampled (s : State) (m : Fin 12) (ls : List LaneSample) (dt : Rat) :
    (s.oldReads m ls dt).sampled = s.sampled := by
  unfold State.oldReads
  split <;> simp only [State.modMeter_sampled, State.bookReactive_sampled, State.closeTail_sampled, State.closeLate_sampled,
    sampled_ite, ite_self]

theorem State.turnBlock_sampled (s : State) (m : Fin 12) : (s.turnBlock m).sampled = s.sampled := by
  simp only [State.turnBlock]
  split <;> simp only [State.modMeter_sampled, State.closeBlock_sampled, State.closeTail_sampled, sampled_ite, ite_self]

theorem State.meterFlags_sampled (s : State) (m : Fin 12) (ls : List LaneSample) : (s.meterFlags m ls).sampled = s.sampled := by
  simp only [State.meterFlags, State.mrec_sampled, State.raise_sampled, State.modMeter_sampled, sampled_ite, ite_self,
    foldl_sampled, implies_true]

theorem State.dcSample_sampled (s : State) (m : Fin 12) (ls : List LaneSample) (dt : Rat) :
    (s.dcSample m ls dt).sampled = s.sampled := by
  simp only [State.dcSample, State.modMeter_sampled]

theorem State.acSample_sampled (s : State) (m : Fin 12) (ls : List LaneSample) (dt : Rat) :
    (s.acSample m ls dt).sampled = s.sampled := by
  simp only [State.acSample, State.modMeter_sampled, State.bookReactive_sampled, sampled_ite, ite_self]

theorem State.crossing_sampled (s : State) (m : Fin 12) (t : Nat) : (s.crossing m t).sampled = s.sampled := by
  simp only [State.crossing, State.modMeter_sampled, sampled_ite]
  repeat' split
  all_goals simp only [State.modMeter_sampled, State.raise_sampled, State.mrec_sampled, State.sampled_mk, State.sampled_fold]

theorem State.zcSample_sampled (s : State) (m : Fin 12) : (s.zcSample m).sampled = s.sampled := by
  unfold State.zcSample
  extract_lets c ph lane x ln u y
  have hu : u.sampled = s.sampled := by
    simp only [u]
    split
    · split
      · exact s.modMeter_sampled m _
      · split
        · exact (State.crossing_sampled _ m _).trans (s.modMeter_sampled m _)
        · rfl
    · rfl
  clear_value u
  split
  · split
    · simp only [State.raise_sampled, State.mrec_sampled, State.modMeter_sampled, hu]
    · exact hu
  · exact hu

/-! ### A sample (R62, R385) -/

section Sample

variable {s : State}

/-- The lanes of a sample, one after the other (R387). -/
def State.lanesStep (s : State) (raw : List RawSample) : State × List LaneSample :=
  (List.finRange 144).foldl (fun (a : State × List LaneSample) n =>
    let (s, l) := a.1.laneStep n raw
    (s, a.2 ++ [l])) (s, [])

theorem State.lanesStep_sampled (s : State) (raw : List RawSample) : (s.lanesStep raw).1.sampled = s.sampled :=
  foldl_eq (π := fun a : State × List LaneSample => a.1.sampled) (fun a n => a.1.laneStep_sampled n raw) _ _

/-- What the lanes' samples do to the meters. -/
def State.metersStep (s : State) (ls : List LaneSample) (dt : Rat) : State :=
  let s := forFin 12 s (fun s m => s.oldReads m ls dt)
  s.metersOn.foldl (fun s m =>
    let s := (s.turnBlock m).meterFlags m ls
    if isDc m then s.dcSample m ls dt else (s.acSample m ls dt).zcSample m) s

theorem State.metersStep_sampled (s : State) (ls : List LaneSample) (dt : Rat) : (s.metersStep ls dt).sampled = s.sampled := by
  simp only [State.metersStep, State.oldReads_sampled, State.turnBlock_sampled, State.meterFlags_sampled, State.dcSample_sampled,
    State.acSample_sampled, State.zcSample_sampled, sampled_ite, ite_self, forFin_sampled, foldl_sampled, implies_true]

/-- What is applied before a sample: a calibration that waited and, in a new window of 100 ms, the meters' settings. -/
def State.sampleReady (s : State) : State :=
  let t := match s.metro.calNext with
    | some t => { s with metro := { s.metro with cal := some t, calNext := none } }
    | none => s
  if (match s.metro.lastSt with | none => true | some t => t / 100000000 != s.st / 100000000) then forFin 12 t (fun s m => s.meterApply m) else t

theorem State.sampleReady_sampled (s : State) : s.sampleReady.sampled = s.sampled := by
  unfold State.sampleReady
  extract_lets metro t
  have ht : t.sampled = s.sampled := by
    simp only [t]
    split <;> rfl
  clear_value t
  simp only [sampled_ite, State.meterApply_sampled, forFin_sampled, implies_true, ite_self, ht]

/-- The sample is taken down: its time and number. -/
def State.sampleTaken (s : State) : State :=
  { s.sampleNoted with metro := { s.sampleNoted.metro with lastSt := some s.st, index := s.metro.index + 1 } }

/-- The time since the latest sample, in ns of the device's own clock (R385). -/
def State.sampleSpan (s : State) : Rat :=
  match s.metro.lastTick with
  | none => 0
  | some _ => (((s.clk.fix : Int) - s.metro.lastFix : Int) : Rat) / (2 ^ 32 : Nat) - ((s.clk.moved - s.metro.lastMoved : Int) : Rat)

theorem State.meterSample_of_due {bits : List PathBits} (hdue : s.sampleDue = true) (hstop : s.metro.stopped = none) :
    s.meterSample bits = State.metersStep (s.sampleReady.sampleTaken.lanesStep (s.filterOut bits)).1
      (s.sampleReady.sampleTaken.lanesStep (s.filterOut bits)).2 s.sampleSpan := by
  have h1 : (!s.sampleDue) = false := by simp [hdue]
  have h2 : s.metroStopped = false := by simp [State.metroStopped, hstop]
  simp only [State.meterSample, h1, h2, Bool.false_eq_true, if_false, State.metersStep, State.lanesStep, State.sampleReady, State.sampleTaken,
    State.sampleSpan] <;> rfl

/-! ### A stop of the metrology core, and the mirror (R283, R393, R429) -/

theorem State.markSessions_metro (s : State) (b : Nat) : (s.markSessions b).metro = s.metro :=
  forFin_eq (π := State.metro) (fun t p => congrArg Power.metro (t.modSession_power p _)) s

/-- A stop freezes the totals at the newest commit (R283). -/
theorem State.metroStop_metro {forGood : Bool} {c : Commit} (hc : s.bill.newest = some c) :
    (s.metroStop forGood).metro.stopped = some (s.el, forGood) ∧ ∀ m : Fin 12, (s.metroStop forGood).metro.meters[m].tot = c.data.totals[m] := by
  simp only [State.metroStop, hc, State.markSessions_metro]
  exact ⟨trivial, fun m => by simp⟩

theorem State.mrec_bill (s : State) (code p1 p2 st : Nat) : (s.mrec code p1 p2 st).bill = s.bill := by
  unfold State.mrec
  dsimp only
  split <;> rfl

theorem State.mrec_clk (s : State) (code p1 p2 st : Nat) : (s.mrec code p1 p2 st).clk = s.clk := congrArg Sampled.clk (s.mrec_sampled code p1 p2 st)

theorem State.mrec_el (s : State) (code p1 p2 st : Nat) : (s.mrec code p1 p2 st).el = s.el := by
  rw [State.el, State.st, State.mrec_clk]
  rfl

theorem State.refreshEff_metro (s : State) (p : Fin 8) : (s.refreshEff p).metro = s.metro := by
  unfold State.refreshEff
  rfl

theorem State.refreshAll_metro (s : State) : s.refreshAll.metro = s.metro :=
  forFin_eq (π := State.metro) (f := fun s p => s.refreshEff p) State.refreshEff_metro s

theorem State.refreshEff_bill (s : State) (p : Fin 8) : (s.refreshEff p).bill = s.bill := by
  unfold State.refreshEff
  rfl

theorem State.refreshAll_bill (s : State) : s.refreshAll.bill = s.bill :=
  forFin_eq (π := State.bill) (f := fun s p => s.refreshEff p) State.refreshEff_bill s

theorem State.refreshEff_evt (s : State) (p : Fin 8) : (s.refreshEff p).evt = s.evt := by
  unfold State.refreshEff
  rfl

theorem State.refreshAll_evt (s : State) : s.refreshAll.evt = s.evt :=
  forFin_eq (π := State.evt) (f := fun s p => s.refreshEff p) State.refreshEff_evt s

/-- The seal's input low for ten samples running is the seal's new level (R382). -/
theorem State.sealSample_low {elapsed : Nat} (hp : s.vbat.powered = true) (hs1 : s.vbat.sealSample.1 = false) (hs2 : 9 ≤ s.vbat.sealSample.2)
    (hl : s.vbat.sealLevel = true) :
    let t := if s.sys.mode = .run then s.st else (s.vbat.now elapsed).getD 0
    let u := { s with vbat := { s.vbat with
      sealSample := (false, 10), sealLevel := false, sealNew := s.vbat.sealNew ++ [(t, false)], tamperHeld := false } }
    s.sealSample false elapsed = if s.sys.mode = .run then (u.sealRecord true).tamperRecords false else u := by
  have hten : min 10 (s.vbat.sealSample.2 + 1) = 10 := by omega
  intro t u
  rw [State.sealSample, if_neg (by simp [hp])]
  simp only [hs1, if_true, hten, hl, Bool.false_and, Bool.and_false, Bool.false_eq_true, if_false, Nat.lt_irrefl, decide_false,
    Bool.true_eq_false, Bool.or_self, u, t]
  by_cases hm : s.sys.mode = .run
  · simp only [hm, if_true]
    rfl
  · simp only [hm, if_false]
    rfl

end Sample

end Sys2Proof.Machine

namespace Sys2Proof.Proofs

open Sys2Proof.Machine

/-- Settles O29, row by row. -/
theorem meteringRowsComplete : Obligations.MeteringRowsComplete := by
  intro s
  refine ⟨fun bits hrun hdue => ⟨fun hstop => ?_, fun hstop => ?_⟩, fun hrun hstop => ?_, fun t hrun hstop hle hclk => ?_,
    fun hrun hstop hwin => ?_, fun level elapsed hp hlt => ?_, fun elapsed hp hs1 hs2 hl => ?_⟩
  · refine ⟨_, exec_of_live (f := (·.meterSample bits)) rfl hrun (State.meterSample_of_due hdue hstop), ?_⟩
    have hend : (State.metersStep (s.sampleReady.sampleTaken.lanesStep (s.filterOut bits)).1 (s.sampleReady.sampleTaken.lanesStep
        (s.filterOut bits)).2 s.sampleSpan).sampled = s.sampleReady.sampleTaken.sampled :=
      (State.metersStep_sampled ..).trans (State.lanesStep_sampled ..)
    have hready := s.sampleReady_sampled
    have hclk : s.sampleReady.clk = s.clk := congrArg Sampled.clk hready
    have hst : s.sampleReady.st = s.st := by rw [State.st, hclk]; rfl
    have hindex : s.sampleReady.metro.index = s.metro.index := congrArg Sampled.index hready
    refine ⟨(congrArg Sampled.lastSt hend).trans ?_, (congrArg Sampled.index hend).trans ?_, (congrArg Sampled.lastFix hend).trans ?_,
      (congrArg Sampled.clk hend).trans hclk⟩
    · exact congrArg some hst
    · exact congrArg (· + 1) hindex
    · exact congrArg Clk.fix hclk
  · exact exec_of_live (f := (·.meterSample bits)) rfl hrun (by simp [State.meterSample, hdue, State.metroStopped, hstop])
  · intro good
    have hfault : s.metroFault = ((s.mrec 0x20 s.metro.restarts (b01 good)).raise .meterRestart).metroStop good := by
      unfold State.metroFault
      exact if_neg (by simp [State.metroStopped, hstop])
    refine ⟨exec_of_live (f := (·.metroFault)) rfl hrun hfault, fun c hc => ⟨_, exec_of_live (f := (·.metroFault)) rfl hrun hfault, ?_⟩⟩
    have hc' : ((s.mrec 0x20 s.metro.restarts (b01 good)).raise .meterRestart).bill.newest = some c :=
      (congrArg Bill.newest (s.mrec_bill _ _ _ _)).trans hc
    obtain ⟨hstopped, htot⟩ := State.metroStop_metro (forGood := good) hc'
    exact ⟨hstopped.trans (congrArg (fun t => some (t, good)) (s.mrec_el _ _ _ _)), htot⟩
  · intro u v
    refine exec_of_live (f := (·.metroRestart)) rfl hrun ?_
    simp [State.metroRestart, hstop, hle, hclk, u, v]
  · have hgo : (!s.metroStopped && s.bill.mirWin != some (s.st / 100000000)) = true := by simp [State.metroStopped, hstop, hwin]
    refine ⟨_, exec_of_live (f := whenDo (!s.metroStopped && s.bill.mirWin != some (s.st / 100000000)) (·.mirrorRefresh.refreshAll)) rfl hrun
      (whenDo_of hgo), ?_⟩
    rw [State.refreshAll_metro, State.refreshAll_bill, State.refreshAll_evt]
    exact ⟨rfl, fun k => by simp [State.mirrorRefresh], fun k => by simp [State.mirrorRefresh], rfl, rfl, rfl, rfl, rfl, rfl, rfl⟩
  · refine congrArg _ (show s.sealSample level elapsed = _ from ?_)
    simp [State.sealSample, hp, hlt]
  · intro t u
    exact congrArg _ (State.sealSample_low hp hs1 hs2 hl)

end Sys2Proof.Proofs

/-!
What the sizes of R541, R591, R614, R615 and R657 bound (`State.stores`), with the waiting commands: one lemma per operation that leaves it
as it is, in the order in which the operations call each other.
-/

namespace Sys2Proof.Machine

/-- What the sizes of R541, R591, R614, R615 and R657 bound, and the queue of commands. -/
structure Stores where
  log : List Viol
  ring : List Viol
  events : List EvRec
  copies : List (Nat × Nat × Nat × Bytes)
  frags : List FragEntry
  pending : List Instr

/-- What the sizes bound: logs, copies and datagrams in reassembly, with the commands that wait. -/
def State.stores (s : State) : Stores where
  log := s.hio.vlog
  ring := s.nv.violRing
  events := s.nv.evLog
  copies := s.canCopies
  frags := s.ccp.frags
  pending := s.pending

/-- The parts of a state, put together again. -/
theorem State.stores_fold (s : State) :
    Stores.mk s.hio.vlog s.nv.violRing s.nv.evLog s.canCopies s.ccp.frags s.pending = s.stores := rfl

/-- The parts of a state given by its fields, as record updates give it. -/
theorem State.stores_mk {strap clk time launches launchCount captures capLog ccp hio queues evt nv sys seqr vbat hk therm sws budget
    fabric groups slots groupRecs ports portRecs sessionSeq cools alloc metro bill cans canCopies flink twin
    image master seqCtr out freeCount pending} :
    (State.mk strap clk time launches launchCount captures capLog ccp hio queues evt nv sys seqr vbat hk therm sws budget
      fabric groups slots groupRecs ports portRecs sessionSeq cools alloc metro bill cans canCopies flink twin
      image master seqCtr out freeCount pending).stores =
      Stores.mk hio.vlog nv.violRing nv.evLog canCopies ccp.frags pending := rfl

theorem stores_ite {c : Prop} [Decidable c] (s t : State) : (if c then s else t).stores = if c then s.stores else t.stores :=
  apply_ite State.stores c s t

theorem stores_dite {c : Prop} [Decidable c] (s : c → State) (t : ¬c → State) :
    (if h : c then s h else t h).stores = if h : c then (s h).stores else (t h).stores :=
  apply_dite State.stores c s t

theorem forFin_stores {n : Nat} {s : State} {f : State → Fin n → State} (h : ∀ u i, (f u i).stores = u.stores) :
    (forFin n s f).stores = s.stores :=
  forFin_eq (π := State.stores) h s

theorem forNums_stores {l : List Nat} {s : State} {f : State → Nat → State} (h : ∀ u i, (f u i).stores = u.stores) :
    (forNums l s f).stores = s.stores :=
  forNums_eq (π := State.stores) h s

theorem foldl_stores {α : Type} {l : List α} {s : State} {f : State → α → State} (h : ∀ u i, (f u i).stores = u.stores) :
    (l.foldl f s).stores = s.stores :=
  foldl_eq (π := State.stores) h l s

theorem State.stores_of_beyond {s t : State} (h : t.beyond = s.beyond) : t.stores = s.stores :=
  congrArg (fun b : Beyond => Stores.mk b.hio.vlog b.nv.violRing b.nv.evLog b.copies b.ccp.frags b.pending) h

@[simp] theorem Ans.ok_s (s : State) (rest : Bytes) : (Ans.ok s rest).s = s := rfl

@[simp] theorem Ans.err_s (s : State) (status off : Nat) : (Ans.err s status off).s = s := rfl

theorem Ans.table_stores {s : State} {rows : List (Bool × Nat × Nat)} {f : State → Ans} (h : (f s).s.stores = s.stores) :
    (Ans.table s rows f).s.stores = s.stores := by
  unfold Ans.table
  split
  · rfl
  · exact h

theorem whenDo_stores (c : Bool) (f : State → State) (s : State) (hf : ∀ u, (f u).stores = u.stores) :
    (whenDo c f s).stores = s.stores := by
  simp only [whenDo, stores_ite, ite_self, hf]

theorem State.emit_stores (s : State) (o : Out) : (s.emit o).stores = s.stores :=
  State.stores_of_beyond (State.emit_beyond ..)

theorem State.ptpSend_stores (t : Int) (s : State) : (State.ptpSend t s).stores = s.stores := by
  simp only [State.ptpSend, whenDo_stores, State.emit_stores, stores_ite, ite_self, forFin_stores, implies_true]

theorem State.tick_stores (s : State) : s.tick.stores = s.stores := rfl

theorem State.idle_stores (s : State) : s.idle.stores = s.stores := by
  simp only [State.idle, State.ptpSend_stores, State.tick_stores, stores_ite, ite_self]

theorem State.window_stores (s : State) (from_ : Sender) (n : Nat) : (s.window from_ n).2.stores = s.stores := by
  unfold State.window
  split <;> simp only [State.stores_mk, State.stores_fold]

theorem State.lateChecks_stores (s : State) (p : Pkt) (from_ : Sender) : (s.lateChecks p from_).2.2.stores = s.stores := by
  have hw := s.window_stores from_ p.seq
  unfold State.lateChecks
  generalize s.window from_ p.seq = d at hw
  obtain ⟨f, u⟩ := d
  split
  · rfl
  · split
    · rfl
    · split
      · rfl
      · cases f <;> dsimp only <;> repeat' split
        all_goals exact hw

theorem State.intake_stores (s : State) (p : Pkt) : (s.intake p).2.2.stores = s.stores := by
  simp only [State.intake]
  repeat' split
  all_goals simp only [State.lateChecks_stores]

theorem State.raiseAt_stores (s : State) (stamp : Nat) (e : Ev) (p1 p2 flags : Nat) :
    (s.raiseAt stamp e p1 p2 flags).stores = s.stores :=
  State.stores_of_beyond (State.raiseAt_beyond ..)

theorem State.raise_stores (s : State) (e : Ev) (p1 p2 flags : Nat) : (s.raise e p1 p2 flags).stores = s.stores :=
  State.stores_of_beyond (State.raise_beyond ..)

theorem State.siteConflict_stores (s : State) : s.siteConflict.stores = s.stores := by
  simp only [State.siteConflict, State.raise_stores, State.stores_mk, State.stores_fold]

theorem State.conflictSeen_stores (s : State) (r : Req) : (s.conflictSeen r).stores = s.stores := by
  unfold State.conflictSeen
  split <;> simp only [State.siteConflict_stores, stores_ite, ite_self]

theorem State.pushLaunch_stores (s : State) (r : Req) : (s.pushLaunch r).stores = s.stores := rfl

theorem State.checkCrcs_stores (s : State) (b : Bytes) : (s.checkCrcs b).stores = s.stores := by
  simp only [State.checkCrcs, State.raise_stores, State.stores_mk, State.stores_fold, stores_ite, ite_self]

theorem State.addLimits_stores (s : State) (l : Limits) : (s.addLimits l).stores = s.stores := rfl

theorem State.allocAccept_stores (s : State) (t : Nat) (b : Bytes) : (s.allocAccept t b).stores = s.stores := by
  simp only [State.allocAccept, State.checkCrcs_stores, State.addLimits_stores, State.stores_mk, State.stores_fold,
    stores_ite, ite_self]

theorem acceptTargets_stores (r : Req) (s : State) : (acceptTargets r s).s.stores = s.stores := by
  simp only [acceptTargets, State.pushLaunch_stores, State.allocAccept_stores, Ans.table_stores]

theorem bodySysPing_stores (r : Req) (s : State) : (bodySysPing r s).s.stores = s.stores := rfl

theorem bodySysSummary_stores (a : Req) (s : State) : (bodySysSummary a s).s.stores = s.stores := rfl

theorem State.modTwin_stores (s : State) (f : Twin → Twin) : (s.modTwin f).stores = s.stores := rfl

theorem State.recordWrite_stores (s : State) (g : Fin 8) (b : Bytes) : (s.recordWrite g b).stores = s.stores := rfl

theorem State.recordFlush_stores (s : State) (keep : Fin 8 → Bool) : (s.recordFlush keep).stores = s.stores := by
  simp only [State.recordFlush, State.recordWrite_stores, State.stores_mk, State.stores_fold, stores_ite, stores_dite,
    ite_self, dite_eq_ite, foldl_stores, implies_true]

theorem State.twinEnter_stores (s : State) (t : TwinState) : (s.twinEnter t).stores = s.stores := by
  simp only [State.twinEnter, State.recordFlush_stores, State.raise_stores, State.stores_mk, State.stores_fold, stores_ite,
    ite_self]

theorem State.twinRecheck_stores (s : State) : s.twinRecheck.stores = s.stores := by
  simp only [State.twinRecheck, State.raise_stores, State.modTwin_stores, State.twinEnter_stores, stores_ite, ite_self]

theorem State.store_stores (s : State) (f : Cfg → Cfg) : (s.store f).stores = s.stores := rfl

theorem bodySysRole_stores (r : Req) (s : State) : (bodySysRole r s).s.stores = s.stores := by
  simp only [bodySysRole, State.twinRecheck_stores, State.store_stores, Ans.ok_s, Ans.table_stores]

theorem bodySysReset_stores (r : Req) (s : State) : (bodySysReset r s).s.stores = s.stores := by
  unfold bodySysReset
  exact Ans.table_stores rfl

theorem bodySysSleep_stores (r : Req) (s : State) : (bodySysSleep r s).s.stores = s.stores := by
  unfold bodySysSleep
  exact Ans.table_stores rfl

theorem bodySysLogRead_stores (r : Req) (s : State) : (bodySysLogRead r s).s.stores = s.stores := by
  unfold bodySysLogRead
  refine Ans.table_stores ?_
  split <;> rfl

theorem State.modFw_stores (s : State) (f : Fw → Fw) : (s.modFw f).stores = s.stores := rfl

theorem State.credential_stores (s : State) (id : Nat) (body : Bytes) : (s.credential id body).stores = s.stores := by
  unfold State.credential
  split <;> simp only [State.raise_stores, State.stores_mk, State.stores_fold]

theorem bodySysFwUpdate_stores (r : Req) (s : State) : (bodySysFwUpdate r s).s.stores = s.stores := by
  unfold bodySysFwUpdate
  extract_lets b k id last gen off len d f before o follows drops bad a
  clear_value k last
  split
  · simp only [Ans.err_s, stores_ite, State.modFw_stores, ite_self]
  have ha : a.s.stores = s.stores := by
    refine Ans.table_stores ?_
    rw [Ans.ok_s]
    split
    · split <;> simp only [State.modFw_stores]
    · split <;> simp only [State.modFw_stores, State.credential_stores]
    · simp only [State.modFw_stores]
    · rfl
  clear_value a
  split
  · exact State.modFw_stores ..
  · exact ha

theorem withSel_stores (f : State → State) (s : State) (hf : ∀ u, (f u).stores = u.stores) : (withSel f s).stores = s.stores := by
  simp only [withSel, State.raise_stores, stores_ite, ite_self, hf]

theorem State.modTime_stores (s : State) (f : TimeS → TimeS) : (s.modTime f).stores = s.stores :=
  State.stores_of_beyond (State.modTime_beyond ..)

theorem State.modSrc_stores (s : State) (k : Nat) (f : TimeSource → TimeSource) : (s.modSrc k f).stores = s.stores :=
  State.stores_of_beyond (State.modSrc_beyond ..)

theorem State.failSource_stores (s : State) (k : Nat) : (s.failSource k).stores = s.stores :=
  State.stores_of_beyond (State.failSource_beyond ..)

theorem State.free_stores (s : State) : s.free.2.stores = s.stores :=
  State.stores_of_beyond (State.free_beyond ..)

theorem State.modPort_stores (s : State) (p : Fin 8) (f : Port → Port) : (s.modPort p f).stores = s.stores :=
  State.stores_of_beyond (State.modPort_beyond ..)

theorem State.modSession_stores (s : State) (p : Fin 8) (f : Session → Session) : (s.modSession p f).stores = s.stores :=
  State.stores_of_beyond (State.modSession_beyond ..)

theorem State.markSessions_stores (s : State) (b : Nat) : (s.markSessions b).stores = s.stores :=
  State.stores_of_beyond (State.markSessions_beyond ..)

theorem State.tellBilling_stores (s : State) (f : State → State) (hf : ∀ u, (f u).stores = u.stores) :
    (s.tellBilling f).stores = s.stores := by
  simp only [State.tellBilling, whenDo_stores, implies_true, hf]

theorem State.mrec_stores (s : State) (code : Nat) (p1 p2 : Nat) (st : Nat) : (s.mrec code p1 p2 st).stores = s.stores :=
  State.stores_of_beyond (State.mrec_beyond ..)

theorem State.modB_stores (s : State) (f : BState → BState) : (s.modB f).stores = s.stores :=
  State.stores_of_beyond (State.modB_beyond ..)

theorem State.dfltUpdate_stores (s : State) : s.dfltUpdate.stores = s.stores :=
  State.stores_of_beyond (State.dfltUpdate_beyond ..)

theorem State.setQuality_stores (s : State) (q : Quality) : (s.setQuality q).stores = s.stores :=
  State.stores_of_beyond (State.setQuality_beyond ..)

theorem State.pendEnd_stores (s : State) : s.pendEnd.stores = s.stores := by
  unfold State.pendEnd
  split <;> simp only [withSel_stores, State.modTime_stores, State.failSource_stores, State.raise_stores,
    State.setQuality_stores, stores_ite, ite_self, implies_true]

theorem State.modMeter_stores (s : State) (m : Fin 12) (f : Meter → Meter) : (s.modMeter m f).stores = s.stores :=
  State.stores_of_beyond (State.modMeter_beyond ..)

theorem State.billCommit_stores (s : State) (kind : Nat) : (s.billCommit kind).stores = s.stores :=
  State.stores_of_beyond (State.billCommit_beyond ..)

theorem State.boundaries_stores (mode : BoundMode) (now a : Nat) (b : State) :
    (State.boundaries mode now a b).2.stores = b.stores :=
  State.stores_of_beyond (State.boundaries_beyond ..)

theorem State.billRestart_stores (s : State) : s.billRestart.stores = s.stores :=
  State.stores_of_beyond (State.billRestart_beyond ..)

theorem State.billAdvance_stores (s : State) (now : Nat) : (s.billAdvance now).stores = s.stores :=
  State.stores_of_beyond (State.billAdvance_beyond ..)

theorem State.closeBlock_stores (s : State) (m : Fin 12) (b : Nat) (v : Vector Rat 6) (stop : Nat) (on : Bool) :
    (s.closeBlock m b v stop on).stores = s.stores :=
  State.stores_of_beyond (State.closeBlock_beyond ..)

theorem State.closeTail_stores (s : State) (m : Fin 12) : (s.closeTail m).stores = s.stores :=
  State.stores_of_beyond (State.closeTail_beyond ..)

theorem State.closeLate_stores (s : State) (m : Fin 12) : (s.closeLate m).stores = s.stores :=
  State.stores_of_beyond (State.closeLate_beyond ..)

theorem State.closeAll_stores (s : State) : s.closeAll.stores = s.stores :=
  State.stores_of_beyond (State.closeAll_beyond ..)

theorem State.stepClock_stores (s : State) (new : Nat) : (s.stepClock new).stores = s.stores :=
  State.stores_of_beyond (State.stepClock_beyond ..)

theorem bodyTimeSet_stores (r : Req) (s : State) : (bodyTimeSet r s).s.stores = s.stores := by
  refine Eq.trans ?_ s.pendEnd_stores
  unfold bodyTimeSet
  refine Ans.table_stores ?_
  split <;> simp only [Ans.ok_s, withSel_stores, State.setQuality_stores, State.stepClock_stores, State.modTime_stores,
    implies_true]

theorem State.srcInit_stores (s : State) (clear : Bool) : (s.srcInit clear).stores = s.stores :=
  State.stores_of_beyond (State.srcInit_beyond ..)

theorem State.sourceUse_stores (s : State) (k : Nat) (off : Int) (fresh : Bool) :
    (s.sourceUse k off fresh).stores = s.stores :=
  State.stores_of_beyond (State.sourceUse_beyond ..)

theorem State.selectSource_stores (s : State) (k : Nat) : (s.selectSource k).stores = s.stores :=
  State.stores_of_beyond (State.selectSource_beyond ..)

theorem State.reselect_stores (s : State) : s.reselect.stores = s.stores :=
  State.stores_of_beyond (State.reselect_beyond ..)

theorem State.timeSourceTake_stores (s : State) (b : Bytes) : (s.timeSourceTake b).stores = s.stores := by
  simp only [State.timeSourceTake, State.srcInit_stores, State.store_stores, State.reselect_stores, stores_ite, ite_self]

theorem bodyTimeSource_stores (r : Req) (s : State) : (bodyTimeSource r s).s.stores = s.stores := by
  simp only [bodyTimeSource, withSel_stores, State.timeSourceTake_stores, implies_true, Ans.ok_s, Ans.table_stores]

theorem bodyTimeStatus_stores (a : Req) (s : State) : (bodyTimeStatus a s).s.stores = s.stores := rfl

theorem bodyTimeCapture_stores (r : Req) (s : State) : (bodyTimeCapture r s).s.stores = s.stores := by
  unfold bodyTimeCapture

  exact Ans.table_stores rfl

theorem bodyAllocLimit_stores (r : Req) (s : State) : (bodyAllocLimit r s).s.stores = s.stores := by
  unfold bodyAllocLimit
  exact Ans.table_stores ((State.store_stores ..).trans (State.addLimits_stores ..))

theorem bodyAllocPolicy_stores (r : Req) (s : State) : (bodyAllocPolicy r s).s.stores = s.stores := by
  unfold bodyAllocPolicy
  dsimp only
  split <;> exact Ans.table_stores rfl

theorem State.modFeeder_stores (s : State) (f : Fin 4) (g : Feeder → Feeder) : (s.modFeeder f g).stores = s.stores := rfl

theorem State.modCan_stores (s : State) (n : Fin 8) (f : Can → Can) : (s.modCan n f).stores = s.stores :=
  State.stores_of_beyond (State.modCan_beyond ..)

theorem State.canExpired_stores (s : State) (n : Fin 8) (ident : Nat) : (s.canExpired n ident).stores = s.stores := by
  simp only [State.canExpired, State.raise_stores, State.modCan_stores]

theorem State.canQueue0_stores (s : State) (n : Fin 8) (f : TxFrame) (stream : Bool) :
    (s.canQueue0 n f stream).stores = s.stores := by
  simp only [State.canQueue0, State.modCan_stores]
  split <;> simp only [State.canExpired_stores, stores_ite, ite_self]

theorem State.sendStore_stores (s : State) (f : Fin 4) : (s.sendStore f).stores = s.stores := by
  simp only [State.sendStore, State.modFeeder_stores, State.canQueue0_stores, State.emit_stores, stores_ite, ite_self]

theorem State.setStore_stores (s : State) (f : Fin 4) (v : Int) (epoch : Nat) : (s.setStore f v epoch).stores = s.stores := by
  simp only [State.setStore, State.modFeeder_stores, State.sendStore_stores]

theorem State.refreshEff_stores (s : State) (p : Fin 8) : (s.refreshEff p).stores = s.stores := by
  simp only [State.refreshEff, State.modPort_stores, State.stores_mk, State.stores_fold]

theorem State.applyEntry_stores (s : State) (epoch : Nat) (e : TEntry) : (s.applyEntry epoch e).stores = s.stores := by
  simp only [State.applyEntry, State.setStore_stores, State.refreshEff_stores, State.modPort_stores, stores_ite, stores_dite,
    ite_self, dite_eq_ite]

theorem State.applyEntries_stores (s : State) (epoch : Nat) (l : List TEntry) : (s.applyEntries epoch l).stores = s.stores := by
  simp only [State.applyEntries, State.applyEntry_stores, foldl_stores, implies_true]

theorem State.reshare_stores (s : State) : s.reshare.stores = s.stores := by
  simp only [State.reshare, State.applyEntries_stores, State.stores_mk, State.stores_fold, stores_ite, ite_self]

theorem bodyAllocFallback_stores (r : Req) (s : State) : (bodyAllocFallback r s).s.stores = s.stores := by
  simp only [bodyAllocFallback, State.store_stores, State.reshare_stores, stores_ite, ite_self, Ans.ok_s, Ans.table_stores]

theorem State.takeReport_stores (s : State) (r : Report) : (s.takeReport r).stores = s.stores := by
  simp only [State.takeReport, State.stores_mk, State.stores_fold, stores_ite, ite_self]

theorem bodyAllocStatus_stores (r : Req) (s : State) : (bodyAllocStatus r s).s.stores = s.stores := by
  unfold bodyAllocStatus
  dsimp only
  split
  · exact Ans.table_stores (by simp only [Ans.ok_s, State.takeReport_stores])
  · exact Ans.table_stores rfl

theorem State.allocRelease_stores (s : State) (e : Nat) : (s.allocRelease e).stores = s.stores := rfl

theorem bodyAllocTargets_stores (r : Req) (s : State) : (bodyAllocTargets r s).s.stores = s.stores :=
  Ans.table_stores (State.allocRelease_stores ..)

theorem State.modG_stores (s : State) (g : Fin 8) (f : Group → Group) : (s.modG g f).stores = s.stores := rfl

theorem State.modLoop_stores (s : State) (g : Fin 8) (f : Loop → Loop) : (s.modLoop g f).stores = s.stores := by
  simp only [State.modLoop, State.modG_stores]

theorem bodyGroupConfig_stores (r : Req) (s : State) : (bodyGroupConfig r s).s.stores = s.stores := by
  simp only [bodyGroupConfig, State.modLoop_stores, State.store_stores, Ans.ok_s, Ans.table_stores]

theorem State.capNote_stores (s : State) (kind group stamp : Nat) (bytes : Bytes) :
    (s.capNote kind group stamp bytes).stores = s.stores := by
  rfl

theorem State.edgeNote_stores (s : State) (n ev stamp : Nat) : (s.edgeNote n ev stamp).stores = s.stores := by
  unfold State.edgeNote
  split <;> simp only [State.capNote_stores]

theorem State.modSlot_stores (s : State) (n : Nat) (f : Slot → Slot) : (s.modSlot n f).stores = s.stores := by
  simp only [State.modSlot, State.edgeNote_stores, State.stores_mk, State.stores_fold, stores_ite, ite_self]

theorem State.modProt_stores (s : State) (g : Fin 8) (f : Prot → Prot) : (s.modProt g f).stores = s.stores := by
  simp only [State.modProt, State.modG_stores]

theorem State.noteEnding_stores (s : State) (p : Fin 8) (cls reason rank : Nat) :
    (s.noteEnding p cls reason rank).stores = s.stores := by
  simp only [State.noteEnding, State.modPort_stores]

theorem State.portSet_stores (s : State) (p : Fin 8) (st : PState) (reason : Nat) :
    (s.portSet p st reason).stores = s.stores :=
  State.stores_of_beyond (State.portSet_beyond ..)

theorem State.portEndSession_stores (s : State) (p : Fin 8) (reason : Nat) (returned : Bool) :
    (s.portEndSession p reason returned).stores = s.stores := by
  unfold State.portEndSession
  split <;> simp only [State.modPort_stores, State.stores_mk, State.stores_fold]

theorem State.portReturn_stores (s : State) (p : Fin 8) (dflt : Nat) : (s.portReturn p dflt).stores = s.stores := by
  simp only [State.portReturn, State.portSet_stores, State.portEndSession_stores]

theorem State.tell_stores (s : State) (p : Fin 8) (a : VAnswer) (figs : List Int) : (s.tell p a figs).stores = s.stores := by
  simp only [State.tell, State.free_stores, State.modPort_stores, State.emit_stores, stores_ite, ite_self]

theorem State.portBack_stores (s : State) (p : Fin 8) (reason : Nat) : (s.portBack p reason).stores = s.stores := by
  simp only [State.portBack, State.portSet_stores, State.portEndSession_stores, stores_ite, ite_self]

theorem State.portFault_stores (s : State) (p : Fin 8) (reason : Nat) : (s.portFault p reason).stores = s.stores := by
  simp only [State.portFault, State.portSet_stores, State.portEndSession_stores, stores_ite, ite_self]

theorem State.portFollows_stores (s : State) (g : Fin 8) (new : GState) (cause : Nat) :
    (s.portFollows g new cause).stores = s.stores := by
  simp only [State.portFollows]
  split
  · simp only []
  · split <;> simp only [State.modPort_stores, State.noteEnding_stores, State.modSession_stores, State.portSet_stores,
    State.portReturn_stores, State.tell_stores, State.portBack_stores, State.portFault_stores, stores_ite, ite_self]

theorem State.setGState_stores (s : State) (g : Fin 8) (new : GState) (cause : Nat) :
    (s.setGState g new cause).stores = s.stores := by
  simp only [State.setGState, State.raise_stores, State.modProt_stores, State.portFollows_stores]

theorem State.modSw_stores (s : State) (n : Fin 24) (f : SwCh → SwCh) : (s.modSw n f).stores = s.stores :=
  State.stores_of_beyond (State.modSw_beyond ..)

theorem State.swState_stores (s : State) (n : Fin 24) (st : SwState) : (s.swState n st).stores = s.stores :=
  State.stores_of_beyond (State.swState_beyond ..)

theorem State.pumpTurnsOn_stores (s : State) (n : Fin 24) : (s.pumpTurnsOn n).stores = s.stores := by
  refine forFin_stores (fun u p => ?_)
  dsimp only
  split
  · split <;> rfl
  · rfl

theorem State.swWindow_stores (s : State) (n : Fin 24) : (s.swWindow n).stores = s.stores := by
  simp only [State.swWindow, State.swState_stores, State.modSw_stores]

theorem State.swTurnOn_stores (s : State) (n : Fin 24) (slew : Bool) : (s.swTurnOn n slew).stores = s.stores := by
  simp only [State.swTurnOn, State.modSw_stores, State.pumpTurnsOn_stores, State.swState_stores, State.swWindow_stores,
    stores_ite, ite_self]

theorem State.swTurnOff_stores (s : State) (n : Fin 24) (st : SwState) : (s.swTurnOff n st).stores = s.stores :=
  State.stores_of_beyond (State.swTurnOff_beyond ..)

theorem State.swFirstEdge_stores (s : State) (n : Fin 24) : (s.swFirstEdge n).stores = s.stores := by
  simp only [State.swFirstEdge, State.pumpTurnsOn_stores, State.modSw_stores, State.swWindow_stores, stores_ite, ite_self]

theorem State.swCommand_stores (s : State) (n : Fin 24) (cmd : SwCmd) (slew assigned : Bool) :
    (s.swCommand n cmd slew assigned).stores = s.stores := by
  simp only [State.swCommand, State.modSw_stores, stores_ite]
  repeat' split
  all_goals simp only [State.modSw_stores, State.swState_stores, State.swTurnOn_stores, State.swTurnOff_stores,
    State.swFirstEdge_stores]

theorem State.swDrive_stores (s : State) (n : Fin 24) (duty : Nat) : (s.swDrive n duty).stores = s.stores := by
  simp only [State.swDrive, State.swCommand_stores, stores_ite, ite_self]

theorem State.dischargeChannel_stores (s : State) (g : Fin 8) (on : Bool) : (s.dischargeChannel g on).stores = s.stores := by
  unfold State.dischargeChannel
  split <;> simp only [State.swDrive_stores]

theorem State.startGroup_stores (s : State) (g : Fin 8) : (s.startGroup g).stores = s.stores := by
  simp only [State.startGroup]
  split <;> simp only [State.modSlot_stores, State.modProt_stores, State.setGState_stores, State.dischargeChannel_stores,
    stores_ite, ite_self, forNums_stores, implies_true]

theorem bodyGroupEnable_stores (r : Req) (s : State) : (bodyGroupEnable r s).s.stores = s.stores := by
  simp only [bodyGroupEnable, State.startGroup_stores, State.modProt_stores, stores_ite, ite_self, Ans.ok_s, Ans.table_stores]

theorem State.setpointTake_stores (s : State) (g : Fin 8) (current restart : Bool) (target limit : Int) :
    (s.setpointTake g current restart target limit).stores = s.stores := by
  simp only [State.setpointTake]
  split <;> simp only [State.modLoop_stores, stores_ite, ite_self]

theorem bodyGroupSetpoint_stores (r : Req) (s : State) : (bodyGroupSetpoint r s).s.stores = s.stores := by
  simp only [bodyGroupSetpoint, State.setpointTake_stores, Ans.ok_s, Ans.table_stores]

theorem State.modPwm_stores (s : State) (g : Fin 8) (f : Pwm → Pwm) : (s.modPwm g f).stores = s.stores := by
  simp only [State.modPwm, State.modG_stores]

theorem State.pwmStop_stores (s : State) (g : Fin 8) : (s.pwmStop g).stores = s.stores := by
  simp only [State.pwmStop, State.modSlot_stores, State.modPwm_stores, forNums_stores, implies_true]

theorem State.groupRecord_stores (s : State) (g : Fin 8) (st cause stCode cls slot kind : Nat) :
    (s.groupRecord g st cause stCode cls slot kind).stores = s.stores := by
  simp only [State.groupRecord, State.recordWrite_stores, State.stores_mk, State.stores_fold, stores_ite, ite_self]

theorem State.loopIdle_stores (s : State) (g : Fin 8) : (s.loopIdle g).stores = s.stores := by
  simp only [State.loopIdle, State.modSlot_stores, State.modLoop_stores, forNums_stores, implies_true]

theorem State.groupLow_stores (s : State) (g : Fin 8) : (s.groupLow g).stores = s.stores := by
  simp only [State.groupLow, State.modProt_stores, State.loopIdle_stores, State.pwmStop_stores]

theorem State.toDischarge_stores (s : State) (g : Fin 8) (cause : Nat) : (s.toDischarge g cause).stores = s.stores := by
  simp only [State.toDischarge, State.dischargeChannel_stores, State.groupLow_stores, State.modProt_stores,
    State.setGState_stores]

theorem State.toFaulted_stores (s : State) (g : Fin 8) (cause : Nat) (keepOn : Bool) :
    (s.toFaulted g cause keepOn).stores = s.stores := by
  simp only [State.toFaulted, State.groupRecord_stores, State.groupLow_stores, State.modProt_stores,
    State.dischargeChannel_stores, State.setGState_stores, stores_ite, ite_self]

theorem State.toOff_stores (s : State) (g : Fin 8) (cause : Nat) : (s.toOff g cause).stores = s.stores := by
  simp only [State.toOff, State.dischargeChannel_stores, State.groupLow_stores, State.modProt_stores, State.setGState_stores,
    State.toFaulted_stores, stores_ite, ite_self]

theorem State.applyStop_stores (s : State) (g : Fin 8) (cls : Nat) : (s.applyStop g cls).stores = s.stores := by
  simp only [State.applyStop, State.modProt_stores, State.modLoop_stores, State.groupLow_stores, stores_ite, ite_self]

theorem State.overrideNoted_stores (s : State) (g : Fin 8) (cls cause : Nat) :
    (s.overrideNoted g cls cause).stores = s.stores := by
  unfold State.overrideNoted
  split <;> simp only [whenDo_stores, State.noteEnding_stores, implies_true]

theorem State.stopGroup_stores (s : State) (g : Fin 8) (cls cause : Nat) : (s.stopGroup g cls cause).1.stores = s.stores := by
  simp only [State.stopGroup]
  repeat' split
  all_goals simp only [State.groupRecord_stores, State.toDischarge_stores, State.toOff_stores, State.modProt_stores,
    State.applyStop_stores, State.setGState_stores, State.overrideNoted_stores]

theorem bodyGroupStop_stores (r : Req) (s : State) : (bodyGroupStop r s).s.stores = s.stores := by
  unfold bodyGroupStop
  refine Ans.table_stores ?_
  split <;> simp only [Ans.ok_s, State.pwmStop_stores, State.stopGroup_stores]

theorem bodyGroupStatus_stores (r : Req) (s : State) : (bodyGroupStatus r s).s.stores = s.stores := rfl

theorem State.setClsf_stores (s : State) (e : Clsf) : (s.setClsf e).stores = s.stores := rfl

theorem State.chargeRecord_stores (s : State) (target cause t kind : Nat) :
    (s.chargeRecord target cause t kind).stores = s.stores := by
  simp only [State.chargeRecord]
  repeat' split
  all_goals simp only [State.groupRecord_stores]

theorem State.setPending_stores (s : State) (g : Fin 8) (cause : Nat) : (s.setPending g cause).stores = s.stores := by
  simp only [State.setPending, State.modProt_stores]

theorem State.faultStop_stores (s : State) (g : Fin 8) (cls cause : Nat) : (s.faultStop g cls cause).stores = s.stores := by
  unfold State.faultStop
  split <;> simp only [State.stopGroup_stores, State.setPending_stores]

theorem State.groupRetire_stores (s : State) (g : Fin 8) (cause : Nat) : (s.groupRetire g cause).stores = s.stores := by
  unfold State.groupRetire
  split <;> simp only [State.toFaulted_stores, State.setPending_stores, State.faultStop_stores]

theorem State.capsOf_stores (s : State) (g : Fin 8) : (s.capsOf g).stores = s.stores := by
  unfold State.capsOf
  split <;> simp only [State.refreshEff_stores]

theorem State.loadEffect_stores (s : State) (g : Fin 8) : (s.loadEffect g).stores = s.stores := by
  unfold State.loadEffect
  split <;> simp only [State.modSlot_stores, State.modPwm_stores, forNums_stores, implies_true]

theorem State.loadAll_stores (s : State) (g : Fin 8) (internal : Bool) : (s.loadAll g internal).stores = s.stores := by
  simp only [State.loadAll, State.modPwm_stores, State.loadEffect_stores, stores_ite, ite_self]

theorem State.slotLeaves_stores (s : State) (g : Fin 8) (n : Nat) : (s.slotLeaves g n).stores = s.stores := by
  simp only [State.slotLeaves, State.modSlot_stores, State.pwmStop_stores, State.loadAll_stores, stores_ite, ite_self]

theorem State.checkMinimum_stores (s : State) (g : Fin 8) : (s.checkMinimum g).stores = s.stores := by
  simp only [State.checkMinimum, State.faultStop_stores, stores_ite, ite_self]

theorem State.slotRetire_stores (s : State) (n : Nat) (wasIn : Bool) : (s.slotRetire n wasIn).stores = s.stores := by
  simp only [State.slotRetire]
  split
  · simp only [State.modSlot_stores]
  · split <;> simp only [State.modSlot_stores, State.capsOf_stores, State.slotLeaves_stores, State.toFaulted_stores,
    State.checkMinimum_stores, stores_ite, ite_self]

theorem State.portRetire_stores (s : State) (p : Fin 8) : (s.portRetire p).stores = s.stores := by
  unfold State.portRetire
  split <;> simp only [whenDo_stores, State.stopGroup_stores, State.portSet_stores, State.portEndSession_stores, implies_true]

theorem State.swRetire_stores (s : State) (n : Fin 24) : (s.swRetire n).stores = s.stores := by
  simp only [State.swRetire, State.swState_stores, State.swTurnOff_stores]

theorem State.setQueue_stores (s : State) (i : Fin 128) (q : Queue) : (s.setQueue i q).stores = s.stores :=
  State.stores_of_beyond (State.setQueue_beyond ..)

theorem State.watermark_stores (s : State) (i : Fin 128) : (s.watermark i).stores = s.stores :=
  State.stores_of_beyond (State.watermark_beyond ..)

theorem State.putQueue_stores (s : State) (i : Fin 128) (q : Queue) : (s.putQueue i q).stores = s.stores :=
  State.stores_of_beyond (State.putQueue_beyond ..)

theorem State.queueDrop_stores (s : State) (i : Fin 128) (n : Nat) : (s.queueDrop i n).stores = s.stores :=
  State.stores_of_beyond (State.queueDrop_beyond ..)

theorem State.offer_stores (s : State) (i : Fin 128) (ws : List QWord) : (s.offer i ws).1.stores = s.stores :=
  State.stores_of_beyond (State.offer_beyond ..)

theorem State.offerPacket_stores (s : State) (i : Fin 128) (bs : Bytes) : (s.offerPacket i bs).1.stores = s.stores :=
  State.stores_of_beyond (State.offerPacket_beyond ..)

theorem State.offerRx_stores (s : State) (i : Fin 128) (bs : Bytes) : (s.offerRx i bs).1.stores = s.stores :=
  State.stores_of_beyond (State.offerRx_beyond ..)

theorem State.canRecord_stores (s : State) (n : Fin 8) (stamp ident dlc kind : Nat) (own : Bool) (data : Bytes) :
    (s.canRecord n stamp ident dlc kind own data).stores = s.stores :=
  State.stores_of_beyond (State.canRecord_beyond ..)

theorem State.canMarkRec_stores (s : State) (n : Fin 8) (oldMode : CanMode) (oldState : CanState) (cause : Nat) :
    (s.canMarkRec n oldMode oldState cause).stores = s.stores :=
  State.stores_of_beyond (State.canMarkRec_beyond ..)

theorem State.canStateRec_stores (s : State) (n : Fin 8) (oldMode : CanMode) (oldState : CanState) (cause : Nat) :
    (s.canStateRec n oldMode oldState cause).stores = s.stores :=
  State.stores_of_beyond (State.canStateRec_beyond ..)

theorem State.canRetire_stores (s : State) (n : Fin 8) : (s.canRetire n).stores = s.stores := by
  simp only [State.canRetire, State.modCan_stores, State.canStateRec_stores]

theorem State.queueEmpty_stores (s : State) (i : Fin 128) : (s.queueEmpty i).stores = s.stores := by
  simp only [State.queueEmpty, State.putQueue_stores, stores_ite, ite_self]

theorem State.queueRetire_stores (s : State) (i : Fin 128) : (s.queueRetire i).stores = s.stores := by
  simp only [State.queueRetire, State.queueEmpty_stores, State.raise_stores, State.setQueue_stores]

theorem State.retire_stores (s : State) (target cause t : Nat) : (s.retire target cause t).stores = s.stores := by
  unfold State.retire
  split <;> simp only [State.raise_stores, State.groupRetire_stores, State.slotRetire_stores, State.portRetire_stores,
    State.swRetire_stores, State.canRetire_stores, State.queueRetire_stores, State.stores_mk, State.stores_fold, stores_dite,
    ite_self, dite_eq_ite]

theorem State.chargeAs_stores (s : State) (kind target cause t : Nat) (permanent : Bool) :
    (s.chargeAs kind target cause t permanent).stores = s.stores := by
  simp only [State.chargeAs, State.setClsf_stores, State.chargeRecord_stores, State.retire_stores, State.stores_mk,
    State.stores_fold, stores_ite, ite_self]

theorem bodyPhaseRetire_stores (r : Req) (s : State) : (bodyPhaseRetire r s).s.stores = s.stores := by
  simp only [bodyPhaseRetire, State.chargeAs_stores, Ans.ok_s, Ans.table_stores]

theorem State.unretire_stores (s : State) (target : Nat) : (s.unretire target).stores = s.stores := rfl

theorem State.clearHistory_stores (s : State) (target : Nat) : (s.clearHistory target).stores = s.stores := by
  simp only [State.clearHistory, State.setClsf_stores, stores_ite, ite_self]

theorem bodyPhaseRestore_stores (r : Req) (s : State) : (bodyPhaseRestore r s).s.stores = s.stores := by
  simp only [bodyPhaseRestore, State.unretire_stores, State.clearHistory_stores, Ans.ok_s, Ans.table_stores]

theorem bodyGroupFaultRead_stores (r : Req) (s : State) : (bodyGroupFaultRead r s).s.stores = s.stores := by
  unfold bodyGroupFaultRead
  refine Ans.table_stores ?_
  rw [Ans.ok_s]
  split
  · exact State.free_stores ..
  · rfl

theorem State.retake_stores (s : State) (g : Fin 8) (n : Nat) (p : PickNote) : (s.retake g n p).stores = s.stores := by
  simp only [State.retake, State.modPwm_stores, State.modSlot_stores, stores_ite, ite_self]

theorem State.latencyTrace_stores (s : State) (g : Fin 8) (n : Nat) : (s.latencyTrace g n).stores = s.stores := by
  simp only [State.latencyTrace, State.free_stores, State.modLoop_stores, State.capNote_stores, stores_ite, ite_self]

theorem State.notePoint_stores (s : State) (g : Fin 8) (n : Nat) : (s.notePoint g n).stores = s.stores := by
  simp only [State.notePoint, State.modSlot_stores, stores_ite, ite_self]

theorem State.pickAgain_stores (s : State) (g : Fin 8) (n : Nat) (p : PickNote) (write : State → State) (hwrite : ∀ u, (write
    u).stores = u.stores) : (s.pickAgain g n p write).stores = s.stores := by
  simp only [State.pickAgain, State.modLoop_stores, State.modSlot_stores, State.retake_stores, State.latencyTrace_stores,
    State.notePoint_stores, State.stores_mk, State.stores_fold, stores_ite, ite_self, hwrite]

theorem State.shadowWrite_stores (s : State) (n : Nat) (write : State → State) (hwrite : ∀ u, (write u).stores = u.stores) :
    (s.shadowWrite n write).stores = s.stores := by
  simp only [State.shadowWrite]
  split
  · simp only [hwrite]
  · split <;> simp only [State.pickAgain_stores, implies_true, hwrite]

theorem State.pickTaken_stores (s : State) (n : Nat) : (s.pickTaken n).stores = s.stores := by
  unfold State.pickTaken
  simp [State.shadowWrite_stores, implies_true]

theorem bodyPwmGroup_stores (r : Req) (s : State) : (bodyPwmGroup r s).s.stores = s.stores := by
  simp only [bodyPwmGroup, State.store_stores, State.pwmStop_stores, State.modPwm_stores, State.modSlot_stores,
    State.pickTaken_stores, stores_ite, ite_self, forNums_stores, implies_true, Ans.ok_s, Ans.table_stores]

theorem bodyPwmSlot_stores (r : Req) (s : State) : (bodyPwmSlot r s).s.stores = s.stores := by
  simp only [bodyPwmSlot, State.pickTaken_stores, State.modSlot_stores, Ans.ok_s, Ans.table_stores]

theorem bodyPwmWrite_stores (r : Req) (s : State) : (bodyPwmWrite r s).s.stores = s.stores := by
  simp only [bodyPwmWrite]
  split <;> simp only [bodyPwmGroup_stores, bodyPwmSlot_stores, Ans.table_stores]

theorem State.pwmStart_stores (s : State) (g : Fin 8) : (s.pwmStart g).stores = s.stores := by
  simp only [State.pwmStart, State.modSlot_stores, State.modPwm_stores, forNums_stores, implies_true]

theorem bodyPwmLoadall_stores (r : Req) (s : State) : (bodyPwmLoadall r s).s.stores = s.stores := by
  unfold bodyPwmLoadall
  refine Ans.table_stores ?_
  split <;> simp only [Ans.ok_s, State.loadAll_stores, State.pwmStart_stores]

theorem bodyPwmCalStatus_stores (r : Req) (s : State) : (bodyPwmCalStatus r s).s.stores = s.stores := rfl

theorem Ans.stored_stores (s : State) (f : Cfg → Cfg) : (Ans.stored s f).s.stores = s.stores := by
  simp only [Ans.stored, State.store_stores, Ans.ok_s]

theorem bodyLoopParam_stores (r : Req) (s : State) : (bodyLoopParam r s).s.stores = s.stores := by
  simp only [bodyLoopParam, Ans.stored_stores, Ans.table_stores]

theorem bodyLoopProfile_stores (r : Req) (s : State) : (bodyLoopProfile r s).s.stores = s.stores := by
  simp only [bodyLoopProfile, State.modLoop_stores, State.store_stores, Ans.ok_s, Ans.table_stores]

theorem bodyLoopTrace_stores (r : Req) (s : State) : (bodyLoopTrace r s).s.stores = s.stores := by
  unfold bodyLoopTrace
  refine Ans.table_stores ?_
  split
  · simp only [Ans.ok_s, stores_ite, State.modLoop_stores, ite_self]
  · refine (State.modLoop_stores ..).trans ?_
    split
    · rfl
    · exact State.free_stores ..

theorem State.linkRelease_stores (s : State) (p : Fin 8) : (s.linkRelease p).stores = s.stores :=
  State.stores_of_beyond (State.linkRelease_beyond ..)

theorem bodyPortConfig_stores (r : Req) (s : State) : (bodyPortConfig r s).s.stores = s.stores := by
  simp only [bodyPortConfig, State.store_stores, State.linkRelease_stores, stores_ite, ite_self, Ans.ok_s, Ans.table_stores]

theorem bodyPortAuthorize_stores (r : Req) (s : State) : (bodyPortAuthorize r s).s.stores = s.stores := by
  unfold bodyPortAuthorize
  refine Ans.table_stores ?_
  split <;> simp only [Ans.ok_s, State.portBack_stores, State.modSession_stores]

theorem bodyPortLimit_stores (r : Req) (s : State) : (bodyPortLimit r s).s.stores = s.stores := by
  simp only [bodyPortLimit, State.refreshEff_stores, State.modPort_stores, State.store_stores, Ans.ok_s, Ans.table_stores]

theorem State.portStopGroup_stores (s : State) (p : Fin 8) (cls : Nat) : (s.portStopGroup p cls).stores = s.stores := by
  unfold State.portStopGroup
  split <;> simp only [State.stopGroup_stores]

theorem State.portStop_stores (s : State) (p : Fin 8) (cls reason rank : Nat) :
    (s.portStop p cls reason rank).stores = s.stores := by
  simp only [State.portStop]
  repeat' split
  all_goals simp only [State.portEndSession_stores, State.portStopGroup_stores, State.modSession_stores,
    State.noteEnding_stores, State.portBack_stores, State.modPort_stores, State.portReturn_stores, State.stopGroup_stores,
    whenDo_stores, implies_true]

theorem bodyPortStop_stores (r : Req) (s : State) : (bodyPortStop r s).s.stores = s.stores := by
  simp only [bodyPortStop, State.portStop_stores, Ans.ok_s, Ans.table_stores]

theorem bodyPortStatus_stores (r : Req) (s : State) : (bodyPortStatus r s).s.stores = s.stores := rfl

theorem bodyPortSessionRead_stores (r : Req) (s : State) : (bodyPortSessionRead r s).s.stores = s.stores := by
  unfold bodyPortSessionRead
  refine Ans.table_stores ?_
  split
  next old t ho =>
  have ht : t.stores = s.stores := by
    have hp := congrArg (fun q : Nat × State => q.2.stores) ho
    refine hp.symm.trans ?_
    split
    · rfl
    · exact State.free_stores ..
  split
  · split
    next why u hw =>
    have hp := congrArg (fun q : Nat × State => q.2.stores) hw
    refine (hp.symm.trans ?_).trans ht
    split
    · rfl
    · exact State.free_stores ..
  · exact ht

theorem bodyPortClear_stores (r : Req) (s : State) : (bodyPortClear r s).s.stores = s.stores := by
  simp only [bodyPortClear, State.modPort_stores, State.portSet_stores, Ans.ok_s, Ans.table_stores]

theorem State.modCool_stores (s : State) (p : Fin 8) (f : Cool → Cool) : (s.modCool p f).stores = s.stores := rfl

theorem bodyCoolConfig_stores (r : Req) (s : State) : (bodyCoolConfig r s).s.stores = s.stores := by
  unfold bodyCoolConfig
  exact Ans.table_stores ((State.modCool_stores ..).trans (State.store_stores ..))

theorem bodyCoolStatus_stores (r : Req) (s : State) : (bodyCoolStatus r s).s.stores = s.stores := rfl

theorem State.modLane_stores (s : State) (n : Fin 144) (f : Lane → Lane) : (s.modLane n f).stores = s.stores := rfl

theorem State.filterRestart_stores (s : State) (which : Nat → Bool) : (s.filterRestart which).stores = s.stores :=
  forFin_stores fun _ _ => whenDo_stores _ _ _ fun _ => State.modLane_stores ..

theorem bodyMeterConfig_stores (r : Req) (s : State) : (bodyMeterConfig r s).s.stores = s.stores := by
  simp only [bodyMeterConfig]
  repeat' split
  all_goals simp only [State.mrec_stores, State.modMeter_stores, State.filterRestart_stores, State.stores_mk,
    State.stores_fold, Ans.ok_s, Ans.table_stores]

theorem bodyMeterCalTable_stores (r : Req) (s : State) : (bodyMeterCalTable r s).s.stores = s.stores := by
  unfold bodyMeterCalTable
  dsimp only
  split
  · rfl
  · repeat' split
    all_goals simp only [Ans.ok_s, Ans.err_s, State.mrec_stores, State.stores_mk, State.stores_fold]

theorem bodyMeterRead_stores (r : Req) (s : State) : (bodyMeterRead r s).s.stores = s.stores := by
  unfold bodyMeterRead
  refine Ans.table_stores ?_
  split <;> rfl

theorem bodyMeterSeal_stores (r : Req) (s : State) : (bodyMeterSeal r s).s.stores = s.stores := by
  simp only [bodyMeterSeal, State.raise_stores, State.mrec_stores, State.stores_mk, State.stores_fold, Ans.ok_s, Ans.table_stores]

theorem bodyBillTariffLoad_stores (r : Req) (s : State) : (bodyBillTariffLoad r s).s.stores = s.stores := by
  simp only [bodyBillTariffLoad, State.mrec_stores, State.modB_stores, Ans.ok_s, Ans.table_stores]

theorem bodyBillCalendarLoad_stores (r : Req) (s : State) : (bodyBillCalendarLoad r s).s.stores = s.stores := by
  simp only [bodyBillCalendarLoad, State.mrec_stores, State.modB_stores, Ans.ok_s, Ans.table_stores]

theorem bodyBillRead_stores (r : Req) (s : State) : (bodyBillRead r s).s.stores = s.stores := by
  unfold bodyBillRead
  extract_lets b kind n sel x want snap i unreg
  split
  exact Ans.table_stores rfl

theorem State.setPath_stores (s : State) (a b : Nat) (p : Path) : (s.setPath a b p).stores = s.stores := rfl

theorem State.pathFail_stores (s : State) (a b : Nat) : (s.pathFail a b).stores = s.stores := by
  simp only [State.pathFail, State.setPath_stores]

theorem State.tokenRun_stores (s : State) (good : Bool) (v account a b : Nat) :
    (s.tokenRun good v account a b).2.stores = s.stores := by
  unfold State.tokenRun
  extract_lets id amount x h ahead behind newer newH marks y u
  have hu : u.stores = s.stores := State.modB_stores ..
  clear_value u
  split
  · rfl
  split
  · rfl
  split
  · rfl
  split
  · exact State.pathFail_stores ..
  split
  · rfl
  split
  · rfl
  split
  · rfl
  split
  · rfl
  split
  · rfl
  split
  · rfl
  · exact (State.billCommit_stores ..).trans hu

theorem State.token_stores (s : State) (good : Bool) (v account a b : Nat) :
    (s.token good v account a b).2.stores = s.stores := by
  simp only [State.token]
  split
  · simp only [State.tokenRun_stores]
  · split <;> simp only [State.tokenRun_stores, State.raise_stores, State.mrec_stores, State.modB_stores]

theorem bodyBillTokenEnter_stores (r : Req) (s : State) : (bodyBillTokenEnter r s).s.stores = s.stores := by
  simp only [bodyBillTokenEnter, State.token_stores, Ans.ok_s, Ans.table_stores]

theorem bodyBillClosePeriod_stores (r : Req) (s : State) : (bodyBillClosePeriod r s).s.stores = s.stores := by
  simp only [bodyBillClosePeriod, State.modB_stores, stores_ite, ite_self, Ans.ok_s, Ans.table_stores]

theorem bodyBillAccount_stores (r : Req) (s : State) : (bodyBillAccount r s).s.stores = s.stores := by
  unfold bodyBillAccount
  refine Ans.table_stores ?_
  split <;> simp only [Ans.ok_s, State.mrec_stores, State.modB_stores, State.stores_mk, State.stores_fold]

theorem State.swAllOff_stores (s : State) : s.swAllOff.stores = s.stores :=
  State.stores_of_beyond (State.swAllOff_beyond ..)

theorem State.swApplyAll_stores (s : State) (slew : Bool) : (s.swApplyAll slew).stores = s.stores := by
  simp only [State.swApplyAll, State.swTurnOn_stores, stores_ite, ite_self, forFin_stores, implies_true]

theorem State.pairingChange_stores (s : State) (on : Bool) : (s.pairingChange on).stores = s.stores := by
  simp only [State.pairingChange, State.swAllOff_stores, State.modTwin_stores, State.swApplyAll_stores, stores_ite, ite_self]

theorem bodyTwinConfig_stores (r : Req) (s : State) : (bodyTwinConfig r s).s.stores = s.stores := by
  unfold bodyTwinConfig
  refine Ans.table_stores ?_
  split <;> simp only [Ans.ok_s, stores_ite, State.pairingChange_stores, State.store_stores, ite_self]

theorem State.twinRenewal_stores (s : State) (b : Bytes) : (s.twinRenewal b).stores = s.stores := by
  simp only [State.twinRenewal, State.modTwin_stores, State.twinEnter_stores, stores_ite, ite_self]

theorem State.masterRenewal_stores (s : State) (b : Bytes) : (s.masterRenewal b).stores = s.stores := by
  simp only [State.masterRenewal, State.raise_stores, State.modTwin_stores, State.stores_mk, State.stores_fold, stores_ite,
    ite_self]

theorem bodyTwinStatus_stores (r : Req) (s : State) : (bodyTwinStatus r s).s.stores = s.stores := by
  unfold bodyTwinStatus
  refine Ans.table_stores ?_
  split <;> simp only [Ans.ok_s, State.twinRenewal_stores, State.masterRenewal_stores]

theorem State.hingeSend_stores (s : State) (k : HingeKind) (figs : List Int) (data : Bytes) :
    (s.hingeSend k figs data).stores = s.stores := by
  simp only [State.hingeSend, State.emit_stores, stores_ite, ite_self]

theorem State.offerHandover_stores (s : State) (q0 drill : Nat) : (s.offerHandover q0 drill).stores = s.stores := by
  simp only [State.offerHandover, State.hingeSend_stores, State.modTwin_stores]

theorem State.drillStart_stores (s : State) : s.drillStart.stores = s.stores := by
  simp only [State.drillStart, State.offerHandover_stores, State.modTwin_stores]

theorem bodyTwinDrill_stores (r : Req) (s : State) : (bodyTwinDrill r s).s.stores = s.stores := by
  unfold bodyTwinDrill
  refine Ans.table_stores ?_
  split <;> simp only [Ans.ok_s, State.drillStart_stores, State.modTwin_stores]

theorem bodyTwinYield_stores (r : Req) (s : State) : (bodyTwinYield r s).s.stores = s.stores := by
  simp only [bodyTwinYield, State.offerHandover_stores, Ans.ok_s, Ans.table_stores]

theorem bodyCanConfig_stores (r : Req) (s : State) : (bodyCanConfig r s).s.stores = s.stores := by
  simp only [bodyCanConfig]
  split <;> simp only [State.modCan_stores, State.store_stores, Ans.ok_s, Ans.table_stores]

theorem State.nextSeq_stores (s : State) : s.nextSeq.2.stores = s.stores := rfl

theorem State.twinTag_stores (s : State) : s.twinTag.2.stores = s.stores := by
  simp only [State.twinTag, State.nextSeq_stores]

theorem bodyCanSend_stores (r : Req) (s : State) : (bodyCanSend r s).s.stores = s.stores := by
  simp only [bodyCanSend]
  split <;> simp only [State.twinTag_stores, State.modCan_stores, Ans.ok_s, Ans.table_stores]

theorem State.canSetMode_stores (s : State) (n : Fin 8) (m : CanMode) (cause : Nat) :
    (s.canSetMode n m cause).stores = s.stores :=
  State.stores_of_beyond (State.canSetMode_beyond ..)

theorem State.canAskMode_stores (s : State) (n : Fin 8) (m : CanMode) (cause : Nat) :
    (s.canAskMode n m cause).stores = s.stores :=
  State.stores_of_beyond (State.canAskMode_beyond ..)

theorem bodyCanMode_stores (r : Req) (s : State) : (bodyCanMode r s).s.stores = s.stores := by
  simp only [bodyCanMode]
  split <;> simp only [State.modCan_stores, State.store_stores, State.canAskMode_stores, stores_ite, ite_self, Ans.ok_s,
    Ans.table_stores]

theorem bodyCanStatus_stores (r : Req) (s : State) : (bodyCanStatus r s).s.stores = s.stores := rfl

theorem State.modFl_stores (s : State) (f : Flink → Flink) : (s.modFl f).stores = s.stores := rfl

theorem bodyFlinkConfig_stores (r : Req) (s : State) : (bodyFlinkConfig r s).s.stores = s.stores := by
  simp only [bodyFlinkConfig]
  split <;> simp only [State.modFl_stores, Ans.stored_stores, stores_ite, ite_self, Ans.table_stores]

theorem bodyFlinkSend_stores (r : Req) (s : State) : (bodyFlinkSend r s).s.stores = s.stores := by
  unfold bodyFlinkSend
  exact Ans.table_stores (State.modFl_stores ..)

theorem bodyFlinkStatus_stores (a : Req) (s : State) : (bodyFlinkStatus a s).s.stores = s.stores := rfl

theorem State.queueApply_stores (s : State) (q : Fin 128) (b : Bytes) : (s.queueApply q b).stores = s.stores := by
  simp only [State.queueApply, State.queueEmpty_stores, State.putQueue_stores, stores_ite, ite_self]

theorem bodyQueueConfig_stores (r : Req) (s : State) : (bodyQueueConfig r s).s.stores = s.stores := by
  simp only [bodyQueueConfig, State.queueApply_stores, State.store_stores, Ans.ok_s, Ans.table_stores]

theorem bodyQueueDropPacket_stores (r : Req) (s : State) : (bodyQueueDropPacket r s).s.stores = s.stores := by
  simp only [bodyQueueDropPacket, State.putQueue_stores, Ans.ok_s, Ans.table_stores]

theorem bodyQueueStatus_stores (r : Req) (s : State) : (bodyQueueStatus r s).s.stores = s.stores := by
  unfold bodyQueueStatus
  split <;> simp only [Ans.ok_s]

theorem bodyEventRoute_stores (r : Req) (s : State) : (bodyEventRoute r s).s.stores = s.stores := by
  unfold bodyEventRoute
  refine Ans.table_stores (foldl_stores fun u o => ?_)
  exact Eq.trans (by rfl) (u.store_stores (fun c => { c with route := vset c.route (u8 r.body o) (some (u8 r.body (o + 1), u8
    r.body (o + 2))) }))

theorem bodySwConfig_stores (r : Req) (s : State) : (bodySwConfig r s).s.stores = s.stores := by
  simp only [bodySwConfig, Ans.stored_stores, Ans.table_stores]

theorem bodySwSet_stores (r : Req) (s : State) : (bodySwSet r s).s.stores = s.stores := by
  unfold bodySwSet
  refine Ans.table_stores ?_
  split <;> simp only [Ans.ok_s, State.swState_stores, State.swCommand_stores, State.modSw_stores]

theorem bodySwStatus_stores (r : Req) (s : State) : (bodySwStatus r s).s.stores = s.stores := rfl

theorem bodyHkConfig_stores (r : Req) (s : State) : (bodyHkConfig r s).s.stores = s.stores := by
  simp only [bodyHkConfig, State.store_stores, State.stores_mk, State.stores_fold, stores_dite, ite_self, dite_eq_ite,
    foldl_stores, implies_true, Ans.ok_s, Ans.table_stores]

theorem bodyHkRead_stores (r : Req) (s : State) : (bodyHkRead r s).s.stores = s.stores := by
  unfold bodyHkRead

  exact Ans.table_stores rfl

theorem bodyThermConfig_stores (r : Req) (s : State) : (bodyThermConfig r s).s.stores = s.stores := by
  simp only [bodyThermConfig, Ans.stored_stores, Ans.table_stores]

theorem State.shiftRetries_stores (s : State) (held : Int) : (s.shiftRetries held).stores = s.stores := rfl

theorem State.thermClear_stores (s : State) (throughReset : Bool) : (s.thermClear throughReset).stores = s.stores := by
  simp only [State.thermClear, State.raise_stores, State.shiftRetries_stores, State.stores_mk, State.stores_fold]

theorem State.thermRelease_stores (s : State) : s.thermRelease.stores = s.stores := by
  simp only [State.thermRelease, State.thermClear_stores, State.swApplyAll_stores, State.stores_mk, State.stores_fold,
    stores_ite, ite_self]

theorem bodyThermRelease_stores (a : Req) (s : State) : (bodyThermRelease a s).s.stores = s.stores := by
  simp only [bodyThermRelease, State.thermRelease_stores, stores_ite, ite_self, Ans.ok_s, Ans.table_stores]

theorem bodyFaultRead_stores (r : Req) (s : State) : (bodyFaultRead r s).s.stores = s.stores := rfl

theorem State.restoreResource_stores (s : State) (target : Nat) : (s.restoreResource target).stores = s.stores := by
  simp only [State.restoreResource, stores_ite]
  split
  · simp only []
  · split <;> simp only [State.unretire_stores, State.portSet_stores, State.swState_stores, State.swTurnOn_stores,
    State.modCan_stores, State.setQueue_stores, State.stores_mk, State.stores_fold, stores_ite, stores_dite, ite_self,
    dite_eq_ite]

theorem bodyFaultClear_stores (r : Req) (s : State) : (bodyFaultClear r s).s.stores = s.stores := by
  simp only [bodyFaultClear, whenDo_stores, State.restoreResource_stores, State.clearHistory_stores, State.modProt_stores,
    State.toOff_stores, stores_ite, ite_self, implies_true, Ans.ok_s, Ans.table_stores]

theorem bodyResourceList_stores (r : Req) (s : State) : (bodyResourceList r s).s.stores = s.stores := rfl

theorem State.replyHost_stores (s : State) (bs : Bytes) : (s.replyHost bs).stores = s.stores := by
  simp only [State.replyHost, State.offerPacket_stores, State.stores_mk, State.stores_fold, stores_ite, ite_self]

theorem State.sendReply_stores (s : State) (p : Pkt) (a : Arrival) (raw : Bytes) : (s.sendReply p a raw).stores = s.stores := by
  simp only [State.sendReply]
  split <;> simp only [State.replyHost_stores, State.emit_stores, State.stores_mk, State.stores_fold, stores_ite, ite_self,
    foldl_stores, implies_true]

theorem State.reply_stores (s : State) (p : Pkt) (a : Arrival) (payload : Bytes) : (s.reply p a payload).stores = s.stores := by
  simp only [State.reply, State.sendReply_stores]
  repeat' split
  all_goals simp only [State.free_stores]

theorem State.replied_stores (s : State) (p : Pkt) (arr : Arrival) (status : Nat) (rest : Bytes) (silent : Bool) :
    (s.replied p arr status rest silent).stores = s.stores := by
  simp only [State.replied, State.reply_stores, State.stores_mk, State.stores_fold, stores_ite, ite_self]

theorem State.setLeaseOut_stores (s : State) (b : Bool) : (s.setLeaseOut b).stores = s.stores := rfl

theorem State.canRelease_stores (s : State) : s.canRelease.stores = s.stores := by
  simp only [State.canRelease, State.canAskMode_stores, State.modCan_stores, forFin_stores, implies_true]

theorem State.drillEnd_stores (s : State) (ok : Bool) : (s.drillEnd ok).stores = s.stores := by
  simp only [State.drillEnd, State.raise_stores, State.stores_mk, State.stores_fold]

theorem State.drillBroken_stores (s : State) : s.drillBroken.stores = s.stores := by
  simp only [State.drillBroken, State.drillEnd_stores, State.stores_mk, State.stores_fold, stores_ite, ite_self]

theorem State.release_stores (s : State) : s.release.stores = s.stores := by
  simp only [State.release, State.setLeaseOut_stores, State.groupLow_stores, State.modPort_stores, State.canRelease_stores,
    State.swAllOff_stores, State.drillBroken_stores, State.raise_stores, State.emit_stores, State.twinEnter_stores,
    State.stores_mk, State.stores_fold, stores_ite, ite_self, forFin_stores, implies_true]

theorem State.closeBooks_stores (s : State) : s.closeBooks.stores = s.stores := by
  simp only [State.closeBooks, State.billAdvance_stores, State.closeAll_stores]

theorem State.orderly_stores (s : State) : s.orderly.stores = s.stores := by
  simp only [State.orderly, State.billCommit_stores, State.closeBooks_stores, State.stores_mk, State.stores_fold, stores_ite,
    ite_self]

theorem State.commitCut_stores (s : State) : s.commitCut.stores = s.stores := by
  unfold State.commitCut
  split <;> simp only [State.stores_mk, State.stores_fold, stores_ite, ite_self]

theorem State.enterReset_stores (s : State) (cause : Nat) : (s.enterReset cause).stores = s.stores := by
  simp only [State.enterReset, State.commitCut_stores, State.groupLow_stores, State.stores_mk, State.stores_fold,
    forFin_stores, implies_true]

theorem State.nonKeepOff_stores (s : State) : s.nonKeepOff.stores = s.stores := by
  simp only [State.nonKeepOff, State.swTurnOff_stores, State.swState_stores, stores_ite, ite_self, forFin_stores, implies_true]

theorem State.sleepOff_stores (s : State) : s.sleepOff.stores = s.stores := by
  simp only [State.sleepOff, State.nonKeepOff_stores, State.modSw_stores, State.swTurnOff_stores, State.stores_mk,
    State.stores_fold, stores_ite, ite_self, forFin_stores, implies_true]

theorem State.sleepEnter_stores (s : State) (sources wakeAt : Nat) : (s.sleepEnter sources wakeAt).stores = s.stores := by
  simp only [State.sleepEnter, State.orderly_stores, State.sleepOff_stores, State.stores_mk, State.stores_fold, stores_ite,
    ite_self]

theorem State.countErr_stores (s : State) : s.countErr.stores = s.stores := rfl

theorem State.refuse_stores (s : State) (p : Pkt) (a : Arrival) (status off : Nat) (always : Bool) :
    (s.refuse p a status off always).stores = s.stores := by
  simp only [State.refuse, State.countErr_stores, State.reply_stores, stores_ite, ite_self]

theorem State.originate_stores (s : State) (code : Nat) (timed wants : Bool) (payload : Bytes) (dest : SitePeer → Bool) :
    (s.originate code timed wants payload dest).2.stores = s.stores := by
  simp only [State.originate]
  split
  · simp only []
  · split <;> simp only [State.nextSeq_stores, State.emit_stores, State.stores_mk, State.stores_fold, foldl_stores, implies_true]

theorem State.tryRelease_stores (s : State) : s.tryRelease.stores = s.stores := by
  simp only [State.tryRelease, State.originate_stores, State.allocRelease_stores, State.stores_mk, State.stores_fold,
    stores_ite, ite_self, foldl_stores, implies_true]

theorem State.allocAck_stores (s : State) (p seq : Nat) : (s.allocAck p seq).stores = s.stores := by
  simp only [State.allocAck, State.tryRelease_stores, State.stores_mk, State.stores_fold]

theorem State.matchReply_stores (s : State) (p : Pkt) (from_ : Sender) : (s.matchReply p from_).stores = s.stores := by
  simp only [State.matchReply]
  repeat' split
  all_goals simp only [State.countErr_stores, State.allocAck_stores, State.stores_mk, State.stores_fold]

theorem State.badTag_stores (s : State) (p : Pkt) (a : Arrival) : (s.badTag p a).stores = s.stores := by
  simp only [State.badTag, State.countErr_stores, State.raise_stores, State.reply_stores, State.stores_mk, State.stores_fold,
    stores_ite, ite_self]

theorem State.fromQueue0_stores (s : State) (bs : Bytes) : (s.fromQueue0 bs).stores = s.stores := by
  simp only [State.fromQueue0, State.putQueue_stores, stores_ite, ite_self]

theorem State.received_stores (s : State) (p : Pkt) : (s.received p).stores = s.stores := by
  simp only [State.received, State.fromQueue0_stores, stores_ite, ite_self]

theorem State.captureDone_stores (s : State) : s.captureDone.stores = s.stores := by
  simp only [State.captureDone, State.free_stores, State.raise_stores, State.stores_mk, State.stores_fold, stores_ite,
    ite_self, foldl_stores, implies_true]

theorem State.epochRoll_stores (s : State) : s.epochRoll.stores = s.stores := by
  simp only [State.epochRoll, State.modFeeder_stores, State.modPort_stores, State.stores_mk, State.stores_fold, stores_ite,
    ite_self, forFin_stores, implies_true]

theorem State.reportSend_stores (s : State) : s.reportSend.stores = s.stores := by
  simp only [State.reportSend, stores_ite]
  split
  · simp only []
  · split <;> simp only [State.epochRoll_stores, State.takeReport_stores, State.originate_stores, State.stores_mk,
    State.stores_fold, stores_ite, ite_self]

theorem State.ownTargets_stores (s : State) (t : Nat) (b : Bytes) : (s.ownTargets t b).1.stores = s.stores := by
  simp only [State.ownTargets]
  split <;> simp only [State.pushLaunch_stores, State.allocAccept_stores]

theorem State.sendTargets_stores (s : State) (t : Nat) (b : Bytes) (wants : Bool) (p : Nat) :
    (s.sendTargets t b wants p).1.stores = s.stores := by
  simp only [State.sendTargets]
  split <;> simp only [State.originate_stores, State.ownTargets_stores]

theorem State.sendHold_stores (s : State) (e : Nat) (lim : Limits) : (s.sendHold e lim).stores = s.stores := by
  simp only [State.sendHold, State.sendTargets_stores, foldl_stores, implies_true]

theorem State.noteBase_stores (s : State) (at_ : Nat) (reps : List Report) : (s.noteBase at_ reps).stores = s.stores := rfl

theorem State.watchStore_stores (s : State) (te site : Nat) (x : SRec) : (s.watchStore te site x).stores = s.stores := by
  simp only [State.watchStore, State.raise_stores, State.modFeeder_stores, State.stores_mk, State.stores_fold, stores_ite,
    stores_dite, ite_self, dite_eq_ite]

theorem State.estimates_stores (s : State) (te : Nat) (l : List Report) (limp : Nat) :
    (s.estimates te l limp).stores = s.stores := by
  simp only [State.estimates, State.raise_stores, State.watchStore_stores, State.stores_mk, State.stores_fold, stores_ite,
    ite_self, foldl_stores, implies_true]

theorem State.issueEpoch_stores (s : State) (e : Nat) (lim : Limits) (reps : List Report) :
    (s.issueEpoch e lim reps).stores = s.stores := by
  unfold State.issueEpoch
  extract_lets t heard quiet counted imp net uest reserve bImp items first dMax settle narrowed shared bad u held trimmed d
    moves need
  have hu : u.stores = s.stores := by
    simp only [u, stores_ite, State.raise_stores, ite_self]
  clear_value u t bad
  split
  next v seqs acked hsent =>
  have hv : v.stores = u.stores := by
    refine (congrArg (fun a : State × List (Nat × Nat) × List Nat => a.1.stores) hsent).symm.trans ?_
    exact foldl_eq (π := fun a : State × List (Nat × Nat) × List Nat => a.1.stores) (fun a p => State.sendTargets_stores ..) _ _
  exact (State.tryRelease_stores _).trans (hv.trans hu)

theorem State.epochRun_stores (s : State) : s.epochRun.stores = s.stores := by
  simp only [State.epochRun, State.sendHold_stores, State.noteBase_stores, State.estimates_stores, State.issueEpoch_stores,
    State.stores_mk, State.stores_fold, stores_ite, ite_self]

theorem State.ackWaitEnd_stores (s : State) : s.ackWaitEnd.stores = s.stores := by
  simp only [State.ackWaitEnd, State.raise_stores, State.stores_mk, State.stores_fold, stores_ite, ite_self, foldl_stores,
    implies_true]

theorem State.freeSlots_stores (s : State) : s.freeSlots.stores = s.stores := rfl

theorem State.trailOne_stores (s : State) (t : Trailing) : (s.trailOne t).stores = s.stores := by
  simp only [State.trailOne, State.applyEntries_stores, State.raise_stores, State.stores_mk, State.stores_fold, stores_ite,
    ite_self]

theorem State.trailDue_stores (s : State) : s.trailDue.stores = s.stores := by
  unfold State.trailDue
  refine (State.freeSlots_stores _).trans (foldl_stores fun u x => ?_)
  cases x with
  | trail k t => exact State.trailOne_stores ..
  | lead l => rfl

theorem State.enterFallback_stores (s : State) : s.enterFallback.stores = s.stores := by
  simp only [State.enterFallback, State.reshare_stores, State.raise_stores, State.stores_mk, State.stores_fold]

theorem State.missedCheck_stores (s : State) : s.missedCheck.stores = s.stores := by
  simp only [State.missedCheck, State.reshare_stores, State.enterFallback_stores, State.stores_mk, State.stores_fold,
    stores_ite, ite_self]

theorem State.storeStale_stores (s : State) (f : Fin 4) : (s.storeStale f).stores = s.stores := by
  simp only [State.storeStale, State.raise_stores, State.modFeeder_stores, stores_ite, ite_self]

theorem State.storeStatus_stores (s : State) (f : Fin 4) (b : Bytes) : (s.storeStatus f b).stores = s.stores := by
  simp only [State.storeStatus, State.modFeeder_stores, State.storeStale_stores, stores_ite, ite_self]

theorem State.storeLate_stores (s : State) (f : Fin 4) : (s.storeLate f).stores = s.stores := by
  simp only [State.storeLate, whenDo_stores, State.storeStale_stores, implies_true]

theorem State.storeRepeat_stores (s : State) (f : Fin 4) : (s.storeRepeat f).stores = s.stores := by
  simp only [State.storeRepeat, whenDo_stores, State.sendStore_stores, implies_true]

theorem State.allocLaunch_stores (s : State) (b : Bytes) : (s.allocLaunch b).1.stores = s.stores := by
  simp only [State.allocLaunch]
  repeat' split
  all_goals simp only [State.raise_stores, State.applyEntries_stores, State.stores_mk, State.stores_fold]

theorem State.sourceLost_stores (s : State) (k : Nat) : (s.sourceLost k).stores = s.stores :=
  State.stores_of_beyond (State.sourceLost_beyond ..)

theorem State.sourceSeen_stores (s : State) (k : Nat) : (s.sourceSeen k).stores = s.stores := by
  simp only [State.sourceSeen, State.modSrc_stores, stores_ite, ite_self]

theorem State.ptpAnnounce_stores (s : State) (net src interval : Nat) (set : List Nat) :
    (s.ptpAnnounce net src interval set).stores = s.stores := by
  simp only [State.ptpAnnounce, State.modSrc_stores, State.sourceLost_stores, State.sourceSeen_stores, stores_ite, ite_self]

theorem State.sourceOffset_stores (s : State) (k : Nat) (off : Int) : (s.sourceOffset k off).stores = s.stores := by
  simp only [State.sourceOffset, State.modSrc_stores, withSel_stores, State.sourceUse_stores, stores_ite, ite_self, implies_true]

theorem State.ptp_stores (s : State) (net : Fin 2) (m : PtpMsg) : (s.ptp net m).stores = s.stores := by
  simp only [State.ptp, State.siteConflict_stores, stores_ite]
  repeat' split
  all_goals simp only [State.ptpAnnounce_stores, State.sourceOffset_stores, State.emit_stores]

theorem State.pps_stores (s : State) : s.pps.stores = s.stores := by
  simp only [State.pps, State.sourceLost_stores, State.sourceSeen_stores, State.modTime_stores, State.modSrc_stores,
    stores_ite, ite_self]

theorem State.gnss_stores (s : State) (utc : Nat) (ok : Bool) : (s.gnss utc ok).stores = s.stores := by
  unfold State.gnss
  split <;> simp only [State.modSrc_stores, State.sourceOffset_stores, State.modTime_stores, stores_ite, ite_self]

theorem State.dwellEnd_stores (s : State) : s.dwellEnd.stores = s.stores := by
  simp only [State.dwellEnd]
  repeat' split
  all_goals simp only [withSel_stores, State.selectSource_stores, implies_true]

theorem State.rtcCopy_stores (s : State) : s.rtcCopy.stores = s.stores := by
  simp only [State.rtcCopy, State.stores_mk, State.stores_fold, stores_ite, ite_self]

theorem State.zoneWarn_stores (s : State) : s.zoneWarn.stores = s.stores := by
  simp only [State.zoneWarn, State.raise_stores, State.modTime_stores, stores_ite, ite_self]

theorem State.mirrorLatch_stores (s : State) (a : Nat) : (s.mirrorLatch a).stores = s.stores := by
  simp only [State.mirrorLatch, State.modPwm_stores, State.modTwin_stores, State.stores_mk, State.stores_fold, stores_ite,
    ite_self]

theorem State.qrlo_stores (s : State) (q : Fin 128) : (s.qrlo q).2.stores = s.stores := by
  simp only [State.qrlo, State.putQueue_stores]

theorem State.mapTurn_stores (s : State) (n : Nat) : (s.mapTurn n).stores = s.stores := by
  simp only [State.mapTurn, State.modSlot_stores, stores_ite, ite_self]

theorem State.classify_stores (s : State) (target cause t : Nat) (permanent : Bool) :
    (s.classify target cause t permanent).stores = s.stores := by
  simp only [State.classify, State.chargeAs_stores]

theorem State.delayLineCal_stores (s : State) (n : Fin 48) (taps : Option Nat) : (s.delayLineCal n taps).stores = s.stores := by
  simp only [State.delayLineCal, State.mapTurn_stores, stores_ite, forNums_stores, implies_true]
  repeat' split
  all_goals simp only [State.mapTurn_stores, State.modSlot_stores, State.classify_stores, State.raise_stores, State.stores_mk,
    State.stores_fold, forNums_stores, implies_true]

theorem State.loadallTakeEffect_stores (s : State) (g : Fin 8) : (s.loadallTakeEffect g).stores = s.stores := by
  simp only [State.loadallTakeEffect, whenDo_stores, State.loadEffect_stores, implies_true]

theorem State.pickup_stores (s : State) (g : Fin 8) (n : Nat) : (s.pickup g n).stores = s.stores := by
  simp only [State.pickup, State.modPwm_stores, State.modSlot_stores, State.edgeNote_stores, State.latencyTrace_stores,
    State.notePoint_stores, stores_ite, ite_self]
  split <;> simp only [State.modPwm_stores, State.modLoop_stores, State.modSlot_stores, stores_ite, ite_self, forNums_stores,
    implies_true]

theorem State.slotPickup_stores (s : State) (n : Fin 48) : (s.slotPickup n).stores = s.stores := by
  unfold State.slotPickup
  split <;> simp only [whenDo_stores, State.mapTurn_stores, State.pickup_stores, implies_true]

theorem State.addRetry_stores (s : State) (g : Fin 8) : (s.addRetry g).1.stores = s.stores := by
  simp only [State.addRetry]
  split
  · simp only []
  · split <;> simp only [State.modPort_stores, State.modSession_stores, State.modProt_stores]

theorem State.softShort_stores (s : State) (g : Fin 8) (cause : Nat) : (s.softShort g cause).stores = s.stores := by
  simp only [State.softShort, State.addRetry_stores, State.groupRecord_stores, State.setPending_stores,
    State.toDischarge_stores, stores_ite, ite_self]
  repeat' split
  all_goals simp only [State.addRetry_stores, State.groupRecord_stores, State.setPending_stores, State.toDischarge_stores,
    State.portFault_stores]

theorem State.tripBurst_stores (s : State) (g : Fin 8) (n stamp : Nat) : (s.tripBurst g n stamp).stores = s.stores := by
  simp only [State.tripBurst]
  split <;> simp only [State.raiseAt_stores, State.softShort_stores, State.modSlot_stores, State.raise_stores,
    State.stopGroup_stores, State.capsOf_stores, State.slotLeaves_stores, State.checkMinimum_stores, whenDo_stores, stores_ite,
    ite_self, forNums_stores, implies_true]

theorem State.tripActed_stores (s : State) (g : Fin 8) (n : Nat) (f : Int) (stamp : Nat) :
    (s.tripActed g n f stamp).stores = s.stores := by
  simp only [State.tripActed, State.edgeNote_stores, State.modSlot_stores, State.modPwm_stores, State.softShort_stores,
    State.tripBurst_stores, State.pwmStop_stores, stores_ite, ite_self]

theorem State.tripRegistered_stores (s : State) (n : Fin 48) : (s.tripRegistered n).stores = s.stores := by
  simp only [State.tripRegistered]
  repeat' split
  all_goals simp only [State.edgeNote_stores, State.modSlot_stores, State.tripActed_stores]

theorem State.traceReplan_stores (s : State) (g : Fin 8) (cause : Nat) (old new : Int) :
    (s.traceReplan g cause old new).stores = s.stores := by
  simp only [State.traceReplan, State.modLoop_stores, State.capNote_stores]

theorem State.profileAdvance_stores (s : State) (g : Fin 8) : (s.profileAdvance g).stores = s.stores := by
  simp only [State.profileAdvance]
  split <;> simp only [State.raise_stores, State.modLoop_stores, State.traceReplan_stores]

theorem State.takeSetPoint_stores (s : State) (g : Fin 8) (p : SetPoint) : (s.takeSetPoint g p).1.stores = s.stores := by
  simp only [State.takeSetPoint]
  split
  · simp only [State.modLoop_stores, State.traceReplan_stores]
  · split <;> simp only [State.modLoop_stores, State.traceReplan_stores]

theorem State.profileTick_stores (s : State) (g : Fin 8) : (s.profileTick g).stores = s.stores := by
  simp only [State.profileTick, stores_ite]
  repeat' split
  all_goals simp only [State.modLoop_stores, State.profileAdvance_stores, State.takeSetPoint_stores]

theorem State.feederCycle_stores (s : State) (lanes : List LaneCycle) : (s.feederCycle lanes).stores = s.stores := by
  simp only [State.feederCycle, State.modFeeder_stores, stores_ite, ite_self, forFin_stores, implies_true]

theorem State.setSat_stores (s : State) (g : Fin 8) (flags : List (Nat × Bool)) : (s.setSat g flags).stores = s.stores := by
  simp only [State.setSat]
  split <;> simp only [State.raise_stores, State.modLoop_stores, stores_ite, ite_self]

theorem State.groupMeans_stores (s : State) (g : Fin 8) (lanes : List LaneCycle) :
    (s.groupMeans g lanes).1.stores = s.stores := by
  simp only [State.groupMeans, State.setSat_stores, State.modLoop_stores, State.modProt_stores, State.capNote_stores,
    stores_ite, ite_self, foldl_stores, implies_true]

theorem State.groupOuter_stores (s : State) (g : Fin 8) : (s.groupOuter g).stores = s.stores := by
  simp only [State.groupOuter, State.setSat_stores, State.modSlot_stores, stores_ite, forNums_stores, foldl_stores, implies_true]
  split
  · simp only []
  · split <;> simp only [State.modLoop_stores, State.setSat_stores, stores_ite, ite_self]

theorem State.precheckVolt_stores (s : State) (g : Fin 8) (v : Int) : (s.precheckVolt g v).stores = s.stores := by
  unfold State.precheckVolt
  split <;> simp only [State.modProt_stores, State.dischargeChannel_stores, stores_ite, ite_self]

theorem State.contactorDrive_stores (s : State) (p : Fin 8) (on : Bool) : (s.contactorDrive p on).stores = s.stores := by
  simp only [State.contactorDrive, State.modPort_stores, stores_ite]
  split
  · simp only []
  · split <;> simp only [State.swDrive_stores]

theorem State.currentZero_stores (s : State) (g : Fin 8) : (s.currentZero g).stores = s.stores := by
  simp only [State.currentZero, State.toDischarge_stores, stores_ite, ite_self]
  split <;> simp only [State.raise_stores, State.modProt_stores, State.groupLow_stores, State.contactorDrive_stores]

theorem State.groupChecks_stores (s : State) (g : Fin 8) (absI : Option Int) : (s.groupChecks g absI).stores = s.stores := by
  simp only [State.groupChecks]
  repeat' split
  all_goals simp only [State.faultStop_stores, State.modProt_stores, State.precheckVolt_stores, State.softShort_stores,
    State.setGState_stores, State.currentZero_stores, State.dischargeChannel_stores]

theorem State.groupCycle_stores (s : State) (g : Fin 8) (lanes : List LaneCycle) : (s.groupCycle g lanes).stores = s.stores := by
  simp only [State.groupCycle, State.groupMeans_stores, State.groupOuter_stores, State.groupChecks_stores, stores_ite, ite_self]

theorem State.checkEnds_stores (s : State) (p : Fin 8) (ok : Bool) : (s.checkEnds p ok).stores = s.stores := by
  simp only [State.checkEnds, State.portStopGroup_stores, State.modSession_stores]

theorem State.portCheckVolts_stores (s : State) (p : Fin 8) : (s.portCheckVolts p).stores = s.stores := by
  simp only [State.portCheckVolts]
  repeat' split
  all_goals simp only [State.checkEnds_stores]

theorem State.portClose_stores (s : State) (p : Fin 8) : (s.portClose p).stores = s.stores := by
  simp only [State.portClose]
  repeat' split
  all_goals simp only [State.contactorDrive_stores]

theorem State.portSums_stores (s : State) (p : Fin 8) (iout : Int) : (s.portSums p iout).stores = s.stores := by
  simp only [State.portSums, State.modPort_stores]

theorem State.portCredit_stores (s : State) (p : Fin 8) : (s.portCredit p).stores = s.stores := by
  simp only [State.portCredit]
  split <;> simp only [whenDo_stores, State.portStop_stores, implies_true]

theorem State.portPeaks_stores (s : State) (p : Fin 8) (iout : Int) : (s.portPeaks p iout).stores = s.stores := by
  simp only [State.portPeaks, State.modSession_stores]

theorem State.setpoint_stores (s : State) (g : Fin 8) (current restart : Bool) (target limit : Int) :
    (s.setpoint g current restart target limit).2.stores = s.stores := by
  simp only [State.setpoint]
  repeat' split
  all_goals simp only [State.setpointTake_stores]

theorem State.portTarget_stores (s : State) (p : Fin 8) : (s.portTarget p).stores = s.stores := by
  unfold State.portTarget
  split <;> simp only [State.modPort_stores, State.portSet_stores, State.setpoint_stores, State.modSession_stores, stores_ite,
    ite_self]

theorem State.portCycle_stores (s : State) (p : Fin 8) : (s.portCycle p).stores = s.stores := by
  simp only [State.portCycle, State.refreshEff_stores, State.portCheckVolts_stores, State.portClose_stores,
    State.portSums_stores, State.portCredit_stores, State.portPeaks_stores, State.portTarget_stores, stores_ite, ite_self]

theorem State.coolCycle_stores (s : State) (p : Fin 8) : (s.coolCycle p).stores = s.stores := by
  simp only [State.coolCycle, State.modCool_stores]

theorem State.portVoltage_stores (s : State) (p : Fin 8) (lanes : List LaneCycle) :
    (s.portVoltage p lanes).stores = s.stores := by
  simp only [State.portVoltage]
  split <;> simp only [State.modPort_stores, stores_ite, ite_self]

theorem State.swFaultStates_stores (s : State) : s.swFaultStates.stores = s.stores := by
  simp only [State.swFaultStates, State.modSw_stores, State.swTurnOff_stores, stores_ite, ite_self, forFin_stores, implies_true]

theorem State.setLatch_stores (s : State) (hw : Bool) : (s.setLatch hw).stores = s.stores := by
  simp only [State.setLatch, State.swFaultStates_stores, State.stores_mk, State.stores_fold, stores_ite, ite_self]

theorem State.latchWhenDone_stores (s : State) : s.latchWhenDone.stores = s.stores := by
  simp only [State.latchWhenDone, State.setLatch_stores, stores_ite, ite_self]

theorem State.outerCycle_stores (s : State) (lanes : List LaneCycle) : (s.outerCycle lanes).stores = s.stores := by
  simp only [State.outerCycle, State.feederCycle_stores, State.groupCycle_stores, State.portCycle_stores,
    State.coolCycle_stores, State.portVoltage_stores, State.epochRoll_stores, State.latchWhenDone_stores, whenDo_stores,
    State.portTarget_stores, State.stores_mk, State.stores_fold, stores_ite, ite_self, forFin_stores, implies_true]

theorem State.triggeredSample_stores (s : State) (n : Fin 48) (code : Int) (valid : Bool) :
    (s.triggeredSample n code valid).stores = s.stores := by
  unfold State.triggeredSample
  split <;> simp only [State.setSat_stores, State.modSlot_stores, State.capNote_stores, State.raise_stores,
    State.modLoop_stores, State.faultStop_stores, State.modProt_stores, stores_ite, ite_self]

theorem State.sampleFor_stores (s : State) (g : Fin 8) (j : InnerJob) : (s.sampleFor g j).2.stores = s.stores := by
  simp only [State.sampleFor]
  split
  · simp only []
  · split <;> simp only [State.free_stores]

theorem State.resultWrite_stores (s : State) (g : Fin 8) (n : Nat) (j : InnerJob) : (s.resultWrite g n j).stores = s.stores := by
  simp only [State.resultWrite, State.sampleFor_stores, State.modSlot_stores, State.modLoop_stores, State.setSat_stores]

theorem State.innerResult_stores (s : State) (n : Fin 48) : (s.innerResult n).stores = s.stores := by
  simp only [State.innerResult]
  split
  · simp only []
  · split <;> simp only [State.shadowWrite_stores, State.resultWrite_stores, stores_ite, ite_self, implies_true]

theorem State.loopOverrun_stores (s : State) (n : Fin 48) : (s.loopOverrun n).stores = s.stores := by
  simp only [State.loopOverrun]
  split
  · simp only []
  · split <;> simp only [State.modSlot_stores, State.modLoop_stores, State.classify_stores, State.raise_stores, stores_ite,
    ite_self]

theorem State.loopLoadall_stores (s : State) (g : Fin 8) : (s.loopLoadall g).stores = s.stores := by
  unfold State.loopLoadall
  split <;> simp only [whenDo_stores, State.loadAll_stores, implies_true]

theorem State.precheckDischargeTimeout_stores (s : State) (g : Fin 8) : (s.precheckDischargeTimeout g).stores = s.stores := by
  unfold State.precheckDischargeTimeout
  split <;> simp only [State.toFaulted_stores, State.modProt_stores, State.raise_stores, stores_ite, ite_self]

theorem State.precheckSettleEnd_stores (s : State) (g : Fin 8) : (s.precheckSettleEnd g).stores = s.stores := by
  unfold State.precheckSettleEnd
  split <;> simp only [State.modProt_stores, stores_ite, ite_self]

theorem State.precheckVinTimeout_stores (s : State) (g : Fin 8) : (s.precheckVinTimeout g).stores = s.stores := by
  unfold State.precheckVinTimeout
  split <;> simp only [whenDo_stores, State.toOff_stores, implies_true]

theorem State.loopStart_stores (s : State) (g : Fin 8) : (s.loopStart g).stores = s.stores := by
  simp only [State.loopStart, State.modSlot_stores, State.modLoop_stores, forNums_stores, implies_true]

theorem State.toSoftstart_stores (s : State) (g : Fin 8) : (s.toSoftstart g).stores = s.stores := by
  simp only [State.toSoftstart, State.loopStart_stores, State.pwmStart_stores, State.modProt_stores, State.setGState_stores]

theorem State.precheckPassed_stores (s : State) (g : Fin 8) (cause : Nat) : (s.precheckPassed g cause).stores = s.stores := by
  simp only [State.precheckPassed, State.toFaulted_stores, State.toSoftstart_stores, stores_ite, ite_self]

theorem State.precheckMidEnd_stores (s : State) (g : Fin 8) (l : List MidSample) : (s.precheckMidEnd g l).stores = s.stores := by
  simp only [State.precheckMidEnd]
  repeat' split
  all_goals simp only [State.precheckPassed_stores, State.modProt_stores]

theorem State.precheckResample_stores (s : State) (g : Fin 8) (l : List MidSample) :
    (s.precheckResample g l).stores = s.stores := by
  unfold State.precheckResample
  split
  · have hall (bad : List (Nat × Bool)) : (bad.foldl (fun s x => match s.midFails g l x.1 with
        | none => s
        | some h => if s.shadow then s else s.classify (tgt 2 x.1) (if x.2 || h then 0x01 else 0x02) s.st true) s).stores =
          s.stores := by
      refine foldl_stores fun u x => ?_
      split
      · rfl
      · split <;> simp only [State.classify_stores]
    split
    · extract_lets u
      split
      · exact (State.precheckPassed_stores ..).trans (hall _)
      · exact hall _
    · rfl
  · rfl

theorem State.stopOverrun_stores (s : State) (g : Fin 8) : (s.stopOverrun g).stores = s.stores := by
  simp only [State.stopOverrun]
  split <;> simp only [State.setPending_stores, State.modProt_stores, State.raise_stores, State.stopGroup_stores,
    State.groupLow_stores, State.groupRecord_stores, stores_ite, ite_self]

theorem State.contactorWait_stores (s : State) (g : Fin 8) : (s.contactorWait g).stores = s.stores := by
  simp only [State.contactorWait]
  split <;> simp only [whenDo_stores, State.modProt_stores, State.raise_stores, implies_true]

theorem State.dischargeComplete_stores (s : State) (g : Fin 8) : (s.dischargeComplete g).stores = s.stores := by
  simp only [State.dischargeComplete]
  repeat' split
  all_goals simp only [State.toFaulted_stores, State.toOff_stores]

theorem State.dischargeTimeout_stores (s : State) (g : Fin 8) : (s.dischargeTimeout g).stores = s.stores := by
  simp only [State.dischargeTimeout]
  split <;> simp only [whenDo_stores, State.toFaulted_stores, State.raise_stores, implies_true]

theorem State.dischargeChannelLimit_stores (s : State) (g : Fin 8) : (s.dischargeChannelLimit g).stores = s.stores := by
  simp only [State.dischargeChannelLimit]
  split <;> simp only [whenDo_stores, State.modProt_stores, State.dischargeChannel_stores, implies_true]

theorem State.tripBurstCharge_stores (s : State) (n : Fin 48) : (s.tripBurstCharge n).stores = s.stores := by
  unfold State.tripBurstCharge
  split <;> simp only [State.modSlot_stores, State.classify_stores, stores_ite, ite_self]

theorem State.diodeCheck_stores (s : State) (p : Fin 8) (lo : Option Int) : (s.diodeCheck p lo).stores = s.stores := by
  simp only [State.diodeCheck, State.modPort_stores, State.portStop_stores, stores_ite, ite_self]

theorem State.portConnect_stores (s : State) (p : Fin 8) : (s.portConnect p).stores = s.stores := by
  simp only [State.portConnect, State.portSet_stores, State.modPort_stores, stores_ite, ite_self]

theorem State.rematch_stores (s : State) (p : Fin 8) : (s.rematch p).stores = s.stores := by
  simp only [State.rematch, State.modPort_stores, stores_ite, ite_self]

theorem State.levelActs_stores (s : State) (p : Fin 8) (lv : Nat) : (s.levelActs p lv).stores = s.stores := by
  simp only [State.levelActs, State.portConnect_stores, State.portStop_stores, State.rematch_stores, stores_ite, ite_self]
  repeat' split
  all_goals simp only [State.portSet_stores, State.portStop_stores, State.modPort_stores]

theorem State.pilotPeriod_stores (s : State) (p : Fin 8) (l : List (Nat × Int)) : (s.pilotPeriod p l).stores = s.stores := by
  simp only [State.pilotPeriod, stores_ite]
  repeat' split
  all_goals simp only [State.modPort_stores, State.capNote_stores, State.diodeCheck_stores, State.raise_stores,
    State.levelActs_stores, foldl_stores, implies_true]

theorem State.dozePeriod_stores (s : State) (p : Fin 8) (l : List (Nat × Int)) : (s.dozePeriod p l).stores = s.stores := by
  unfold State.dozePeriod
  split <;> simp only [State.modPort_stores]

theorem State.vlHeard_stores (s : State) (p : Fin 8) (f : VlFrame) : (s.vlHeard p f).stores = s.stores := by
  simp only [State.vlHeard, State.modPort_stores, stores_ite, ite_self]

theorem State.linkDown_stores (s : State) (p : Fin 8) (c : VlLoss) : (s.linkDown p c).stores = s.stores := by
  simp only [State.linkDown, State.modPort_stores, State.raise_stores, State.portStop_stores, State.rematch_stores,
    stores_ite, ite_self]

theorem State.matchEnd_stores (s : State) (p : Fin 8) (a : Option Nat) : (s.matchEnd p a).stores = s.stores := by
  unfold State.matchEnd
  split <;> simp only [State.modPort_stores, State.linkDown_stores, stores_ite, ite_self]

theorem State.connect_stores (s : State) (p : Fin 8) (h : Option TlsHello) : (s.connect p h).stores = s.stores := by
  simp only [State.connect, State.modPort_stores, stores_ite, ite_self]

theorem State.overLink_stores (s : State) (p : Fin 8) : (s.overLink p).stores = s.stores := by
  simp only [State.overLink, whenDo_stores, State.modPort_stores, implies_true]

theorem State.loopAnswer_stores (s : State) (p : Fin 8) : (s.loopAnswer p).stores = s.stores := by
  simp only [State.loopAnswer, State.modPort_stores, State.tell_stores, stores_ite, ite_self]

theorem State.heard_stores (s : State) (p : Fin 8) : (s.heard p).stores = s.stores := by
  simp only [State.heard, State.modSession_stores]

theorem State.request_stores (s : State) (p : Fin 8) (f : State → State) (hf : ∀ u, (f u).stores = u.stores) :
    (s.request p f).stores = s.stores := by
  simp only [State.request, State.overLink_stores, State.loopAnswer_stores, State.heard_stores, stores_ite, ite_self, hf]

theorem State.vlFrame_stores (s : State) (p : Fin 8) (f : VlFrame) : (s.vlFrame p f).stores = s.stores := by
  unfold State.vlFrame
  extract_lets framed okLen t
  have ht : t.stores = s.stores := State.vlHeard_stores ..
  clear_value t
  split
  · rfl
  split
  · rfl
  cases f.what with
  | other => exact ht
  | matched a => exact (whenDo_stores _ _ _ fun u => State.matchEnd_stores ..).trans ht
  | connect h => exact (State.connect_stores ..).trans ht
  | request =>
    refine (State.request_stores _ _ _ fun u => ?_).trans ht
    split
    · split <;> simp only [State.loopAnswer_stores, State.heard_stores]
    · rfl

theorem State.sessionSetup_stores (s : State) (p : Fin 8) (u : Setup) : (s.sessionSetup p u).stores = s.stores := by
  simp only [State.sessionSetup, State.modPort_stores, State.portEndSession_stores, State.tell_stores, State.portSet_stores,
    State.stores_mk, State.stores_fold, stores_ite, ite_self]

theorem State.authorizationReq_stores (s : State) (p : Fin 8) (u : Ident) : (s.authorizationReq p u).stores = s.stores := by
  simp only [State.authorizationReq]
  split <;> simp only [State.heard_stores, State.tell_stores, State.modSession_stores, State.raise_stores, stores_ite, ite_self]

theorem State.portVolts_stores (s : State) (p : Fin 8) (target : Int) : (s.portVolts p target).1.stores = s.stores := by
  simp only [State.portVolts]
  repeat' split
  all_goals simp only [State.setpoint_stores, State.startGroup_stores]

theorem State.cableCheckReq_stores (s : State) (p : Fin 8) : (s.cableCheckReq p).stores = s.stores := by
  simp only [State.cableCheckReq]
  repeat' split
  all_goals simp only [State.tell_stores, State.heard_stores, State.portVolts_stores, State.modSession_stores]

theorem State.cableCheckEnd_stores (s : State) (p : Fin 8) : (s.cableCheckEnd p).stores = s.stores := by
  simp only [State.cableCheckEnd]
  repeat' split
  all_goals simp only [whenDo_stores, State.checkEnds_stores, implies_true]

theorem State.prechargeReq_stores (s : State) (p : Fin 8) (v : Int) : (s.prechargeReq p v).stores = s.stores := by
  simp only [State.prechargeReq]
  split <;> simp only [State.modSession_stores, State.portSet_stores, State.loopAnswer_stores, State.heard_stores,
    State.portVolts_stores, State.tell_stores, stores_ite, ite_self]

theorem State.powerGo_stores (s : State) (p : Fin 8) : (s.powerGo p).stores = s.stores := by
  simp only [State.powerGo, State.refreshEff_stores, State.portSet_stores, stores_ite, ite_self]

theorem State.powerStart_stores (s : State) (p : Fin 8) (iReq iDreq vTarget vMin : Int) :
    (s.powerStart p iReq iDreq vTarget vMin).stores = s.stores := by
  simp only [State.powerStart, State.loopAnswer_stores, State.heard_stores, State.powerGo_stores, State.modSession_stores,
    State.tell_stores, stores_ite, ite_self]

theorem State.currentDemand_stores (s : State) (p : Fin 8) (iReq iDreq vTarget vMin : Int) :
    (s.currentDemand p iReq iDreq vTarget vMin).stores = s.stores := by
  simp only [State.currentDemand, stores_ite]
  split
  · simp only []
  · split <;> simp only [State.modSession_stores, State.heard_stores, State.loopAnswer_stores, State.refreshEff_stores,
    State.modPort_stores]

theorem State.vehicleStop_stores (s : State) (p : Fin 8) : (s.vehicleStop p).stores = s.stores := by
  simp only [State.vehicleStop, State.overLink_stores, stores_ite]
  split
  · simp only []
  · split <;> simp only [State.overLink_stores, State.portStop_stores, State.heard_stores, State.modPort_stores,
    State.tell_stores, State.loopAnswer_stores]

theorem State.authTimeout_stores (s : State) (p : Fin 8) : (s.authTimeout p).stores = s.stores := by
  simp only [State.authTimeout]
  repeat' split
  all_goals simp only [whenDo_stores, State.portBack_stores, implies_true]

theorem State.demandGap_stores (s : State) (p : Fin 8) : (s.demandGap p).stores = s.stores := by
  unfold State.demandGap
  split <;> simp only [whenDo_stores, State.portStop_stores, implies_true]

theorem State.seqTimeout_stores (s : State) (p : Fin 8) : (s.seqTimeout p).stores = s.stores := by
  simp only [State.seqTimeout]
  split <;> simp only [whenDo_stores, State.portStop_stores, implies_true]

theorem State.contactorFails_stores (s : State) (p : Fin 8) : (s.contactorFails p).stores = s.stores := by
  simp only [State.contactorFails, State.portStop_stores, State.raise_stores, State.modPort_stores, stores_ite, ite_self]

theorem State.contactorWelds_stores (s : State) (p : Fin 8) : (s.contactorWelds p).stores = s.stores := by
  simp only [State.contactorWelds, whenDo_stores, State.portFault_stores, State.raise_stores, State.modPort_stores, implies_true]

theorem State.coolUncooled_stores (s : State) (p : Fin 8) : (s.coolUncooled p).stores = s.stores := by
  simp only [State.coolUncooled, State.refreshEff_stores, State.modCool_stores]

theorem State.coolDrive_stores (s : State) (c : Option (Fin 24)) (duty : Nat) : (s.coolDrive c duty).stores = s.stores := by
  unfold State.coolDrive
  split <;> simp only [State.swDrive_stores]

theorem State.coolChannels_stores (s : State) (p : Fin 8) (b : Bytes) : (s.coolChannels p b).stores = s.stores := by
  simp only [State.coolChannels, State.modCool_stores, State.coolDrive_stores, stores_ite, ite_self]

theorem State.coolRunOnEnd_stores (s : State) (p : Fin 8) : (s.coolRunOnEnd p).stores = s.stores := by
  unfold State.coolRunOnEnd
  split <;> simp only [whenDo_stores, State.coolChannels_stores, implies_true]

theorem State.sampleNoted_stores (s : State) : s.sampleNoted.stores = s.stores := rfl

theorem State.meterApply_stores (s : State) (m : Fin 12) : (s.meterApply m).stores = s.stores := by
  simp only [State.meterApply]
  split
  · simp only []
  · split <;> simp only [State.closeBlock_stores, State.modMeter_stores, State.closeTail_stores, State.stores_mk,
    State.stores_fold, stores_ite, ite_self]

theorem State.laneStep_stores (s : State) (n : Fin 144) (raw : List RawSample) : (s.laneStep n raw).1.stores = s.stores := by
  simp only [State.laneStep, State.modLane_stores]
  split <;> simp only [State.mrec_stores, stores_ite, ite_self]

theorem State.bookReactive_stores (s : State) (m : Fin 12) (t : Nat) (qs : List Rat) :
    (s.bookReactive m t qs).stores = s.stores := by
  simp only [State.bookReactive, State.closeLate_stores, State.closeTail_stores, State.modMeter_stores, stores_ite, ite_self]

theorem State.oldReads_stores (s : State) (m : Fin 12) (ls : List LaneSample) (dt : Rat) :
    (s.oldReads m ls dt).stores = s.stores := by
  unfold State.oldReads
  split <;> simp only [State.modMeter_stores, State.bookReactive_stores, State.closeTail_stores, State.closeLate_stores,
    stores_ite, ite_self]

theorem State.meterFlags_stores (s : State) (m : Fin 12) (ls : List LaneSample) : (s.meterFlags m ls).stores = s.stores := by
  simp only [State.meterFlags, State.mrec_stores, State.raise_stores, State.modMeter_stores, stores_ite, ite_self,
    foldl_stores, implies_true]

theorem State.turnBlock_stores (s : State) (m : Fin 12) : (s.turnBlock m).stores = s.stores := by
  simp only [State.turnBlock]
  split <;> simp only [State.modMeter_stores, State.closeBlock_stores, State.closeTail_stores, stores_ite, ite_self]

theorem State.dcSample_stores (s : State) (m : Fin 12) (ls : List LaneSample) (dt : Rat) :
    (s.dcSample m ls dt).stores = s.stores := by
  simp only [State.dcSample, State.modMeter_stores]

theorem State.crossing_stores (s : State) (m : Fin 12) (t : Nat) : (s.crossing m t).stores = s.stores := by
  simp only [State.crossing, State.modMeter_stores, stores_ite]
  repeat' split
  all_goals simp only [State.modMeter_stores, State.raise_stores, State.mrec_stores, State.stores_mk, State.stores_fold]

theorem State.zcSample_stores (s : State) (m : Fin 12) : (s.zcSample m).stores = s.stores := by
  unfold State.zcSample
  extract_lets c ph lane x ln u y
  have hu : u.stores = s.stores := by
    simp only [u]
    split
    · split
      · exact s.modMeter_stores m _
      · split
        · exact (State.crossing_stores _ m _).trans (s.modMeter_stores m _)
        · rfl
    · rfl
  clear_value u
  split
  · split
    · simp only [State.raise_stores, State.mrec_stores, State.modMeter_stores, hu]
    · exact hu
  · exact hu

theorem State.acSample_stores (s : State) (m : Fin 12) (ls : List LaneSample) (dt : Rat) :
    (s.acSample m ls dt).stores = s.stores := by
  simp only [State.acSample, State.modMeter_stores, State.bookReactive_stores, stores_ite, ite_self]

theorem State.lanesStep_stores (s : State) (raw : List RawSample) : (s.lanesStep raw).1.stores = s.stores :=
  foldl_eq (π := fun a : State × List LaneSample => a.1.stores) (fun a n => a.1.laneStep_stores n raw) _ _

theorem State.metersStep_stores (s : State) (ls : List LaneSample) (dt : Rat) : (s.metersStep ls dt).stores = s.stores := by
  simp only [State.metersStep, State.oldReads_stores, State.turnBlock_stores, State.meterFlags_stores, State.dcSample_stores,
    State.acSample_stores, State.zcSample_stores, stores_ite, ite_self, forFin_stores, foldl_stores, implies_true]

theorem State.sampleReady_stores (s : State) : s.sampleReady.stores = s.stores := by
  unfold State.sampleReady
  extract_lets metro t
  have ht : t.stores = s.stores := by
    simp only [t]
    split <;> rfl
  clear_value t
  simp only [stores_ite, State.meterApply_stores, forFin_stores, implies_true, ite_self, ht]

theorem State.meterSample_stores (s : State) (bits : List PathBits) : (s.meterSample bits).stores = s.stores := by
  by_cases hdue : s.sampleDue = true
  · by_cases hstop : s.metro.stopped = none
    · rw [State.meterSample_of_due hdue hstop]
      exact (State.metersStep_stores ..).trans ((State.lanesStep_stores ..).trans s.sampleReady_stores)
    · simp [State.meterSample, hdue, State.metroStopped, Option.isSome_iff_ne_none.2 hstop, State.sampleNoted_stores]
  · simp [State.meterSample, hdue]

theorem State.metroStop_stores (s : State) (forGood : Bool) : (s.metroStop forGood).stores = s.stores := by
  simp only [State.metroStop, State.markSessions_stores]
  split <;> simp only [State.stores_mk, State.stores_fold]

theorem State.metroFault_stores (s : State) : s.metroFault.stores = s.stores := by
  simp only [State.metroFault, State.metroStop_stores, State.raise_stores, State.mrec_stores, stores_ite, ite_self]

theorem State.metersFresh_stores (s : State) : s.metersFresh.stores = s.stores := rfl

theorem State.metroRestart_stores (s : State) : s.metroRestart.stores = s.stores := by
  unfold State.metroRestart
  split <;> simp only [State.metersFresh_stores, State.raise_stores, State.mrec_stores, State.stores_mk, State.stores_fold,
    stores_ite, ite_self]

theorem State.refreshAll_stores (s : State) : s.refreshAll.stores = s.stores := by
  simp only [State.refreshAll, State.refreshEff_stores, forFin_stores, implies_true]

theorem State.mirrorRefresh_stores (s : State) : s.mirrorRefresh.stores = s.stores := rfl

theorem State.tamperRecords_stores (s : State) (late : Bool) : (s.tamperRecords late).stores = s.stores := by
  simp only [State.tamperRecords, State.raise_stores, State.mrec_stores, State.stores_mk, State.stores_fold, foldl_stores,
    implies_true]

theorem State.sealRecord_stores (s : State) (powered : Bool) : (s.sealRecord powered).stores = s.stores := by
  simp only [State.sealRecord, State.mrec_stores, State.raise_stores, State.stores_mk, State.stores_fold, stores_ite,
    ite_self, foldl_stores, implies_true]

theorem State.sealSample_stores (s : State) (level : Bool) (elapsed : Nat) : (s.sealSample level elapsed).stores = s.stores := by
  simp only [State.sealSample, State.tamperRecords_stores, State.sealRecord_stores, State.stores_mk, State.stores_fold,
    stores_ite, ite_self]

theorem State.stores_modBill (s : State) (f : Bill → Bill) : ({ s with bill := f s.bill } : State).stores = s.stores := rfl

theorem State.commitRegular_stores (s : State) : s.commitRegular.stores = s.stores := by
  unfold State.commitRegular
  dsimp only
  split
  · rfl
  · exact (State.stores_modBill _ (fun b => { b with regSec := some (s.st / 1000000000) })).trans
      ((State.billCommit_stores ..).trans (State.billAdvance_stores ..))

theorem State.lastGasp_stores (s : State) : s.lastGasp.stores = s.stores := by
  simp only [State.lastGasp, State.billCommit_stores, State.closeBooks_stores, State.stores_mk, State.stores_fold, stores_ite,
    ite_self]

theorem State.canQueue1_stores (s : State) (n : Fin 8) (f : TxFrame) : (s.canQueue1 n f).stores = s.stores := by
  unfold State.canQueue1
  split <;> simp only [State.modCan_stores, State.canExpired_stores, stores_ite, ite_self]

theorem State.keypad_stores (s : State) (n : Fin 8) (ident : Nat) (b : Bytes) : (s.keypad n ident b).stores = s.stores := by
  unfold State.keypad
  split <;> simp only [State.token_stores, State.canQueue1_stores, stores_ite, ite_self]

theorem State.lockoutEnd_stores (s : State) : s.lockoutEnd.stores = s.stores := rfl

theorem State.imageCapture_stores (s : State) : s.imageCapture.stores = s.stores := by
  simp only [State.imageCapture, State.modTwin_stores, State.emit_stores, stores_ite, ite_self, foldl_stores, implies_true]

theorem State.twinCompare_stores (s : State) (crc roles : Nat) : (s.twinCompare crc roles).stores = s.stores := by
  simp only [State.twinCompare, State.twinRecheck_stores, State.modTwin_stores]

theorem State.imageLate_stores (s : State) : s.imageLate.stores = s.stores := by
  simp only [State.imageLate, State.modTwin_stores, State.twinEnter_stores, stores_ite, ite_self]

theorem State.flRemoteSent_stores (s : State) (ccp seq : Nat) : (s.flRemoteSent ccp seq).stores = s.stores := by
  unfold State.flRemoteSent
  split <;> simp only [State.stores_mk, State.stores_fold]

theorem State.stores_seqCtr (s : State) (n : Nat) : ({ s with seqCtr := n } : State).stores = s.stores := rfl

theorem State.imageAdopt_stores (s : State) : s.imageAdopt.stores = s.stores := by
  unfold State.imageAdopt
  extract_lets i t u v w x y z r
  have ht : t.stores = s.stores := by dsimp only [t]; split <;> rfl
  clear_value t
  have hu : u.stores = s.stores := by dsimp only [u]; split <;> exact ht
  clear_value u
  have hv : v.stores = s.stores := by dsimp only [v]; split <;> exact hu
  clear_value v
  have hw : w.stores = s.stores := by dsimp only [w]; split <;> exact hv
  clear_value w
  have hx : x.stores = s.stores := (foldl_stores fun a e => State.classify_stores ..).trans hw
  have hy : y.stores = s.stores := (foldl_stores fun a e => State.flRemoteSent_stores ..).trans hx
  clear_value y
  have hz : z.stores = s.stores := (State.stores_seqCtr ..).trans hy
  clear_value z
  have hr : r.stores = s.stores := by
    refine (foldl_stores fun a e => ?_).trans hz
    simp only [stores_ite, State.pushLaunch_stores, ite_self]
  clear_value r
  exact hr

theorem State.imageCompared_stores (s : State) : s.imageCompared.stores = s.stores := by
  simp only [State.imageCompared]
  repeat' split
  all_goals simp only [State.stores_mk, State.stores_fold]

theorem State.imageReplace_stores (s : State) : s.imageReplace.stores = s.stores := by
  simp only [State.imageReplace]
  split <;> simp only [State.imageCompared_stores, State.recordFlush_stores, State.modSlot_stores, State.stores_mk,
    State.stores_fold, stores_ite, ite_self, forFin_stores, forNums_stores, implies_true]

theorem State.mismatched_stores (s : State) : s.mismatched.stores = s.stores := by
  simp only [State.mismatched, State.modTwin_stores, State.raise_stores, State.twinEnter_stores, stores_ite, ite_self]

theorem State.imageDeadline_stores (s : State) : s.imageDeadline.stores = s.stores := by
  unfold State.imageDeadline
  extract_lets c t u onTime v w x y reports
  split
  · rfl
  have ht : t.stores = s.stores := State.modTwin_stores ..
  clear_value t
  have hu : u.stores = s.stores := by
    dsimp only [u]
    split
    · split <;> simp only [State.drillBroken_stores, ht]
    · exact ht
  clear_value u
  have hv : v.stores = s.stores := by
    dsimp only [v]
    split <;> simp only [State.twinCompare_stores, hu]
  clear_value v
  have hw : w.stores = s.stores := (State.modTwin_stores ..).trans hv
  clear_value w
  have hx : x.stores = s.stores := by
    simp only [x, State.recordFlush_stores, State.imageAdopt_stores, State.modTwin_stores, hw]
  clear_value x
  have hy : y.stores = s.stores := by
    dsimp only [y]
    split
    · exact hv
    split
    · split
      · exact (State.imageLate_stores _).trans hv
      · split
        · split <;> simp only [State.twinEnter_stores, hx]
        · simp only [State.imageReplace_stores, State.imageAdopt_stores, State.mismatched_stores, hw]
    · exact (State.imageLate_stores _).trans hv
  clear_value y
  split
  · exact hy
  · exact (State.hingeSend_stores ..).trans hy

theorem State.twinSelfTest_stores (s : State) (ok : Bool) : (s.twinSelfTest ok).stores = s.stores := by
  simp only [State.twinSelfTest, State.modTwin_stores, State.twinEnter_stores, stores_ite, ite_self]

theorem State.partnerReport_stores (s : State) (r : PartnerReport) : (s.partnerReport r).stores = s.stores := by
  simp only [State.partnerReport, State.twinEnter_stores, State.drillBroken_stores, stores_ite, ite_self]
  split
  · simp only []
  · split <;> simp only [State.modTwin_stores, State.twinCompare_stores, stores_ite, ite_self]

theorem State.masterRenew_stores (s : State) : s.masterRenew.stores = s.stores := by
  simp only [State.masterRenew, State.originate_stores, State.stores_mk, State.stores_fold]

theorem State.twinRenew_stores (s : State) : s.twinRenew.stores = s.stores := by
  simp only [State.twinRenew, State.modTwin_stores, State.hingeSend_stores, State.originate_stores, State.masterRenew_stores,
    stores_ite, ite_self]

theorem State.ownSources_stores (s : State) : s.ownSources.stores = s.stores := by
  unfold State.ownSources
  split <;> simp only [State.reselect_stores, State.modTime_stores, stores_ite, ite_self]

theorem State.masterTake_stores (s : State) (from_ : State → State) (hfrom_ : ∀ u, (from_ u).stores = u.stores) :
    (s.masterTake from_).stores = s.stores := by
  simp only [State.masterTake, State.masterRenew_stores, State.raise_stores, State.stores_mk, State.stores_fold, hfrom_]

theorem State.twinTake_stores (s : State) : s.twinTake.stores = s.stores := by
  unfold State.twinTake
  simp [State.modTwin_stores, State.twinRenew_stores, State.twinEnter_stores, withSel_stores,
    State.ownSources_stores, State.masterTake_stores, State.swApplyAll_stores, State.sendStore_stores, State.raise_stores,
    stores_ite, ite_self, forFin_stores, implies_true]

theorem State.handoverTake_stores (s : State) (drill : Nat) : (s.handoverTake drill).stores = s.stores := by
  unfold State.handoverTake
  dsimp only
  split
  · exact (State.modTwin_stores ..).trans (State.twinTake_stores _)
  · exact (State.drillEnd_stores ..).trans (State.twinTake_stores _)
  · exact State.twinTake_stores _

theorem State.leaseWait_stores (s : State) : s.leaseWait.stores = s.stores := by
  unfold State.leaseWait
  split <;> simp only [State.handoverTake_stores, State.raise_stores, State.modTwin_stores, State.twinTake_stores, stores_ite,
    ite_self]

theorem State.leaseInMoves_stores (s : State) (level : Bool) : (s.leaseInMoves level).stores = s.stores := by
  simp only [State.leaseInMoves, State.modTwin_stores, State.raise_stores, State.release_stores, State.twinEnter_stores,
    State.swAllOff_stores, stores_ite, ite_self]
  repeat' split
  all_goals simp only [State.modTwin_stores, State.twinEnter_stores, State.swApplyAll_stores, State.drillBroken_stores]

theorem State.leaseInChange_stores (s : State) (level : Bool) : (s.leaseInChange level).stores = s.stores := by
  simp only [State.leaseInChange, State.leaseInMoves_stores, State.twinRecheck_stores, stores_ite, ite_self]

theorem State.hingeUp_stores (s : State) (mask : Nat) : (s.hingeUp mask).stores = s.stores := by
  simp only [State.hingeUp, State.modTwin_stores, State.srcInit_stores, State.raise_stores, stores_ite, ite_self]

theorem State.handoverFail_stores (s : State) : s.handoverFail.stores = s.stores := by
  simp only [State.handoverFail, State.drillBroken_stores, State.raise_stores]

theorem State.hingeDown_stores (s : State) (mask : Nat) : (s.hingeDown mask).stores = s.stores := by
  simp only [State.hingeDown, State.modTwin_stores, State.twinEnter_stores, stores_ite, ite_self]
  repeat' split
  all_goals simp only [State.modTwin_stores, State.raise_stores, State.srcInit_stores, State.sourceLost_stores,
    State.handoverFail_stores, State.drillBroken_stores]

theorem State.laneRetrain_stores (s : State) (n : Fin 4) (ok : Bool) : (s.laneRetrain n ok).stores = s.stores := by
  simp only [State.laneRetrain, State.modTwin_stores, stores_ite, ite_self]

theorem State.timeMessage_stores (s : State) (off : Int) : (s.timeMessage off).stores = s.stores := by
  simp only [State.timeMessage, State.hingeSend_stores, State.modTwin_stores, State.sourceOffset_stores, stores_ite, ite_self]

theorem State.diagFails_stores (s : State) : s.diagFails.stores = s.stores := by
  simp only [State.diagFails, State.release_stores, State.modTwin_stores, State.raise_stores, State.modProt_stores,
    stores_ite, ite_self, forFin_stores, implies_true]

theorem State.handoverOffer_stores (s : State) (q0 : Nat) (drill : Fin 3) : (s.handoverOffer q0 drill).stores = s.stores := by
  simp only [State.handoverOffer, State.modTwin_stores, State.hingeSend_stores, State.drillBroken_stores, stores_ite, ite_self]

theorem State.markUnfit_stores (s : State) : s.markUnfit.stores = s.stores := by
  simp only [State.markUnfit, State.hingeSend_stores, State.modTwin_stores]

theorem State.handoverRefused_stores (s : State) : s.handoverRefused.stores = s.stores := by
  unfold State.handoverRefused
  split <;> simp only [State.handoverFail_stores, State.markUnfit_stores, stores_ite, ite_self]

theorem State.handoverSwitch_stores (s : State) : s.handoverSwitch.stores = s.stores := by
  unfold State.handoverSwitch
  split <;> simp only [State.setLeaseOut_stores, State.modTwin_stores, State.handoverRefused_stores, stores_ite, ite_self]

theorem State.handoverCheck_stores (s : State) : s.handoverCheck.stores = s.stores := by
  unfold State.handoverCheck
  split <;> simp only [State.modTwin_stores, State.srcInit_stores, State.twinEnter_stores, State.swAllOff_stores,
    State.handoverFail_stores, State.markUnfit_stores, State.setLeaseOut_stores, State.stores_mk, State.stores_fold, stores_ite,
    ite_self]

theorem State.drillTry_stores (s : State) : s.drillTry.stores = s.stores := by
  simp only [State.drillTry, State.modTwin_stores, stores_ite]
  repeat' split
  all_goals simp only [State.modTwin_stores, State.drillStart_stores]

theorem State.drillHoldEnd_stores (s : State) : s.drillHoldEnd.stores = s.stores := by
  unfold State.drillHoldEnd
  split <;> simp only [State.offerHandover_stores, State.modTwin_stores, stores_ite, ite_self]

theorem State.allocTake_stores (s : State) : s.allocTake.stores = s.stores := rfl

theorem State.masterWait_stores (s : State) : s.masterWait.stores = s.stores := by
  unfold State.masterWait
  extract_lets l
  clear_value l
  split
  · exact State.masterTake_stores _ _ fun _ => State.allocTake_stores _
  · rfl

theorem State.canSpoiled_stores (s : State) (n : Fin 8) (sof : Nat) : (s.canSpoiled n sof).stores = s.stores := by
  unfold State.canSpoiled
  split <;> simp only [State.modCan_stores, stores_ite, ite_self]

theorem State.canBusOff_stores (s : State) (n : Fin 8) (cause : Nat) : (s.canBusOff n cause).stores = s.stores := by
  simp only [State.canBusOff, State.modCan_stores, State.raise_stores, State.canStateRec_stores, stores_ite, ite_self]

theorem State.canCounters_stores (s : State) (n : Fin 8) (tec rxe : Nat) : (s.canCounters n tec rxe).stores = s.stores := by
  simp only [State.canCounters, State.modCan_stores, State.canMarkRec_stores, State.raise_stores, State.canBusOff_stores,
    State.canStateRec_stores, stores_ite, ite_self]

theorem State.canError_stores (s : State) (n : Fin 8) (e : CanErr) : (s.canError n e).stores = s.stores := by
  simp only [State.canError, State.modCan_stores, State.canCounters_stores, State.canRecord_stores, State.canSpoiled_stores,
    stores_ite, ite_self]

theorem State.canRecover_stores (s : State) (n : Fin 8) : (s.canRecover n).stores = s.stores := by
  simp only [State.canRecover, State.modCan_stores, State.raise_stores, State.canStateRec_stores, stores_ite, ite_self]

theorem State.canIdle_stores (s : State) (n : Fin 8) : (s.canIdle n).stores = s.stores := by
  unfold State.canIdle
  split <;> simp only [State.canSetMode_stores]

theorem State.canExpire_stores (s : State) (n : Fin 8) : (s.canExpire n).stores = s.stores := by
  simp only [State.canExpire, State.modCan_stores, State.canExpired_stores, foldl_stores, implies_true]

theorem State.streamFrame_stores (s : State) (n k : Fin 8) : (s.streamFrame n k).stores = s.stores := by
  simp only [State.streamFrame, stores_ite]
  repeat' split
  all_goals simp only [State.modCan_stores, State.twinTag_stores, State.canQueue0_stores]

theorem State.setPeer_stores (s : State) (p : Peer) : (s.setPeer p).stores = s.stores := by
  simp only [State.setPeer, State.modFl_stores]

theorem State.reestimate_stores (s : State) : s.reestimate.stores = s.stores := by
  simp only [State.reestimate, State.modFl_stores]

theorem State.takeBeacon_stores (s : State) (b : Beacon) (stamp : Nat) : (s.takeBeacon b stamp).stores = s.stores := by
  simp only [State.takeBeacon, State.reestimate_stores, State.modFl_stores]

theorem State.sendBeacon_stores (s : State) : s.sendBeacon.stores = s.stores := by
  simp only [State.sendBeacon, State.modFl_stores, State.emit_stores, State.setPeer_stores, State.takeBeacon_stores,
    stores_ite, ite_self]

theorem State.recvBeacon_stores (s : State) (f : FlRx) : (s.recvBeacon f).stores = s.stores := by
  simp only [State.recvBeacon, State.modFl_stores, State.raise_stores, State.siteConflict_stores, State.takeBeacon_stores,
    State.setPeer_stores, State.sourceOffset_stores, stores_ite, ite_self]

theorem State.dozeBeacon_stores (s : State) (f : FlRx) : (s.dozeBeacon f).stores = s.stores := by
  simp only [State.dozeBeacon, State.modFl_stores, stores_ite, ite_self]

theorem State.beaconLost_stores (s : State) : s.beaconLost.stores = s.stores := by
  simp only [State.beaconLost]
  split <;> simp only [State.raise_stores, State.modFl_stores, stores_ite, ite_self]

theorem State.flRecord_stores (s : State) (f : FlRx) (erased : Nat) : (s.flRecord f erased).stores = s.stores := by
  simp only [State.flRecord, State.offerRx_stores, State.modFl_stores, State.offerPacket_stores, State.raise_stores,
    stores_ite, ite_self]

theorem State.recvData_stores (s : State) (f : FlRx) : (s.recvData f).stores = s.stores := by
  simp only [State.recvData, State.modFl_stores, State.setPeer_stores, State.flRecord_stores, stores_ite, ite_self]
  repeat' split
  all_goals simp only [State.modFl_stores, State.setPeer_stores]

theorem State.flNote_stores (s : State) (f : FlTx) (seq : Nat) : (s.flNote f seq).stores = s.stores := by
  simp only [State.flNote, State.stores_mk, State.stores_fold, stores_ite, ite_self]

theorem State.flFail_stores (s : State) (f : FlTx) : (s.flFail f).stores = s.stores := by
  simp only [State.flFail, State.flNote_stores, State.free_stores, State.raise_stores, State.modFl_stores, stores_ite, ite_self]

theorem State.recvReport_stores (s : State) (f : FlRx) : (s.recvReport f).stores = s.stores := by
  simp only [State.recvReport, State.setPeer_stores, State.modFl_stores, State.flFail_stores, stores_ite, ite_self,
    foldl_stores, implies_true]

theorem State.flSend_stores (s : State) (type flags dest seq : Nat) (payload : Bytes) :
    (s.flSend type flags dest seq payload).stores = s.stores := by
  simp only [State.flSend, State.modFl_stores, State.emit_stores]

theorem State.flSendData_stores (s : State) (f : FlTx) : (s.flSendData f).stores = s.stores := by
  simp only [State.flSendData, State.flNote_stores, State.setPeer_stores, State.flSend_stores, State.modFl_stores, stores_ite,
    ite_self]

theorem State.slotSend_stores (s : State) : s.slotSend.stores = s.stores := by
  simp only [State.slotSend]
  repeat' split
  all_goals simp only [State.modFl_stores, State.flSendData_stores, State.flSend_stores, State.setPeer_stores]

theorem State.ackTimeout_stores (s : State) : s.ackTimeout.stores = s.stores := by
  unfold State.ackTimeout
  split <;> simp only [State.modFl_stores, State.flFail_stores, stores_ite, ite_self, foldl_stores, implies_true]

theorem State.sendTimeout_stores (s : State) : s.sendTimeout.stores = s.stores := by
  simp only [State.sendTimeout, State.flFail_stores, stores_ite, ite_self, foldl_stores, implies_true]

theorem State.degradeEnd_stores (s : State) : s.degradeEnd.stores = s.stores := by
  simp only [State.degradeEnd, State.modFl_stores]

theorem State.ethLink_stores (s : State) (net : Fin 2) (up : Bool) : (s.ethLink net up).stores = s.stores := by
  simp only [State.ethLink, State.raise_stores, State.stores_mk, State.stores_fold, stores_ite, ite_self]

theorem State.intakeResume_stores (s : State) : s.intakeResume.stores = s.stores := by
  unfold State.intakeResume
  split <;> simp only [State.offerPacket_stores, State.stores_mk, State.stores_fold, stores_ite, ite_self]

theorem State.statusRead_stores (s : State) : s.statusRead.stores = s.stores := by
  simp only [State.statusRead, State.emit_stores, State.stores_mk, State.stores_fold]

theorem State.interfaceReset_stores (s : State) : s.interfaceReset.stores = s.stores := rfl

theorem State.offerItem_stores (s : State) (i : Fin 128) (bs : Bytes) : (s.offerItem i bs).stores = s.stores := by
  simp only [State.offerItem, State.queueDrop_stores, State.putQueue_stores, State.setQueue_stores, stores_ite, ite_self]

theorem State.offerItems_stores (w n : Nat) (s : State) (i : Fin 128) (bs : Bytes) :
    (State.offerItems w n s i bs).stores = s.stores := by
  induction n generalizing s bs with
  | zero => rfl
  | succ n ih => exact (ih ..).trans (State.offerItem_stores ..)

theorem State.dropOpen_stores (s : State) (q : Fin 128) : (s.dropOpen q).stores = s.stores := by
  simp only [State.dropOpen, State.putQueue_stores]

theorem State.pendWrite_stores (s : State) (p : Fin 4) (w v : Nat) : (s.pendWrite p w v).stores = s.stores := rfl

theorem State.spillMove_stores (s : State) (q : Fin 128) : (s.spillMove q).stores = s.stores := by
  simp only [State.spillMove, State.putQueue_stores, stores_ite, ite_self]

theorem State.layoutSwitch_stores (s : State) (q : Fin 128) : (s.layoutSwitch q).stores = s.stores := by
  unfold State.layoutSwitch
  split <;> simp only [State.putQueue_stores, stores_ite, ite_self]

theorem State.modFlood_stores (s : State) (src : Nat) (f : Flood → Flood) : (s.modFlood src f).stores = s.stores := rfl

theorem State.floodEnd_stores (s : State) (src : Nat) : (s.floodEnd src).stores = s.stores := by
  simp only [State.floodEnd, State.raise_stores, State.modFlood_stores, stores_ite, ite_self]

theorem State.pendSet_stores (s : State) (src mask : Nat) : (s.pendSet src mask).stores = s.stores := rfl

theorem State.swLimiting_stores (s : State) (n : Fin 24) : (s.swLimiting n).stores = s.stores := by
  simp only [State.swLimiting, State.swState_stores, State.modSw_stores, stores_ite, ite_self]

theorem State.told_stores (s : State) (f : State → State) (hf : ∀ u, (f u).stores = u.stores) : (s.told f).stores = s.stores := by
  simp only [State.told, stores_ite, ite_self, hf]

theorem State.swCharge_stores (s : State) (n : Fin 24) : (s.swCharge n).stores = s.stores := by
  simp only [State.swCharge, State.free_stores, State.classify_stores]

theorem State.swOvertemp_stores (s : State) (n : Fin 24) : (s.swOvertemp n).stores = s.stores := by
  simp only [State.swOvertemp, State.swTurnOff_stores, State.modSw_stores, State.told_stores, State.raise_stores,
    State.swCharge_stores, stores_ite, ite_self, implies_true]

theorem State.swRetry_stores (s : State) (n : Fin 24) (temp : Int) : (s.swRetry n temp).stores = s.stores := by
  simp only [State.swRetry, State.modSw_stores, State.swState_stores, State.told_stores, State.swTurnOn_stores,
    State.raise_stores, stores_ite, ite_self, implies_true]

theorem State.clampComplete_stores (s : State) (n : Fin 24) (e : Nat) : (s.clampComplete n e).stores = s.stores := by
  simp only [State.clampComplete, State.modSw_stores, State.told_stores, State.swCharge_stores, State.raise_stores,
    State.swTurnOn_stores, stores_ite, ite_self, implies_true]

theorem State.clampWindow_stores (s : State) : s.clampWindow.stores = s.stores := by
  simp only [State.clampWindow, State.modSw_stores, State.swCharge_stores, State.raise_stores, State.stores_mk,
    State.stores_fold, stores_ite, ite_self, forFin_stores, implies_true]

theorem State.swOpenLoad_stores (s : State) (n : Fin 24) (mv : Int) : (s.swOpenLoad n mv).stores = s.stores := by
  simp only [State.swOpenLoad, State.raise_stores, State.modSw_stores, stores_ite, ite_self]

theorem State.inrushEnd_stores (s : State) (n : Fin 24) : (s.inrushEnd n).stores = s.stores := by
  simp only [State.inrushEnd]
  split <;> simp only [State.modSw_stores, State.swState_stores, stores_ite, ite_self]

theorem State.slewEnd_stores (s : State) (n : Fin 24) (reached : Bool) : (s.slewEnd n reached).stores = s.stores := by
  simp only [State.slewEnd, State.modSw_stores, State.swState_stores, stores_ite, ite_self]

theorem State.shedOne_stores (s : State) (n : Fin 24) : (s.shedOne n).stores = s.stores := by
  simp only [State.shedOne, State.raise_stores, State.modSw_stores, State.swTurnOff_stores]

theorem State.budgetWindow_stores (s : State) (m : Vector SwMeas 24) : (s.budgetWindow m).stores = s.stores := by
  simp only [State.budgetWindow, State.raise_stores, State.shedOne_stores, State.stores_mk, State.stores_fold, stores_ite,
    ite_self, foldl_stores, implies_true]

theorem State.budgetRestore_stores (s : State) : s.budgetRestore.stores = s.stores := by
  simp only [State.budgetRestore, State.raise_stores, State.stores_mk, State.stores_fold, stores_ite, ite_self]
  split
  · simp only []
  · split <;> simp only [State.raise_stores, State.swTurnOn_stores, State.swState_stores, State.stores_mk, State.stores_fold,
    stores_ite, ite_self]

theorem State.dipRestore_stores (s : State) : s.dipRestore.stores = s.stores := by
  simp only [State.dipRestore]
  split <;> simp only [State.modSw_stores, State.swTurnOn_stores, State.stores_mk, State.stores_fold, stores_ite, ite_self]

theorem State.modPt_stores (s : State) (i : Fin 81) (f : HkPoint → HkPoint) : (s.modPt i f).stores = s.stores := rfl

theorem State.hkChannel_stores (s : State) (ch : Fin 64) (r : Nat) (raw : Int) : (s.hkChannel ch r raw).stores = s.stores := by
  simp only [State.hkChannel, State.modPt_stores, State.raise_stores, stores_ite, ite_self]

theorem State.hkInternal_stores (s : State) (j : Nat) (v : Int) : (s.hkInternal j v).stores = s.stores := by
  simp only [State.hkInternal, State.raise_stores, State.stores_mk, State.stores_fold, stores_ite, ite_self]

theorem State.hkTrim_stores (s : State) : s.hkTrim.stores = s.stores := rfl

theorem State.hkRef_stores (s : State) (v : Int) : (s.hkRef v).stores = s.stores := by
  simp only [State.hkRef, State.raise_stores, State.stores_mk, State.stores_fold, stores_ite, ite_self]

theorem State.hkVbat_stores (s : State) (v : Int) : (s.hkVbat v).stores = s.stores := by
  simp only [State.hkVbat, State.raise_stores, State.stores_mk, State.stores_fold, stores_ite, ite_self]

theorem State.coolSensor_stores (s : State) (p : Fin 8) (i : Fin 7) (ch : Nat) : (s.coolSensor p i ch).stores = s.stores := by
  simp only [State.coolSensor, State.modCool_stores, stores_ite]
  split
  · simp only []
  · split <;> simp only [State.raise_stores, State.free_stores, stores_ite, ite_self]

theorem State.coolFlow_stores (s : State) (p : Fin 8) (b : Bytes) : (s.coolFlow p b).stores = s.stores := by
  simp only [State.coolFlow, State.modCool_stores, State.raise_stores, stores_ite, ite_self]

theorem State.coolPredict_stores (s : State) (p : Fin 8) (b : Bytes) (i2 : Rat) : (s.coolPredict p b i2).2.stores = s.stores := by
  simp only [State.coolPredict, State.modCool_stores]
  split <;> simp only [State.free_stores]

theorem State.coolStep_stores (s : State) (p : Fin 8) (b : Bytes) (i2 : Rat) : (s.coolStep p b i2).stores = s.stores := by
  simp only [State.coolStep, State.modCool_stores, stores_ite]
  repeat' split
  all_goals simp only [State.free_stores]

theorem State.coolCap_stores (s : State) (p : Fin 8) (b : Bytes) (im2 : Rat) (lost : Bool) :
    (s.coolCap p b im2 lost).stores = s.stores := by
  simp only [State.coolCap, State.raise_stores, State.modCool_stores, stores_ite, ite_self]

theorem State.coolRound_stores (s : State) (p : Fin 8) : (s.coolRound p).stores = s.stores := by
  unfold State.coolRound
  split <;> simp only [State.coolSensor_stores, State.coolFlow_stores, State.coolPredict_stores, State.coolStep_stores,
    State.coolCap_stores, State.coolChannels_stores, foldl_stores, implies_true]

theorem State.contactorOpened_stores (s : State) (g : Fin 8) : (s.contactorOpened g).stores = s.stores := by
  simp only [State.contactorOpened, State.toDischarge_stores, stores_ite, ite_self]

theorem State.portRound_stores (s : State) (p : Fin 8) : (s.portRound p).stores = s.stores := by
  simp only [State.portRound, stores_ite]
  repeat' split
  all_goals simp only [State.modPort_stores, State.powerGo_stores, State.modSession_stores, State.contactorOpened_stores,
    State.checkEnds_stores]

theorem State.holdoverRound_stores (s : State) : s.holdoverRound.stores = s.stores := by
  simp only [State.holdoverRound, State.modTime_stores, State.stores_mk, State.stores_fold, stores_ite, ite_self]

theorem State.stores_metro (s : State) (m : Metro) : ({ s with metro := m } : State).stores = s.stores := rfl

theorem State.meterTemps_stores (s : State) : s.meterTemps.stores = s.stores := by
  unfold State.meterTemps
  split
  · rfl
  extract_lets recs used lanes t
  refine (foldl_stores fun u r => ?_).trans (State.stores_metro s _)
  extract_lets src
  split
  · split
    · rfl
    extract_lets n l
    split
    · split
      · rfl
      · exact (State.mrec_stores ..).trans (State.modLane_stores ..)
    · extract_lets out v
      split
      · exact (foldl_stores fun w m => State.raise_stores ..).trans ((State.mrec_stores ..).trans (State.modLane_stores ..))
      · exact State.modLane_stores ..
  · rfl

theorem State.hkRound_stores (s : State) (raw : Vector Int 64) (int : Vector Int 9) : (s.hkRound raw int).stores = s.stores := by
  have hdie (u : State) : (forFin 8 u (fun s k => { s with hk := { s.hk with pts := vset s.hk.pts (64 + k) s.hk.die[k] }
    })).stores = u.stores :=
    forFin_stores fun _ _ => rfl
  unfold State.hkRound
  dsimp only
  split
  · rfl
  simp only [State.holdoverRound_stores, State.meterTemps_stores, forFin_stores, State.portRound_stores, State.coolRound_stores,
    State.stores_mk, State.hkTrim_stores, State.hkRef_stores, State.hkVbat_stores, State.hkInternal_stores,
      State.hkChannel_stores,
    implies_true, State.stores_fold, hdie]

theorem State.noteDies_stores (s : State) : s.noteDies.stores = s.stores := rfl

theorem State.setBudget_stores (s : State) : s.setBudget.stores = s.stores := by
  simp only [State.setBudget, State.raise_stores, State.stores_mk, State.stores_fold, stores_ite, ite_self]

theorem State.setThrottle_stores (s : State) : s.setThrottle.stores = s.stores := by
  simp only [State.setThrottle, State.setBudget_stores, State.raise_stores, State.stores_mk, State.stores_fold, stores_ite,
    ite_self]

theorem State.deviceFault_stores (s : State) (level : Nat) (thermal rail : Bool) :
    (s.deviceFault level thermal rail).stores = s.stores := by
  unfold State.deviceFault
  extract_lets cause recs sys nv twin noted t u
  split
  · rfl
  have ht : t.stores = s.stores := by
    refine (forFin_stores fun v g => ?_).trans (show noted.stores = s.stores from rfl)
    simp only [stores_ite, State.setGState_stores, State.modProt_stores, State.dischargeChannel_stores, State.groupLow_stores,
      ite_self]
  clear_value t
  have hu : u.stores = s.stores := by
    refine (forFin_stores fun v p => ?_).trans ht
    split
    · exact State.portBack_stores ..
    · exact State.portReturn_stores ..
    · rfl
  clear_value u
  split
  · exact hu
  · exact (State.swFaultStates_stores _).trans hu

theorem State.orderlyStop_stores (s : State) : s.orderlyStop.stores = s.stores := by
  unfold State.orderlyStop
  extract_lets t u
  have ht : t.stores = s.stores := by
    refine forFin_stores fun w g => ?_
    split <;> simp only [State.stopGroup_stores]
  clear_value t
  have hu : u.stores = s.stores := by
    refine (forFin_stores fun w p => ?_).trans ht
    split <;> simp only [State.portStop_stores]
  clear_value u
  split
  · exact hu
  · exact (State.latchWhenDone_stores _).trans hu

theorem State.thermShutdown_stores (s : State) : s.thermShutdown.stores = s.stores := by
  simp only [State.thermShutdown, State.raise_stores, State.release_stores, State.setLatch_stores, State.deviceFault_stores,
    State.orderlyStop_stores, stores_ite, ite_self]

theorem State.thermConvert_stores (s : State) (temps : Vector Int 8) : (s.thermConvert temps).stores = s.stores := by
  simp only [State.thermConvert, State.noteDies_stores, State.raise_stores, State.setThrottle_stores,
    State.thermShutdown_stores, State.stores_mk, State.stores_fold, stores_ite, ite_self, forFin_stores, implies_true]

theorem State.loadTime_stores (s : State) (elapsed : Nat) (wake : Bool) : (s.loadTime elapsed wake).stores = s.stores := by
  simp only [State.loadTime, State.modTime_stores, State.raise_stores, State.srcInit_stores, State.tellBilling_stores,
    State.dfltUpdate_stores, State.stores_mk, State.stores_fold, stores_ite, ite_self, implies_true]
  split <;> simp only [State.free_stores]

theorem State.sealAtPower_stores (s : State) (powered : Bool) : (s.sealAtPower powered).stores = s.stores := by
  simp only [State.sealAtPower, State.tamperRecords_stores, State.sealRecord_stores]

theorem State.billThroughSleep_stores (s : State) : s.billThroughSleep.stores = s.stores := by
  simp only [State.billThroughSleep, State.modB_stores, State.boundaries_stores, stores_ite, ite_self]

theorem State.wakeUp_stores (s : State) (src : Option Nat) (elapsed : Nat) : (s.wakeUp src elapsed).stores = s.stores := by
  simp only [State.wakeUp, State.loadTime_stores, State.sealAtPower_stores, State.billThroughSleep_stores, State.stores_mk,
    State.stores_fold]

theorem State.thermHwLimit_stores (s : State) (i : Fin 8) (elapsed : Nat) : (s.thermHwLimit i elapsed).stores = s.stores := by
  simp only [State.thermHwLimit, State.wakeUp_stores, State.raise_stores, State.setLatch_stores, State.deviceFault_stores,
    State.stores_mk, State.stores_fold, stores_ite, ite_self]

theorem State.chargeFree_stores (s : State) (t : Nat) (permanent : Bool) : (s.chargeFree t permanent).stores = s.stores := by
  simp only [State.chargeFree, State.free_stores, State.classify_stores]

theorem State.laneLost_stores (s : State) (l : Fin 3) (lane : Option (Fin 144)) : (s.laneLost l lane).stores = s.stores := by
  unfold State.laneLost
  split <;> simp only [State.chargeFree_stores, stores_ite, ite_self]

theorem State.linkFrame_stores (s : State) (l : Fin 3) (x : BusFrame) : (s.linkFrame l x).stores = s.stores := by
  simp only [State.linkFrame, State.deviceFault_stores, State.laneLost_stores, State.raise_stores, State.stores_mk,
    State.stores_fold, stores_ite, ite_self]

theorem State.metroClockLoss_stores (s : State) : s.metroClockLoss.stores = s.stores := by
  simp only [State.metroClockLoss, State.raise_stores, State.mrec_stores, State.metroStop_stores, stores_ite, ite_self]

theorem State.clockLoss_stores (s : State) (c : Fin 8) : (s.clockLoss c).stores = s.stores := by
  simp only [State.clockLoss, stores_ite]
  split
  · simp only []
  · split <;> simp only [State.metroClockLoss_stores, State.sourceLost_stores, State.raise_stores, State.canBusOff_stores,
    State.deviceFault_stores, State.stores_mk, State.stores_fold, forFin_stores, implies_true]

theorem State.clockBack_stores (s : State) (c : Fin 8) : (s.clockBack c).stores = s.stores := by
  simp only [State.clockBack, stores_ite]
  split
  · simp only []
  · split <;> simp only [State.raise_stores, State.modCan_stores, State.stores_mk, State.stores_fold, stores_ite, ite_self,
    forFin_stores, implies_true]

theorem State.swapImages_stores (s : State) : s.swapImages.stores = s.stores := by
  simp only [State.swapImages]
  split <;> simp only [State.stores_mk, State.stores_fold]

theorem State.fwFallback_stores (s : State) : s.fwFallback.stores = s.stores := by
  simp only [State.fwFallback, State.swapImages_stores, State.orderly_stores, State.enterReset_stores, State.stores_mk,
    State.stores_fold]

theorem State.coreRestart_stores (s : State) (k : Fin 4) : (s.coreRestart k).stores = s.stores := by
  simp only [State.coreRestart, State.stores_mk, State.stores_fold, stores_ite, ite_self]

theorem State.coreDog_stores (s : State) (k : Fin 4) : (s.coreDog k).stores = s.stores := by
  unfold State.coreDog
  extract_lets again fabric t
  have ht : t.stores = s.stores := State.raise_stores ..
  clear_value t
  split
  · exact (State.fwFallback_stores _).trans ht
  · cases again with
    | true => exact (State.deviceFault_stores ..).trans ht
    | false => exact (State.coreRestart_stores ..).trans ht

theorem State.queueError_stores (s : State) (t : Nat) : (s.queueError t).stores = s.stores := by
  simp only [State.queueError, stores_dite]
  repeat' split
  all_goals simp only [State.setQueue_stores]

theorem State.eccBad_stores (s : State) (o : EccOwner) : (s.eccBad o).stores = s.stores := by
  unfold State.eccBad
  split <;> simp only [State.metroFault_stores, State.raise_stores, State.chargeFree_stores, State.queueError_stores,
    stores_ite, ite_self]

theorem State.faultReset_stores (s : State) : s.faultReset.stores = s.stores := by
  unfold State.faultReset
  split <;> simp only [State.enterReset_stores, stores_ite, ite_self]

theorem State.vsQualified_stores (s : State) (threshold : Nat) : (s.vsQualified threshold).stores = s.stores := by
  simp only [State.vsQualified, State.stores_mk, State.stores_fold, stores_ite, ite_self]

theorem State.seqStep_stores (s : State) : s.seqStep.stores = s.stores := by
  unfold State.seqStep
  split <;> simp only [State.stores_mk, State.stores_fold, stores_ite, ite_self]

theorem State.pgTimeout_stores (s : State) : s.pgTimeout.stores = s.stores := by
  unfold State.pgTimeout
  split <;> simp only [State.stores_mk, State.stores_fold]

theorem State.seqRetry_stores (s : State) : s.seqRetry.stores = s.stores := by
  simp only [State.seqRetry, State.stores_mk, State.stores_fold, stores_ite, ite_self]

theorem State.pgFall_stores (s : State) : s.pgFall.stores = s.stores := by
  simp only [State.pgFall, State.enterReset_stores, State.deviceFault_stores, State.stores_mk, State.stores_fold, stores_ite,
    ite_self]

theorem State.swLose_stores (s : State) : s.swLose.stores = s.stores := by
  simp only [State.swLose, State.stores]

theorem State.vsBelow3_stores (s : State) : s.vsBelow3.stores = s.stores := by
  simp only [State.vsBelow3, State.commitCut_stores, State.deviceFault_stores, State.swLose_stores, State.stores_mk,
    State.stores_fold, stores_ite, ite_self]

theorem State.vsRestore_stores (s : State) : s.vsRestore.stores = s.stores := by
  simp only [State.vsRestore, State.told_stores, State.raise_stores, State.modSw_stores, State.stores_mk, State.stores_fold,
    stores_ite, ite_self, forFin_stores, implies_true]

theorem State.resetLow_stores (s : State) : s.resetLow.stores = s.stores := by
  simp only [State.resetLow, State.enterReset_stores, State.stores_mk, State.stores_fold, stores_ite, ite_self]

theorem State.bootNv_stores (s : State) : s.bootNv.stores = s.stores := by
  simp only [State.bootNv, State.swapImages_stores, State.stores_mk, State.stores_fold, stores_ite, ite_self]

theorem State.bootMetro_stores (s : State) (cause : Nat) : (s.bootMetro cause).stores = s.stores := by
  simp only [State.bootMetro, State.metersFresh_stores, State.mrec_stores, State.stores_mk, State.stores_fold, stores_ite,
    ite_self]

theorem State.faultRecords_stores (s : State) (sramLost : Bool) (cause : Nat) :
    (s.faultRecords sramLost cause).stores = s.stores := by
  simp only [State.faultRecords]
  split <;> simp only [State.raise_stores, State.stores_mk, State.stores_fold, stores_dite, ite_self, dite_eq_ite,
    foldl_stores, implies_true]

theorem State.bootTimeout_stores (s : State) : s.bootTimeout.stores = s.stores := by
  simp only [State.bootTimeout, State.fwFallback_stores, State.enterReset_stores, stores_ite, ite_self]

theorem State.sleepGap_stores (s : State) : s.sleepGap.stores = s.stores :=
  State.stores_of_beyond (State.sleepGap_beyond ..)

theorem State.deviceReady_stores (s : State) : s.deviceReady.stores = s.stores := by
  simp only [State.deviceReady, State.canAskMode_stores, State.portSet_stores, State.modPort_stores, State.linkRelease_stores,
    State.swAllOff_stores, State.raise_stores, State.sleepGap_stores, State.stores_mk, State.stores_fold, stores_ite, ite_self,
    forFin_stores, implies_true]

theorem State.heartbeat_stores (s : State) (elapsed : Nat) : (s.heartbeat elapsed).stores = s.stores := by
  simp only [State.heartbeat]
  split <;> simp only [State.stores_mk, State.stores_fold, stores_ite, ite_self]

theorem State.wake_stores (s : State) (src : Fin 5) (elapsed : Nat) : (s.wake src elapsed).stores = s.stores := by
  simp only [State.wake, State.wakeUp_stores, stores_ite, ite_self]

theorem State.slotPeriodStart_stores (s : State) (n : Fin 48) : (s.slotPeriodStart n).stores = s.stores := by
  unfold State.slotPeriodStart
  split <;> simp only [whenDo_stores, State.mapTurn_stores, State.notePoint_stores, State.modSlot_stores, implies_true]

theorem State.delayEdge_stores (s : State) (g : Fin 8) (n : Nat) (high : Bool) : (s.delayEdge g n high).stores = s.stores := by
  simp only [State.delayEdge, State.modSlot_stores, State.raise_stores, State.modPwm_stores, stores_ite, ite_self]

theorem State.risingEdge_stores (s : State) (g : Fin 8) (n : Nat) (high : Bool) : (s.risingEdge g n high).stores = s.stores := by
  simp only [State.risingEdge]
  split <;> simp only [State.delayEdge_stores, State.modSlot_stores, stores_ite, ite_self]

theorem State.fallingEdge_stores (s : State) (g : Fin 8) (n : Nat) (high : Bool) :
    (s.fallingEdge g n high).stores = s.stores := by
  simp only [State.fallingEdge, State.modSlot_stores, stores_ite, ite_self]
  repeat' split
  all_goals simp only [State.modSlot_stores]

theorem State.pwmCompareEdge_stores (s : State) (n : Fin 48) (high rise : Bool) :
    (s.pwmCompareEdge n high rise).stores = s.stores := by
  unfold State.pwmCompareEdge
  split <;> simp only [whenDo_stores, State.risingEdge_stores, State.fallingEdge_stores, State.mapTurn_stores, stores_ite,
    ite_self, implies_true]

theorem State.handoverAnswer_stores (s : State) (yes : Bool) : (s.handoverAnswer yes).stores = s.stores := by
  unfold State.handoverAnswer
  split <;> simp only [State.modTwin_stores, State.handoverRefused_stores, stores_ite, ite_self]

theorem State.imageFrame_stores (s : State) (m : ImageMsg) : (s.imageFrame m).stores = s.stores := by
  simp only [State.imageFrame, stores_ite]
  split
  · simp only []
  · split <;> simp only [State.modTwin_stores, State.stores_mk, State.stores_fold, stores_ite, ite_self]

theorem State.swLimitingEnd_stores (s : State) (n : Fin 24) (cur : Nat) : (s.swLimitingEnd n cur).stores = s.stores := by
  simp only [State.swLimitingEnd, State.swState_stores, State.modSw_stores, stores_ite, ite_self]

theorem State.vbatLoss_stores (s : State) : s.vbatLoss.stores = s.stores := by
  simp only [State.vbatLoss, State.free_stores, State.stores_mk, State.stores_fold]

theorem State.keepDefaults_stores (s : State) : s.keepDefaults.stores = s.stores := by
  simp only [State.keepDefaults, State.swTurnOn_stores, State.modSw_stores, State.stores_mk, State.stores_fold, stores_ite,
    ite_self, forFin_stores, implies_true]

theorem State.selfTestFails_stores (s : State) (u : TestUnit) : (s.selfTestFails u).stores = s.stores := by
  unfold State.selfTestFails
  split <;> simp only [State.chargeFree_stores, State.deviceFault_stores, State.coreRestart_stores, State.metroFault_stores,
    whenDo_stores, State.loopStart_stores, State.sourceLost_stores, State.linkDown_stores, stores_ite, ite_self, forFin_stores,
    implies_true]

theorem State.eccFixed_stores (s : State) (m : Fin 4) : (s.eccFixed m).stores = s.stores := rfl

end Sys2Proof.Machine

/-!
Every step keeps the logs and buffers within their sizes (R541, R591, R614, R615, R657) and takes the front command off the queue. The few
operations that write a log, core 3's copies or the datagrams in reassembly keep the sizes; all others leave them alone (`State.stores`).
-/

namespace Sys2Proof.Machine

/-! ### What a step keeps -/

/-- From a state within its sizes follows one within its sizes, and the same commands wait. -/
def Keeps (s t : State) : Prop := (Safety.logsBounded s → Safety.logsBounded t) ∧ t.pending = s.pending

section Keeping

variable {s t u : State}

theorem Keeps.refl (s : State) : Keeps s s := ⟨id, rfl⟩

theorem Keeps.trans (h : Keeps s t) (k : Keeps t u) : Keeps s u := ⟨k.1 ∘ h.1, k.2.trans h.2⟩

/-- What leaves the bounded parts and the waiting commands as they were keeps the sizes. -/
theorem Keeps.of_stores (h : t.stores = s.stores) : Keeps s t := by
  refine ⟨fun hs => ?_, congrArg Stores.pending h⟩
  obtain ⟨hlog, hring, hev, hcopies, hfrags⟩ := hs
  refine ⟨?_, ?_, ?_, ?_, ?_⟩
  · exact Nat.le_trans (Nat.le_of_eq (congrArg (fun x : Stores => x.log.length) h)) hlog
  · exact Nat.le_trans (Nat.le_of_eq (congrArg (fun x : Stores => x.ring.length) h)) hring
  · exact Nat.le_trans (Nat.le_of_eq (congrArg (fun x : Stores => x.events.length) h)) hev
  · exact Nat.le_trans (Nat.le_of_eq (congrArg (fun x : Stores => x.copies.length) h)) hcopies
  · exact Nat.le_trans (Nat.le_of_eq (congrArg (fun x : Stores => x.frags.length) h)) hfrags

/-- A step before that leaves those parts alone. -/
theorem Keeps.after (k : Keeps t u) (h : t.stores = s.stores) : Keeps s u := (Keeps.of_stores h).trans k

/-- A further step that leaves those parts alone. -/
theorem Keeps.and_stores (h : Keeps s t) (k : u.stores = t.stores) : Keeps s u := h.trans (.of_stores k)

theorem Keeps.foldl {α : Type} {f : State → α → State} (h : ∀ v x, Keeps v (f v x)) (l : List α) (s : State) : Keeps s (l.foldl f s) := by
  induction l generalizing s with
  | nil => exact .refl s
  | cons x l ih => exact (h s x).trans (ih _)

theorem Keeps.ite {c : Prop} [Decidable c] (h : Keeps s t) (k : Keeps s u) : Keeps s (if c then t else u) := by
  split
  · exact h
  · exact k

theorem Keeps.ite_snd {α : Type} {c : Prop} [Decidable c] {p q : α × State} (h : Keeps s p.2) (k : Keeps s q.2) :
    Keeps s (if c then p else q).2 := by
  split
  · exact h
  · exact k

theorem Keeps.whenDo {f : State → State} (c : Bool) (h : Keeps s (f s)) : Keeps s (whenDo c f s) := by
  unfold Machine.whenDo
  split
  · exact h
  · exact .refl s

/-! ### The window log -/

theorem State.violate_keeps (s : State) (addr : Nat) (write : Bool) (cause words data : Nat) :
    Keeps s (s.violate addr write cause words data) := by
  unfold State.violate
  extract_lets seq v due full lostOne hio nv t
  have ht : Keeps s t := by
    refine ⟨fun ⟨hlog, hring, hev, hcopies, hfrags⟩ => ⟨?_, ?_, hev, hcopies, hfrags⟩, rfl⟩
    · show ((if full then s.hio.vlog.drop 1 else s.hio.vlog) ++ [v]).length ≤ 64
      by_cases hfull : 64 ≤ s.hio.vlog.length <;> simp [full, hfull] <;> omega
    · exact (List.length_take_le 256 (v :: s.nv.violRing))
  clear_value t
  split
  · exact ht.and_stores (State.raise_stores ..)
  · exact ht

theorem State.unknownInstruction_keeps (s : State) (code : BitVec 8) : Keeps s (s.unknownInstruction code) := by
  unfold State.unknownInstruction
  split
  · exact .refl s
  · exact (Keeps.of_stores s.free_stores).trans (State.violate_keeps ..)

theorem State.packetTimeout_keeps (s : State) (q : Fin 128) : Keeps s (s.packetTimeout q) := by
  unfold State.packetTimeout
  split
  · exact .refl s
  · split
    · refine (Keeps.of_stores ?_).trans (State.violate_keeps ..)
      exact (State.free_stores _).trans ((State.free_stores _).trans ((State.free_stores _).trans (State.dropOpen_stores ..)))
    · exact .refl s

theorem State.qrloRead_keeps (s : State) (q : Fin 128) : Keeps s (s.qrloRead q) := by
  unfold State.qrloRead
  split
  · exact .of_stores (State.emit_stores ..)
  · split
    · exact (State.violate_keeps ..).and_stores (State.emit_stores ..)
    · exact .of_stores ((State.emit_stores ..).trans (State.qrlo_stores ..))

/-! ### The ports of the queues and the direct window: a forbidden access runs `bad` -/

section Access

variable {bad : State → State} (hbad : ∀ v, Keeps v (bad v))

include hbad

theorem State.qdata_keeps (s : State) (q : Fin 128) (w : Nat) : Keeps s (s.qdata q w bad) := by
  unfold State.qdata
  dsimp only
  split
  · exact hbad s
  split
  · exact .of_stores (State.offerItems_stores ..)
  · exact hbad s
  · split
    · exact (Keeps.of_stores (State.setQueue_stores ..)).trans (hbad _)
    · split
      · exact .of_stores (State.putQueue_stores ..)
      · exact .of_stores ((State.watermark_stores ..).trans ((State.queueDrop_stores ..).trans (State.setQueue_stores ..)))

theorem State.qopen_keeps (s : State) (q : Fin 128) (v : Nat) : Keeps s (s.qopen q v bad) := by
  unfold State.qopen
  dsimp only
  split
  · exact .refl s
  split
  · exact hbad s
  split
  · exact .refl s
  split
  · exact (Keeps.of_stores (State.dropOpen_stores ..)).trans (hbad _)
  · split
    · exact .of_stores (State.putQueue_stores ..)
    · exact .of_stores (State.queueDrop_stores ..)

theorem State.qclose_keeps (s : State) (q : Fin 128) (v : Nat) : Keeps s (s.qclose q v bad) := by
  unfold State.qclose
  dsimp only
  split
  · exact hbad s
  split
  · exact hbad s
  · split
    · exact .of_stores (State.putQueue_stores ..)
    · exact (Keeps.of_stores (State.dropOpen_stores ..)).trans (hbad _)

theorem State.qctl_keeps (s : State) (q : Fin 128) (v : Nat) : Keeps s (s.qctl q v bad) := by
  unfold State.qctl
  dsimp only
  split
  · exact .refl s
  split
  · exact hbad s
  · exact .of_stores (State.putQueue_stores ..)

theorem State.routeWrite_keeps (s : State) (src v : Nat) : Keeps s (s.routeWrite src v bad) := by
  unfold State.routeWrite
  split
  · exact .refl s
  split
  · exact hbad s
  · exact .of_stores rfl

end Access

theorem State.portWrite_keeps (s : State) (q : Fin 128) (off v : Nat) {f : State → (State → State) → State}
    (h : ∀ (bad : State → State), (∀ u, Keeps u (bad u)) → ∀ u, Keeps u (f u bad)) : Keeps s (s.portWrite q off v f) := by
  unfold State.portWrite
  split
  · exact .refl s
  · exact (h (fun u => u.violate (qaddr q off) true 4 1 (v % 2 ^ 32)) (fun u => State.violate_keeps ..) _).after (by rfl)

section Words

variable {bad : Nat → State → State} (hbad : ∀ c v, Keeps v (bad c v))

include hbad

theorem State.queueWord_keeps (s : State) (a : Nat) : Keeps s (s.queueWord a bad).2 := by
  have hq (q : Fin 128) : Keeps s (s.qrlo q).2 := .of_stores (State.qrlo_stores ..)
  simp only [State.queueWord, apply_ite Prod.snd]
  exact .ite (hbad 4 s) (.ite (hq _) (by simp only [ite_self]; exact .refl s))

theorem State.readWord_keeps (s : State) (a : Nat) : Keeps s (s.readWord a bad).2 := by
  unfold State.readWord
  split
  · exact .of_stores (State.mirrorLatch_stores ..)
  split
  · exact State.queueWord_keeps hbad s a
  · split <;> exact .refl s

theorem State.readWords_keeps (n a : Nat) (s : State) : Keeps s (State.readWords bad n a s).2 := by
  induction n generalizing a s with
  | zero => exact .refl s
  | succ n ih => exact (State.readWord_keeps hbad s a).trans (ih ..)

theorem State.writeWord_keeps (s : State) (a v : Nat) : Keeps s (s.writeWord a v bad) := by
  unfold State.writeWord
  dsimp only
  split
  · exact hbad 1 s
  split
  · split
    · exact State.qdata_keeps (hbad 4) ..
    split
    · exact State.qopen_keeps (hbad 4) ..
    split
    · exact State.qclose_keeps (hbad 4) ..
    split
    · exact State.qctl_keeps (hbad 4) ..
    split
    · exact hbad 1 s
    · exact hbad 4 s
  split
  · split
    · exact State.routeWrite_keeps (hbad 4) ..
    split
    · exact .of_stores (State.pendWrite_stores ..)
    split
    · exact .of_stores rfl
    split
    · exact hbad 1 s
    · exact .refl s
  · exact hbad 1 s

theorem State.writeWords_keeps (ws : List Nat) (a : Nat) (s : State) : Keeps s (State.writeWords bad ws a s) := by
  induction ws generalizing a s with
  | nil => exact .refl s
  | cons w ws ih => exact (State.writeWord_keeps hbad s a w).trans (ih ..)

end Words

theorem State.windowRead_keeps (s : State) (a n : Nat) (part : Bool) : Keeps s (s.windowRead a n part) := by
  have hbad (c : Nat) (v : State) : Keeps v (v.violate a false c n 0) := State.violate_keeps ..
  unfold State.windowRead
  dsimp only
  split
  · exact .of_stores (State.emit_stores ..)
  split
  · exact (hbad _ s).and_stores (State.emit_stores ..)
  split
  · exact (hbad _ s).and_stores (State.emit_stores ..)
  · exact ((State.readWords_keeps hbad n a s).trans (.whenDo _ (hbad 2 _))).and_stores (State.emit_stores ..)

theorem State.windowWrite_keeps (s : State) (a : Nat) (ws : List Nat) (part : Bool) : Keeps s (s.windowWrite a ws part) := by
  have hbad (c : Nat) (v : State) : Keeps v (v.violate a true c ws.length (ws.headD 0)) := State.violate_keeps ..
  unfold State.windowWrite
  split
  · exact .refl s
  extract_lets hio t bad first
  have ht : Keeps s t := .of_stores rfl
  clear_value t
  split
  · exact ht.trans (hbad ..)
  split
  · exact ht.trans (hbad ..)
  · exact ht.trans ((State.writeWords_keeps hbad ws a t).trans (.whenDo _ (hbad 2 _)))

/-! ### The event log -/

theorem State.flushLog_keeps (s : State) : Keeps s s.flushLog :=
  ⟨fun ⟨hlog, hring, _, hcopies, hfrags⟩ => ⟨hlog, hring, List.length_take_le 65536 _, hcopies, hfrags⟩, rfl⟩

theorem State.logEvent_keeps (s : State) (r : EvRec) : Keeps s (s.logEvent r) := by
  have htake (l : List EvRec) (e : Evt) : Keeps s { s with nv := { s.nv with evLog := l.take 65536 }, evt := e } :=
    ⟨fun ⟨hlog, hring, _, hcopies, hfrags⟩ => ⟨hlog, hring, List.length_take_le 65536 _, hcopies, hfrags⟩, rfl⟩
  unfold State.logEvent
  split
  · split
    · exact .of_stores rfl
    · exact htake ..
  · exact htake ..

theorem State.releaseOne_keeps (s : State) (r : EvRec) : Keeps s (s.releaseOne r) := by
  unfold State.releaseOne
  extract_lets t win f g seq nv u r' v q w
  have hu : u.stores = s.stores := State.floodEnd_stores ..
  split
  · have hv : v.stores = s.stores := (State.modFlood_stores ..).trans hu
    have hw : w.stores = s.stores := by
      refine Eq.trans ?_ hv
      dsimp only [w]
      split
      · exact State.offer_stores ..
      · rfl
    exact (Keeps.of_stores ((State.pendSet_stores ..).trans hw)).trans (State.logEvent_keeps ..)
  · exact (Keeps.of_stores ((State.modFlood_stores ..).trans hu)).trans (State.logEvent_keeps ..)

theorem State.release'_keeps (s : State) : Keeps s s.release' :=
  (Keeps.foldl (fun v r => v.releaseOne_keeps r) _ _).after (by rfl)

/-! ### Core 3's copies of CAN frames -/

theorem State.eraseCopy_keeps (s : State) (c : Nat × Nat × Nat × Bytes) : Keeps s { s with canCopies := s.canCopies.erase c } :=
  ⟨fun ⟨hlog, hring, hev, hcopies, hfrags⟩ => ⟨hlog, hring, hev, Nat.le_trans List.length_erase_le hcopies, hfrags⟩, rfl⟩

theorem State.storeCopy_keeps (s : State) (f : Fin 4) (b : Bytes) : Keeps s (s.storeCopy f b) := by
  unfold State.storeCopy
  dsimp only
  split
  · exact (State.eraseCopy_keeps ..).and_stores (State.storeStatus_stores ..)
  · exact .of_stores (State.storeStatus_stores ..)

theorem State.keypadCopy_keeps (s : State) (n : Fin 8) (ident : Nat) (b : Bytes) : Keeps s (s.keypadCopy n ident b) := by
  unfold State.keypadCopy
  split
  next c _ =>
    dsimp only
    split
    · exact s.eraseCopy_keeps c
    · exact (s.eraseCopy_keeps c).and_stores (State.keypad_stores ..)
  · exact .of_stores (State.keypad_stores ..)

theorem State.canFrame_keeps (s : State) (n : Fin 8) (f : CanRx) (own : Bool) : Keeps s (s.canFrame n f own) := by
  unfold State.canFrame
  extract_lets t c
  have ht : Keeps s t := .of_stores (State.canRecord_stores ..)
  clear_value t
  split
  · split
    · refine (ht.trans ⟨?_, ?_⟩).and_stores (State.raise_stores ..)
      · exact fun ⟨hlog, hring, hev, hcopies, hfrags⟩ => ⟨hlog, hring, hev, by simp; omega, hfrags⟩
      · rfl
    · refine ht.trans ⟨?_, rfl⟩
      exact fun ⟨hlog, hring, hev, hcopies, hfrags⟩ => ⟨hlog, hring, hev, by simp; omega, hfrags⟩
  · exact ht

theorem State.canReceive_keeps (s : State) (n : Fin 8) (f : CanRx) : Keeps s (s.canReceive n f) := by
  unfold State.canReceive
  extract_lets c t u v
  split
  · exact .refl s
  have hu : Keeps s u := (Keeps.of_stores (State.modCan_stores ..)).trans (State.canFrame_keeps ..)
  clear_value u
  have hv : Keeps s v := by
    refine hu.and_stores ?_
    simp only [v, stores_ite, State.canSpoiled_stores, ite_self]
  clear_value v
  have hfree : (if 127 < c.rxErr then v.free else (0, v)).2.stores = v.stores := by
    split
    · exact v.free_stores
    · rfl
  exact hv.and_stores ((State.canCounters_stores ..).trans hfree)

theorem State.canSent_keeps (s : State) (n : Fin 8) (sof : Nat) (tdcv : Option Nat) : Keeps s (s.canSent n sof tdcv) := by
  unfold State.canSent
  extract_lets c
  split
  · exact .refl s
  next k f _ =>
  extract_lets tdcv t u v dlc w
  have ht : t.stores = s.stores := State.modCan_stores ..
  have hv : v.stores = s.stores := (State.emit_stores ..).trans ((State.modCan_stores ..).trans ht)
  have hw : Keeps s w := .ite ((State.canFrame_keeps ..).after hv) (.of_stores hv)
  refine .ite (.refl s) (.ite ?_ ?_)
  · exact .of_stores ((State.canError_stores ..).trans ((State.free_stores _).trans ht))
  · exact hw.and_stores (State.canCounters_stores ..)

/-! ### Commands -/

/-- A read of the window log may clear it (R614). -/
theorem bodySysViolationRead_keeps (r : Req) (s : State) : Keeps s (bodySysViolationRead r s).s := by
  unfold bodySysViolationRead
  extract_lets b ring sel all from_ got newest lost
  unfold Ans.table
  split
  · exact .refl s
  · rw [Ans.ok_s]
    split
    · exact .refl s
    · refine ⟨fun ⟨hlog, hring, hev, hcopies, hfrags⟩ => ⟨?_, hring, hev, hcopies, hfrags⟩, rfl⟩
      dsimp only
      split
      · exact Nat.zero_le _
      · exact hlog

/-- The answer's state keeps the sizes, whatever the state before. -/
def KeepingBody (f : State → Ans) : Prop := ∀ s, Keeps s (f s).s

theorem KeepingBody.of_stores {f : State → Ans} (h : ∀ s, (f s).s.stores = s.stores) : KeepingBody f := fun s => .of_stores (h s)

theorem bodyOf_keeps (r : Req) : KeepingBody (bodyOf r) := by
  unfold bodyOf
  split
  · exact .of_stores (bodySysPing_stores r)
  · exact .of_stores (bodySysSummary_stores r)
  · exact .of_stores (bodySysRole_stores r)
  · exact .of_stores (bodySysReset_stores r)
  · exact .of_stores (bodySysSleep_stores r)
  · exact .of_stores (bodySysLogRead_stores r)
  · exact bodySysViolationRead_keeps r
  · exact .of_stores (bodySysFwUpdate_stores r)
  · exact .of_stores (bodyTimeSet_stores r)
  · exact .of_stores (bodyTimeSource_stores r)
  · exact .of_stores (bodyTimeStatus_stores r)
  · exact .of_stores (bodyTimeCapture_stores r)
  · exact .of_stores (bodyAllocLimit_stores r)
  · exact .of_stores (bodyAllocPolicy_stores r)
  · exact .of_stores (bodyAllocFallback_stores r)
  · exact .of_stores (bodyAllocStatus_stores r)
  · exact .of_stores (bodyAllocTargets_stores r)
  · exact .of_stores (bodyGroupConfig_stores r)
  · exact .of_stores (bodyGroupEnable_stores r)
  · exact .of_stores (bodyGroupSetpoint_stores r)
  · exact .of_stores (bodyGroupStop_stores r)
  · exact .of_stores (bodyGroupStatus_stores r)
  · exact .of_stores (bodyPhaseRetire_stores r)
  · exact .of_stores (bodyPhaseRestore_stores r)
  · exact .of_stores (bodyGroupFaultRead_stores r)
  · exact .of_stores (bodyPwmWrite_stores r)
  · exact .of_stores (bodyPwmLoadall_stores r)
  · exact .of_stores (bodyPwmCalStatus_stores r)
  · exact .of_stores (bodyLoopParam_stores r)
  · exact .of_stores (bodyLoopProfile_stores r)
  · exact .of_stores (bodyLoopTrace_stores r)
  · exact .of_stores (bodyPortConfig_stores r)
  · exact .of_stores (bodyPortAuthorize_stores r)
  · exact .of_stores (bodyPortLimit_stores r)
  · exact .of_stores (bodyPortStop_stores r)
  · exact .of_stores (bodyPortStatus_stores r)
  · exact .of_stores (bodyPortSessionRead_stores r)
  · exact .of_stores (bodyPortClear_stores r)
  · exact .of_stores (bodyCoolConfig_stores r)
  · exact .of_stores (bodyCoolStatus_stores r)
  · exact .of_stores (bodyMeterConfig_stores r)
  · exact .of_stores (bodyMeterCalTable_stores r)
  · exact .of_stores (bodyMeterRead_stores r)
  · exact .of_stores (bodyMeterSeal_stores r)
  · exact .of_stores (bodyBillTariffLoad_stores r)
  · exact .of_stores (bodyBillCalendarLoad_stores r)
  · exact .of_stores (bodyBillRead_stores r)
  · exact .of_stores (bodyBillTokenEnter_stores r)
  · exact .of_stores (bodyBillClosePeriod_stores r)
  · exact .of_stores (bodyBillAccount_stores r)
  · exact .of_stores (bodyTwinConfig_stores r)
  · exact .of_stores (bodyTwinStatus_stores r)
  · exact .of_stores (bodyTwinDrill_stores r)
  · exact .of_stores (bodyTwinYield_stores r)
  · exact .of_stores (bodyCanConfig_stores r)
  · exact .of_stores (bodyCanSend_stores r)
  · exact .of_stores (bodyCanMode_stores r)
  · exact .of_stores (bodyCanStatus_stores r)
  · exact .of_stores (bodyFlinkConfig_stores r)
  · exact .of_stores (bodyFlinkSend_stores r)
  · exact .of_stores (bodyFlinkStatus_stores r)
  · exact .of_stores (bodyQueueConfig_stores r)
  · exact .of_stores (bodyQueueDropPacket_stores r)
  · exact .of_stores (bodyQueueStatus_stores r)
  · exact .of_stores (bodyEventRoute_stores r)
  · exact .of_stores (bodySwConfig_stores r)
  · exact .of_stores (bodySwSet_stores r)
  · exact .of_stores (bodySwStatus_stores r)
  · exact .of_stores (bodyHkConfig_stores r)
  · exact .of_stores (bodyHkRead_stores r)
  · exact .of_stores (bodyThermConfig_stores r)
  · exact .of_stores (bodyThermRelease_stores r)
  · exact .of_stores (bodyFaultRead_stores r)
  · exact .of_stores (bodyFaultClear_stores r)
  · exact .of_stores (bodyResourceList_stores r)

theorem acceptTimed_stores (r : Req) (s : State) : (acceptTimed r s).s.stores = s.stores := by
  unfold acceptTimed
  dsimp only
  split
  · rfl
  · refine Ans.table_stores ?_
    split
    · exact (State.free_stores _).trans (State.pushLaunch_stores ..)
    · exact State.pushLaunch_stores ..

theorem execute_keeps (r : Req) (s : State) : Keeps s (execute r s).s := by
  have hs : Keeps s (s.conflictSeen r) := .of_stores (State.conflictSeen_stores ..)
  unfold execute
  dsimp only
  split
  · split
    · exact hs.and_stores (acceptTargets_stores ..)
    · exact hs.and_stores (acceptTimed_stores ..)
  · exact hs.trans (bodyOf_keeps r _)

theorem State.sysReset_keeps (s : State) (trial : Bool) : Keeps s (s.sysReset trial) := by
  unfold State.sysReset
  extract_lets t u nv fw v
  have ht : t.stores = s.stores := by
    simp only [t, stores_ite, State.release_stores, ite_self]
  clear_value t
  have hu : Keeps s u := (State.flushLog_keeps _).after ((State.orderly_stores t).trans ht)
  clear_value u
  refine hu.and_stores ((State.enterReset_stores ..).trans (?_ : v.stores = u.stores))
  dsimp only [v]
  split <;> rfl

theorem State.afterReply_keeps (r : Req) (s : State) : Keeps s (s.afterReply r) := by
  unfold State.afterReply
  split
  · exact State.sysReset_keeps ..
  split
  · exact .of_stores (State.sleepEnter_stores ..)
  split
  · exact .of_stores (State.enterReset_stores ..)
  · exact .refl s

theorem State.finish_keeps (s : State) (p : Pkt) (arr : Arrival) (r : Req) : Keeps s (s.finish p arr r) := by
  have ha := execute_keeps r s
  unfold State.finish
  dsimp only
  split
  · split
    · exact (ha.and_stores (State.replied_stores ..)).trans (State.afterReply_keeps ..)
    · exact ha.and_stores (State.replied_stores ..)
  · exact ha.and_stores (State.refuse_stores ..)

theorem State.complete_keeps (s : State) (p : Pkt) (arr : Arrival) (r : Req) : Keeps s (s.complete p arr r) := by
  unfold State.complete
  split
  · exact .of_stores rfl
  · exact State.finish_keeps ..

theorem State.handle_keeps (s : State) (p : Pkt) : Keeps s (s.handle p) := by
  have hi := s.intake_stores p
  unfold State.handle
  generalize s.intake p = x at hi
  obtain ⟨v, a, t⟩ := x
  have ht : Keeps s t := .of_stores hi
  cases a with
  | none => cases v <;> exact ht.and_stores (State.countErr_stores t)
  | some a =>
    cases v with
    | run r => exact ht.trans (State.complete_keeps ..)
    | isReply => exact ht.and_stores (State.matchReply_stores ..)
    | answer st always => exact ht.and_stores (State.refuse_stores ..)
    | badTag => exact ht.and_stores (State.badTag_stores ..)
    | again bs => exact ht.and_stores (State.emit_stores ..)
    | duplicate => exact ht.and_stores (State.countErr_stores t)
    | _ => exact ht.and_stores (State.countErr_stores t)

theorem State.take_keeps (s : State) (p : Pkt) : Keeps s (s.take p) := by
  unfold State.take
  split
  · exact .refl s
  · exact (Keeps.of_stores (State.received_stores ..)).trans (State.handle_keeps ..)

theorem State.command_keeps (s : State) (code : Nat) (p : Pkt) : Keeps s (s.command code p) := by
  unfold State.command
  split
  · exact s.take_keeps p
  · exact .refl s

theorem State.runDelayed_keeps (s : State) : Keeps s s.runDelayed := by
  unfold State.runDelayed
  split
  · exact (Keeps.foldl (fun v (x : Pkt × Arrival × Req) => v.finish_keeps x.1 x.2.1 x.2.2) _ _).after (by rfl)
  · exact .refl s

theorem State.pausedWork_keeps (s : State) : Keeps s s.pausedWork :=
  (s.flushLog_keeps.and_stores (State.captureDone_stores _)).trans (State.runDelayed_keeps _)

theorem State.throttleWindow_keeps (s : State) : Keeps s s.throttleWindow := by
  unfold State.throttleWindow
  dsimp only
  split
  · exact (State.pausedWork_keeps _).after (by rfl)
  · exact .refl s

theorem State.thermRound_keeps (s : State) (temps : Vector Int 8) : Keeps s (s.thermRound temps) := by
  have ht : Keeps s (s.thermConvert temps) := .of_stores (State.thermConvert_stores ..)
  unfold State.thermRound
  dsimp only
  split
  · exact ht.trans (State.pausedWork_keeps _)
  · exact ht

/-! ### Launches -/

theorem State.launchRun_keeps (s : State) (r : Req) : Keeps s (s.launchRun r).2 := by
  unfold State.launchRun
  extract_lets thermal a
  clear_value thermal
  split
  · exact .refl s
  split
  · exact .of_stores (State.allocLaunch_stores ..)
  · exact bodyOf_keeps _ s

theorem State.launchOne_keeps (s : State) (l : Launch) : Keeps s (s.launchOne l) := by
  unfold State.launchOne
  extract_lets ccp t
  have ht : Keeps s t := .of_stores rfl
  clear_value t
  have hr := ht.trans (t.launchRun_keeps l.req)
  generalize t.launchRun l.req = x at hr
  obtain ⟨st, u⟩ := x
  dsimp only at hr ⊢
  split
  · refine hr.and_stores ((State.raise_stores ..).trans ?_)
    split <;> rfl
  · refine hr.and_stores ((State.raise_stores ..).trans ?_)
    unfold Machine.whenDo
    split <;> rfl

theorem State.dueRun_keeps (s : State) (d : Due) : Keeps s (s.dueRun d) := by
  cases d with
  | lead l => exact .whenDo _ (s.launchOne_keeps l)
  | trail k t => exact .whenDo _ (.of_stores (State.trailOne_stores ..))

theorem State.launchExecute_keeps (s : State) : Keeps s s.launchExecute := by
  exact .ite ((Keeps.foldl State.dueRun_keeps _ s).and_stores (State.freeSlots_stores _)) (.refl s)

/-! ### Datagrams -/

theorem State.ccpDatagram_keeps (s : State) (net : Fin 2) (p : Pkt) : Keeps s (s.ccpDatagram net p) := by
  unfold State.ccpDatagram
  extract_lets n ccp g t fabric
  split
  · split
    · exact (State.take_keeps ..).after (by rfl)
    · refine .of_stores ?_
      show t.stores = s.stores
      simp only [t, stores_ite, State.raise_stores, ite_self]
  · exact s.take_keeps p

theorem State.datagram_keeps (s : State) (d : Dgram) (data : Bytes) : Keeps s (s.datagram d data) := by
  unfold State.datagram
  split
  · exact State.ccpDatagram_keeps ..
  split
  · exact .refl s
  · exact .of_stores (State.offerRx_stores ..)

/-- At most the datagrams in reassembly that there were. -/
theorem Keeps.of_frags {l : List FragEntry} (h : s.ccp.frags.length ≤ 8 → l.length ≤ 8) : Keeps s { s with ccp := { s.ccp with frags := l } } :=
  ⟨fun ⟨hlog, hring, hev, hcopies, hfrags⟩ => ⟨hlog, hring, hev, hcopies, h hfrags⟩, rfl⟩

theorem State.fragment_keeps (s : State) (d : Dgram) (id off total : Nat) : Keeps s (s.fragment d id off total) := by
  unfold State.fragment
  extract_lets l e f others
  have hl : l.length ≤ s.ccp.frags.length := List.length_filter_le ..
  have ho : others.length ≤ l.length := List.length_filter_le ..
  split
  · exact (Keeps.of_frags (fun h => by omega)).trans (State.datagram_keeps ..)
  · refine Keeps.of_frags (fun h => ?_)
    split
    · rw [List.length_append, List.length_singleton]
      omega
    · omega

theorem State.siteReceive_keeps (s : State) (d : Dgram) : Keeps s (s.siteReceive d) := by
  unfold State.siteReceive
  split
  · exact .refl s
  split
  · exact State.datagram_keeps ..
  · exact State.fragment_keeps ..

theorem State.fragTimeout_keeps (s : State) (net : Fin 2) (id : Nat) : Keeps s (s.fragTimeout net id) :=
  Keeps.of_frags (fun h => Nat.le_trans (List.length_filter_le ..) h)

/-! ### A restart -/

theorem State.bootClear_keeps (s : State) (powerOn : Bool) : Keeps s (s.bootClear powerOn) := by
  refine ⟨fun ⟨_, hring, hev, _, _⟩ => ⟨?_, hring, hev, ?_, ?_⟩, rfl⟩ <;> exact Nat.zero_le _

theorem State.restart_keeps (s : State) (site : Fin 16) (twinB tcxo : Bool) (elapsed : Nat) : Keeps s (s.restart site twinB tcxo elapsed) := by
  unfold State.restart
  extract_lets asked cause t lost strap bill u v seqr vbat w x y z
  have ht : t.stores = s.stores := by
    simp only [t, stores_ite, State.swLose_stores, ite_self]
  have hv : Keeps s v :=
    ((State.bootClear_keeps u.bootNv lost).after ((State.bootNv_stores u).trans ht)).and_stores (State.loadTime_stores ..)
  clear_value v
  have hx : x.stores = v.stores := (State.sealAtPower_stores ..).trans ((State.bootMetro_stores ..).trans (State.nonKeepOff_stores _))
  have hz : z.stores = v.stores := by
    simp only [z, stores_ite, State.raise_stores, ite_self]
    exact (State.faultRecords_stores ..).trans hx
  refine hv.and_stores ?_
  simp only [stores_ite, State.thermClear_stores, ite_self, hz]

end Keeping

/-! ### The whole step -/

section Steps

variable {s : State} {o : Host.Outcome State Fault Refusal} {f : State → State}

/-- Where the outcome is a next state, that state keeps the sizes. -/
def KeepsNext (s : State) (o : Host.Outcome State Fault Refusal) : Prop := ∀ t, o = .next t → Keeps s t

theorem next_keeps {t : State} (h : Keeps s t) : KeepsNext s (.next t) := fun _ hu => by
  cases hu
  exact h

theorem live_keeps (h : ∀ u, Keeps u (f u)) : KeepsNext s (live s f) := next_keeps (.ite (h s) (.refl s))

theorem onD3_keeps (h : ∀ u, Keeps u (f u)) : KeepsNext s (onD3 s f) := next_keeps (.ite (.refl s) (h s))

theorem State.evtWrite_keeps (s : State) {f : State → State} (h : ∀ u, Keeps u (f u)) : Keeps s (s.evtWrite f) := by
  unfold State.evtWrite
  split
  · exact (h _).after (by rfl)
  · exact .refl s

/-- What the device takes awake and asleep, each in its own way, and not in reset. -/
theorem State.ofMode_keeps (s : State) {t u : State} (h : Keeps s t) (k : Keeps s u) :
    Keeps s (match s.sys.mode with | .run => t | .sleep => u | .inReset => s) := by
  split
  · exact h
  · exact k
  · exact .refl s

theorem exec_keeps (i : Instr) (s : State) : KeepsNext s (exec i s) := by
  unfold exec
  cases i with
  | sysPing _ => exact live_keeps fun u => State.command_keeps ..
  | sysSummary _ => exact live_keeps fun u => State.command_keeps ..
  | sysRole _ => exact live_keeps fun u => State.command_keeps ..
  | sysReset _ => exact live_keeps fun u => State.command_keeps ..
  | sysSleep _ => exact live_keeps fun u => State.command_keeps ..
  | sysLogRead _ => exact live_keeps fun u => State.command_keeps ..
  | sysViolationRead _ => exact live_keeps fun u => State.command_keeps ..
  | sysFwUpdate _ => exact live_keeps fun u => State.command_keeps ..
  | fwTrialConfirm => exact live_keeps fun u => .whenDo _ (.of_stores ((State.raise_stores ..).trans (State.modFw_stores ..)))
  | ccpKeyOverlapEnd => exact live_keeps fun u => .whenDo _ (.of_stores rfl)
  | timeSet _ => exact live_keeps fun u => State.command_keeps ..
  | timeSource _ => exact live_keeps fun u => State.command_keeps ..
  | timeStatus _ => exact live_keeps fun u => State.command_keeps ..
  | timeCapture _ => exact live_keeps fun u => State.command_keeps ..
  | captureDone => exact live_keeps fun u => .of_stores (State.captureDone_stores ..)
  | allocLimit _ => exact live_keeps fun u => State.command_keeps ..
  | allocPolicy _ => exact live_keeps fun u => State.command_keeps ..
  | allocFallback _ => exact live_keeps fun u => State.command_keeps ..
  | allocStatus _ => exact live_keeps fun u => State.command_keeps ..
  | allocTargets _ => exact live_keeps fun u => State.command_keeps ..
  | allocReportSend => exact live_keeps fun u => .of_stores (State.reportSend_stores ..)
  | allocEpochRun => exact live_keeps fun u => .of_stores (State.epochRun_stores ..)
  | allocAckWaitEnd => exact live_keeps fun u => .of_stores (State.ackWaitEnd_stores ..)
  | ccpReplyReceive p => exact live_keeps fun u => .ite (u.take_keeps p) (.refl u)
  | allocTrailingEffect => exact live_keeps fun u => .of_stores (State.trailDue_stores ..)
  | allocMissedEpochCheck => exact live_keeps fun u => .of_stores (State.missedCheck_stores ..)
  | storageStatusFrame _ _ => exact live_keeps fun u => State.storeCopy_keeps ..
  | storageStale _ => exact live_keeps fun u => .of_stores (State.storeLate_stores ..)
  | storageSetpointRepeat _ => exact live_keeps fun u => .of_stores (State.storeRepeat_stores ..)
  | launchExecute => exact live_keeps fun u => State.launchExecute_keeps ..
  | ptpMessageReceive _ _ => exact live_keeps fun u => .of_stores (State.ptp_stores ..)
  | timeSourceLoss _ => exact live_keeps fun u => .whenDo _ (.of_stores (State.sourceLost_stores ..))
  | ppsEdge => exact live_keeps fun u => .of_stores (State.pps_stores ..)
  | gnssSentence _ _ => exact live_keeps fun u => .of_stores (State.gnss_stores ..)
  | sourceDwellExpiry => exact live_keeps fun u => .of_stores (State.dwellEnd_stores ..)
  | pendingStepExpiry => exact live_keeps fun u => .of_stores (State.pendEnd_stores ..)
  | holdoverLimitReached => exact live_keeps fun u => .whenDo _ (.of_stores (withSel_stores _ _ fun _ => State.setQuality_stores ..))
  | rtcCopy => exact live_keeps fun u => .of_stores (State.rtcCopy_stores ..)
  | zoneTableExpiring => exact live_keeps fun u => .of_stores (State.zoneWarn_stores ..)
  | timeStloRead => exact live_keeps fun u => State.windowRead_keeps ..
  | delayLineCal _ _ => exact live_keeps fun u => .of_stores (State.delayLineCal_stores ..)
  | loadallTakeEffect _ => exact live_keeps fun u => .of_stores (State.loadallTakeEffect_stores ..)
  | slotPickup _ => exact live_keeps fun u => .of_stores (State.slotPickup_stores ..)
  | tripRegistered _ => exact live_keeps fun u => .of_stores (State.tripRegistered_stores ..)
  | pwmWrite _ => exact live_keeps fun u => State.command_keeps ..
  | pwmLoadall _ => exact live_keeps fun u => State.command_keeps ..
  | pwmCalStatus _ => exact live_keeps fun u => State.command_keeps ..
  | pwmRefloRead _ => exact live_keeps fun u => State.windowRead_keeps ..
  | profileStep _ => exact live_keeps fun u => .of_stores (State.profileTick_stores ..)
  | outerCycle _ => exact live_keeps fun u => .of_stores (State.outerCycle_stores ..)
  | triggeredSample _ _ _ => exact live_keeps fun u => .of_stores (State.triggeredSample_stores ..)
  | innerResultWrite _ => exact live_keeps fun u => .of_stores (State.innerResult_stores ..)
  | loopOverrun _ => exact live_keeps fun u => .of_stores (State.loopOverrun_stores ..)
  | loopLoadall _ => exact live_keeps fun u => .of_stores (State.loopLoadall_stores ..)
  | loopParam _ => exact live_keeps fun u => State.command_keeps ..
  | loopProfile _ => exact live_keeps fun u => State.command_keeps ..
  | groupSetpoint _ => exact live_keeps fun u => State.command_keeps ..
  | loopTrace _ => exact live_keeps fun u => State.command_keeps ..
  | groupConfig _ => exact live_keeps fun u => State.command_keeps ..
  | groupEnable _ => exact live_keeps fun u => State.command_keeps ..
  | groupStop _ => exact live_keeps fun u => State.command_keeps ..
  | groupStatus _ => exact live_keeps fun u => State.command_keeps ..
  | phaseRetire _ => exact live_keeps fun u => State.command_keeps ..
  | phaseRestore _ => exact live_keeps fun u => State.command_keeps ..
  | groupFaultRead _ => exact live_keeps fun u => State.command_keeps ..
  | faultRead _ => exact live_keeps fun u => State.command_keeps ..
  | faultClear _ => exact live_keeps fun u => State.command_keeps ..
  | resourceList _ => exact live_keeps fun u => State.command_keeps ..
  | precheckDischargeTimeout _ => exact live_keeps fun u => .of_stores (State.precheckDischargeTimeout_stores ..)
  | precheckSettleEnd _ => exact live_keeps fun u => .of_stores (State.precheckSettleEnd_stores ..)
  | precheckVinTimeout _ => exact live_keeps fun u => .of_stores (State.precheckVinTimeout_stores ..)
  | precheckMidSampleEnd _ _ => exact live_keeps fun u => .of_stores (State.precheckMidEnd_stores ..)
  | precheckResample _ _ => exact live_keeps fun u => .of_stores (State.precheckResample_stores ..)
  | stopOverrun _ => exact live_keeps fun u => .of_stores (State.stopOverrun_stores ..)
  | contactorWait _ => exact live_keeps fun u => .of_stores (State.contactorWait_stores ..)
  | dischargeComplete _ => exact live_keeps fun u => .of_stores ((State.latchWhenDone_stores _).trans (State.dischargeComplete_stores ..))
  | dischargeTimeout _ => exact live_keeps fun u => .of_stores ((State.latchWhenDone_stores _).trans (State.dischargeTimeout_stores ..))
  | dischargeChannelLimit _ => exact live_keeps fun u => .of_stores (State.dischargeChannelLimit_stores ..)
  | tripBurstCharge _ => exact live_keeps fun u => .of_stores (State.tripBurstCharge_stores ..)
  | pilotPeriodClassify _ _ =>
    exact next_keeps (s.ofMode_keeps (.of_stores (State.pilotPeriod_stores ..)) (.of_stores (State.dozePeriod_stores ..)))
  | vlFrameReceive _ _ => exact live_keeps fun u => .of_stores (State.vlFrame_stores ..)
  | sdpRequest _ => exact live_keeps fun u => .whenDo _ (.of_stores ((State.tell_stores ..).trans (State.overLink_stores ..)))
  | vlLinkDown _ => exact live_keeps fun u => .whenDo _ (.of_stores (State.linkDown_stores ..))
  | vehicleSessionSetup _ _ => exact live_keeps fun u => .of_stores ((State.sessionSetup_stores ..).trans (State.overLink_stores ..))
  | vehicleAuthorizationReq _ _ =>
    exact live_keeps fun u => .of_stores (State.request_stores _ _ _ fun _ => State.authorizationReq_stores ..)
  | vehicleCableCheckReq _ => exact live_keeps fun u => .of_stores (State.request_stores _ _ _ fun _ => State.cableCheckReq_stores ..)
  | cableCheckEnd _ => exact live_keeps fun u => .of_stores (State.cableCheckEnd_stores ..)
  | vehiclePrechargeReq _ _ => exact live_keeps fun u => .of_stores (State.request_stores _ _ _ fun _ => State.prechargeReq_stores ..)
  | vehiclePowerDeliveryStart _ _ _ _ _ =>
    exact live_keeps fun u => .of_stores (State.request_stores _ _ _ fun _ => State.powerStart_stores ..)
  | vehicleCurrentDemand _ _ _ _ _ =>
    exact live_keeps fun u => .of_stores (State.request_stores _ _ _ fun _ => State.currentDemand_stores ..)
  | vehicleStop _ => exact live_keeps fun u => .of_stores (State.vehicleStop_stores ..)
  | authTimeout _ => exact live_keeps fun u => .of_stores (State.authTimeout_stores ..)
  | demandGap _ => exact live_keeps fun u => .of_stores (State.demandGap_stores ..)
  | seqTimeout _ => exact live_keeps fun u => .of_stores (State.seqTimeout_stores ..)
  | contactorFail _ => exact live_keeps fun u => .of_stores (State.contactorFails_stores ..)
  | contactorWeld _ => exact live_keeps fun u => .of_stores (State.contactorWelds_stores ..)
  | portConfig _ => exact live_keeps fun u => State.command_keeps ..
  | portAuthorize _ => exact live_keeps fun u => State.command_keeps ..
  | portLimit _ => exact live_keeps fun u => State.command_keeps ..
  | portStop _ => exact live_keeps fun u => State.command_keeps ..
  | portStatus _ => exact live_keeps fun u => State.command_keeps ..
  | portSessionRead _ => exact live_keeps fun u => State.command_keeps ..
  | portClear _ => exact live_keeps fun u => State.command_keeps ..
  | flowPulse _ => exact live_keeps fun u => .of_stores (State.modCool_stores ..)
  | coolCapStale _ =>
    exact live_keeps fun u => .whenDo _ (.of_stores ((State.coolUncooled_stores ..).trans ((State.raise_stores ..).trans (State.modCool_stores ..))))
  | pumpStartWindowEnd _ => exact live_keeps fun u => .whenDo _ (.of_stores (State.modCool_stores ..))
  | coolRunOnEnd _ => exact live_keeps fun u => .of_stores (State.coolRunOnEnd_stores ..)
  | coolConfig _ => exact live_keeps fun u => State.command_keeps ..
  | coolStatus _ => exact live_keeps fun u => State.command_keeps ..
  | meterSample _ => exact live_keeps fun u => .of_stores (State.meterSample_stores ..)
  | metrologyCoreFault => exact live_keeps fun u => .of_stores (State.metroFault_stores ..)
  | metrologyRestart => exact live_keeps fun u => .of_stores (State.metroRestart_stores ..)
  | mirrorRefresh => exact live_keeps fun u => .whenDo _ (.of_stores ((State.refreshAll_stores _).trans (State.mirrorRefresh_stores _)))
  | sealNChange _ => exact next_keeps (.of_stores (State.sealSample_stores ..))
  | meterConfig _ => exact live_keeps fun u => State.command_keeps ..
  | meterCalTable _ => exact live_keeps fun u => State.command_keeps ..
  | meterRead _ => exact live_keeps fun u => State.command_keeps ..
  | meterSeal _ => exact live_keeps fun u => State.command_keeps ..
  | meterMirloRead => exact live_keeps fun u => State.windowRead_keeps ..
  | journalCommitRegular => exact live_keeps fun u => .of_stores (State.commitRegular_stores ..)
  | lastGaspRepeat => exact live_keeps fun u => .whenDo _ (.of_stores (State.lastGasp_stores ..))
  | billingRestart => exact live_keeps fun u => .whenDo _ (.of_stores (State.billRestart_stores ..))
  | defaultTariffHoldExpiry => exact live_keeps fun u => .whenDo _ (.of_stores (State.dfltUpdate_stores ..))
  | keypadTokenFrame _ _ _ => exact live_keeps fun u => State.keypadCopy_keeps ..
  | tokenLockoutEnd => exact live_keeps fun u => .of_stores (State.lockoutEnd_stores ..)
  | billTariffLoad _ => exact live_keeps fun u => State.command_keeps ..
  | billCalendarLoad _ => exact live_keeps fun u => State.command_keeps ..
  | billRead _ => exact live_keeps fun u => State.command_keeps ..
  | billTokenEnter _ => exact live_keeps fun u => State.command_keeps ..
  | billClosePeriod _ => exact live_keeps fun u => State.command_keeps ..
  | billAccount _ => exact live_keeps fun u => State.command_keeps ..
  | billCommitloRead => exact live_keeps fun u => State.windowRead_keeps ..
  | imageCapture => exact live_keeps fun u => .of_stores (State.imageCapture_stores ..)
  | imageDeadline => exact live_keeps fun u => .of_stores (State.imageDeadline_stores ..)
  | twinSelfTestDone _ => exact live_keeps fun u => .of_stores (State.twinSelfTest_stores ..)
  | partnerReportReceive _ => exact live_keeps fun u => .of_stores (State.partnerReport_stores ..)
  | leaseRenewal => exact live_keeps fun u => .whenDo _ (.of_stores (State.twinRenew_stores ..))
  | leaseRenewalReceive _ => exact live_keeps fun u => .whenDo _ (.of_stores (State.twinRenewal_stores ..))
  | leaseExpiry => exact live_keeps fun u => .whenDo _ (.of_stores (State.release_stores ..))
  | leaseTaken => exact live_keeps fun u => .of_stores (State.leaseWait_stores ..)
  | leaseInChange _ => exact live_keeps fun u => .of_stores (State.leaseInChange_stores ..)
  | hingeUp _ => exact live_keeps fun u => .of_stores (State.hingeUp_stores ..)
  | hingeDown _ => exact live_keeps fun u => .of_stores (State.hingeDown_stores ..)
  | hingeLaneRetrain _ _ => exact live_keeps fun u => .of_stores (State.laneRetrain_stores ..)
  | hingeTimeMessage _ => exact live_keeps fun u => .of_stores (State.timeMessage_stores ..)
  | sharedSeqStore => exact live_keeps fun u => .of_stores rfl
  | selfDiagFail => exact live_keeps fun u => .of_stores (State.diagFails_stores ..)
  | handoverOffer _ _ => exact live_keeps fun u => .of_stores (State.handoverOffer_stores ..)
  | handoverSwitch => exact live_keeps fun u => .of_stores (State.handoverSwitch_stores ..)
  | handoverCheck => exact live_keeps fun u => .of_stores (State.handoverCheck_stores ..)
  | leaseDrillStart => exact live_keeps fun u => .of_stores (State.drillTry_stores ..)
  | leaseDrillHoldEnd => exact live_keeps fun u => .of_stores (State.drillHoldEnd_stores ..)
  | siteMasterRenewal => exact live_keeps fun u => .whenDo _ (.of_stores (State.masterRenew_stores ..))
  | siteMasterRenewalReceive _ => exact live_keeps fun u => .whenDo _ (.of_stores (State.masterRenewal_stores ..))
  | siteMasterTaken => exact live_keeps fun u => .of_stores (State.masterWait_stores ..)
  | twinConfig _ => exact live_keeps fun u => State.command_keeps ..
  | twinStatus _ => exact live_keeps fun u => State.command_keeps ..
  | twinDrill _ => exact live_keeps fun u => State.command_keeps ..
  | twinYield _ => exact live_keeps fun u => State.command_keeps ..
  | twinEndloRead => exact live_keeps fun u => State.windowRead_keeps ..
  | canFrameReceive _ _ => exact live_keeps fun u => State.canReceive_keeps ..
  | canError _ _ => exact live_keeps fun u => .of_stores (State.canError_stores ..)
  | canRecovered _ => exact live_keeps fun u => .of_stores (State.canRecover_stores ..)
  | canModeApply _ => exact live_keeps fun u => .of_stores (State.canIdle_stores ..)
  | canTxComplete _ _ _ => exact live_keeps fun u => State.canSent_keeps ..
  | canTxExpired _ => exact live_keeps fun u => .of_stores (State.canExpire_stores ..)
  | setpointStreamFrame _ _ => exact live_keeps fun u => .of_stores (State.streamFrame_stores ..)
  | canConfig _ => exact live_keeps fun u => State.command_keeps ..
  | canSend _ => exact live_keeps fun u => State.command_keeps ..
  | canMode _ => exact live_keeps fun u => State.command_keeps ..
  | canStatus _ => exact live_keeps fun u => State.command_keeps ..
  | beaconTransmit => exact live_keeps fun u => .of_stores (State.sendBeacon_stores ..)
  | beaconReceive _ =>
    exact next_keeps (s.ofMode_keeps (.of_stores (State.recvBeacon_stores ..)) (.of_stores (State.dozeBeacon_stores ..)))
  | flinkBeaconLost => exact live_keeps fun u => .of_stores (State.beaconLost_stores ..)
  | flinkFrameReceive _ => exact live_keeps fun u => .of_stores (State.recvData_stores ..)
  | linkReportReceive _ => exact live_keeps fun u => .of_stores (State.recvReport_stores ..)
  | flinkSlotTransmit => exact live_keeps fun u => .of_stores (State.slotSend_stores ..)
  | flinkAckTimeout => exact live_keeps fun u => .of_stores (State.ackTimeout_stores ..)
  | flinkSendTimeout => exact live_keeps fun u => .of_stores (State.sendTimeout_stores ..)
  | degradedWindowEnd => exact live_keeps fun u => .of_stores (State.degradeEnd_stores ..)
  | flinkConfig _ => exact live_keeps fun u => State.command_keeps ..
  | flinkSend _ => exact live_keeps fun u => State.command_keeps ..
  | flinkStatus _ => exact live_keeps fun u => State.command_keeps ..
  | fragmentReassemblyTimeout _ _ => exact live_keeps fun u => State.fragTimeout_keeps ..
  | siteDatagramReceive _ => exact live_keeps fun u => State.siteReceive_keeps ..
  | ethLinkChange _ _ => exact live_keeps fun u => .of_stores (State.ethLink_stores ..)
  | ccpIntakeResume => exact live_keeps fun u => .of_stores (State.intakeResume_stores ..)
  | hostioStatusRead => exact live_keeps fun u => .of_stores (State.statusRead_stores ..)
  | hostioInterfaceReset => exact live_keeps fun u => .of_stores (State.interfaceReset_stores ..)
  | hostioUnknownInstruction _ => exact live_keeps fun u => State.unknownInstruction_keeps ..
  | windowWrite _ _ _ => exact live_keeps fun u => State.windowWrite_keeps ..
  | sysReadyloRead => exact live_keeps fun u => State.windowRead_keeps ..
  | queueQdataWrite _ _ => exact live_keeps fun u => u.portWrite_keeps _ _ _ fun _ hbad _ => State.qdata_keeps hbad ..
  | queueQopenWrite _ _ => exact live_keeps fun u => u.portWrite_keeps _ _ _ fun _ hbad _ => State.qopen_keeps hbad ..
  | queueQcloseWrite _ _ => exact live_keeps fun u => u.portWrite_keeps _ _ _ fun _ hbad _ => State.qclose_keeps hbad ..
  | queueQrloRead _ => exact live_keeps fun u => State.qrloRead_keeps ..
  | queueQctlDrop _ _ => exact live_keeps fun u => u.portWrite_keeps _ _ _ fun _ hbad _ => State.qctl_keeps hbad ..
  | hostPacketTimeout _ => exact live_keeps fun u => State.packetTimeout_keeps ..
  | spillMove _ => exact live_keeps fun u => .of_stores (State.spillMove_stores ..)
  | queueLayoutSwitch _ => exact live_keeps fun u => .of_stores (State.layoutSwitch_stores ..)
  | eventRelease => exact live_keeps fun u => State.release'_keeps ..
  | eventFlood _ => exact live_keeps fun u => .of_stores (State.floodEnd_stores ..)
  | evtRouteWrite _ _ => exact live_keeps fun u => u.evtWrite_keeps fun _ => State.routeWrite_keeps (fun _ => State.violate_keeps ..) ..
  | evtPendWrite _ _ _ => exact live_keeps fun u => u.evtWrite_keeps fun _ => .of_stores (State.pendWrite_stores ..)
  | queueConfig _ => exact live_keeps fun u => State.command_keeps ..
  | queueDropPacket _ => exact live_keeps fun u => State.command_keeps ..
  | queueStatus _ => exact live_keeps fun u => State.command_keeps ..
  | eventRoute _ => exact live_keeps fun u => State.command_keeps ..
  | swLimiting _ => exact onD3_keeps fun u => .of_stores (State.swLimiting_stores ..)
  | swOvertemp _ => exact onD3_keeps fun u => .of_stores (State.swOvertemp_stores ..)
  | swRetry _ _ => exact onD3_keeps fun u => .of_stores (State.swRetry_stores ..)
  | clampComplete _ _ => exact onD3_keeps fun u => .of_stores (State.clampComplete_stores ..)
  | clampPowerWindow => exact live_keeps fun u => .of_stores (State.clampWindow_stores ..)
  | swOpenLoad _ _ => exact live_keeps fun u => .of_stores (State.swOpenLoad_stores ..)
  | swOpenLoadCleared _ => exact live_keeps fun u => .whenDo _ (.of_stores ((State.raise_stores ..).trans (State.modSw_stores ..)))
  | inrushWindowEnd _ => exact onD3_keeps fun u => .of_stores (State.inrushEnd_stores ..)
  | slewTurnOnComplete _ _ => exact onD3_keeps fun u => .of_stores (State.slewEnd_stores ..)
  | budgetWindow _ => exact live_keeps fun u => .of_stores (State.budgetWindow_stores ..)
  | budgetRestore => exact live_keeps fun u => .of_stores (State.budgetRestore_stores ..)
  | swDipRestore => exact live_keeps fun u => .of_stores (State.dipRestore_stores ..)
  | swConfig _ => exact live_keeps fun u => State.command_keeps ..
  | swSet _ => exact live_keeps fun u => State.command_keeps ..
  | swStatus _ => exact live_keeps fun u => State.command_keeps ..
  | hkRoundComplete _ _ => exact live_keeps fun u => .of_stores (State.hkRound_stores ..)
  | thermalConversion _ => exact live_keeps fun u => State.thermRound_keeps ..
  | thermHwLimit _ _ => exact next_keeps (.of_stores (State.thermHwLimit_stores ..))
  | throttleWindowStart => exact live_keeps fun u => State.throttleWindow_keeps ..
  | hkConfig _ => exact live_keeps fun u => State.command_keeps ..
  | hkRead _ => exact live_keeps fun u => State.command_keeps ..
  | thermConfig _ => exact live_keeps fun u => State.command_keeps ..
  | thermRelease _ => exact live_keeps fun u => State.command_keeps ..
  | thermLatchloRead => exact live_keeps fun u => State.windowRead_keeps ..
  | linkFrameReceive _ _ => exact live_keeps fun u => .of_stores (State.linkFrame_stores ..)
  | clockLoss _ => exact live_keeps fun u => .of_stores (State.clockLoss_stores ..)
  | clockRestored _ => exact live_keeps fun u => .of_stores (State.clockBack_stores ..)
  | coreWatchdog _ => exact live_keeps fun u => .of_stores (State.coreDog_stores ..)
  | eccUncorrectable _ => exact live_keeps fun u => .of_stores (State.eccBad_stores ..)
  | deviceFaultReset => exact live_keeps fun u => .of_stores (State.faultReset_stores ..)
  | vsQualified _ => exact next_keeps (.of_stores (State.vsQualified_stores ..))
  | sequencerStep => exact next_keeps (.of_stores (State.seqStep_stores ..))
  | pgTimeout => exact next_keeps (.of_stores (State.pgTimeout_stores ..))
  | sequencerRetry => exact next_keeps (.of_stores (State.seqRetry_stores ..))
  | pgFall => exact next_keeps (.of_stores (State.pgFall_stores ..))
  | vsBelow3v => exact next_keeps (.of_stores (State.vsBelow3_stores ..))
  | vsRestore => exact next_keeps (.of_stores (State.vsRestore_stores ..))
  | brownoutAssert => exact next_keeps (.ite (.refl s) (.ite (.of_stores (State.lastGasp_stores _)) (.of_stores rfl)))
  | brownoutClear => exact next_keeps (.of_stores rfl)
  | resetNAssert => exact next_keeps (.of_stores (State.resetLow_stores ..))
  | resetRelease _ _ _ _ => exact next_keeps (.ite (State.restart_keeps ..) (.refl s))
  | bootTimeout => exact live_keeps fun u => .of_stores (State.bootTimeout_stores ..)
  | deviceReady => exact live_keeps fun u => .of_stores (State.deviceReady_stores ..)
  | heartbeatWrite _ => exact next_keeps (.of_stores (State.heartbeat_stores ..))
  | wake _ _ => exact next_keeps (.of_stores (State.wake_stores ..))
  | ccpPacketRejected p => exact live_keeps fun u => .ite (u.take_keeps p) (.refl u)
  | windowRead _ _ _ => exact live_keeps fun u => State.windowRead_keeps ..
  | slotPeriodStart _ => exact live_keeps fun u => .of_stores (State.slotPeriodStart_stores ..)
  | pwmCompareEdge _ _ _ => exact live_keeps fun u => .of_stores (State.pwmCompareEdge_stores ..)
  | handoverAnswerReceive _ => exact live_keeps fun u => .of_stores (State.handoverAnswer_stores ..)
  | imageFrameReceive _ => exact live_keeps fun u => .of_stores (State.imageFrame_stores ..)
  | swLimitingEnd _ _ => exact onD3_keeps fun u => .of_stores (State.swLimitingEnd_stores ..)
  | vbatDomainLoss => exact next_keeps (.ite (.of_stores (State.vbatLoss_stores _)) (.refl s))
  | vbatDomainReturn => exact next_keeps (.of_stores rfl)
  | hostioServingStart => exact live_keeps fun u => .whenDo _ (.of_stores rfl)
  | keepDefaultSet => exact live_keeps fun u => .of_stores (State.keepDefaults_stores ..)
  | selfTestFailure _ => exact live_keeps fun u => .of_stores (State.selfTestFails_stores ..)
  | eccCorrection _ => exact live_keeps fun u => .of_stores (State.eccFixed_stores ..)

/-- A step takes the front command off the queue and keeps the sizes. -/
theorem step_keeps {s t : State} (h : step s = .next t) :
    (Safety.logsBounded s → Safety.logsBounded t) ∧ t.pending = s.pending.tail := by
  cases hp : s.pending with
  | nil =>
    have hidle : KeepsNext s (.next s.idle) := next_keeps (.of_stores s.idle_stores)
    obtain ⟨hb, hq⟩ := hidle t (by rw [← h, step, hp])
    exact ⟨hb, hq.trans hp⟩
  | cons i rest =>
    have hrun : exec i { s with pending := rest } = .next t := by rw [← h, step, hp]
    exact exec_keeps i _ t hrun

end Steps

end Sys2Proof.Machine

namespace Sys2Proof.Proofs

open Sys2Proof.Machine

/-- Settles O49: a step of the model keeps the sizes, whatever the command. -/
theorem everyStepKeepsLogsBounded : Obligations.EveryStepKeepsLogsBounded := fun _ _ hs h =>
  let ⟨hb, hq⟩ := step_keeps h
  ⟨hb hs, hq⟩

end Sys2Proof.Proofs
